-- ==== Sys2Proof/Word.lean ====
section
/-! DEFINITION. The plainest types of the TE9 model: words, ticks, lines, unit numbers, and the canonical sparse table
(`KMap`) in which every sparse store of the machine is held. -/

namespace Sys2Proof

/-- A 32-bit register word (spec/16_register_map.md). -/
abbrev Word := BitVec 32

/-- A value of the 24-bit time base or a stamped deadline (R6, R7, R397). -/
abbrev Tick := BitVec 24

/-- The 64 data bytes of one line, byte i in bits [8i+7:8i] (R22). -/
abbrev Line := BitVec 512

/-- A sparse table: key and value pairs, keys strictly rising, no pair equal to what an unlisted key reads as. -/
abbrev KMap (β : Type) := List (Nat × β)

/-- Welt port number (R15). -/
abbrev PortId := Fin 8

/-- Channel number (R1). -/
abbrev ChanId := Fin 16

/-- Sideband quad number (R1, R341). -/
abbrev QuadId := Fin 4

end Sys2Proof
end

