-- ==== Sys2Proof/Syntax.lean ====
section
/-! DEFINITION. The commands of the TE9: one constructor for every row of spec/opcode_table.json, with the row's
operands. A command carries what the outside (the fabric, the media engine, the DIMMs, the pins, the masters of the
register window) presents with it, and what a measurement found. -/

namespace Sys2Proof

/-- The three outcomes of a DRAM read (R289). -/
inductive EccOut where
  | clean
  /-- corrected, the error confined to device `dev` -/
  | corrected (dev : Nat)
  | uncorrectable
  deriving DecidableEq, Repr

/-- What the monitors read at an epoch boundary: the eight speed indexes (R392), the hottest junction in °C (two's
complement) and the lowest core supply in mV (R662). -/
structure EpochMeas where
  speed : Vector (BitVec 8) 8
  tj : BitVec 8
  mv : BitVec 12
  deriving DecidableEq, Repr

/-- What a training sweep step found (R353–R356, R337, R340). -/
inductive TrnResult where
  /-- the step ended well and its phase goes on -/
  | stepOk
  /-- the phase ended well -/
  | phaseOk
  /-- the phase failed -/
  | phaseFail
  /-- a lane (data lane number, and whether it is a transmit direction) failed and needs a spare (R337) -/
  | laneFail (lane : Nat) (tx : Bool)
  /-- a lane's eye is below the limit, in taps (R340) -/
  | laneWeak (lane : Nat) (tx : Bool) (eye : Nat)
  deriving DecidableEq, Repr

/-- The kinds of running calibration (R365): their codes are 0 to 5. -/
inductive CalKind where
  | tap | zq | read | gate | osc | write
  deriving DecidableEq, Repr

/-- One measured value of a calibration pass (R371): the lane and rank it belongs to, the target found and the eye. -/
structure CalRes where
  lane : Nat
  rank : Nat
  value : Int
  eye : Nat
  /-- the measurement itself found no edge or no answer (R371) -/
  bad : Bool
  deriving DecidableEq, Repr

/-- How a march test ended (R558, R560): clean, repaired with spare rows and columns, or beyond repair. -/
inductive MarchRes where
  | pass
  | repaired (mac : Nat) (row : Bool) (index : Nat)
  | fail
  deriving DecidableEq, Repr

/-- A register access (R623): the master (false: management port, true: bead chain), the offset, the size in bytes,
whether it writes, the data of a write, and whether the write data failed parity (R627). -/
structure Access where
  chain : Bool
  off : Nat
  size : Nat
  write : Bool
  data : BitVec 64
  parityBad : Bool
  deriving DecidableEq, Repr

/-- The commands (one constructor per row). -/
inductive Instr where
  /-- RD (R26) -/
  | rd (p : PortId) (raw : BitVec 256)
  /-- WR (R26) -/
  | wr (p : PortId) (raw : BitVec 256)
  /-- WRM (R26) -/
  | wrm (p : PortId) (raw : BitVec 256)
  /-- ZERO (R26) -/
  | zero (p : PortId) (raw : BitVec 256)
  /-- FLUSH (R125) -/
  | flush (p : PortId) (raw : BitVec 256)
  /-- DROP (R124) -/
  | drop (p : PortId) (raw : BitVec 256)
  /-- PREFETCH (R28) -/
  | prefetch (p : PortId) (raw : BitVec 256)
  /-- BARRIER (R136) -/
  | barrier (p : PortId) (raw : BitVec 256)
  /-- FETCH_ADD (R28) -/
  | fetchAdd (p : PortId) (raw : BitVec 256)
  /-- SWAP (R28) -/
  | swap (p : PortId) (raw : BitVec 256)
  /-- CAS (R28) -/
  | cas (p : PortId) (raw : BitVec 256)
  /-- HEADER_CHECK_FAIL (R55) -/
  | headerCheckFail (p : PortId) (raw : BitVec 256)
  /-- CREDIT_OVERRUN (R47) -/
  | creditOverrun (p : PortId) (raw : BitVec 256)
  /-- PAYLOAD_LINE_RECEIVED (R24) -/
  | payloadLineReceived (p : PortId) (data : Line) (crc : BitVec 32)
  /-- PAYLOAD_END_MARK (R705) -/
  | payloadEndMark (p : PortId)
  /-- INGRESS_ADMIT (R78) -/
  | ingressAdmit
  /-- COMPLETION_CREDIT_RETURN (R45) -/
  | completionCreditReturn (p : PortId) (n : Nat)
  /-- CREDIT_ADVERTISEMENT (R675) -/
  | creditAdvertisement (p : PortId) (n : Nat)
  /-- DRAM_READ_RETURN (R289) -/
  | dramReadReturn (ch : ChanId) (job : Nat) (line : Nat) (out : EccOut)
  /-- FRAME_WRITE_DONE (R43) -/
  | frameWriteDone (ch : ChanId) (job : Nat)
  /-- OPERATION_OVERDUE (R75) -/
  | operationOverdue (idx : Nat)
  /-- CMD_ARB_GRANT (R81) -/
  | cmdArbGrant (ch : ChanId)
  /-- DATA_BUS_ARBITRATE (R83) -/
  | dataBusArbitrate (ch : ChanId) (sub : Fin 2)
  /-- MP_ARB_ARBITRATE (R241) -/
  | mpArbArbitrate
  /-- COMMAND_ISSUE (R260) -/
  | commandIssue (ch : ChanId) (sub : Fin 2) (clocks : Nat)
  /-- CH_ARB_FREEZE (R90) -/
  | chArbFreeze (ch : ChanId) (v : Bool)
  /-- CH_ARB_FREEZE_DATA (R91) -/
  | chArbFreezeData (ch : ChanId) (v : Bool)
  /-- MP_ARB_FREEZE (R90) -/
  | mpArbFreeze (v : Bool)
  /-- CTX_SEL_WRITE (R68) -/
  | ctxSelWrite (w : Word)
  /-- CTX_CAPTURE_DONE (R69) -/
  | ctxCaptureDone
  /-- CTX_CMD_WRITE (R70) -/
  | ctxCmdWrite
  /-- CTX_CLEAR_CNT (R102) -/
  | ctxClearCnt
  /-- THROTTLE_TOKEN_REFILL (R95) -/
  | throttleTokenRefill (ctx : BitVec 12)
  /-- THROTTLE_WINDOW_END (R96) -/
  | throttleWindowEnd
  /-- EPOCH_BOUNDARY (R399) -/
  | epochBoundary (m : EpochMeas)
  /-- LDG_INSP_SEL_WRITE (R152) -/
  | ldgInspSelWrite (w : Word)
  /-- LDG_INSP_CAPTURE_DONE (R152) -/
  | ldgInspCaptureDone
  /-- TAG_READ (R207) -/
  | tagRead
  /-- TAG_CAPTURE_DONE (R207) -/
  | tagCaptureDone (out : EccOut)
  /-- TAG_RETIRE (R201) -/
  | tagRetire
  /-- WAY_RETIRE_DRAINED (R201) -/
  | wayRetireDrained (ch : ChanId) (set : Nat) (way : Fin 16)
  /-- TIER_LOST_RELEASE (R178) -/
  | tierLostRelease (w : Word)
  /-- TAG_SWEEP_STEP (R175) -/
  | tagSweepStep (ch : ChanId)
  /-- DRAIN_WALK_STEP (R191) -/
  | drainWalkStep (ch : ChanId)
  /-- FENCE_WALK_STEP (R471) -/
  | fenceWalkStep (ch : ChanId)
  /-- CLEANER_CLEAN (R199) -/
  | cleanerClean
  /-- SCRUB_UNIT_START (R294) -/
  | scrubUnitStart (ch : ChanId)
  /-- FILL_DATA (R225) -/
  | fillData (raw : BitVec 256) (lines : List (Line × BitVec 32))
  /-- ACCEPT (R231) -/
  | accept (raw : BitVec 256)
  /-- DECLINE (R233) -/
  | decline (raw : BitVec 256)
  /-- DEFER (R229) -/
  | defer (raw : BitVec 256)
  /-- CREDIT (R222) -/
  | credit (raw : BitVec 256)
  /-- RESYNC_ACK (R245) -/
  | resyncAck (raw : BitVec 256)
  /-- MP_RESYNC_RECEIVED (R245) -/
  | mpResyncReceived (raw : BitVec 256)
  /-- MP_HEADER_CHECK_FAIL (R244) -/
  | mpHeaderCheckFail (raw : BitVec 256)
  /-- MP_DEFER_LONG (R238) -/
  | mpDeferLong (slot : Nat)
  /-- MP_ENABLE_CHANGE (R256) -/
  | mpEnableChange (v : Bool)
  /-- MP_HOLDUP_ANSWER_LATE (R520) -/
  | mpHoldupAnswerLate
  /-- HOLDUP_REQ (R249) -/
  | holdupReq
  /-- REFRESH_INTERVAL (R270) -/
  | refreshInterval (ch : ChanId)
  /-- REFRESH_IDLE_CATCHUP (R271) -/
  | refreshIdleCatchup (ch : ChanId) (rank : Fin 4) (bank : Fin 64)
  /-- PAGE_IDLE_TIMEOUT (R267) -/
  | pageIdleTimeout (ch : ChanId) (sub : Fin 2) (rank : Fin 4) (bank : Fin 256)
  /-- TEMP_POLL (R275) -/
  | tempPoll (ch : ChanId)
  /-- CH_FREQ_CHANGE (R302) -/
  | chFreqChange (ch : ChanId) (target : BitVec 2)
  /-- FREQ_CHANGE_IDLE (R303) -/
  | freqChangeIdle (ch : ChanId)
  /-- FREQ_RELOCK_DECISION (R304) -/
  | freqRelockDecision (ch : ChanId)
  /-- FREQ_PHY_LOCKED (R303) -/
  | freqPhyLocked (ch : ChanId)
  /-- SEEDED_CENTRING_DONE (R358) -/
  | seededCentringDone (ch : ChanId) (ok : Bool)
  /-- VDDQ_MONITOR (R315) -/
  | vddqMonitor (ch : ChanId) (mv : BitVec 12)
  /-- VDDQ_WAIT_EXPIRED (R314) -/
  | vddqWaitExpired (ch : ChanId)
  /-- TAP_SIZE_MEASURE (R324) -/
  | tapSizeMeasure (ch : ChanId) (size : BitVec 16)
  /-- ZQ_CAL_DUE (R331) -/
  | zqCalDue (ch : ChanId)
  /-- ZQ_CAL_DONE (R331) -/
  | zqCalDone (ch : ChanId) (pu pd : BitVec 7)
  /-- ALERT_N_PARITY (R335) -/
  | alertNParity (ch : ChanId) (dimm : Fin 2)
  /-- DIMM_POWER_GOOD_LOST (R474) -/
  | dimmPowerGoodLost (ch : ChanId) (dimm : Fin 2)
  /-- CLOCK_LOCK_LOST (R474) -/
  | clockLockLost (ch : ChanId)
  /-- SB_XFER (R346) -/
  | sbXfer (q : QuadId) (w : Word)
  /-- SB_TRANSACTION_DONE (R343) -/
  | sbTransactionDone (q : QuadId) (data : Word)
  /-- SB_TRANSACTION_TIMEOUT (R344): the transaction was not acknowledged (or did not finish), and SDA was found held low
  afterwards -/
  | sbTransactionTimeout (q : QuadId) (nack held : Bool)
  /-- TRAINING_STEP_BOUNDARY (R353) -/
  | trainingStepBoundary (ch : ChanId) (r : TrnResult)
  /-- CAL_PASS_START (R365) -/
  | calPassStart (ch : ChanId) (kind : CalKind)
  /-- CAL_PASS_END (R371) -/
  | calPassEnd (ch : ChanId) (kind : CalKind) (res : List CalRes)
  /-- CAL_IDLE_BOUNDARY (R378) -/
  | calIdleBoundary (ch : ChanId)
  /-- CAL_FALLBACK (R382) -/
  | calFallback (ch : ChanId)
  /-- REFCLK_LOST (R400) -/
  | refclkLost (missing : Bool)
  /-- REFCLK_RESTORED (R401) -/
  | refclkRestored
  /-- AWL_KEY_WRITE (R404) -/
  | awlKeyWrite (w : Word)
  /-- AWL_BP_RUN (R409) -/
  | awlBpRun (t : Fin 9)
  /-- STAGE_HANG_TIMEOUT (R520) -/
  | stageHangTimeout (g : Fin 64)
  /-- COLD_RESET_ASSERT (R418) -/
  | coldResetAssert
  /-- COLD_RESET_RELEASE (R426) -/
  | coldResetRelease
  /-- REFCLK_LOCK (R427) -/
  | refclkLock
  /-- LAST_READ_DONE (R581) -/
  | lastReadDone
  /-- WARM_RESET (R420) -/
  | warmReset
  /-- WARM_RESET_RELEASE (R683) -/
  | warmResetRelease
  /-- PWR_ACK_RISE (R698) -/
  | pwrAckRise (g : Fin 25)
  /-- PWR_ACK_FALL (R699) -/
  | pwrAckFall (g : Fin 25)
  /-- PWR_ACK_TIMEOUT (R699) -/
  | pwrAckTimeout (g : Fin 25)
  /-- MP_WAIT_EXPIRED (R451) -/
  | mpWaitExpired
  /-- BEAD (R439) -/
  | bead (frame : List (BitVec 8))
  /-- CHAIN_READ (R437) -/
  | chainRead (frame : List (BitVec 8))
  /-- CHAIN_WRITE (R437) -/
  | chainWrite (frame : List (BitVec 8))
  /-- EVQ_POP_FRAME (R645) -/
  | evqPopFrame (frame : List (BitVec 8))
  /-- CHAIN_SAFE (R438) -/
  | chainSafe (frame : List (BitVec 8))
  /-- IDENT (R437) -/
  | ident (frame : List (BitVec 8))
  /-- CHAIN_FRAME_BAD (R434) -/
  | chainFrameBad (frame : List (BitVec 8))
  /-- ENUMERATE_TIED_LOW (R441) -/
  | enumerateTiedLow
  /-- ENUMERATE_TIMEOUT (R441) -/
  | enumerateTimeout
  /-- MODE_REQ_PLAIN (R455) -/
  | modeReqPlain
  /-- MODE_REQ_TIERED (R455) -/
  | modeReqTiered
  /-- MODE_REQ_DRAIN (R455) -/
  | modeReqDrain
  /-- MODE_REQ_BYPASS (R455) -/
  | modeReqBypass
  /-- MODE_REQ_TEST (R455) -/
  | modeReqTest
  /-- CH_FENCE (R471) -/
  | chFence (ch : ChanId)
  /-- FENCE_SLOW_WARN (R473) -/
  | fenceSlowWarn (ch : ChanId)
  /-- CH_SERVICE (R484) -/
  | chService (ch : ChanId)
  /-- CH_SERVICE_POWER_OFF (R484) -/
  | chServicePowerOff (ch : ChanId)
  /-- CH_RETRAIN (R488) -/
  | chRetrain (ch : ChanId)
  /-- CH_RETURN (R490) -/
  | chReturn (ch : ChanId)
  /-- CH_RETIRE (R493) -/
  | chRetire (ch : ChanId)
  /-- CH_DISCARD (R480) -/
  | chDiscard (ch : ChanId)
  /-- RETRAIN_WINDOW_END (R492) -/
  | retrainWindowEnd (ch : ChanId)
  /-- CH_MARK (R501) -/
  | chMark (ch : ChanId) (w : Word)
  /-- CH_UNMARK (R502) -/
  | chUnmark (ch : ChanId) (w : Word)
  /-- CH_PPR_SOFT (R497) -/
  | chPprSoft (ch : ChanId) (w : Word)
  /-- CH_PPR_HARD (R500) -/
  | chPprHard (ch : ChanId) (w : Word)
  /-- ENDTAP_RETRAIN_TIMER (R495) -/
  | endtapRetrainTimer (ch : ChanId)
  /-- IMG_LOAD_PSEQ (R510) -/
  | imgLoadPseq (w : Word)
  /-- IMG_LOAD_TSEQ (R511) -/
  | imgLoadTseq (w : Word)
  /-- BURN_SRAM (R508) -/
  | burnSram
  /-- BURN_LANE (R508) -/
  | burnLane
  /-- FAULT_PAIR_ERROR (R517) -/
  | faultPairError (src : Fin 96) (named : Option Nat)
  /-- FAULT_PAIR_BROKEN (R522) -/
  | faultPairBroken (src : Fin 96)
  /-- FAULT_PAIR_CLEAR (R527) -/
  | faultPairClear (src : Fin 96)
  /-- FLT_FORCE_WRITE (R530) -/
  | fltForceWrite (i : Fin 3) (w : Word)
  /-- FLT_FATAL_ARM (R530) -/
  | fltFatalArm (v : Bool)
  /-- SOFTWARE_SAFE (R534) -/
  | softwareSafe
  /-- QUIET_PERIOD_END (R541) -/
  | quietPeriodEnd
  /-- RECOVER_RELOCK_DONE (R544) -/
  | recoverRelockDone (ok : BitVec 16) (lost : List Nat)
  /-- BGT_REGION_START (R561) -/
  | bgtRegionStart
  /-- BGT_REGION_DRAINED (R562) -/
  | bgtRegionDrained
  /-- BGT_DRAIN_TIMEOUT (R562) -/
  | bgtDrainTimeout
  /-- BGT_SAVE_DONE (R563) -/
  | bgtSaveDone
  /-- BGT_TEST_DONE (R563) -/
  | bgtTestDone (r : MarchRes)
  /-- BGT_RESTORE_DONE (R563) -/
  | bgtRestoreDone
  /-- BGT_REDIRECT (R565) -/
  | bgtRedirect
  /-- SRAM_MARCH_TEST (R559) -/
  | sramMarchTest (w : Word)
  /-- SRAM_MARCH_DONE (R560) -/
  | sramMarchDone (r : MarchRes)
  /-- SRAM_GROUP_COPY_DONE (R505) -/
  | sramGroupCopyDone
  /-- LF_XFER_READ (R602) -/
  | lfXferRead (w : Word)
  /-- LF_XFER_PROGRAM (R602) -/
  | lfXferProgram (w : Word)
  /-- LF_XFER_ERASE (R602) -/
  | lfXferErase (w : Word)
  /-- LF_XFER_OP3 (R610) -/
  | lfXferOp3 (w : Word)
  /-- FLASH_OP_DONE (R576) -/
  | flashOpDone (ok : Bool)
  /-- FLASH_OP_TIMEOUT (R576) -/
  | flashOpTimeout
  /-- LF_RESCAN (R582) -/
  | lfRescan
  /-- LOG_UPDATE_COMMIT (R595) -/
  | logUpdateCommit
  /-- LIFETIME_LOG_TIMER (R591) -/
  | lifetimeLogTimer
  /-- CAL_SUMMARY_TIMER (R591) -/
  | calSummaryTimer
  /-- OTP_BURN (R605) -/
  | otpBurn (w : Word)
  /-- OTP_BURN_DONE (R606) -/
  | otpBurnDone (ok : Bool)
  /-- REG_WRITE (R611) -/
  | regWrite (a : Access)
  /-- REG_ACCESS_ERROR (R613) -/
  | regAccessError (a : Access)
  /-- CLR_HIST (R620) -/
  | clrHist (w : Word)
  /-- CLR_CNT (R620) -/
  | clrCnt (w : Word)
  /-- CLEAR_WAVEFRONT_END (R621) -/
  | clearWavefrontEnd
  /-- CFG_HOLD_SET (R617) -/
  | cfgHoldSet
  /-- CFG_HOLD_CLEAR (R617) -/
  | cfgHoldClear
  /-- BEAM_TAKE (R630) -/
  | beamTake
  /-- BEAM_TAKE_CLEAR (R631) -/
  | beamTakeClear
  /-- BEAM_TAKE_DONE (R630) -/
  | beamTakeDone
  /-- EYELET_SELECT (R635) -/
  | eyeletSelect (w : Word)
  /-- EYELET_CLEAR (R637) -/
  | eyeletClear
  /-- EYELET_CAPTURE_DONE (R635) -/
  | eyeletCaptureDone
  /-- EVQ_POP (R645) -/
  | evqPop
  /-- EVQ_FLUSH (R647) -/
  | evqFlush
  /-- EVQ_PUSH_HANDSHAKE (R641) -/
  | evqPushHandshake
  /-- CHANNEL_BOUNDARY_IDLE (R615) -/
  | channelBoundaryIdle (ch : ChanId)
  /-- SAFE_NET_BROKEN (R536) -/
  | safeNetBroken (island : Fin 26)
  /-- OTP_RECORDS_READ (R604) -/
  | otpRecordsRead
  deriving DecidableEq, Repr

end Sys2Proof
end

