-- ==== Sys2Proof/Config.lean ====
section
/-! DEFINITION. What an implementation fixes and what the specification leaves open: constants without a body, so that
no proof can learn a value of them (notes/assumptions names each). -/

namespace Sys2Proof.Config

/-- Free values: the n-th value the block shows where the specification leaves it open. -/
opaque freeBits (w : Nat) : Nat → BitVec w

/-- `BLK_ID.HWREV` (R465: the revision of the part). -/
opaque hwRev : BitVec 8

/-- The interface revision of the ROM baseline images (R445, R513). -/
opaque romIfRev : BitVec 8

/-- The version of the ROM baseline images (R445, R513). -/
opaque romVersion : BitVec 16

end Sys2Proof.Config
end

