-- ==== Sys2Proof/Machine/RegMap.lean ====
section
/-! DEFINITION. The register map of spec/16_register_map.md (R652–R662) with the field tables of the chapters: one
`RegDef` for every register (or array of registers) of the window, one `Fld` for every field. A register's masks give
the access class of each of its bits (R13, R611); bits in no mask are of class RO or RS. -/

namespace Sys2Proof.Machine

/-- One register of the window, or an array of them: instance (i, k) stands at base + i * s1 + k * s2 (R653).
`reset` is the word of the map's Reset column (R654). -/
structure RegDef where
  /-- offset of instance (0, 0) -/
  base : Nat
  /-- number of outer instances and their stride -/
  n1 : Nat
  s1 : Nat
  /-- number of inner instances and their stride -/
  n2 : Nat
  s2 : Nat
  /-- the word read after a cold reset -/
  reset : Word
  /-- masks of the RW, RB, RA, RH, RC and RT bits -/
  rw : Word
  rb : Word
  ra : Word
  rh : Word
  rc : Word
  rt : Word
  deriving DecidableEq, Repr

/-- The window offset of instance (i, k) of a register (R653). -/
def RegDef.at (r : RegDef) (i : Nat := 0) (k : Nat := 0) : Nat := r.base + i * r.s1 + k * r.s2

/-- A field: its register, its lowest bit and its width. -/
structure Fld where
  reg : RegDef
  lo : Nat
  w : Nat
  deriving DecidableEq, Repr

/-- `BLK_ID` (R464) -/
def Reg.blkId : RegDef := ⟨0x0, 1, 0x0, 1, 0x0, 0x7e09, 0x0, 0x0, 0x0, 0x0, 0x0, 0x0⟩
def Fld.blkIdPart : Fld := ⟨Reg.blkId, 0, 16⟩
def Fld.blkIdHwrev : Fld := ⟨Reg.blkId, 16, 8⟩
/-- `BLK_UNIT` (R464) -/
def Reg.blkUnit : RegDef := ⟨0x4, 1, 0x0, 1, 0x0, 0x0, 0x0, 0x0, 0x0, 0x0, 0x0, 0x0⟩
def Fld.blkUnitId : Fld := ⟨Reg.blkUnit, 0, 32⟩
/-- `BLK_MODE` (R464) -/
def Reg.blkMode : RegDef := ⟨0x10, 1, 0x0, 1, 0x0, 0x0, 0x0, 0x0, 0x0, 0x0, 0x0, 0xfffff800⟩
def Fld.blkModeMode : Fld := ⟨Reg.blkMode, 0, 4⟩
def Fld.blkModePrev : Fld := ⟨Reg.blkMode, 4, 4⟩
def Fld.blkModeWarm : Fld := ⟨Reg.blkMode, 8, 1⟩
def Fld.blkModeWarmFlush : Fld := ⟨Reg.blkMode, 9, 1⟩
def Fld.blkModeHeld : Fld := ⟨Reg.blkMode, 10, 1⟩
/-- `BLK_MODE_REQ` (R464) -/
def Reg.blkModeReq : RegDef := ⟨0x14, 1, 0x0, 1, 0x0, 0x0, 0xf, 0x0, 0x0, 0x0, 0x0, 0xfffffcf0⟩
def Fld.blkModeReqTarget : Fld := ⟨Reg.blkModeReq, 0, 4⟩
def Fld.blkModeReqPending : Fld := ⟨Reg.blkModeReq, 8, 1⟩
def Fld.blkModeReqRefused : Fld := ⟨Reg.blkModeReq, 9, 1⟩
/-- `BLK_START` (R464) -/
def Reg.blkStart : RegDef := ⟨0x18, 1, 0x0, 1, 0x0, 0x6404, 0x0, 0x1ff0f, 0x0, 0x0, 0x0, 0xfffe00f0⟩
def Fld.blkStartMode : Fld := ⟨Reg.blkStart, 0, 4⟩
def Fld.blkStartMpWait : Fld := ⟨Reg.blkStart, 8, 8⟩
def Fld.blkStartMarch : Fld := ⟨Reg.blkStart, 16, 1⟩
/-- `BLK_STATUS` (R464) -/
def Reg.blkStatus : RegDef := ⟨0x1c, 1, 0x0, 1, 0x0, 0x0, 0x0, 0x0, 0x0, 0x10, 0x0, 0x0⟩
def Fld.blkStatusLast : Fld := ⟨Reg.blkStatus, 0, 2⟩
def Fld.blkStatusImageFallback : Fld := ⟨Reg.blkStatus, 2, 1⟩
def Fld.blkStatusNoLast : Fld := ⟨Reg.blkStatus, 3, 1⟩
def Fld.blkStatusIncompat : Fld := ⟨Reg.blkStatus, 4, 1⟩
def Fld.blkStatusMpWait : Fld := ⟨Reg.blkStatus, 5, 1⟩
def Fld.blkStatusTrained : Fld := ⟨Reg.blkStatus, 16, 16⟩
/-- `BLK_READY` (R464) -/
def Reg.blkReady : RegDef := ⟨0x20, 1, 0x0, 1, 0x0, 0x0, 0x0, 0x0, 0x0, 0x0, 0x0, 0x0⟩
def Fld.blkReadyUs : Fld := ⟨Reg.blkReady, 0, 32⟩
/-- `BLK_CNT_MODE` (R464) -/
def Reg.blkCntMode : RegDef := ⟨0x40, 1, 0x0, 1, 0x0, 0x0, 0x0, 0x0, 0x0, 0x0, 0xffffffff, 0x0⟩
def Fld.blkCntModeCount : Fld := ⟨Reg.blkCntMode, 0, 32⟩
/-- `BLK_CNT_REFUSED` (R464) -/
def Reg.blkCntRefused : RegDef := ⟨0x44, 1, 0x0, 1, 0x0, 0x0, 0x0, 0x0, 0x0, 0x0, 0xffffffff, 0x0⟩
def Fld.blkCntRefusedCount : Fld := ⟨Reg.blkCntRefused, 0, 32⟩
/-- `BLK_CNT_LAST_SKIP` (R464) -/
def Reg.blkCntLastSkip : RegDef := ⟨0x48, 1, 0x0, 1, 0x0, 0x0, 0x0, 0x0, 0x0, 0x0, 0xffffffff, 0x0⟩
def Fld.blkCntLastSkipCount : Fld := ⟨Reg.blkCntLastSkip, 0, 32⟩
/-- `BLK_CNT_WARM` (R464) -/
def Reg.blkCntWarm : RegDef := ⟨0x4c, 1, 0x0, 1, 0x0, 0x0, 0x0, 0x0, 0x0, 0x0, 0xffffffff, 0x0⟩
def Fld.blkCntWarmCount : Fld := ⟨Reg.blkCntWarm, 0, 32⟩
/-- `BLK_CNT_WARM_LOST` (R464) -/
def Reg.blkCntWarmLost : RegDef := ⟨0x50, 1, 0x0, 1, 0x0, 0x0, 0x0, 0x0, 0x0, 0x0, 0xffffffff, 0x0⟩
def Fld.blkCntWarmLostCount : Fld := ⟨Reg.blkCntWarmLost, 0, 32⟩
/-- `BLK_CNT_SAT` (R464) -/
def Reg.blkCntSat : RegDef := ⟨0x5c, 1, 0x0, 1, 0x0, 0x0, 0x0, 0x0, 0x0, 0x0, 0x0, 0x0⟩
def Fld.blkCntSatSat : Fld := ⟨Reg.blkCntSat, 0, 5⟩
/-- `TB_NOW` (R416) -/
def Reg.tbNow : RegDef := ⟨0x100, 1, 0x0, 1, 0x0, 0x0, 0x0, 0x0, 0x0, 0x0, 0x0, 0x0⟩
def Fld.tbNowTick : Fld := ⟨Reg.tbNow, 0, 24⟩
/-- `UPTIME_LO` (R416) -/
def Reg.uptimeLo : RegDef := ⟨0x104, 1, 0x0, 1, 0x0, 0x0, 0x0, 0x0, 0x0, 0x0, 0x0, 0x0⟩
def Fld.uptimeLoUs : Fld := ⟨Reg.uptimeLo, 0, 32⟩
/-- `UPTIME_HI` (R416) -/
def Reg.uptimeHi : RegDef := ⟨0x108, 1, 0x0, 1, 0x0, 0x0, 0x0, 0x0, 0x0, 0x0, 0x0, 0x0⟩
def Fld.uptimeHiUs : Fld := ⟨Reg.uptimeHi, 0, 16⟩
/-- `REFCLK_STATUS` (R416) -/
def Reg.refclkStatus : RegDef := ⟨0x10c, 1, 0x0, 1, 0x0, 0x0, 0x0, 0x0, 0x0, 0x4, 0x0, 0xfffffff8⟩
def Fld.refclkStatusPresent : Fld := ⟨Reg.refclkStatus, 0, 1⟩
def Fld.refclkStatusHoldover : Fld := ⟨Reg.refclkStatus, 1, 1⟩
def Fld.refclkStatusLost : Fld := ⟨Reg.refclkStatus, 2, 1⟩
/-- `CORE_SPEED` (R416) -/
def Reg.coreSpeed : RegDef := ⟨0x110, 1, 0x0, 1, 0x0, 0x0, 0x0, 0x0, 0x0, 0x0, 0x0, 0x0⟩
def Fld.coreSpeedIndex : Fld := ⟨Reg.coreSpeed, 0, 8⟩
def Fld.coreSpeedMonitor : Fld := ⟨Reg.coreSpeed, 8, 3⟩
def Fld.coreSpeedSlow : Fld := ⟨Reg.coreSpeed, 11, 1⟩
/-- `CORE_SPEED_CTL` (R416) -/
def Reg.coreSpeedCtl : RegDef := ⟨0x114, 1, 0x0, 1, 0x0, 0x64, 0x0, 0xff, 0x0, 0x0, 0x0, 0xffffff00⟩
def Fld.coreSpeedCtlWarn : Fld := ⟨Reg.coreSpeedCtl, 0, 8⟩
/-- `CORE_TEMP` (R416) -/
def Reg.coreTemp : RegDef := ⟨0x118, 1, 0x0, 1, 0x0, 0x0, 0x0, 0x0, 0x0, 0x0, 0x0, 0x0⟩
def Fld.coreTempTj : Fld := ⟨Reg.coreTemp, 0, 8⟩
/-- `CORE_VDD` (R416) -/
def Reg.coreVdd : RegDef := ⟨0x11c, 1, 0x0, 1, 0x0, 0x0, 0x0, 0x0, 0x0, 0x0, 0x0, 0x0⟩
def Fld.coreVddMv : Fld := ⟨Reg.coreVdd, 0, 12⟩
/-- `CORE_SPEED_MON` (R416) -/
def Reg.coreSpeedMon : RegDef := ⟨0x120, 8, 0x4, 1, 0x0, 0x0, 0x0, 0x0, 0x0, 0x0, 0x0, 0x0⟩
def Fld.coreSpeedMonIndex : Fld := ⟨Reg.coreSpeedMon, 0, 8⟩
/-- `CORE_CNT_SLOW` (R416) -/
def Reg.coreCntSlow : RegDef := ⟨0x140, 1, 0x0, 1, 0x0, 0x0, 0x0, 0x0, 0x0, 0x0, 0xffffffff, 0x0⟩
def Fld.coreCntSlowCount : Fld := ⟨Reg.coreCntSlow, 0, 32⟩
/-- `TB_CNT_REFCLK` (R416) -/
def Reg.tbCntRefclk : RegDef := ⟨0x144, 1, 0x0, 1, 0x0, 0x0, 0x0, 0x0, 0x0, 0x0, 0xffffffff, 0x0⟩
def Fld.tbCntRefclkCount : Fld := ⟨Reg.tbCntRefclk, 0, 32⟩
/-- `CORE_CNT_SAT` (R416) -/
def Reg.coreCntSat : RegDef := ⟨0x15c, 1, 0x0, 1, 0x0, 0x0, 0x0, 0x0, 0x0, 0x0, 0x0, 0x0⟩
def Fld.coreCntSatSat : Fld := ⟨Reg.coreCntSat, 0, 2⟩
/-- `CFG_HOLD` (R650) -/
def Reg.cfgHold : RegDef := ⟨0x1000, 1, 0x0, 1, 0x0, 0x0, 0x1, 0x0, 0x0, 0x0, 0x0, 0xfffffffe⟩
def Fld.cfgHoldHold : Fld := ⟨Reg.cfgHold, 0, 1⟩
/-- `CFG_STATUS` (R650) -/
def Reg.cfgStatus : RegDef := ⟨0x1004, 1, 0x0, 1, 0x0, 0x0, 0x0, 0x0, 0x0, 0x0, 0x0, 0x0⟩
def Fld.cfgStatusPending : Fld := ⟨Reg.cfgStatus, 0, 1⟩
def Fld.cfgStatusHeld : Fld := ⟨Reg.cfgStatus, 1, 1⟩
def Fld.cfgStatusClearing : Fld := ⟨Reg.cfgStatus, 2, 1⟩
/-- `CLR_CMD` (R650) -/
def Reg.clrCmd : RegDef := ⟨0x1008, 1, 0x0, 1, 0x0, 0x0, 0x7ff, 0x0, 0x0, 0x0, 0x0, 0xfffff800⟩
def Fld.clrCmdGroup : Fld := ⟨Reg.clrCmd, 0, 8⟩
def Fld.clrCmdAll : Fld := ⟨Reg.clrCmd, 8, 1⟩
def Fld.clrCmdHist : Fld := ⟨Reg.clrCmd, 9, 1⟩
def Fld.clrCmdCnt : Fld := ⟨Reg.clrCmd, 10, 1⟩
/-- `BEAM_CTL` (R650) -/
def Reg.beamCtl : RegDef := ⟨0x1010, 1, 0x0, 1, 0x0, 0x0, 0x3, 0x0, 0x0, 0x0, 0x0, 0xfffffffc⟩
def Fld.beamCtlTake : Fld := ⟨Reg.beamCtl, 0, 1⟩
def Fld.beamCtlTakeClear : Fld := ⟨Reg.beamCtl, 1, 1⟩
/-- `BEAM_STATUS` (R650) -/
def Reg.beamStatus : RegDef := ⟨0x1014, 1, 0x0, 1, 0x0, 0x0, 0x0, 0x0, 0x0, 0x4, 0x0, 0x0⟩
def Fld.beamStatusDone : Fld := ⟨Reg.beamStatus, 0, 1⟩
def Fld.beamStatusBusy : Fld := ⟨Reg.beamStatus, 1, 1⟩
def Fld.beamStatusDropped : Fld := ⟨Reg.beamStatus, 2, 1⟩
def Fld.beamStatusCleared : Fld := ⟨Reg.beamStatus, 3, 1⟩
def Fld.beamStatusSeq : Fld := ⟨Reg.beamStatus, 8, 8⟩
/-- `BEAM_TICK` (R650) -/
def Reg.beamTick : RegDef := ⟨0x1018, 1, 0x0, 1, 0x0, 0x0, 0x0, 0x0, 0x0, 0x0, 0x0, 0x0⟩
def Fld.beamTickTick : Fld := ⟨Reg.beamTick, 0, 24⟩
/-- `EYELET_SEL` (R650) -/
def Reg.eyeletSel : RegDef := ⟨0x1020, 1, 0x0, 1, 0x0, 0x0, 0xffff, 0x0, 0x0, 0x0, 0x0, 0xffff0000⟩
def Fld.eyeletSelItem : Fld := ⟨Reg.eyeletSel, 0, 16⟩
/-- `EYELET_CTL` (R650) -/
def Reg.eyeletCtl : RegDef := ⟨0x1024, 1, 0x0, 1, 0x0, 0x0, 0x1, 0x0, 0x0, 0x0, 0x0, 0xfffffffe⟩
def Fld.eyeletCtlClear : Fld := ⟨Reg.eyeletCtl, 0, 1⟩
/-- `EYELET_STATUS` (R650) -/
def Reg.eyeletStatus : RegDef := ⟨0x1028, 1, 0x0, 1, 0x0, 0x0, 0x0, 0x0, 0x0, 0x0, 0x0, 0x0⟩
def Fld.eyeletStatusValid : Fld := ⟨Reg.eyeletStatus, 0, 1⟩
def Fld.eyeletStatusBusy : Fld := ⟨Reg.eyeletStatus, 1, 1⟩
def Fld.eyeletStatusBad : Fld := ⟨Reg.eyeletStatus, 2, 1⟩
def Fld.eyeletStatusCleared : Fld := ⟨Reg.eyeletStatus, 3, 1⟩
def Fld.eyeletStatusWords : Fld := ⟨Reg.eyeletStatus, 16, 7⟩
/-- `REG_CNT_ACCESS` (R650) -/
def Reg.regCntAccess : RegDef := ⟨0x1040, 1, 0x0, 1, 0x0, 0x0, 0x0, 0x0, 0x0, 0x0, 0xffffffff, 0x0⟩
def Fld.regCntAccessCount : Fld := ⟨Reg.regCntAccess, 0, 32⟩
/-- `REG_CNT_REJECT` (R650) -/
def Reg.regCntReject : RegDef := ⟨0x1044, 1, 0x0, 1, 0x0, 0x0, 0x0, 0x0, 0x0, 0x0, 0xffffffff, 0x0⟩
def Fld.regCntRejectCount : Fld := ⟨Reg.regCntReject, 0, 32⟩
/-- `REG_CNT_SAT` (R650) -/
def Reg.regCntSat : RegDef := ⟨0x105c, 1, 0x0, 1, 0x0, 0x0, 0x0, 0x0, 0x0, 0x0, 0x0, 0x0⟩
def Fld.regCntSatSat : Fld := ⟨Reg.regCntSat, 0, 2⟩
/-- `EYELET_DATA` (R650) -/
def Reg.eyeletData : RegDef := ⟨0x1100, 64, 0x4, 1, 0x0, 0x0, 0x0, 0x0, 0x0, 0x0, 0x0, 0x0⟩
def Fld.eyeletDataWord : Fld := ⟨Reg.eyeletData, 0, 32⟩
/-- `EVQ_CTL` (R650) -/
def Reg.evqCtl : RegDef := ⟨0x2000, 1, 0x0, 1, 0x0, 0x0, 0x3, 0x0, 0x0, 0x0, 0x0, 0xfffffffc⟩
def Fld.evqCtlPop : Fld := ⟨Reg.evqCtl, 0, 1⟩
def Fld.evqCtlFlush : Fld := ⟨Reg.evqCtl, 1, 1⟩
/-- `EVQ_COUNT` (R650) -/
def Reg.evqCount : RegDef := ⟨0x2004, 1, 0x0, 1, 0x0, 0x0, 0x0, 0x0, 0x0, 0x0, 0x0, 0x0⟩
def Fld.evqCountTotal : Fld := ⟨Reg.evqCount, 0, 11⟩
def Fld.evqCountFull : Fld := ⟨Reg.evqCount, 11, 1⟩
def Fld.evqCountPrio : Fld := ⟨Reg.evqCount, 16, 4⟩
/-- `EVQ_POP_STATUS` (R650) -/
def Reg.evqPopStatus : RegDef := ⟨0x2008, 1, 0x0, 1, 0x0, 0x0, 0x0, 0x0, 0x0, 0x0, 0x0, 0x0⟩
def Fld.evqPopStatusValid : Fld := ⟨Reg.evqPopStatus, 0, 1⟩
def Fld.evqPopStatusEmpty : Fld := ⟨Reg.evqPopStatus, 1, 1⟩
def Fld.evqPopStatusPoison : Fld := ⟨Reg.evqPopStatus, 2, 1⟩
def Fld.evqPopStatusBadword : Fld := ⟨Reg.evqPopStatus, 4, 4⟩
/-- `EVQ_ITEM` (R650) -/
def Reg.evqItem : RegDef := ⟨0x2010, 4, 0x4, 1, 0x0, 0x0, 0x0, 0x0, 0x0, 0x0, 0x0, 0x0⟩
def Fld.evqItemWord : Fld := ⟨Reg.evqItem, 0, 32⟩
/-- `EVQ_CNT_PUSH` (R650) -/
def Reg.evqCntPush : RegDef := ⟨0x2040, 1, 0x0, 1, 0x0, 0x0, 0x0, 0x0, 0x0, 0x0, 0xffffffff, 0x0⟩
def Fld.evqCntPushCount : Fld := ⟨Reg.evqCntPush, 0, 32⟩
/-- `EVQ_CNT_DROP` (R650) -/
def Reg.evqCntDrop : RegDef := ⟨0x2044, 1, 0x0, 1, 0x0, 0x0, 0x0, 0x0, 0x0, 0x0, 0xffffffff, 0x0⟩
def Fld.evqCntDropCount : Fld := ⟨Reg.evqCntDrop, 0, 32⟩
/-- `EVQ_CNT_PARITY` (R650) -/
def Reg.evqCntParity : RegDef := ⟨0x2048, 1, 0x0, 1, 0x0, 0x0, 0x0, 0x0, 0x0, 0x0, 0xffffffff, 0x0⟩
def Fld.evqCntParityCount : Fld := ⟨Reg.evqCntParity, 0, 32⟩
/-- `EVQ_CNT_FLUSH` (R650) -/
def Reg.evqCntFlush : RegDef := ⟨0x204c, 1, 0x0, 1, 0x0, 0x0, 0x0, 0x0, 0x0, 0x0, 0xffffffff, 0x0⟩
def Fld.evqCntFlushCount : Fld := ⟨Reg.evqCntFlush, 0, 32⟩
/-- `EVQ_CNT_SAT` (R650) -/
def Reg.evqCntSat : RegDef := ⟨0x205c, 1, 0x0, 1, 0x0, 0x0, 0x0, 0x0, 0x0, 0x0, 0x0, 0x0⟩
def Fld.evqCntSatSat : Fld := ⟨Reg.evqCntSat, 0, 4⟩
/-- `FLT_CTL` (R546) -/
def Reg.fltCtl : RegDef := ⟨0x3000, 1, 0x0, 1, 0x0, 0x0, 0x3, 0x0, 0x0, 0x0, 0x0, 0xfffffffc⟩
def Fld.fltCtlFatalArm : Fld := ⟨Reg.fltCtl, 0, 1⟩
def Fld.fltCtlSafe : Fld := ⟨Reg.fltCtl, 1, 1⟩
/-- `FLT_EPISODE` (R546) -/
def Reg.fltEpisode : RegDef := ⟨0x3004, 1, 0x0, 1, 0x0, 0x0, 0x0, 0x0, 0x0, 0x0, 0x0, 0x0⟩
def Fld.fltEpisodeState : Fld := ⟨Reg.fltEpisode, 0, 2⟩
def Fld.fltEpisodeQuiet : Fld := ⟨Reg.fltEpisode, 2, 1⟩
def Fld.fltEpisodeHeldLimit : Fld := ⟨Reg.fltEpisode, 3, 1⟩
def Fld.fltEpisodeHeldHoldup : Fld := ⟨Reg.fltEpisode, 4, 1⟩
/-- `FLT_QUIET` (R546) -/
def Reg.fltQuiet : RegDef := ⟨0x3008, 1, 0x0, 1, 0x0, 0x64, 0x0, 0xffff, 0x0, 0x0, 0x0, 0xffff0000⟩
def Fld.fltQuietTime : Fld := ⟨Reg.fltQuiet, 0, 16⟩
/-- `FLT_RLIMIT` (R546) -/
def Reg.fltRlimit : RegDef := ⟨0x300c, 1, 0x0, 1, 0x0, 0xe1004, 0x0, 0xffff0f, 0x0, 0x0, 0x0, 0xff0000f0⟩
def Fld.fltRlimitLimit : Fld := ⟨Reg.fltRlimit, 0, 4⟩
def Fld.fltRlimitWindow : Fld := ⟨Reg.fltRlimit, 8, 16⟩
/-- `FLT_RCOUNT` (R546) -/
def Reg.fltRcount : RegDef := ⟨0x3010, 1, 0x0, 1, 0x0, 0x0, 0x0, 0x0, 0x0, 0x0, 0xffff, 0x0⟩
def Fld.fltRcountCount : Fld := ⟨Reg.fltRcount, 0, 16⟩
/-- `FLT_EP_START_LO` (R546) -/
def Reg.fltEpStartLo : RegDef := ⟨0x3014, 1, 0x0, 1, 0x0, 0x0, 0x0, 0x0, 0x0, 0x0, 0x0, 0x0⟩
def Fld.fltEpStartLoUs : Fld := ⟨Reg.fltEpStartLo, 0, 32⟩
/-- `FLT_EP_START_HI` (R546) -/
def Reg.fltEpStartHi : RegDef := ⟨0x3018, 1, 0x0, 1, 0x0, 0x0, 0x0, 0x0, 0x0, 0x0, 0x0, 0x0⟩
def Fld.fltEpStartHiUs : Fld := ⟨Reg.fltEpStartHi, 0, 16⟩
/-- `FLT_EP_LEN` (R546) -/
def Reg.fltEpLen : RegDef := ⟨0x301c, 1, 0x0, 1, 0x0, 0x0, 0x0, 0x0, 0x0, 0x0, 0x0, 0x0⟩
def Fld.fltEpLenUs : Fld := ⟨Reg.fltEpLen, 0, 32⟩
/-- `FLT_STATUS` (R546) -/
def Reg.fltStatus : RegDef := ⟨0x3020, 3, 0x4, 1, 0x0, 0x0, 0x0, 0x0, 0x0, 0x0, 0x0, 0x0⟩
def Fld.fltStatusSrc : Fld := ⟨Reg.fltStatus, 0, 32⟩
/-- `FLT_HIST` (R546) -/
def Reg.fltHist : RegDef := ⟨0x3030, 3, 0x4, 1, 0x0, 0x0, 0x0, 0x0, 0x0, 0xffffffff, 0x0, 0x0⟩
def Fld.fltHistSrc : Fld := ⟨Reg.fltHist, 0, 32⟩
/-- `FLT_FORCE` (R546) -/
def Reg.fltForce : RegDef := ⟨0x3040, 3, 0x4, 1, 0x0, 0x0, 0xffffffff, 0x0, 0x0, 0x0, 0x0, 0x0⟩
def Fld.fltForceSrc : Fld := ⟨Reg.fltForce, 0, 32⟩
/-- `FLT_BROKEN` (R546) -/
def Reg.fltBroken : RegDef := ⟨0x3050, 3, 0x4, 1, 0x0, 0x0, 0x0, 0x0, 0x0, 0x0, 0x0, 0x0⟩
def Fld.fltBrokenSrc : Fld := ⟨Reg.fltBroken, 0, 32⟩
/-- `FLT_CNT_CORR` (R546) -/
def Reg.fltCntCorr : RegDef := ⟨0x3080, 1, 0x0, 1, 0x0, 0x0, 0x0, 0x0, 0x0, 0x0, 0xffffffff, 0x0⟩
def Fld.fltCntCorrCount : Fld := ⟨Reg.fltCntCorr, 0, 32⟩
/-- `FLT_CNT_CONT` (R546) -/
def Reg.fltCntCont : RegDef := ⟨0x3084, 1, 0x0, 1, 0x0, 0x0, 0x0, 0x0, 0x0, 0x0, 0xffffffff, 0x0⟩
def Fld.fltCntContCount : Fld := ⟨Reg.fltCntCont, 0, 32⟩
/-- `FLT_CNT_FATAL` (R546) -/
def Reg.fltCntFatal : RegDef := ⟨0x3088, 1, 0x0, 1, 0x0, 0x0, 0x0, 0x0, 0x0, 0x0, 0xffffffff, 0x0⟩
def Fld.fltCntFatalCount : Fld := ⟨Reg.fltCntFatal, 0, 32⟩
/-- `FLT_CNT_BROKEN` (R546) -/
def Reg.fltCntBroken : RegDef := ⟨0x308c, 1, 0x0, 1, 0x0, 0x0, 0x0, 0x0, 0x0, 0x0, 0xffffffff, 0x0⟩
def Fld.fltCntBrokenCount : Fld := ⟨Reg.fltCntBroken, 0, 32⟩
/-- `FLT_CNT_MERGED` (R546) -/
def Reg.fltCntMerged : RegDef := ⟨0x3090, 1, 0x0, 1, 0x0, 0x0, 0x0, 0x0, 0x0, 0x0, 0xffffffff, 0x0⟩
def Fld.fltCntMergedCount : Fld := ⟨Reg.fltCntMerged, 0, 32⟩
/-- `FLT_CNT_SAT` (R546) -/
def Reg.fltCntSat : RegDef := ⟨0x309c, 1, 0x0, 1, 0x0, 0x0, 0x0, 0x0, 0x0, 0x0, 0x0, 0x0⟩
def Fld.fltCntSatSat : Fld := ⟨Reg.fltCntSat, 0, 5⟩
def Fld.fltCntSatSatRcount : Fld := ⟨Reg.fltCntSat, 8, 1⟩
/-- `WP_CTL` (R57) -/
def Reg.wpCtl : RegDef := ⟨0x4000, 8, 0x200, 1, 0x0, 0x3, 0x0, 0x7, 0x0, 0x0, 0x0, 0xfffffff8⟩
def Fld.wpCtlEnable : Fld := ⟨Reg.wpCtl, 0, 1⟩
def Fld.wpCtlRdRun : Fld := ⟨Reg.wpCtl, 1, 2⟩
/-- `WP_STATE` (R57) -/
def Reg.wpState : RegDef := ⟨0x4004, 8, 0x200, 1, 0x0, 0x0, 0x0, 0x0, 0x0, 0x0, 0x0, 0xfffffffc⟩
def Fld.wpStateState : Fld := ⟨Reg.wpState, 0, 2⟩
/-- `WP_HCRED` (R57) -/
def Reg.wpHcred : RegDef := ⟨0x4008, 8, 0x200, 1, 0x0, 0x0, 0x0, 0x0, 0x0, 0x0, 0x0, 0x0⟩
def Fld.wpHcredPort : Fld := ⟨Reg.wpHcred, 0, 12⟩
def Fld.wpHcredFabric : Fld := ⟨Reg.wpHcred, 16, 12⟩
/-- `WP_DCRED` (R57) -/
def Reg.wpDcred : RegDef := ⟨0x400c, 8, 0x200, 1, 0x0, 0x4000, 0x0, 0x3ffff, 0x0, 0x0, 0x0, 0xfffc0000⟩
def Fld.wpDcredLimit : Fld := ⟨Reg.wpDcred, 0, 18⟩
/-- `WP_DCRED_HELD` (R57) -/
def Reg.wpDcredHeld : RegDef := ⟨0x4010, 8, 0x200, 1, 0x0, 0x0, 0x0, 0x0, 0x0, 0x0, 0x0, 0x0⟩
def Fld.wpDcredHeldStaged : Fld := ⟨Reg.wpDcredHeld, 0, 18⟩
/-- `WP_CCRED` (R57) -/
def Reg.wpCcred : RegDef := ⟨0x4014, 8, 0x200, 1, 0x0, 0x0, 0x0, 0x0, 0x0, 0x0, 0x0, 0x0⟩
def Fld.wpCcredAvail : Fld := ⟨Reg.wpCcred, 0, 18⟩
/-- `WP_OUTSTANDING` (R57) -/
def Reg.wpOutstanding : RegDef := ⟨0x4018, 8, 0x200, 1, 0x0, 0x0, 0x0, 0x0, 0x0, 0x0, 0x0, 0x0⟩
def Fld.wpOutstandingTags : Fld := ⟨Reg.wpOutstanding, 0, 17⟩
/-- `WP_HIST` (R57) -/
def Reg.wpHist : RegDef := ⟨0x401c, 8, 0x200, 1, 0x0, 0x0, 0x0, 0x0, 0x0, 0x1f, 0x0, 0xffffffe0⟩
def Fld.wpHistHdrCrc : Fld := ⟨Reg.wpHist, 0, 1⟩
def Fld.wpHistLineCrc : Fld := ⟨Reg.wpHist, 1, 1⟩
def Fld.wpHistMalformed : Fld := ⟨Reg.wpHist, 2, 1⟩
def Fld.wpHistTagReuse : Fld := ⟨Reg.wpHist, 3, 1⟩
def Fld.wpHistCredit : Fld := ⟨Reg.wpHist, 4, 1⟩
/-- `WP_CCRED_ADV` (R57) -/
def Reg.wpCcredAdv : RegDef := ⟨0x4020, 8, 0x200, 1, 0x0, 0x0, 0x0, 0x0, 0x0, 0x0, 0x0, 0x0⟩
def Fld.wpCcredAdvAdvertised : Fld := ⟨Reg.wpCcredAdv, 0, 18⟩
/-- `WP_LAST_ERR` (R57) -/
def Reg.wpLastErr : RegDef := ⟨0x4024, 8, 0x200, 1, 0x0, 0x0, 0x0, 0x0, 0x0, 0x7ffffff, 0x0, 0xf8000000⟩
def Fld.wpLastErrTag : Fld := ⟨Reg.wpLastErr, 0, 16⟩
def Fld.wpLastErrOpcode : Fld := ⟨Reg.wpLastErr, 16, 8⟩
def Fld.wpLastErrKind : Fld := ⟨Reg.wpLastErr, 24, 3⟩
/-- `WP_LAST_LATE` (R57) -/
def Reg.wpLastLate : RegDef := ⟨0x4028, 8, 0x200, 1, 0x0, 0x0, 0x0, 0x0, 0x0, 0x0, 0x0, 0x0⟩
def Fld.wpLastLateLate : Fld := ⟨Reg.wpLastLate, 0, 16⟩
def Fld.wpLastLateTag : Fld := ⟨Reg.wpLastLate, 16, 16⟩
/-- `WP_ARRIVAL` (R57) -/
def Reg.wpArrival : RegDef := ⟨0x402c, 8, 0x200, 1, 0x0, 0x0, 0x0, 0x0, 0x0, 0x0, 0x0, 0x0⟩
def Fld.wpArrivalTick : Fld := ⟨Reg.wpArrival, 0, 24⟩
/-- `WP_HEAD` (R57) -/
def Reg.wpHead : RegDef := ⟨0x4030, 8, 0x200, 1, 0x0, 0x0, 0x0, 0x0, 0x0, 0x0, 0x0, 0x0⟩
def Fld.wpHeadTag : Fld := ⟨Reg.wpHead, 0, 16⟩
def Fld.wpHeadLength : Fld := ⟨Reg.wpHead, 16, 7⟩
def Fld.wpHeadValid : Fld := ⟨Reg.wpHead, 24, 1⟩
def Fld.wpHeadHeld : Fld := ⟨Reg.wpHead, 25, 1⟩
/-- `WP_RESYNC_LAST` (R57) -/
def Reg.wpResyncLast : RegDef := ⟨0x4034, 8, 0x200, 1, 0x0, 0x0, 0x0, 0x0, 0x0, 0x1fffff, 0x0, 0xffe00000⟩
def Fld.wpResyncLastReason : Fld := ⟨Reg.wpResyncLast, 0, 4⟩
def Fld.wpResyncLastAborted : Fld := ⟨Reg.wpResyncLast, 4, 17⟩
/-- `WP_LAST_DENIED` (R57) -/
def Reg.wpLastDenied : RegDef := ⟨0x4038, 8, 0x200, 1, 0x0, 0x0, 0x0, 0x0, 0x0, 0x0, 0x0, 0x0⟩
def Fld.wpLastDeniedContext : Fld := ⟨Reg.wpLastDenied, 0, 12⟩
def Fld.wpLastDeniedOpcode : Fld := ⟨Reg.wpLastDenied, 16, 8⟩
/-- `WP_CNT_REQ` (R57) -/
def Reg.wpCntReq : RegDef := ⟨0x4040, 8, 0x200, 1, 0x0, 0x0, 0x0, 0x0, 0x0, 0x0, 0xffffffff, 0x0⟩
def Fld.wpCntReqCount : Fld := ⟨Reg.wpCntReq, 0, 32⟩
/-- `WP_CNT_HDR_CRC` (R57) -/
def Reg.wpCntHdrCrc : RegDef := ⟨0x4044, 8, 0x200, 1, 0x0, 0x0, 0x0, 0x0, 0x0, 0x0, 0xffffffff, 0x0⟩
def Fld.wpCntHdrCrcCount : Fld := ⟨Reg.wpCntHdrCrc, 0, 32⟩
/-- `WP_CNT_LINE_CRC` (R57) -/
def Reg.wpCntLineCrc : RegDef := ⟨0x4048, 8, 0x200, 1, 0x0, 0x0, 0x0, 0x0, 0x0, 0x0, 0xffffffff, 0x0⟩
def Fld.wpCntLineCrcCount : Fld := ⟨Reg.wpCntLineCrc, 0, 32⟩
/-- `WP_CNT_MALFORMED` (R57) -/
def Reg.wpCntMalformed : RegDef := ⟨0x404c, 8, 0x200, 1, 0x0, 0x0, 0x0, 0x0, 0x0, 0x0, 0xffffffff, 0x0⟩
def Fld.wpCntMalformedCount : Fld := ⟨Reg.wpCntMalformed, 0, 32⟩
/-- `WP_CNT_TAG_REUSE` (R57) -/
def Reg.wpCntTagReuse : RegDef := ⟨0x4050, 8, 0x200, 1, 0x0, 0x0, 0x0, 0x0, 0x0, 0x0, 0xffffffff, 0x0⟩
def Fld.wpCntTagReuseCount : Fld := ⟨Reg.wpCntTagReuse, 0, 32⟩
/-- `WP_CNT_ABORTED` (R57) -/
def Reg.wpCntAborted : RegDef := ⟨0x4054, 8, 0x200, 1, 0x0, 0x0, 0x0, 0x0, 0x0, 0x0, 0xffffffff, 0x0⟩
def Fld.wpCntAbortedCount : Fld := ⟨Reg.wpCntAborted, 0, 32⟩
/-- `WP_CNT_RESYNC` (R57) -/
def Reg.wpCntResync : RegDef := ⟨0x4058, 8, 0x200, 1, 0x0, 0x0, 0x0, 0x0, 0x0, 0x0, 0xffffffff, 0x0⟩
def Fld.wpCntResyncCount : Fld := ⟨Reg.wpCntResync, 0, 32⟩
/-- `WP_CNT_LINE_IN_LO` (R57) -/
def Reg.wpCntLineInLo : RegDef := ⟨0x4060, 8, 0x200, 1, 0x0, 0x0, 0x0, 0x0, 0x0, 0x0, 0xffffffff, 0x0⟩
def Fld.wpCntLineInLoCount : Fld := ⟨Reg.wpCntLineInLo, 0, 32⟩
/-- `WP_CNT_LINE_IN_HI` (R57) -/
def Reg.wpCntLineInHi : RegDef := ⟨0x4064, 8, 0x200, 1, 0x0, 0x0, 0x0, 0x0, 0x0, 0x0, 0xffffffff, 0x0⟩
def Fld.wpCntLineInHiCount : Fld := ⟨Reg.wpCntLineInHi, 0, 32⟩
/-- `WP_CNT_LINE_OUT_LO` (R57) -/
def Reg.wpCntLineOutLo : RegDef := ⟨0x4068, 8, 0x200, 1, 0x0, 0x0, 0x0, 0x0, 0x0, 0x0, 0xffffffff, 0x0⟩
def Fld.wpCntLineOutLoCount : Fld := ⟨Reg.wpCntLineOutLo, 0, 32⟩
/-- `WP_CNT_LINE_OUT_HI` (R57) -/
def Reg.wpCntLineOutHi : RegDef := ⟨0x406c, 8, 0x200, 1, 0x0, 0x0, 0x0, 0x0, 0x0, 0x0, 0xffffffff, 0x0⟩
def Fld.wpCntLineOutHiCount : Fld := ⟨Reg.wpCntLineOutHi, 0, 32⟩
/-- `WP_CNT_SAT` (R57) -/
def Reg.wpCntSat : RegDef := ⟨0x407c, 8, 0x200, 1, 0x0, 0x0, 0x0, 0x0, 0x0, 0x0, 0x0, 0x0⟩
def Fld.wpCntSatSat : Fld := ⟨Reg.wpCntSat, 0, 9⟩
def Fld.wpCntSatSatIn : Fld := ⟨Reg.wpCntSat, 9, 1⟩
def Fld.wpCntSatSatOut : Fld := ⟨Reg.wpCntSat, 10, 1⟩
/-- `CTX_SEL` (R66) -/
def Reg.ctxSel : RegDef := ⟨0x6000, 1, 0x0, 1, 0x0, 0x1, 0xfff, 0x0, 0x0, 0x0, 0x0, 0xfffff000⟩
def Fld.ctxSelContext : Fld := ⟨Reg.ctxSel, 0, 12⟩
/-- `CTX_CMD` (R66) -/
def Reg.ctxCmd : RegDef := ⟨0x6004, 1, 0x0, 1, 0x0, 0x0, 0x3, 0x0, 0x0, 0x0, 0x0, 0xfffffffc⟩
def Fld.ctxCmdWrite : Fld := ⟨Reg.ctxCmd, 0, 1⟩
def Fld.ctxCmdClearCnt : Fld := ⟨Reg.ctxCmd, 1, 1⟩
/-- `CTX_STATUS` (R66) -/
def Reg.ctxStatus : RegDef := ⟨0x6008, 1, 0x0, 1, 0x0, 0x0, 0x0, 0x0, 0x0, 0x0, 0x0, 0x0⟩
def Fld.ctxStatusPending : Fld := ⟨Reg.ctxStatus, 0, 1⟩
def Fld.ctxStatusCaptured : Fld := ⟨Reg.ctxStatus, 1, 1⟩
/-- `CTX_CFG` (R66) -/
def Reg.ctxCfg : RegDef := ⟨0x6010, 1, 0x0, 1, 0x0, 0x4, 0x0, 0x3f, 0x0, 0x0, 0x0, 0xffffffc0⟩
def Fld.ctxCfgClass : Fld := ⟨Reg.ctxCfg, 0, 2⟩
def Fld.ctxCfgAdmit : Fld := ⟨Reg.ctxCfg, 2, 1⟩
def Fld.ctxCfgPermDrop : Fld := ⟨Reg.ctxCfg, 3, 1⟩
def Fld.ctxCfgPermAtom : Fld := ⟨Reg.ctxCfg, 4, 1⟩
def Fld.ctxCfgNoPreempt : Fld := ⟨Reg.ctxCfg, 5, 1⟩
/-- `CTX_BUDGET` (R66) -/
def Reg.ctxBudget : RegDef := ⟨0x6014, 1, 0x0, 1, 0x0, 0x6400640, 0x0, 0xffffffff, 0x0, 0x0, 0x0, 0x0⟩
def Fld.ctxBudgetRd : Fld := ⟨Reg.ctxBudget, 0, 16⟩
def Fld.ctxBudgetWr : Fld := ⟨Reg.ctxBudget, 16, 16⟩
/-- `CTX_THR` (R66) -/
def Reg.ctxThr : RegDef := ⟨0x6018, 1, 0x0, 1, 0x0, 0x0, 0x0, 0x0, 0xf, 0x0, 0x0, 0xfffe00f0⟩
def Fld.ctxThrStep : Fld := ⟨Reg.ctxThr, 0, 4⟩
def Fld.ctxThrTokens : Fld := ⟨Reg.ctxThr, 8, 8⟩
def Fld.ctxThrLimited : Fld := ⟨Reg.ctxThr, 16, 1⟩
/-- `CTX_CNT_REQ` (R66) -/
def Reg.ctxCntReq : RegDef := ⟨0x6040, 1, 0x0, 1, 0x0, 0x0, 0x0, 0x0, 0x0, 0x0, 0xffffffff, 0x0⟩
def Fld.ctxCntReqCount : Fld := ⟨Reg.ctxCntReq, 0, 32⟩
/-- `CTX_CNT_MISS` (R66) -/
def Reg.ctxCntMiss : RegDef := ⟨0x6044, 1, 0x0, 1, 0x0, 0x0, 0x0, 0x0, 0x0, 0x0, 0xffffffff, 0x0⟩
def Fld.ctxCntMissCount : Fld := ⟨Reg.ctxCntMiss, 0, 32⟩
/-- `CTX_CNT_LINE_RD` (R66) -/
def Reg.ctxCntLineRd : RegDef := ⟨0x6048, 1, 0x0, 1, 0x0, 0x0, 0x0, 0x0, 0x0, 0x0, 0xffffffff, 0x0⟩
def Fld.ctxCntLineRdCount : Fld := ⟨Reg.ctxCntLineRd, 0, 32⟩
/-- `CTX_CNT_LINE_WR` (R66) -/
def Reg.ctxCntLineWr : RegDef := ⟨0x604c, 1, 0x0, 1, 0x0, 0x0, 0x0, 0x0, 0x0, 0x0, 0xffffffff, 0x0⟩
def Fld.ctxCntLineWrCount : Fld := ⟨Reg.ctxCntLineWr, 0, 32⟩
/-- `CTX_CNT_ALERT` (R66) -/
def Reg.ctxCntAlert : RegDef := ⟨0x6050, 1, 0x0, 1, 0x0, 0x0, 0x0, 0x0, 0x0, 0x0, 0xffffffff, 0x0⟩
def Fld.ctxCntAlertCount : Fld := ⟨Reg.ctxCntAlert, 0, 32⟩
/-- `CTX_CNT_HELD` (R66) -/
def Reg.ctxCntHeld : RegDef := ⟨0x6054, 1, 0x0, 1, 0x0, 0x0, 0x0, 0x0, 0x0, 0x0, 0xffffffff, 0x0⟩
def Fld.ctxCntHeldCount : Fld := ⟨Reg.ctxCntHeld, 0, 32⟩
/-- `CTX_CNT_DENIED` (R66) -/
def Reg.ctxCntDenied : RegDef := ⟨0x6058, 1, 0x0, 1, 0x0, 0x0, 0x0, 0x0, 0x0, 0x0, 0xffffffff, 0x0⟩
def Fld.ctxCntDeniedCount : Fld := ⟨Reg.ctxCntDenied, 0, 32⟩
/-- `CTX_CNT_P_AS_T` (R66) -/
def Reg.ctxCntPAsT : RegDef := ⟨0x605c, 1, 0x0, 1, 0x0, 0x0, 0x0, 0x0, 0x0, 0x0, 0xffffffff, 0x0⟩
def Fld.ctxCntPAsTCount : Fld := ⟨Reg.ctxCntPAsT, 0, 32⟩
/-- `CTX_CNT_SAT` (R66) -/
def Reg.ctxCntSat : RegDef := ⟨0x607c, 1, 0x0, 1, 0x0, 0x0, 0x0, 0x0, 0x0, 0x0, 0x0, 0x0⟩
def Fld.ctxCntSatSat : Fld := ⟨Reg.ctxCntSat, 0, 8⟩
/-- `ARB_FAR` (R103) -/
def Reg.arbFar : RegDef := ⟨0x6100, 1, 0x0, 1, 0x0, 0x40404040, 0x0, 0xffffffff, 0x0, 0x0, 0x0, 0x0⟩
def Fld.arbFarScrub : Fld := ⟨Reg.arbFar, 0, 8⟩
def Fld.arbFarTest : Fld := ⟨Reg.arbFar, 8, 8⟩
def Fld.arbFarCal : Fld := ⟨Reg.arbFar, 16, 8⟩
def Fld.arbFarRepair : Fld := ⟨Reg.arbFar, 24, 8⟩
/-- `THR_CTL` (R103) -/
def Reg.thrCtl : RegDef := ⟨0x6104, 1, 0x0, 1, 0x0, 0x1201040, 0x0, 0x1ffffff, 0x0, 0x0, 0x0, 0xfe000000⟩
def Fld.thrCtlDepth : Fld := ⟨Reg.thrCtl, 0, 8⟩
def Fld.thrCtlInterval : Fld := ⟨Reg.thrCtl, 8, 8⟩
def Fld.thrCtlWindow : Fld := ⟨Reg.thrCtl, 16, 8⟩
def Fld.thrCtlEnable : Fld := ⟨Reg.thrCtl, 24, 1⟩
/-- `LDG_HOST_FREE` (R150) -/
def Reg.ldgHostFree : RegDef := ⟨0x8000, 1, 0x0, 1, 0x0, 0x1e000, 0x0, 0x0, 0x0, 0x0, 0x0, 0x0⟩
def Fld.ldgHostFreeFree : Fld := ⟨Reg.ldgHostFree, 0, 18⟩
/-- `LDG_HOST_BORROW` (R150) -/
def Reg.ldgHostBorrow : RegDef := ⟨0x8004, 1, 0x0, 1, 0x0, 0x0, 0x0, 0x0, 0x0, 0x0, 0x0, 0x0⟩
def Fld.ldgHostBorrowBorrowed : Fld := ⟨Reg.ldgHostBorrow, 0, 18⟩
/-- `LDG_RES_FILL` (R150) -/
def Reg.ldgResFill : RegDef := ⟨0x8008, 1, 0x0, 1, 0x0, 0x0, 0x0, 0x0, 0x0, 0x0, 0x0, 0x0⟩
def Fld.ldgResFillUsed : Fld := ⟨Reg.ldgResFill, 0, 13⟩
/-- `LDG_RES_OFFER` (R150) -/
def Reg.ldgResOffer : RegDef := ⟨0x800c, 1, 0x0, 1, 0x0, 0x0, 0x0, 0x0, 0x0, 0x0, 0x0, 0x0⟩
def Fld.ldgResOfferUsed : Fld := ⟨Reg.ldgResOffer, 0, 12⟩
/-- `LDG_RES_TAG` (R150) -/
def Reg.ldgResTag : RegDef := ⟨0x8010, 1, 0x0, 1, 0x0, 0x0, 0x0, 0x0, 0x0, 0x0, 0x0, 0x0⟩
def Fld.ldgResTagUsed : Fld := ⟨Reg.ldgResTag, 0, 11⟩
/-- `LDG_RES_MOVE` (R150) -/
def Reg.ldgResMove : RegDef := ⟨0x8014, 1, 0x0, 1, 0x0, 0x0, 0x0, 0x0, 0x0, 0x0, 0x0, 0x0⟩
def Fld.ldgResMoveUsed : Fld := ⟨Reg.ldgResMove, 0, 11⟩
/-- `LDG_HOST_WP` (R150) -/
def Reg.ldgHostWp : RegDef := ⟨0x8020, 8, 0x4, 1, 0x0, 0x0, 0x0, 0x0, 0x0, 0x0, 0x0, 0x0⟩
def Fld.ldgHostWpHeld : Fld := ⟨Reg.ldgHostWp, 0, 18⟩
/-- `CONS_FBUF_A` (R150) -/
def Reg.consFbufA : RegDef := ⟨0x8040, 1, 0x0, 1, 0x0, 0x0, 0x0, 0x0, 0x0, 0x0, 0x0, 0x0⟩
def Fld.consFbufAFill : Fld := ⟨Reg.consFbufA, 0, 12⟩
def Fld.consFbufAOffer : Fld := ⟨Reg.consFbufA, 16, 11⟩
/-- `CONS_FBUF_B` (R150) -/
def Reg.consFbufB : RegDef := ⟨0x8044, 1, 0x0, 1, 0x0, 0x10000000, 0x0, 0x0, 0x0, 0x0, 0x0, 0x0⟩
def Fld.consFbufBMove : Fld := ⟨Reg.consFbufB, 0, 9⟩
def Fld.consFbufBFree : Fld := ⟨Reg.consFbufB, 16, 13⟩
/-- `CONS_MREQ` (R150) -/
def Reg.consMreq : RegDef := ⟨0x8048, 1, 0x0, 1, 0x0, 0x0, 0x0, 0x0, 0x0, 0x0, 0x0, 0x0⟩
def Fld.consMreqBlock : Fld := ⟨Reg.consMreq, 0, 12⟩
def Fld.consMreqEngine : Fld := ⟨Reg.consMreq, 16, 12⟩
/-- `CONS_MOFFER` (R150) -/
def Reg.consMoffer : RegDef := ⟨0x804c, 1, 0x0, 1, 0x0, 0x0, 0x0, 0x0, 0x0, 0x0, 0x0, 0x0⟩
def Fld.consMofferBlock : Fld := ⟨Reg.consMoffer, 0, 11⟩
def Fld.consMofferEngine : Fld := ⟨Reg.consMoffer, 16, 11⟩
/-- `CONS_DIRTY_HELD` (R150) -/
def Reg.consDirtyHeld : RegDef := ⟨0x8050, 1, 0x0, 1, 0x0, 0x0, 0x0, 0x0, 0x0, 0x0, 0x0, 0x0⟩
def Fld.consDirtyHeldLines : Fld := ⟨Reg.consDirtyHeld, 0, 29⟩
/-- `CONS_DIRTY_FREE` (R150) -/
def Reg.consDirtyFree : RegDef := ⟨0x8054, 1, 0x0, 1, 0x0, 0x0, 0x0, 0x0, 0x0, 0x0, 0x0, 0x0⟩
def Fld.consDirtyFreeLines : Fld := ⟨Reg.consDirtyFree, 0, 29⟩
/-- `CONS_DCRED` (R150) -/
def Reg.consDcred : RegDef := ⟨0x8060, 8, 0x8, 1, 0x0, 0x0, 0x0, 0x0, 0x0, 0x0, 0x0, 0x0⟩
def Fld.consDcredFabric : Fld := ⟨Reg.consDcred, 0, 18⟩
/-- `CONS_CCRED` (R150) -/
def Reg.consCcred : RegDef := ⟨0x8064, 8, 0x8, 1, 0x0, 0x0, 0x0, 0x0, 0x0, 0x0, 0x0, 0x0⟩
def Fld.consCcredOut : Fld := ⟨Reg.consCcred, 0, 18⟩
/-- `CONS_STATUS` (R150) -/
def Reg.consStatus : RegDef := ⟨0x80a0, 1, 0x0, 1, 0x0, 0x0, 0x0, 0x0, 0x0, 0x1, 0x0, 0xfffffffe⟩
def Fld.consStatusImbalance : Fld := ⟨Reg.consStatus, 0, 1⟩
/-- `LDG_CNT_HAZARD` (R150) -/
def Reg.ldgCntHazard : RegDef := ⟨0x8100, 1, 0x0, 1, 0x0, 0x0, 0x0, 0x0, 0x0, 0x0, 0xffffffff, 0x0⟩
def Fld.ldgCntHazardCount : Fld := ⟨Reg.ldgCntHazard, 0, 32⟩
/-- `LDG_CNT_FWD` (R150) -/
def Reg.ldgCntFwd : RegDef := ⟨0x8104, 1, 0x0, 1, 0x0, 0x0, 0x0, 0x0, 0x0, 0x0, 0xffffffff, 0x0⟩
def Fld.ldgCntFwdCount : Fld := ⟨Reg.ldgCntFwd, 0, 32⟩
/-- `LDG_CNT_SUPERSEDE` (R150) -/
def Reg.ldgCntSupersede : RegDef := ⟨0x8108, 1, 0x0, 1, 0x0, 0x0, 0x0, 0x0, 0x0, 0x0, 0xffffffff, 0x0⟩
def Fld.ldgCntSupersedeCount : Fld := ⟨Reg.ldgCntSupersede, 0, 32⟩
/-- `LDG_CNT_EVICT_CANCEL` (R150) -/
def Reg.ldgCntEvictCancel : RegDef := ⟨0x810c, 1, 0x0, 1, 0x0, 0x0, 0x0, 0x0, 0x0, 0x0, 0xffffffff, 0x0⟩
def Fld.ldgCntEvictCancelCount : Fld := ⟨Reg.ldgCntEvictCancel, 0, 32⟩
/-- `LDG_CNT_REOFFER` (R150) -/
def Reg.ldgCntReoffer : RegDef := ⟨0x8110, 1, 0x0, 1, 0x0, 0x0, 0x0, 0x0, 0x0, 0x0, 0xffffffff, 0x0⟩
def Fld.ldgCntReofferCount : Fld := ⟨Reg.ldgCntReoffer, 0, 32⟩
/-- `LDG_CNT_VICTIM_REDO` (R150) -/
def Reg.ldgCntVictimRedo : RegDef := ⟨0x8114, 1, 0x0, 1, 0x0, 0x0, 0x0, 0x0, 0x0, 0x0, 0xffffffff, 0x0⟩
def Fld.ldgCntVictimRedoCount : Fld := ⟨Reg.ldgCntVictimRedo, 0, 32⟩
/-- `LDG_CNT_NOALLOC` (R150) -/
def Reg.ldgCntNoalloc : RegDef := ⟨0x8118, 1, 0x0, 1, 0x0, 0x0, 0x0, 0x0, 0x0, 0x0, 0xffffffff, 0x0⟩
def Fld.ldgCntNoallocCount : Fld := ⟨Reg.ldgCntNoalloc, 0, 32⟩
/-- `LDG_CNT_NARROW` (R150) -/
def Reg.ldgCntNarrow : RegDef := ⟨0x811c, 1, 0x0, 1, 0x0, 0x0, 0x0, 0x0, 0x0, 0x0, 0xffffffff, 0x0⟩
def Fld.ldgCntNarrowCount : Fld := ⟨Reg.ldgCntNarrow, 0, 32⟩
/-- `LDG_CNT_HEAD_HOLD` (R150) -/
def Reg.ldgCntHeadHold : RegDef := ⟨0x8120, 1, 0x0, 1, 0x0, 0x0, 0x0, 0x0, 0x0, 0x0, 0xffffffff, 0x0⟩
def Fld.ldgCntHeadHoldCount : Fld := ⟨Reg.ldgCntHeadHold, 0, 32⟩
/-- `LDG_CNT_WITHDRAW` (R150) -/
def Reg.ldgCntWithdraw : RegDef := ⟨0x8124, 1, 0x0, 1, 0x0, 0x0, 0x0, 0x0, 0x0, 0x0, 0xffffffff, 0x0⟩
def Fld.ldgCntWithdrawCount : Fld := ⟨Reg.ldgCntWithdraw, 0, 32⟩
/-- `LDG_CNT_SAT` (R150) -/
def Reg.ldgCntSat : RegDef := ⟨0x813c, 1, 0x0, 1, 0x0, 0x0, 0x0, 0x0, 0x0, 0x0, 0x0, 0x0⟩
def Fld.ldgCntSatSat : Fld := ⟨Reg.ldgCntSat, 0, 10⟩
/-- `LDG_INSP_SEL` (R150) -/
def Reg.ldgInspSel : RegDef := ⟨0x8200, 1, 0x0, 1, 0x0, 0x0, 0x1ffff, 0x0, 0x0, 0x0, 0x0, 0xfffe0000⟩
def Fld.ldgInspSelEntry : Fld := ⟨Reg.ldgInspSel, 0, 17⟩
/-- `LDG_INSP_STATUS` (R150) -/
def Reg.ldgInspStatus : RegDef := ⟨0x8204, 1, 0x0, 1, 0x0, 0x0, 0x0, 0x0, 0x0, 0x0, 0x0, 0x0⟩
def Fld.ldgInspStatusValid : Fld := ⟨Reg.ldgInspStatus, 0, 1⟩
/-- `LDG_INSP_DATA` (R150) -/
def Reg.ldgInspData : RegDef := ⟨0x8210, 4, 0x4, 1, 0x0, 0x0, 0x0, 0x0, 0x0, 0x0, 0x0, 0x0⟩
/-- `TIER_CTL` (R209) -/
def Reg.tierCtl : RegDef := ⟨0x9000, 1, 0x0, 1, 0x0, 0x3, 0x0, 0x3, 0x0, 0x0, 0x0, 0xfffffffc⟩
def Fld.tierCtlCleanOffer : Fld := ⟨Reg.tierCtl, 0, 1⟩
def Fld.tierCtlCleaner : Fld := ⟨Reg.tierCtl, 1, 1⟩
/-- `FILL_GRAN` (R209) -/
def Reg.fillGran : RegDef := ⟨0x9004, 1, 0x0, 1, 0x0, 0x15, 0x0, 0x3f, 0x0, 0x0, 0x0, 0xffffffc0⟩
def Fld.fillGranV : Fld := ⟨Reg.fillGran, 0, 2⟩
def Fld.fillGranP : Fld := ⟨Reg.fillGran, 2, 2⟩
def Fld.fillGranT : Fld := ⟨Reg.fillGran, 4, 2⟩
/-- `TIER_STATUS` (R209) -/
def Reg.tierStatus : RegDef := ⟨0x9008, 1, 0x0, 1, 0x0, 0x0, 0x0, 0x0, 0x0, 0x10, 0x0, 0xffffffe0⟩
def Fld.tierStatusClean : Fld := ⟨Reg.tierStatus, 0, 1⟩
def Fld.tierStatusDirtyFull : Fld := ⟨Reg.tierStatus, 1, 1⟩
def Fld.tierStatusSweeping : Fld := ⟨Reg.tierStatus, 2, 1⟩
def Fld.tierStatusLost : Fld := ⟨Reg.tierStatus, 3, 1⟩
def Fld.tierStatusRankTrim : Fld := ⟨Reg.tierStatus, 4, 1⟩
/-- `TIER_HASH_SEED_LO` (R209) -/
def Reg.tierHashSeedLo : RegDef := ⟨0x900c, 1, 0x0, 1, 0x0, 0x0, 0x0, 0xffffffff, 0x0, 0x0, 0x0, 0x0⟩
def Fld.tierHashSeedLoSeed : Fld := ⟨Reg.tierHashSeedLo, 0, 32⟩
/-- `TIER_HASH_SEED_HI` (R209) -/
def Reg.tierHashSeedHi : RegDef := ⟨0x9010, 1, 0x0, 1, 0x0, 0x0, 0x0, 0x3, 0x0, 0x0, 0x0, 0xfffffffc⟩
def Fld.tierHashSeedHiSeed : Fld := ⟨Reg.tierHashSeedHi, 0, 2⟩
/-- `TIER_LFSR_SEED` (R209) -/
def Reg.tierLfsrSeed : RegDef := ⟨0x9014, 1, 0x0, 1, 0x0, 0x0, 0x0, 0xffffffff, 0x0, 0x0, 0x0, 0x0⟩
def Fld.tierLfsrSeedSeed : Fld := ⟨Reg.tierLfsrSeed, 0, 32⟩
/-- `DIRTY_BUDGET` (R209) -/
def Reg.dirtyBudget : RegDef := ⟨0x9018, 1, 0x0, 1, 0x0, 0x0, 0x0, 0x7fff, 0x0, 0x0, 0x0, 0xffff8000⟩
def Fld.dirtyBudgetMib : Fld := ⟨Reg.dirtyBudget, 0, 15⟩
/-- `DIRTY_CTL` (R209) -/
def Reg.dirtyCtl : RegDef := ⟨0x901c, 1, 0x0, 1, 0x0, 0x108c, 0x0, 0xffff, 0x0, 0x0, 0x0, 0xffff0000⟩
def Fld.dirtyCtlLow : Fld := ⟨Reg.dirtyCtl, 0, 4⟩
def Fld.dirtyCtlClean : Fld := ⟨Reg.dirtyCtl, 4, 4⟩
def Fld.dirtyCtlFar : Fld := ⟨Reg.dirtyCtl, 8, 8⟩
/-- `PIDX_USED` (R209) -/
def Reg.pidxUsed : RegDef := ⟨0x9020, 1, 0x0, 1, 0x0, 0x0, 0x0, 0x0, 0x0, 0x0, 0x0, 0x0⟩
def Fld.pidxUsedEntries : Fld := ⟨Reg.pidxUsed, 0, 21⟩
/-- `TIER_LOST_SEL` (R209) -/
def Reg.tierLostSel : RegDef := ⟨0x9024, 1, 0x0, 1, 0x0, 0x0, 0x13f, 0x0, 0x0, 0x0, 0x0, 0xfffffec0⟩
def Fld.tierLostSelIndex : Fld := ⟨Reg.tierLostSel, 0, 6⟩
def Fld.tierLostSelRelease : Fld := ⟨Reg.tierLostSel, 8, 1⟩
/-- `TIER_LOST_DATA` (R209) -/
def Reg.tierLostData : RegDef := ⟨0x9028, 1, 0x0, 1, 0x0, 0x0, 0x0, 0x0, 0x0, 0x0, 0x0, 0x0⟩
def Fld.tierLostDataSet : Fld := ⟨Reg.tierLostData, 0, 24⟩
def Fld.tierLostDataChannel : Fld := ⟨Reg.tierLostData, 24, 4⟩
def Fld.tierLostDataValid : Fld := ⟨Reg.tierLostData, 31, 1⟩
/-- `TIER_PLAIN_PAGES` (R209) -/
def Reg.tierPlainPages : RegDef := ⟨0x902c, 1, 0x0, 1, 0x0, 0x0, 0x0, 0x0, 0x0, 0x0, 0x0, 0x0⟩
def Fld.tierPlainPagesPages : Fld := ⟨Reg.tierPlainPages, 0, 32⟩
/-- `CH_MAP` (R209) -/
def Reg.chMap : RegDef := ⟨0x9040, 16, 0x4, 1, 0x0, 0x0, 0x0, 0xf0f0f0f, 0x0, 0x0, 0x0, 0xf0f0f0f0⟩
/-- `CH_MAP.ENTRY` of index j, class RB -/
def Fld.chMapEntry (j : Nat) : Fld := ⟨Reg.chMap, 8 * j + 0, 4⟩
/-- `TIER_GEOM` (R209) -/
def Reg.tierGeom : RegDef := ⟨0x9100, 16, 0x4, 1, 0x0, 0x0, 0x0, 0x0, 0x0, 0x0, 0x0, 0x0⟩
def Fld.tierGeomSets : Fld := ⟨Reg.tierGeom, 0, 24⟩
def Fld.tierGeomRanks : Fld := ⟨Reg.tierGeom, 24, 3⟩
def Fld.tierGeomTrim : Fld := ⟨Reg.tierGeom, 27, 1⟩
/-- `TIER_SWEEP` (R209) -/
def Reg.tierSweep : RegDef := ⟨0x9140, 16, 0x4, 1, 0x0, 0x0, 0x0, 0x0, 0x0, 0x0, 0x0, 0x0⟩
def Fld.tierSweepFrontier : Fld := ⟨Reg.tierSweep, 0, 24⟩
def Fld.tierSweepActive : Fld := ⟨Reg.tierSweep, 24, 1⟩
/-- `TIER_RETIRED` (R209) -/
def Reg.tierRetired : RegDef := ⟨0x9180, 16, 0x4, 1, 0x0, 0x0, 0x0, 0x0, 0x0, 0x0, 0x0, 0x0⟩
def Fld.tierRetiredWays : Fld := ⟨Reg.tierRetired, 0, 17⟩
/-- `TIER_CNT_HIT` (R209) -/
def Reg.tierCntHit : RegDef := ⟨0x9200, 1, 0x0, 1, 0x0, 0x0, 0x0, 0x0, 0x0, 0x0, 0xffffffff, 0x0⟩
def Fld.tierCntHitCount : Fld := ⟨Reg.tierCntHit, 0, 32⟩
/-- `TIER_CNT_MISS` (R209) -/
def Reg.tierCntMiss : RegDef := ⟨0x9204, 1, 0x0, 1, 0x0, 0x0, 0x0, 0x0, 0x0, 0x0, 0xffffffff, 0x0⟩
def Fld.tierCntMissCount : Fld := ⟨Reg.tierCntMiss, 0, 32⟩
/-- `TIER_CNT_TC_MISS` (R209) -/
def Reg.tierCntTcMiss : RegDef := ⟨0x9208, 1, 0x0, 1, 0x0, 0x0, 0x0, 0x0, 0x0, 0x0, 0xffffffff, 0x0⟩
def Fld.tierCntTcMissCount : Fld := ⟨Reg.tierCntTcMiss, 0, 32⟩
/-- `TIER_CNT_ALLOC` (R209) -/
def Reg.tierCntAlloc : RegDef := ⟨0x920c, 1, 0x0, 1, 0x0, 0x0, 0x0, 0x0, 0x0, 0x0, 0xffffffff, 0x0⟩
def Fld.tierCntAllocCount : Fld := ⟨Reg.tierCntAlloc, 0, 32⟩
/-- `TIER_CNT_FILL_LINES` (R209) -/
def Reg.tierCntFillLines : RegDef := ⟨0x9210, 1, 0x0, 1, 0x0, 0x0, 0x0, 0x0, 0x0, 0x0, 0xffffffff, 0x0⟩
def Fld.tierCntFillLinesCount : Fld := ⟨Reg.tierCntFillLines, 0, 32⟩
/-- `TIER_CNT_OFFER_DIRTY` (R209) -/
def Reg.tierCntOfferDirty : RegDef := ⟨0x9214, 1, 0x0, 1, 0x0, 0x0, 0x0, 0x0, 0x0, 0x0, 0xffffffff, 0x0⟩
def Fld.tierCntOfferDirtyCount : Fld := ⟨Reg.tierCntOfferDirty, 0, 32⟩
/-- `TIER_CNT_OFFER_CLEAN` (R209) -/
def Reg.tierCntOfferClean : RegDef := ⟨0x9218, 1, 0x0, 1, 0x0, 0x0, 0x0, 0x0, 0x0, 0x0, 0xffffffff, 0x0⟩
def Fld.tierCntOfferCleanCount : Fld := ⟨Reg.tierCntOfferClean, 0, 32⟩
/-- `TIER_CNT_BYPASS` (R209) -/
def Reg.tierCntBypass : RegDef := ⟨0x921c, 1, 0x0, 1, 0x0, 0x0, 0x0, 0x0, 0x0, 0x0, 0xffffffff, 0x0⟩
def Fld.tierCntBypassCount : Fld := ⟨Reg.tierCntBypass, 0, 32⟩
/-- `TIER_CNT_V_THROUGH` (R209) -/
def Reg.tierCntVThrough : RegDef := ⟨0x9220, 1, 0x0, 1, 0x0, 0x0, 0x0, 0x0, 0x0, 0x0, 0xffffffff, 0x0⟩
def Fld.tierCntVThroughCount : Fld := ⟨Reg.tierCntVThrough, 0, 32⟩
/-- `TIER_CNT_TAG_CORR` (R209) -/
def Reg.tierCntTagCorr : RegDef := ⟨0x9224, 1, 0x0, 1, 0x0, 0x0, 0x0, 0x0, 0x0, 0x0, 0xffffffff, 0x0⟩
def Fld.tierCntTagCorrCount : Fld := ⟨Reg.tierCntTagCorr, 0, 32⟩
/-- `TIER_CNT_TAG_LOST` (R209) -/
def Reg.tierCntTagLost : RegDef := ⟨0x9228, 1, 0x0, 1, 0x0, 0x0, 0x0, 0x0, 0x0, 0x0, 0xffffffff, 0x0⟩
def Fld.tierCntTagLostCount : Fld := ⟨Reg.tierCntTagLost, 0, 32⟩
/-- `TIER_CNT_POISON_SET` (R209) -/
def Reg.tierCntPoisonSet : RegDef := ⟨0x922c, 1, 0x0, 1, 0x0, 0x0, 0x0, 0x0, 0x0, 0x0, 0xffffffff, 0x0⟩
def Fld.tierCntPoisonSetCount : Fld := ⟨Reg.tierCntPoisonSet, 0, 32⟩
/-- `TIER_CNT_RETIRE` (R209) -/
def Reg.tierCntRetire : RegDef := ⟨0x9230, 1, 0x0, 1, 0x0, 0x0, 0x0, 0x0, 0x0, 0x0, 0xffffffff, 0x0⟩
def Fld.tierCntRetireCount : Fld := ⟨Reg.tierCntRetire, 0, 32⟩
/-- `TIER_CNT_SAT` (R209) -/
def Reg.tierCntSat : RegDef := ⟨0x923c, 1, 0x0, 1, 0x0, 0x0, 0x0, 0x0, 0x0, 0x0, 0x0, 0x0⟩
def Fld.tierCntSatSat : Fld := ⟨Reg.tierCntSat, 0, 13⟩
/-- `TAG_SEL` (R209) -/
def Reg.tagSel : RegDef := ⟨0x9800, 1, 0x0, 1, 0x0, 0x0, 0xffffffff, 0x0, 0x0, 0x0, 0x0, 0x0⟩
def Fld.tagSelSet : Fld := ⟨Reg.tagSel, 0, 24⟩
def Fld.tagSelChannel : Fld := ⟨Reg.tagSel, 24, 4⟩
def Fld.tagSelWay : Fld := ⟨Reg.tagSel, 28, 4⟩
/-- `TAG_CMD` (R209) -/
def Reg.tagCmd : RegDef := ⟨0x9804, 1, 0x0, 1, 0x0, 0x0, 0x3, 0x0, 0x0, 0x0, 0x0, 0xfffffffc⟩
def Fld.tagCmdRead : Fld := ⟨Reg.tagCmd, 0, 1⟩
def Fld.tagCmdRetire : Fld := ⟨Reg.tagCmd, 1, 1⟩
/-- `TAG_STATUS` (R209) -/
def Reg.tagStatus : RegDef := ⟨0x9808, 1, 0x0, 1, 0x0, 0x0, 0x0, 0x0, 0x0, 0x0, 0x0, 0x0⟩
def Fld.tagStatusValid : Fld := ⟨Reg.tagStatus, 0, 1⟩
def Fld.tagStatusBusy : Fld := ⟨Reg.tagStatus, 1, 1⟩
def Fld.tagStatusErr : Fld := ⟨Reg.tagStatus, 2, 1⟩
def Fld.tagStatusRefused : Fld := ⟨Reg.tagStatus, 3, 1⟩
/-- `TAG_DATA` (R209) -/
def Reg.tagData : RegDef := ⟨0x9810, 8, 0x4, 1, 0x0, 0x0, 0x0, 0x0, 0x0, 0x0, 0x0, 0x0⟩
def Fld.tagDataWord : Fld := ⟨Reg.tagData, 0, 32⟩
/-- `MP_CTL` (R255) -/
def Reg.mpCtl : RegDef := ⟨0xa000, 1, 0x0, 1, 0x0, 0x1, 0x0, 0x1, 0x0, 0x0, 0x0, 0xfffffffe⟩
def Fld.mpCtlEnable : Fld := ⟨Reg.mpCtl, 0, 1⟩
/-- `MP_STATE` (R255) -/
def Reg.mpState : RegDef := ⟨0xa004, 1, 0x0, 1, 0x0, 0x0, 0x0, 0x0, 0x0, 0x0, 0x0, 0xfffffff0⟩
def Fld.mpStateState : Fld := ⟨Reg.mpState, 0, 2⟩
def Fld.mpStateHoldupActive : Fld := ⟨Reg.mpState, 2, 1⟩
def Fld.mpStateHoldupDone : Fld := ⟨Reg.mpState, 3, 1⟩
/-- `MP_DEFER` (R255) -/
def Reg.mpDefer : RegDef := ⟨0xa008, 1, 0x0, 1, 0x0, 0x64, 0x0, 0xffff, 0x0, 0x0, 0x0, 0xffff0000⟩
def Fld.mpDeferWarn : Fld := ⟨Reg.mpDefer, 0, 16⟩
/-- `MP_FLUSH_LEFT` (R255) -/
def Reg.mpFlushLeft : RegDef := ⟨0xa00c, 1, 0x0, 1, 0x0, 0x0, 0x0, 0x0, 0x0, 0x0, 0x0, 0x0⟩
def Fld.mpFlushLeftLines : Fld := ⟨Reg.mpFlushLeft, 0, 29⟩
/-- `MP_IFREV` (R255) -/
def Reg.mpIfrev : RegDef := ⟨0xa010, 1, 0x0, 1, 0x0, 0x0, 0x0, 0x0, 0x0, 0x0, 0x0, 0x0⟩
def Fld.mpIfrevIfrev : Fld := ⟨Reg.mpIfrev, 0, 8⟩
/-- `MP_OPEN` (R255) -/
def Reg.mpOpen : RegDef := ⟨0xa014, 1, 0x0, 1, 0x0, 0x0, 0x0, 0x0, 0x0, 0x0, 0x0, 0x0⟩
def Fld.mpOpenFills : Fld := ⟨Reg.mpOpen, 0, 12⟩
def Fld.mpOpenOffers : Fld := ⟨Reg.mpOpen, 16, 11⟩
/-- `MP_DEFERRED` (R255) -/
def Reg.mpDeferred : RegDef := ⟨0xa018, 1, 0x0, 1, 0x0, 0x0, 0x0, 0x0, 0x0, 0x0, 0x0, 0x0⟩
def Fld.mpDeferredOffers : Fld := ⟨Reg.mpDeferred, 0, 11⟩
def Fld.mpDeferredAge : Fld := ⟨Reg.mpDeferred, 16, 16⟩
/-- `MP_HIST` (R255) -/
def Reg.mpHist : RegDef := ⟨0xa01c, 1, 0x0, 1, 0x0, 0x0, 0x0, 0x0, 0x0, 0x1f, 0x0, 0xffffffe0⟩
def Fld.mpHistHdrCrc : Fld := ⟨Reg.mpHist, 0, 1⟩
def Fld.mpHistLineCrc : Fld := ⟨Reg.mpHist, 1, 1⟩
def Fld.mpHistProto : Fld := ⟨Reg.mpHist, 2, 1⟩
def Fld.mpHistDeferLong : Fld := ⟨Reg.mpHist, 3, 1⟩
def Fld.mpHistRangeLost : Fld := ⟨Reg.mpHist, 4, 1⟩
/-- `MP_LAST_PROTO` (R255) -/
def Reg.mpLastProto : RegDef := ⟨0xa020, 1, 0x0, 1, 0x0, 0x0, 0x0, 0x0, 0x0, 0xffffffff, 0x0, 0x0⟩
def Fld.mpLastProtoCode : Fld := ⟨Reg.mpLastProto, 0, 8⟩
def Fld.mpLastProtoOpcode : Fld := ⟨Reg.mpLastProto, 8, 8⟩
def Fld.mpLastProtoMtag : Fld := ⟨Reg.mpLastProto, 16, 16⟩
/-- `MP_HOLDUP_TIME` (R255) -/
def Reg.mpHoldupTime : RegDef := ⟨0xa024, 1, 0x0, 1, 0x0, 0x0, 0x0, 0x0, 0x0, 0x0, 0x0, 0x0⟩
def Fld.mpHoldupTimeUs : Fld := ⟨Reg.mpHoldupTime, 0, 32⟩
/-- `MP_CNT_FILL_REQ` (R255) -/
def Reg.mpCntFillReq : RegDef := ⟨0xa040, 1, 0x0, 1, 0x0, 0x0, 0x0, 0x0, 0x0, 0x0, 0xffffffff, 0x0⟩
def Fld.mpCntFillReqCount : Fld := ⟨Reg.mpCntFillReq, 0, 32⟩
/-- `MP_CNT_FILL_LINES` (R255) -/
def Reg.mpCntFillLines : RegDef := ⟨0xa044, 1, 0x0, 1, 0x0, 0x0, 0x0, 0x0, 0x0, 0x0, 0xffffffff, 0x0⟩
def Fld.mpCntFillLinesCount : Fld := ⟨Reg.mpCntFillLines, 0, 32⟩
/-- `MP_CNT_FILL_POISON` (R255) -/
def Reg.mpCntFillPoison : RegDef := ⟨0xa048, 1, 0x0, 1, 0x0, 0x0, 0x0, 0x0, 0x0, 0x0, 0xffffffff, 0x0⟩
def Fld.mpCntFillPoisonCount : Fld := ⟨Reg.mpCntFillPoison, 0, 32⟩
/-- `MP_CNT_OFFER_DIRTY` (R255) -/
def Reg.mpCntOfferDirty : RegDef := ⟨0xa04c, 1, 0x0, 1, 0x0, 0x0, 0x0, 0x0, 0x0, 0x0, 0xffffffff, 0x0⟩
def Fld.mpCntOfferDirtyCount : Fld := ⟨Reg.mpCntOfferDirty, 0, 32⟩
/-- `MP_CNT_OFFER_CLEAN` (R255) -/
def Reg.mpCntOfferClean : RegDef := ⟨0xa050, 1, 0x0, 1, 0x0, 0x0, 0x0, 0x0, 0x0, 0x0, 0xffffffff, 0x0⟩
def Fld.mpCntOfferCleanCount : Fld := ⟨Reg.mpCntOfferClean, 0, 32⟩
/-- `MP_CNT_ACCEPT_CLEAN` (R255) -/
def Reg.mpCntAcceptClean : RegDef := ⟨0xa054, 1, 0x0, 1, 0x0, 0x0, 0x0, 0x0, 0x0, 0x0, 0xffffffff, 0x0⟩
def Fld.mpCntAcceptCleanCount : Fld := ⟨Reg.mpCntAcceptClean, 0, 32⟩
/-- `MP_CNT_DECLINE` (R255) -/
def Reg.mpCntDecline : RegDef := ⟨0xa058, 1, 0x0, 1, 0x0, 0x0, 0x0, 0x0, 0x0, 0x0, 0xffffffff, 0x0⟩
def Fld.mpCntDeclineCount : Fld := ⟨Reg.mpCntDecline, 0, 32⟩
/-- `MP_CNT_DEFER` (R255) -/
def Reg.mpCntDefer : RegDef := ⟨0xa05c, 1, 0x0, 1, 0x0, 0x0, 0x0, 0x0, 0x0, 0x0, 0xffffffff, 0x0⟩
def Fld.mpCntDeferCount : Fld := ⟨Reg.mpCntDefer, 0, 32⟩
/-- `MP_CNT_DEFER_LONG` (R255) -/
def Reg.mpCntDeferLong : RegDef := ⟨0xa060, 1, 0x0, 1, 0x0, 0x0, 0x0, 0x0, 0x0, 0x0, 0xffffffff, 0x0⟩
def Fld.mpCntDeferLongCount : Fld := ⟨Reg.mpCntDeferLong, 0, 32⟩
/-- `MP_CNT_WITHDRAW` (R255) -/
def Reg.mpCntWithdraw : RegDef := ⟨0xa064, 1, 0x0, 1, 0x0, 0x0, 0x0, 0x0, 0x0, 0x0, 0xffffffff, 0x0⟩
def Fld.mpCntWithdrawCount : Fld := ⟨Reg.mpCntWithdraw, 0, 32⟩
/-- `MP_CNT_WT` (R255) -/
def Reg.mpCntWt : RegDef := ⟨0xa068, 1, 0x0, 1, 0x0, 0x0, 0x0, 0x0, 0x0, 0x0, 0xffffffff, 0x0⟩
def Fld.mpCntWtCount : Fld := ⟨Reg.mpCntWt, 0, 32⟩
/-- `MP_CNT_STALE` (R255) -/
def Reg.mpCntStale : RegDef := ⟨0xa06c, 1, 0x0, 1, 0x0, 0x0, 0x0, 0x0, 0x0, 0x0, 0xffffffff, 0x0⟩
def Fld.mpCntStaleCount : Fld := ⟨Reg.mpCntStale, 0, 32⟩
/-- `MP_CNT_LINE_CRC` (R255) -/
def Reg.mpCntLineCrc : RegDef := ⟨0xa070, 1, 0x0, 1, 0x0, 0x0, 0x0, 0x0, 0x0, 0x0, 0xffffffff, 0x0⟩
def Fld.mpCntLineCrcCount : Fld := ⟨Reg.mpCntLineCrc, 0, 32⟩
/-- `MP_CNT_PROTO` (R255) -/
def Reg.mpCntProto : RegDef := ⟨0xa074, 1, 0x0, 1, 0x0, 0x0, 0x0, 0x0, 0x0, 0x0, 0xffffffff, 0x0⟩
def Fld.mpCntProtoCount : Fld := ⟨Reg.mpCntProto, 0, 32⟩
/-- `MP_CNT_RESYNC` (R255) -/
def Reg.mpCntResync : RegDef := ⟨0xa078, 1, 0x0, 1, 0x0, 0x0, 0x0, 0x0, 0x0, 0x0, 0xffffffff, 0x0⟩
def Fld.mpCntResyncCount : Fld := ⟨Reg.mpCntResync, 0, 32⟩
/-- `MP_CNT_SAT` (R255) -/
def Reg.mpCntSat : RegDef := ⟨0xa07c, 1, 0x0, 1, 0x0, 0x0, 0x0, 0x0, 0x0, 0x0, 0x0, 0x0⟩
def Fld.mpCntSatSat : Fld := ⟨Reg.mpCntSat, 0, 15⟩
def Fld.mpCntSatSatRange : Fld := ⟨Reg.mpCntSat, 15, 1⟩
/-- `MP_ARB_CTL` (R103) -/
def Reg.mpArbCtl : RegDef := ⟨0xa080, 1, 0x0, 1, 0x0, 0x0, 0x1, 0x0, 0x0, 0x0, 0x0, 0xfffffffc⟩
def Fld.mpArbCtlFreeze : Fld := ⟨Reg.mpArbCtl, 0, 1⟩
/-- `MP_ARB_STATUS` (R103) -/
def Reg.mpArbStatus : RegDef := ⟨0xa084, 1, 0x0, 1, 0x0, 0x0, 0x0, 0x0, 0x0, 0x0, 0x0, 0x0⟩
def Fld.mpArbStatusFrozen : Fld := ⟨Reg.mpArbStatus, 0, 1⟩
/-- `MP_ARB_PREEMPT` (R103) -/
def Reg.mpArbPreempt : RegDef := ⟨0xa088, 1, 0x0, 1, 0x0, 0x30050, 0x0, 0xfffff, 0x0, 0x0, 0x0, 0xfff00000⟩
def Fld.mpArbPreemptMargin : Fld := ⟨Reg.mpArbPreempt, 0, 16⟩
def Fld.mpArbPreemptRestartMax : Fld := ⟨Reg.mpArbPreempt, 16, 4⟩
/-- `MP_CNT_MISS` (R103) -/
def Reg.mpCntMiss : RegDef := ⟨0xa090, 1, 0x0, 1, 0x0, 0x0, 0x0, 0x0, 0x0, 0x0, 0xffffffff, 0x0⟩
def Fld.mpCntMissCount : Fld := ⟨Reg.mpCntMiss, 0, 32⟩
/-- `MP_CNT_PREEMPT` (R103) -/
def Reg.mpCntPreempt : RegDef := ⟨0xa094, 1, 0x0, 1, 0x0, 0x0, 0x0, 0x0, 0x0, 0x0, 0xffffffff, 0x0⟩
def Fld.mpCntPreemptCount : Fld := ⟨Reg.mpCntPreempt, 0, 32⟩
/-- `MP_CNT_NOPREEMPT` (R103) -/
def Reg.mpCntNopreempt : RegDef := ⟨0xa098, 1, 0x0, 1, 0x0, 0x0, 0x0, 0x0, 0x0, 0x0, 0xffffffff, 0x0⟩
def Fld.mpCntNopreemptCount : Fld := ⟨Reg.mpCntNopreempt, 0, 32⟩
/-- `MP_CNT_DEAD` (R103) -/
def Reg.mpCntDead : RegDef := ⟨0xa09c, 1, 0x0, 1, 0x0, 0x0, 0x0, 0x0, 0x0, 0x0, 0xffffffff, 0x0⟩
def Fld.mpCntDeadCount : Fld := ⟨Reg.mpCntDead, 0, 32⟩
/-- `MP_CNT_OVERDUE` (R103) -/
def Reg.mpCntOverdue : RegDef := ⟨0xa0a4, 1, 0x0, 1, 0x0, 0x0, 0x0, 0x0, 0x0, 0x0, 0xffffffff, 0x0⟩
def Fld.mpCntOverdueCount : Fld := ⟨Reg.mpCntOverdue, 0, 32⟩
/-- `MP_ARB_SAT` (R103) -/
def Reg.mpArbSat : RegDef := ⟨0xa0bc, 1, 0x0, 1, 0x0, 0x0, 0x0, 0x0, 0x0, 0x0, 0x0, 0x0⟩
def Fld.mpArbSatSat : Fld := ⟨Reg.mpArbSat, 0, 6⟩
/-- `MP_CNT_RANGE` (R255) -/
def Reg.mpCntRange : RegDef := ⟨0xa0c0, 1, 0x0, 1, 0x0, 0x0, 0x0, 0x0, 0x0, 0x0, 0xffffffff, 0x0⟩
def Fld.mpCntRangeCount : Fld := ⟨Reg.mpCntRange, 0, 32⟩
/-- `CH_STATE` (R515) -/
def Reg.chState : RegDef := ⟨0x10000, 16, 0x1000, 1, 0x0, 0x0, 0x7f00, 0x0, 0x0, 0x0, 0x0, 0xffff8000⟩
def Fld.chStateState : Fld := ⟨Reg.chState, 0, 3⟩
def Fld.chStateEmpty : Fld := ⟨Reg.chState, 3, 1⟩
def Fld.chStateUnclean : Fld := ⟨Reg.chState, 4, 1⟩
def Fld.chStateTrained : Fld := ⟨Reg.chState, 5, 1⟩
def Fld.chStateBusy : Fld := ⟨Reg.chState, 6, 1⟩
def Fld.chStateRefused : Fld := ⟨Reg.chState, 7, 1⟩
def Fld.chStateFence : Fld := ⟨Reg.chState, 8, 1⟩
def Fld.chStateService : Fld := ⟨Reg.chState, 9, 1⟩
def Fld.chStatePowerOff : Fld := ⟨Reg.chState, 10, 1⟩
def Fld.chStateRetrain : Fld := ⟨Reg.chState, 11, 1⟩
def Fld.chStateReturn : Fld := ⟨Reg.chState, 12, 1⟩
def Fld.chStateRetire : Fld := ⟨Reg.chState, 13, 1⟩
def Fld.chStateDiscard : Fld := ⟨Reg.chState, 14, 1⟩
/-- `CH_SVC` (R515) -/
def Reg.chSvc : RegDef := ⟨0x10004, 16, 0x1000, 1, 0x0, 0x0, 0x7ff, 0x0, 0x0, 0x0, 0x0, 0xfffff800⟩
def Fld.chSvcMark : Fld := ⟨Reg.chSvc, 0, 1⟩
def Fld.chSvcUnmark : Fld := ⟨Reg.chSvc, 1, 1⟩
def Fld.chSvcPprSoft : Fld := ⟨Reg.chSvc, 2, 1⟩
def Fld.chSvcPprHard : Fld := ⟨Reg.chSvc, 3, 1⟩
def Fld.chSvcDev : Fld := ⟨Reg.chSvc, 4, 5⟩
def Fld.chSvcRank : Fld := ⟨Reg.chSvc, 9, 2⟩
/-- `CH_SVC_ROW` (R515) -/
def Reg.chSvcRow : RegDef := ⟨0x10008, 16, 0x1000, 1, 0x0, 0x0, 0xfffffff, 0x0, 0x0, 0x0, 0x0, 0xf0000000⟩
def Fld.chSvcRowRow : Fld := ⟨Reg.chSvcRow, 0, 18⟩
def Fld.chSvcRowBank : Fld := ⟨Reg.chSvcRow, 18, 8⟩
def Fld.chSvcRowRank : Fld := ⟨Reg.chSvcRow, 26, 2⟩
/-- `CH_RETRAIN` (R515) -/
def Reg.chRetrain : RegDef := ⟨0x1000c, 16, 0x1000, 1, 0x0, 0x0, 0x0, 0x0, 0x0, 0x0, 0x0, 0x0⟩
def Fld.chRetrainCount : Fld := ⟨Reg.chRetrain, 0, 4⟩
def Fld.chRetrainCleanRun : Fld := ⟨Reg.chRetrain, 4, 1⟩
/-- `CH_PPR_FREE` (R515) -/
def Reg.chPprFree : RegDef := ⟨0x10010, 16, 0x1000, 1, 0x0, 0x0, 0x0, 0x0, 0x0, 0x0, 0x0, 0x0⟩
/-- `CH_PPR_FREE.FREE` of index j, class RS -/
def Fld.chPprFreeFree (j : Nat) : Fld := ⟨Reg.chPprFree, 8 * j + 0, 8⟩
/-- `CH_CNT_FENCE` (R515) -/
def Reg.chCntFence : RegDef := ⟨0x10020, 16, 0x1000, 1, 0x0, 0x0, 0x0, 0x0, 0x0, 0x0, 0xffffffff, 0x0⟩
def Fld.chCntFenceCount : Fld := ⟨Reg.chCntFence, 0, 32⟩
/-- `CH_CNT_RETRAIN` (R515) -/
def Reg.chCntRetrain : RegDef := ⟨0x10024, 16, 0x1000, 1, 0x0, 0x0, 0x0, 0x0, 0x0, 0x0, 0xffffffff, 0x0⟩
def Fld.chCntRetrainCount : Fld := ⟨Reg.chCntRetrain, 0, 32⟩
/-- `CH_CNT_RETRAIN_FAIL` (R515) -/
def Reg.chCntRetrainFail : RegDef := ⟨0x10028, 16, 0x1000, 1, 0x0, 0x0, 0x0, 0x0, 0x0, 0x0, 0xffffffff, 0x0⟩
def Fld.chCntRetrainFailCount : Fld := ⟨Reg.chCntRetrainFail, 0, 32⟩
/-- `CH_CNT_PPR_SOFT` (R515) -/
def Reg.chCntPprSoft : RegDef := ⟨0x1002c, 16, 0x1000, 1, 0x0, 0x0, 0x0, 0x0, 0x0, 0x0, 0xffffffff, 0x0⟩
def Fld.chCntPprSoftCount : Fld := ⟨Reg.chCntPprSoft, 0, 32⟩
/-- `CH_CNT_PPR_HARD` (R515) -/
def Reg.chCntPprHard : RegDef := ⟨0x10030, 16, 0x1000, 1, 0x0, 0x0, 0x0, 0x0, 0x0, 0x0, 0xffffffff, 0x0⟩
def Fld.chCntPprHardCount : Fld := ⟨Reg.chCntPprHard, 0, 32⟩
/-- `CH_CNT_PPR_NONE` (R515) -/
def Reg.chCntPprNone : RegDef := ⟨0x10034, 16, 0x1000, 1, 0x0, 0x0, 0x0, 0x0, 0x0, 0x0, 0xffffffff, 0x0⟩
def Fld.chCntPprNoneCount : Fld := ⟨Reg.chCntPprNone, 0, 32⟩
/-- `CH_CNT_SALVAGE` (R515) -/
def Reg.chCntSalvage : RegDef := ⟨0x10038, 16, 0x1000, 1, 0x0, 0x0, 0x0, 0x0, 0x0, 0x0, 0xffffffff, 0x0⟩
def Fld.chCntSalvageCount : Fld := ⟨Reg.chCntSalvage, 0, 32⟩
/-- `CH_SVC_SAT` (R515) -/
def Reg.chSvcSat : RegDef := ⟨0x1003c, 16, 0x1000, 1, 0x0, 0x0, 0x0, 0x0, 0x0, 0x0, 0x0, 0x0⟩
def Fld.chSvcSatSat : Fld := ⟨Reg.chSvcSat, 0, 7⟩
/-- `CH_ARB_CTL` (R103) -/
def Reg.chArbCtl : RegDef := ⟨0x10080, 16, 0x1000, 1, 0x0, 0x0, 0x3, 0x0, 0x0, 0x0, 0x0, 0xfffffffc⟩
def Fld.chArbCtlFreeze : Fld := ⟨Reg.chArbCtl, 0, 1⟩
def Fld.chArbCtlFreezeData : Fld := ⟨Reg.chArbCtl, 1, 1⟩
/-- `CH_ARB_STATUS` (R103) -/
def Reg.chArbStatus : RegDef := ⟨0x10084, 16, 0x1000, 1, 0x0, 0x0, 0x0, 0x0, 0x0, 0x0, 0x0, 0x0⟩
def Fld.chArbStatusFrozen : Fld := ⟨Reg.chArbStatus, 0, 1⟩
def Fld.chArbStatusDataFrozen : Fld := ⟨Reg.chArbStatus, 1, 1⟩
/-- `CH_ARB_PREEMPT` (R103) -/
def Reg.chArbPreempt : RegDef := ⟨0x10088, 16, 0x1000, 1, 0x0, 0x30050, 0x0, 0xfffff, 0x0, 0x0, 0x0, 0xfff00000⟩
def Fld.chArbPreemptMargin : Fld := ⟨Reg.chArbPreempt, 0, 16⟩
def Fld.chArbPreemptRestartMax : Fld := ⟨Reg.chArbPreempt, 16, 4⟩
/-- `CH_CNT_MISS` (R103) -/
def Reg.chCntMiss : RegDef := ⟨0x10090, 16, 0x1000, 1, 0x0, 0x0, 0x0, 0x0, 0x0, 0x0, 0xffffffff, 0x0⟩
def Fld.chCntMissCount : Fld := ⟨Reg.chCntMiss, 0, 32⟩
/-- `CH_CNT_PREEMPT` (R103) -/
def Reg.chCntPreempt : RegDef := ⟨0x10094, 16, 0x1000, 1, 0x0, 0x0, 0x0, 0x0, 0x0, 0x0, 0xffffffff, 0x0⟩
def Fld.chCntPreemptCount : Fld := ⟨Reg.chCntPreempt, 0, 32⟩
/-- `CH_CNT_NOPREEMPT` (R103) -/
def Reg.chCntNopreempt : RegDef := ⟨0x10098, 16, 0x1000, 1, 0x0, 0x0, 0x0, 0x0, 0x0, 0x0, 0xffffffff, 0x0⟩
def Fld.chCntNopreemptCount : Fld := ⟨Reg.chCntNopreempt, 0, 32⟩
/-- `CH_CNT_DEAD` (R103) -/
def Reg.chCntDead : RegDef := ⟨0x1009c, 16, 0x1000, 1, 0x0, 0x0, 0x0, 0x0, 0x0, 0x0, 0xffffffff, 0x0⟩
def Fld.chCntDeadCount : Fld := ⟨Reg.chCntDead, 0, 32⟩
/-- `CH_CNT_HELD` (R103) -/
def Reg.chCntHeld : RegDef := ⟨0x100a0, 16, 0x1000, 1, 0x0, 0x0, 0x0, 0x0, 0x0, 0x0, 0xffffffff, 0x0⟩
def Fld.chCntHeldCount : Fld := ⟨Reg.chCntHeld, 0, 32⟩
/-- `CH_CNT_OVERDUE` (R103) -/
def Reg.chCntOverdue : RegDef := ⟨0x100a4, 16, 0x1000, 1, 0x0, 0x0, 0x0, 0x0, 0x0, 0x0, 0xffffffff, 0x0⟩
def Fld.chCntOverdueCount : Fld := ⟨Reg.chCntOverdue, 0, 32⟩
/-- `CH_ARB_SAT` (R103) -/
def Reg.chArbSat : RegDef := ⟨0x100bc, 16, 0x1000, 1, 0x0, 0x0, 0x0, 0x0, 0x0, 0x0, 0x0, 0x0⟩
def Fld.chArbSatSat : Fld := ⟨Reg.chArbSat, 0, 6⟩
/-- `CH_TIM_A` (R306) -/
def Reg.chTimA : RegDef := ⟨0x10100, 16, 0x1000, 1, 0x0, 0x0, 0x0, 0x3fffffff, 0x0, 0x0, 0x0, 0xc0000000⟩
def Fld.chTimATrcd : Fld := ⟨Reg.chTimA, 0, 10⟩
def Fld.chTimATrp : Fld := ⟨Reg.chTimA, 10, 10⟩
def Fld.chTimATras : Fld := ⟨Reg.chTimA, 20, 10⟩
/-- `CH_TIM_B` (R306) -/
def Reg.chTimB : RegDef := ⟨0x10104, 16, 0x1000, 1, 0x0, 0x0, 0x0, 0xffffffff, 0x0, 0x0, 0x0, 0x0⟩
def Fld.chTimBTrc : Fld := ⟨Reg.chTimB, 0, 12⟩
def Fld.chTimBTrtp : Fld := ⟨Reg.chTimB, 12, 10⟩
def Fld.chTimBTwr : Fld := ⟨Reg.chTimB, 22, 10⟩
/-- `CH_TIM_C` (R306) -/
def Reg.chTimC : RegDef := ⟨0x10108, 16, 0x1000, 1, 0x0, 0x0, 0x0, 0xffffffff, 0x0, 0x0, 0x0, 0x0⟩
def Fld.chTimCTrrdS : Fld := ⟨Reg.chTimC, 0, 8⟩
def Fld.chTimCTrrdL : Fld := ⟨Reg.chTimC, 8, 8⟩
def Fld.chTimCTccdS : Fld := ⟨Reg.chTimC, 16, 8⟩
def Fld.chTimCTccdL : Fld := ⟨Reg.chTimC, 24, 8⟩
/-- `CH_TIM_D` (R306) -/
def Reg.chTimD : RegDef := ⟨0x1010c, 16, 0x1000, 1, 0x0, 0x0, 0x0, 0xffffffff, 0x0, 0x0, 0x0, 0x0⟩
def Fld.chTimDTccdLWr : Fld := ⟨Reg.chTimD, 0, 8⟩
def Fld.chTimDTwtrS : Fld := ⟨Reg.chTimD, 8, 8⟩
def Fld.chTimDTwtrL : Fld := ⟨Reg.chTimD, 16, 8⟩
def Fld.chTimDTfaw : Fld := ⟨Reg.chTimD, 24, 8⟩
/-- `CH_TIM_E` (R306) -/
def Reg.chTimE : RegDef := ⟨0x10110, 16, 0x1000, 1, 0x0, 0x0, 0x0, 0xffffffff, 0x0, 0x0, 0x0, 0x0⟩
def Fld.chTimECl : Fld := ⟨Reg.chTimE, 0, 8⟩
def Fld.chTimECwl : Fld := ⟨Reg.chTimE, 8, 8⟩
def Fld.chTimETurnRr : Fld := ⟨Reg.chTimE, 16, 4⟩
def Fld.chTimETurnWw : Fld := ⟨Reg.chTimE, 20, 4⟩
def Fld.chTimETurnRw : Fld := ⟨Reg.chTimE, 24, 4⟩
def Fld.chTimETurnWr : Fld := ⟨Reg.chTimE, 28, 4⟩
/-- `CH_TIM_F` (R306) -/
def Reg.chTimF : RegDef := ⟨0x10114, 16, 0x1000, 1, 0x0, 0x0, 0x0, 0x3ffffff, 0x0, 0x0, 0x0, 0xfc000000⟩
def Fld.chTimFTrfc : Fld := ⟨Reg.chTimF, 0, 13⟩
def Fld.chTimFTrfcSb : Fld := ⟨Reg.chTimF, 13, 13⟩
/-- `CH_TIM_G` (R306) -/
def Reg.chTimG : RegDef := ⟨0x10118, 16, 0x1000, 1, 0x0, 0x0, 0x0, 0x3ffffff, 0x0, 0x0, 0x0, 0xfc000000⟩
def Fld.chTimGTrfmSb : Fld := ⟨Reg.chTimG, 0, 13⟩
def Fld.chTimGTrfcDlr : Fld := ⟨Reg.chTimG, 13, 13⟩
/-- `CH_TIM_H` (R306) -/
def Reg.chTimH : RegDef := ⟨0x1011c, 16, 0x1000, 1, 0x0, 0x0, 0x0, 0xfffff, 0x0, 0x0, 0x0, 0xfff00000⟩
def Fld.chTimHTrefi : Fld := ⟨Reg.chTimH, 0, 20⟩
/-- `CH_TIM_I` (R306) -/
def Reg.chTimI : RegDef := ⟨0x10120, 16, 0x1000, 1, 0x0, 0x0, 0x0, 0x3ffffff, 0x0, 0x0, 0x0, 0xfc000000⟩
def Fld.chTimITxs : Fld := ⟨Reg.chTimI, 0, 13⟩
def Fld.chTimITsrMin : Fld := ⟨Reg.chTimI, 13, 13⟩
/-- `CH_TIM_J` (R306) -/
def Reg.chTimJ : RegDef := ⟨0x10124, 16, 0x1000, 1, 0x0, 0x0, 0x0, 0x3ffffff, 0x0, 0x0, 0x0, 0xfc000000⟩
def Fld.chTimJTmod : Fld := ⟨Reg.chTimJ, 0, 10⟩
def Fld.chTimJTrrdDlr : Fld := ⟨Reg.chTimJ, 10, 8⟩
def Fld.chTimJTfawDlr : Fld := ⟨Reg.chTimJ, 18, 8⟩
/-- `CH_TIM_K` (R306) -/
def Reg.chTimK : RegDef := ⟨0x10128, 16, 0x1000, 1, 0x0, 0x0, 0x0, 0xfffffff, 0x0, 0x0, 0x0, 0xf0000000⟩
def Fld.chTimKTzqCal : Fld := ⟨Reg.chTimK, 0, 16⟩
def Fld.chTimKTzqLat : Fld := ⟨Reg.chTimK, 16, 12⟩
/-- `CH_ISSUE` (R306) -/
def Reg.chIssue : RegDef := ⟨0x10130, 16, 0x1000, 1, 0x0, 0x2, 0x0, 0x3, 0x0, 0x0, 0x0, 0xfffffffc⟩
def Fld.chIssueLookahead : Fld := ⟨Reg.chIssue, 0, 2⟩
/-- `CH_PAGE` (R306) -/
def Reg.chPage : RegDef := ⟨0x10140, 16, 0x1000, 1, 0x0, 0x18, 0x0, 0x3ff, 0x0, 0x0, 0x0, 0xfffffc00⟩
def Fld.chPageIdle : Fld := ⟨Reg.chPage, 0, 10⟩
/-- `CH_REF` (R306) -/
def Reg.chRef : RegDef := ⟨0x10150, 16, 0x1000, 1, 0x0, 0x1000, 0x0, 0xff3f, 0x0, 0x0, 0x0, 0xffff00c0⟩
def Fld.chRefPostpone : Fld := ⟨Reg.chRef, 0, 4⟩
def Fld.chRefMode : Fld := ⟨Reg.chRef, 4, 1⟩
def Fld.chRefRate : Fld := ⟨Reg.chRef, 5, 1⟩
def Fld.chRefIdle : Fld := ⟨Reg.chRef, 8, 8⟩
/-- `CH_REF_STATUS` (R306) -/
def Reg.chRefStatus : RegDef := ⟨0x10154, 16, 0x1000, 1, 0x0, 0x0, 0x0, 0x0, 0x0, 0x0, 0x0, 0x0⟩
def Fld.chRefStatusDebt : Fld := ⟨Reg.chRefStatus, 0, 16⟩
def Fld.chRefStatusDoubled : Fld := ⟨Reg.chRefStatus, 16, 1⟩
/-- `CH_TEMP` (R306) -/
def Reg.chTemp : RegDef := ⟨0x10158, 16, 0x1000, 1, 0x0, 0x25510, 0x0, 0xfffff, 0x0, 0x0, 0x0, 0xfff00000⟩
def Fld.chTempPoll : Fld := ⟨Reg.chTemp, 0, 8⟩
def Fld.chTempLimit : Fld := ⟨Reg.chTemp, 8, 8⟩
def Fld.chTempHyst : Fld := ⟨Reg.chTemp, 16, 4⟩
/-- `CH_TEMP_STATUS` (R306) -/
def Reg.chTempStatus : RegDef := ⟨0x1015c, 16, 0x1000, 1, 0x0, 0x0, 0x0, 0x0, 0x0, 0x0, 0x0, 0x0⟩
def Fld.chTempStatusTemp : Fld := ⟨Reg.chTempStatus, 0, 8⟩
def Fld.chTempStatusSensorFail : Fld := ⟨Reg.chTempStatus, 8, 1⟩
def Fld.chTempStatusNoSensor : Fld := ⟨Reg.chTempStatus, 9, 1⟩
/-- `CH_ROWP` (R306) -/
def Reg.chRowp : RegDef := ⟨0x10160, 16, 0x1000, 1, 0x0, 0x107d0, 0x0, 0x7ffff, 0x0, 0x0, 0x0, 0xfff80000⟩
def Fld.chRowpAlert : Fld := ⟨Reg.chRowp, 0, 16⟩
def Fld.chRowpDist : Fld := ⟨Reg.chRowp, 16, 2⟩
def Fld.chRowpMethod : Fld := ⟨Reg.chRowp, 18, 1⟩
/-- `CH_ROWP_WIN` (R306) -/
def Reg.chRowpWin : RegDef := ⟨0x10164, 16, 0x1000, 1, 0x0, 0x2000, 0x0, 0xffff, 0x0, 0x0, 0x0, 0xffff0000⟩
def Fld.chRowpWinRefs : Fld := ⟨Reg.chRowpWin, 0, 16⟩
/-- `CH_ECC` (R306) -/
def Reg.chEcc : RegDef := ⟨0x10180, 16, 0x1000, 1, 0x0, 0x1080040, 0x0, 0x1ffffff, 0x0, 0x0, 0x0, 0xfe000000⟩
def Fld.chEccMarkAt : Fld := ⟨Reg.chEcc, 0, 16⟩
def Fld.chEccUeLimit : Fld := ⟨Reg.chEcc, 16, 8⟩
def Fld.chEccCeWb : Fld := ⟨Reg.chEcc, 24, 1⟩
/-- `CH_ECC_MODE` (R306) -/
def Reg.chEccMode : RegDef := ⟨0x10184, 16, 0x1000, 1, 0x0, 0x0, 0x0, 0x0, 0x0, 0x0, 0x0, 0x0⟩
/-- `CH_ECC_MODE.CODE` of index j, class RS -/
def Fld.chEccModeCode (j : Nat) : Fld := ⟨Reg.chEccMode, 4 * j + 0, 3⟩
/-- `CH_MARK` (R306) -/
def Reg.chMark : RegDef := ⟨0x10188, 16, 0x1000, 1, 0x0, 0x0, 0x0, 0x0, 0x0, 0x0, 0x0, 0x0⟩
/-- `CH_MARK.DEV` of index j, class RS -/
def Fld.chMarkDev (j : Nat) : Fld := ⟨Reg.chMark, 8 * j + 0, 5⟩
/-- `CH_MARK.VALID` of index j, class RS -/
def Fld.chMarkValid (j : Nat) : Fld := ⟨Reg.chMark, 8 * j + 7, 1⟩
/-- `CH_ECC_SUSPECT` (R306) -/
def Reg.chEccSuspect : RegDef := ⟨0x10190, 16, 0x1000, 4, 0x4, 0x0, 0x0, 0x0, 0x0, 0x0, 0x0, 0x0⟩
def Fld.chEccSuspectDev : Fld := ⟨Reg.chEccSuspect, 0, 5⟩
def Fld.chEccSuspectCount : Fld := ⟨Reg.chEccSuspect, 16, 16⟩
/-- `CH_SCRUB` (R306) -/
def Reg.chScrub : RegDef := ⟨0x101a0, 16, 0x1000, 1, 0x0, 0x18, 0x0, 0xff, 0x0, 0x0, 0x0, 0xffffff00⟩
def Fld.chScrubPeriod : Fld := ⟨Reg.chScrub, 0, 8⟩
/-- `CH_SCRUB_POS` (R306) -/
def Reg.chScrubPos : RegDef := ⟨0x101a4, 16, 0x1000, 1, 0x0, 0x0, 0x0, 0x0, 0x0, 0x0, 0x0, 0x0⟩
def Fld.chScrubPosUnit : Fld := ⟨Reg.chScrubPos, 0, 25⟩
def Fld.chScrubPosRank : Fld := ⟨Reg.chScrubPos, 25, 2⟩
def Fld.chScrubPosActive : Fld := ⟨Reg.chScrubPos, 31, 1⟩
/-- `CH_SCRUB_LAST` (R306) -/
def Reg.chScrubLast : RegDef := ⟨0x101a8, 16, 0x1000, 1, 0x0, 0x0, 0x0, 0x0, 0x0, 0x0, 0x0, 0x0⟩
def Fld.chScrubLastSeconds : Fld := ⟨Reg.chScrubLast, 0, 32⟩
/-- `CH_FREQ` (R306) -/
def Reg.chFreq : RegDef := ⟨0x101c0, 16, 0x1000, 1, 0x0, 0x408000, 0x3, 0xfff000, 0x0, 0x0, 0x0, 0xff000ccc⟩
def Fld.chFreqTarget : Fld := ⟨Reg.chFreq, 0, 2⟩
def Fld.chFreqCurrent : Fld := ⟨Reg.chFreq, 4, 2⟩
def Fld.chFreqBusy : Fld := ⟨Reg.chFreq, 8, 1⟩
def Fld.chFreqRefused : Fld := ⟨Reg.chFreq, 9, 1⟩
def Fld.chFreqTries : Fld := ⟨Reg.chFreq, 12, 4⟩
def Fld.chFreqIdle : Fld := ⟨Reg.chFreq, 16, 8⟩
/-- `CH_FSP_RATE` (R306) -/
def Reg.chFspRate : RegDef := ⟨0x101c4, 16, 0x1000, 1, 0x0, 0x0, 0x0, 0xffffffff, 0x0, 0x0, 0x0, 0x0⟩
/-- `CH_FSP_RATE.RATE` of index j, class RB -/
def Fld.chFspRateRate (j : Nat) : Fld := ⟨Reg.chFspRate, 8 * j + 0, 8⟩
/-- `CH_SR_STATUS` (R306) -/
def Reg.chSrStatus : RegDef := ⟨0x101c8, 16, 0x1000, 1, 0x0, 0x0, 0x0, 0x0, 0x0, 0x0, 0x0, 0x0⟩
def Fld.chSrStatusState : Fld := ⟨Reg.chSrStatus, 0, 3⟩
def Fld.chSrStatusReason : Fld := ⟨Reg.chSrStatus, 4, 3⟩
/-- `CH_CNT_ACT_LO` (R306) -/
def Reg.chCntActLo : RegDef := ⟨0x10200, 16, 0x1000, 1, 0x0, 0x0, 0x0, 0x0, 0x0, 0x0, 0xffffffff, 0x0⟩
def Fld.chCntActLoCount : Fld := ⟨Reg.chCntActLo, 0, 32⟩
/-- `CH_CNT_ACT_HI` (R306) -/
def Reg.chCntActHi : RegDef := ⟨0x10204, 16, 0x1000, 1, 0x0, 0x0, 0x0, 0x0, 0x0, 0x0, 0xffffffff, 0x0⟩
def Fld.chCntActHiCount : Fld := ⟨Reg.chCntActHi, 0, 32⟩
/-- `CH_CNT_RD_LO` (R306) -/
def Reg.chCntRdLo : RegDef := ⟨0x10208, 16, 0x1000, 1, 0x0, 0x0, 0x0, 0x0, 0x0, 0x0, 0xffffffff, 0x0⟩
def Fld.chCntRdLoCount : Fld := ⟨Reg.chCntRdLo, 0, 32⟩
/-- `CH_CNT_RD_HI` (R306) -/
def Reg.chCntRdHi : RegDef := ⟨0x1020c, 16, 0x1000, 1, 0x0, 0x0, 0x0, 0x0, 0x0, 0x0, 0xffffffff, 0x0⟩
def Fld.chCntRdHiCount : Fld := ⟨Reg.chCntRdHi, 0, 32⟩
/-- `CH_CNT_WR_LO` (R306) -/
def Reg.chCntWrLo : RegDef := ⟨0x10210, 16, 0x1000, 1, 0x0, 0x0, 0x0, 0x0, 0x0, 0x0, 0xffffffff, 0x0⟩
def Fld.chCntWrLoCount : Fld := ⟨Reg.chCntWrLo, 0, 32⟩
/-- `CH_CNT_WR_HI` (R306) -/
def Reg.chCntWrHi : RegDef := ⟨0x10214, 16, 0x1000, 1, 0x0, 0x0, 0x0, 0x0, 0x0, 0x0, 0xffffffff, 0x0⟩
def Fld.chCntWrHiCount : Fld := ⟨Reg.chCntWrHi, 0, 32⟩
/-- `CH_CNT_PAGE_HIT_LO` (R306) -/
def Reg.chCntPageHitLo : RegDef := ⟨0x10218, 16, 0x1000, 1, 0x0, 0x0, 0x0, 0x0, 0x0, 0x0, 0xffffffff, 0x0⟩
def Fld.chCntPageHitLoCount : Fld := ⟨Reg.chCntPageHitLo, 0, 32⟩
/-- `CH_CNT_PAGE_HIT_HI` (R306) -/
def Reg.chCntPageHitHi : RegDef := ⟨0x1021c, 16, 0x1000, 1, 0x0, 0x0, 0x0, 0x0, 0x0, 0x0, 0xffffffff, 0x0⟩
def Fld.chCntPageHitHiCount : Fld := ⟨Reg.chCntPageHitHi, 0, 32⟩
/-- `CH_CNT_PAGE_CONFLICT` (R308) -/
def Reg.chCntPageConflict : RegDef := ⟨0x10220, 16, 0x1000, 1, 0x0, 0x0, 0x0, 0x0, 0x0, 0x0, 0xffffffff, 0x0⟩
def Fld.chCntPageConflictCount : Fld := ⟨Reg.chCntPageConflict, 0, 32⟩
/-- `CH_CNT_IDLE_PRE` (R308) -/
def Reg.chCntIdlePre : RegDef := ⟨0x10224, 16, 0x1000, 1, 0x0, 0x0, 0x0, 0x0, 0x0, 0x0, 0xffffffff, 0x0⟩
def Fld.chCntIdlePreCount : Fld := ⟨Reg.chCntIdlePre, 0, 32⟩
/-- `CH_CNT_REF` (R308) -/
def Reg.chCntRef : RegDef := ⟨0x10228, 16, 0x1000, 1, 0x0, 0x0, 0x0, 0x0, 0x0, 0x0, 0xffffffff, 0x0⟩
def Fld.chCntRefCount : Fld := ⟨Reg.chCntRef, 0, 32⟩
/-- `CH_CNT_REF_POSTPONED` (R308) -/
def Reg.chCntRefPostponed : RegDef := ⟨0x1022c, 16, 0x1000, 1, 0x0, 0x0, 0x0, 0x0, 0x0, 0x0, 0xffffffff, 0x0⟩
def Fld.chCntRefPostponedCount : Fld := ⟨Reg.chCntRefPostponed, 0, 32⟩
/-- `CH_CNT_REF_FORCED` (R308) -/
def Reg.chCntRefForced : RegDef := ⟨0x10230, 16, 0x1000, 1, 0x0, 0x0, 0x0, 0x0, 0x0, 0x0, 0xffffffff, 0x0⟩
def Fld.chCntRefForcedCount : Fld := ⟨Reg.chCntRefForced, 0, 32⟩
/-- `CH_CNT_ROW_ALERT` (R308) -/
def Reg.chCntRowAlert : RegDef := ⟨0x10234, 16, 0x1000, 1, 0x0, 0x0, 0x0, 0x0, 0x0, 0x0, 0xffffffff, 0x0⟩
def Fld.chCntRowAlertCount : Fld := ⟨Reg.chCntRowAlert, 0, 32⟩
/-- `CH_CNT_NBR_REF` (R308) -/
def Reg.chCntNbrRef : RegDef := ⟨0x10238, 16, 0x1000, 1, 0x0, 0x0, 0x0, 0x0, 0x0, 0x0, 0xffffffff, 0x0⟩
def Fld.chCntNbrRefCount : Fld := ⟨Reg.chCntNbrRef, 0, 32⟩
/-- `CH_CNT_RFM_RAA` (R308) -/
def Reg.chCntRfmRaa : RegDef := ⟨0x1023c, 16, 0x1000, 1, 0x0, 0x0, 0x0, 0x0, 0x0, 0x0, 0xffffffff, 0x0⟩
def Fld.chCntRfmRaaCount : Fld := ⟨Reg.chCntRfmRaa, 0, 32⟩
/-- `CH_CNT_CE` (R308) -/
def Reg.chCntCe : RegDef := ⟨0x10240, 16, 0x1000, 1, 0x0, 0x0, 0x0, 0x0, 0x0, 0x0, 0xffffffff, 0x0⟩
def Fld.chCntCeCount : Fld := ⟨Reg.chCntCe, 0, 32⟩
/-- `CH_CNT_CE_WB` (R308) -/
def Reg.chCntCeWb : RegDef := ⟨0x10244, 16, 0x1000, 1, 0x0, 0x0, 0x0, 0x0, 0x0, 0x0, 0xffffffff, 0x0⟩
def Fld.chCntCeWbCount : Fld := ⟨Reg.chCntCeWb, 0, 32⟩
/-- `CH_CNT_UE` (R308) -/
def Reg.chCntUe : RegDef := ⟨0x10248, 16, 0x1000, 1, 0x0, 0x0, 0x0, 0x0, 0x0, 0x0, 0xffffffff, 0x0⟩
def Fld.chCntUeCount : Fld := ⟨Reg.chCntUe, 0, 32⟩
/-- `CH_CNT_SCRUB_UE_FREE` (R308) -/
def Reg.chCntScrubUeFree : RegDef := ⟨0x1024c, 16, 0x1000, 1, 0x0, 0x0, 0x0, 0x0, 0x0, 0x0, 0xffffffff, 0x0⟩
def Fld.chCntScrubUeFreeCount : Fld := ⟨Reg.chCntScrubUeFree, 0, 32⟩
/-- `CH_CNT_SCRUB_PASS` (R308) -/
def Reg.chCntScrubPass : RegDef := ⟨0x10250, 16, 0x1000, 1, 0x0, 0x0, 0x0, 0x0, 0x0, 0x0, 0xffffffff, 0x0⟩
def Fld.chCntScrubPassCount : Fld := ⟨Reg.chCntScrubPass, 0, 32⟩
/-- `CH_CNT_SR_ENTRY` (R308) -/
def Reg.chCntSrEntry : RegDef := ⟨0x10254, 16, 0x1000, 1, 0x0, 0x0, 0x0, 0x0, 0x0, 0x0, 0xffffffff, 0x0⟩
def Fld.chCntSrEntryCount : Fld := ⟨Reg.chCntSrEntry, 0, 32⟩
/-- `CH_CNT_SR_ABANDON` (R308) -/
def Reg.chCntSrAbandon : RegDef := ⟨0x10258, 16, 0x1000, 1, 0x0, 0x0, 0x0, 0x0, 0x0, 0x0, 0xffffffff, 0x0⟩
def Fld.chCntSrAbandonCount : Fld := ⟨Reg.chCntSrAbandon, 0, 32⟩
/-- `CH_CNT_SR_WAIT` (R308) -/
def Reg.chCntSrWait : RegDef := ⟨0x1025c, 16, 0x1000, 1, 0x0, 0x0, 0x0, 0x0, 0x0, 0x0, 0xffffffff, 0x0⟩
def Fld.chCntSrWaitCount : Fld := ⟨Reg.chCntSrWait, 0, 32⟩
/-- `CH_CNT_ABACUS_HOLD` (R308) -/
def Reg.chCntAbacusHold : RegDef := ⟨0x10260, 16, 0x1000, 1, 0x0, 0x0, 0x0, 0x0, 0x0, 0x0, 0xffffffff, 0x0⟩
def Fld.chCntAbacusHoldCount : Fld := ⟨Reg.chCntAbacusHold, 0, 32⟩
/-- `CH_CNT_TEMP_2X` (R308) -/
def Reg.chCntTemp2x : RegDef := ⟨0x10264, 16, 0x1000, 1, 0x0, 0x0, 0x0, 0x0, 0x0, 0x0, 0xffffffff, 0x0⟩
def Fld.chCntTemp2xCount : Fld := ⟨Reg.chCntTemp2x, 0, 32⟩
/-- `CH_CNT_FREQ` (R308) -/
def Reg.chCntFreq : RegDef := ⟨0x10268, 16, 0x1000, 1, 0x0, 0x0, 0x0, 0x0, 0x0, 0x0, 0xffffffff, 0x0⟩
def Fld.chCntFreqCount : Fld := ⟨Reg.chCntFreq, 0, 32⟩
/-- `CH_CNT_FREQ_RETRY` (R308) -/
def Reg.chCntFreqRetry : RegDef := ⟨0x1026c, 16, 0x1000, 1, 0x0, 0x0, 0x0, 0x0, 0x0, 0x0, 0xffffffff, 0x0⟩
def Fld.chCntFreqRetryCount : Fld := ⟨Reg.chCntFreqRetry, 0, 32⟩
/-- `CH_SCHED_SAT` (R306) -/
def Reg.chSchedSat : RegDef := ⟨0x1027c, 16, 0x1000, 1, 0x0, 0x0, 0x0, 0x0, 0x0, 0x0, 0x0, 0x0⟩
def Fld.chSchedSatSat : Fld := ⟨Reg.chSchedSat, 0, 20⟩
def Fld.chSchedSatSat64 : Fld := ⟨Reg.chSchedSat, 24, 4⟩
/-- `PHY_POP` (R347) -/
def Reg.phyPop : RegDef := ⟨0x10400, 16, 0x1000, 1, 0x0, 0x0, 0x0, 0x0, 0x0, 0x0, 0x0, 0x0⟩
def Fld.phyPopGen : Fld := ⟨Reg.phyPop, 0, 2⟩
def Fld.phyPopType : Fld := ⟨Reg.phyPop, 2, 2⟩
def Fld.phyPopDimms : Fld := ⟨Reg.phyPop, 4, 2⟩
def Fld.phyPopRanks : Fld := ⟨Reg.phyPop, 6, 3⟩
def Fld.phyPopWidth : Fld := ⟨Reg.phyPop, 9, 1⟩
def Fld.phyPopStack : Fld := ⟨Reg.phyPop, 10, 2⟩
def Fld.phyPopMaxrate : Fld := ⟨Reg.phyPop, 12, 8⟩
def Fld.phyPopMismatch : Fld := ⟨Reg.phyPop, 20, 1⟩
def Fld.phyPopVddqBad : Fld := ⟨Reg.phyPop, 21, 1⟩
/-- `PHY_STATUS` (R347) -/
def Reg.phyStatus : RegDef := ⟨0x10404, 16, 0x1000, 1, 0x0, 0x0, 0x0, 0x0, 0x0, 0x10, 0x0, 0xffffff80⟩
def Fld.phyStatusLocked : Fld := ⟨Reg.phyStatus, 0, 1⟩
def Fld.phyStatusVddqOk : Fld := ⟨Reg.phyStatus, 1, 1⟩
def Fld.phyStatusDrvOn : Fld := ⟨Reg.phyStatus, 2, 1⟩
def Fld.phyStatusDimmPwr : Fld := ⟨Reg.phyStatus, 3, 1⟩
def Fld.phyStatusZqExtBad : Fld := ⟨Reg.phyStatus, 4, 1⟩
def Fld.phyStatusSpareLow : Fld := ⟨Reg.phyStatus, 5, 1⟩
def Fld.phyStatusEndtap : Fld := ⟨Reg.phyStatus, 6, 1⟩
/-- `PHY_VDDQ` (R347) -/
def Reg.phyVddq : RegDef := ⟨0x10408, 16, 0x1000, 1, 0x0, 0x0, 0x0, 0x0, 0x0, 0x0, 0x0, 0x0⟩
def Fld.phyVddqMv : Fld := ⟨Reg.phyVddq, 0, 12⟩
/-- `PHY_TAP` (R347) -/
def Reg.phyTap : RegDef := ⟨0x1040c, 16, 0x1000, 1, 0x0, 0x0, 0x0, 0x0, 0x0, 0x0, 0x0, 0x0⟩
def Fld.phyTapSize : Fld := ⟨Reg.phyTap, 0, 16⟩
def Fld.phyTapUiTaps : Fld := ⟨Reg.phyTap, 16, 9⟩
/-- `PHY_ZQ` (R347) -/
def Reg.phyZq : RegDef := ⟨0x10410, 16, 0x1000, 1, 0x0, 0x4040, 0x0, 0x0, 0x7f7f, 0x0, 0x0, 0xffff8080⟩
def Fld.phyZqPu : Fld := ⟨Reg.phyZq, 0, 7⟩
def Fld.phyZqPd : Fld := ⟨Reg.phyZq, 8, 7⟩
/-- `PHY_ZQ_CTL` (R347) -/
def Reg.phyZqCtl : RegDef := ⟨0x10414, 16, 0x1000, 1, 0x0, 0x80, 0x0, 0xffff, 0x0, 0x0, 0x0, 0xffff0000⟩
def Fld.phyZqCtlPeriod : Fld := ⟨Reg.phyZqCtl, 0, 16⟩
/-- `PHY_DRV` (R347) -/
def Reg.phyDrv : RegDef := ⟨0x10418, 16, 0x1000, 1, 0x0, 0x1a6, 0x0, 0x1ff, 0x0, 0x0, 0x0, 0xfffffe00⟩
def Fld.phyDrvDrvLegs : Fld := ⟨Reg.phyDrv, 0, 3⟩
def Fld.phyDrvOdtLegs : Fld := ⟨Reg.phyDrv, 3, 3⟩
def Fld.phyDrvCaLegs : Fld := ⟨Reg.phyDrv, 6, 3⟩
/-- `PHY_EQ` (R347) -/
def Reg.phyEq : RegDef := ⟨0x1041c, 16, 0x1000, 1, 0x0, 0x0, 0x0, 0xf, 0xfff0, 0x0, 0x0, 0xffff0000⟩
def Fld.phyEqCtle : Fld := ⟨Reg.phyEq, 0, 3⟩
def Fld.phyEqDfeEn : Fld := ⟨Reg.phyEq, 3, 1⟩
def Fld.phyEqDfe1 : Fld := ⟨Reg.phyEq, 4, 6⟩
def Fld.phyEqDfe2 : Fld := ⟨Reg.phyEq, 10, 6⟩
/-- `PHY_ENDTAP` (R347) -/
def Reg.phyEndtap : RegDef := ⟨0x10420, 16, 0x1000, 1, 0x0, 0x4, 0x0, 0x3f, 0x0, 0x0, 0x0, 0xffc0⟩
def Fld.phyEndtapGuard : Fld := ⟨Reg.phyEndtap, 0, 6⟩
def Fld.phyEndtapReleased : Fld := ⟨Reg.phyEndtap, 16, 9⟩
/-- `PHY_CTL` (R347) -/
def Reg.phyCtl : RegDef := ⟨0x10424, 16, 0x1000, 1, 0x0, 0x64, 0x0, 0xff, 0x0, 0x0, 0x0, 0xffffff00⟩
def Fld.phyCtlVddqWait : Fld := ⟨Reg.phyCtl, 0, 8⟩
/-- `PHY_SPARE_INV` (R347) -/
def Reg.phySpareInv : RegDef := ⟨0x10430, 16, 0x1000, 1, 0x0, 0x100000, 0x0, 0x0, 0x0, 0x0, 0x0, 0x0⟩
def Fld.phySpareInvUsed : Fld := ⟨Reg.phySpareInv, 0, 16⟩
def Fld.phySpareInvFree : Fld := ⟨Reg.phySpareInv, 16, 5⟩
def Fld.phySpareInvBad : Fld := ⟨Reg.phySpareInv, 24, 5⟩
/-- `PHY_SPARE_MAP` (R347) -/
def Reg.phySpareMap : RegDef := ⟨0x10440, 16, 0x1000, 16, 0x4, 0x0, 0x0, 0x0, 0x0, 0x0, 0x0, 0x0⟩
def Fld.phySpareMapLane : Fld := ⟨Reg.phySpareMap, 0, 5⟩
def Fld.phySpareMapValid : Fld := ⟨Reg.phySpareMap, 5, 1⟩
def Fld.phySpareMapBad : Fld := ⟨Reg.phySpareMap, 6, 1⟩
/-- `PHY_LANE_SEL` (R347) -/
def Reg.phyLaneSel : RegDef := ⟨0x10480, 16, 0x1000, 1, 0x0, 0x0, 0x1ff, 0x0, 0x0, 0x0, 0x0, 0xfffffe00⟩
def Fld.phyLaneSelLane : Fld := ⟨Reg.phyLaneSel, 0, 8⟩
def Fld.phyLaneSelDir : Fld := ⟨Reg.phyLaneSel, 8, 1⟩
/-- `PHY_LANE_DATA` (R347) -/
def Reg.phyLaneData : RegDef := ⟨0x10484, 16, 0x1000, 1, 0x0, 0x0, 0x0, 0x0, 0x0, 0x0, 0x0, 0x0⟩
def Fld.phyLaneDataCoarse : Fld := ⟨Reg.phyLaneData, 0, 4⟩
def Fld.phyLaneDataFine : Fld := ⟨Reg.phyLaneData, 4, 9⟩
def Fld.phyLaneDataEndLo : Fld := ⟨Reg.phyLaneData, 13, 1⟩
def Fld.phyLaneDataEndHi : Fld := ⟨Reg.phyLaneData, 14, 1⟩
def Fld.phyLaneDataSpared : Fld := ⟨Reg.phyLaneData, 15, 1⟩
def Fld.phyLaneDataVref : Fld := ⟨Reg.phyLaneData, 16, 7⟩
/-- `PHY_CNT_SPARE` (R347) -/
def Reg.phyCntSpare : RegDef := ⟨0x104c0, 16, 0x1000, 1, 0x0, 0x0, 0x0, 0x0, 0x0, 0x0, 0xffffffff, 0x0⟩
def Fld.phyCntSpareCount : Fld := ⟨Reg.phyCntSpare, 0, 32⟩
/-- `PHY_CNT_ENDTAP` (R347) -/
def Reg.phyCntEndtap : RegDef := ⟨0x104c4, 16, 0x1000, 1, 0x0, 0x0, 0x0, 0x0, 0x0, 0x0, 0xffffffff, 0x0⟩
def Fld.phyCntEndtapCount : Fld := ⟨Reg.phyCntEndtap, 0, 32⟩
/-- `PHY_CNT_VDDQ` (R347) -/
def Reg.phyCntVddq : RegDef := ⟨0x104c8, 16, 0x1000, 1, 0x0, 0x0, 0x0, 0x0, 0x0, 0x0, 0xffffffff, 0x0⟩
def Fld.phyCntVddqCount : Fld := ⟨Reg.phyCntVddq, 0, 32⟩
/-- `PHY_CNT_LANE_WEAK` (R347) -/
def Reg.phyCntLaneWeak : RegDef := ⟨0x104cc, 16, 0x1000, 1, 0x0, 0x0, 0x0, 0x0, 0x0, 0x0, 0xffffffff, 0x0⟩
def Fld.phyCntLaneWeakCount : Fld := ⟨Reg.phyCntLaneWeak, 0, 32⟩
/-- `PHY_CNT_ALERT` (R347) -/
def Reg.phyCntAlert : RegDef := ⟨0x104d0, 16, 0x1000, 1, 0x0, 0x0, 0x0, 0x0, 0x0, 0x0, 0xffffffff, 0x0⟩
def Fld.phyCntAlertCount : Fld := ⟨Reg.phyCntAlert, 0, 32⟩
/-- `PHY_CNT_SAT` (R347) -/
def Reg.phyCntSat : RegDef := ⟨0x104dc, 16, 0x1000, 1, 0x0, 0x0, 0x0, 0x0, 0x0, 0x0, 0x0, 0x0⟩
def Fld.phyCntSatSat : Fld := ⟨Reg.phyCntSat, 0, 5⟩
/-- `TRN_CTL` (R385) -/
def Reg.trnCtl : RegDef := ⟨0x10600, 16, 0x1000, 1, 0x0, 0x2, 0x0, 0x1f, 0x0, 0x0, 0x0, 0xffffffe0⟩
def Fld.trnCtlRetries : Fld := ⟨Reg.trnCtl, 0, 4⟩
def Fld.trnCtlDefaults : Fld := ⟨Reg.trnCtl, 4, 1⟩
/-- `TRN_STATUS` (R385) -/
def Reg.trnStatus : RegDef := ⟨0x10604, 16, 0x1000, 1, 0x0, 0x0, 0x0, 0x0, 0x0, 0x400, 0x0, 0xfffff800⟩
def Fld.trnStatusPhase : Fld := ⟨Reg.trnStatus, 0, 4⟩
def Fld.trnStatusGather : Fld := ⟨Reg.trnStatus, 4, 1⟩
def Fld.trnStatusSetpoint : Fld := ⟨Reg.trnStatus, 5, 2⟩
def Fld.trnStatusSource : Fld := ⟨Reg.trnStatus, 8, 2⟩
def Fld.trnStatusFailed : Fld := ⟨Reg.trnStatus, 10, 1⟩
/-- `TRIM_VALID` (R385) -/
def Reg.trimValid : RegDef := ⟨0x10608, 16, 0x1000, 1, 0x0, 0x0, 0x0, 0x0, 0x0, 0x0, 0x0, 0x0⟩
def Fld.trimValidValid : Fld := ⟨Reg.trimValid, 0, 4⟩
/-- `CAL_GATE` (R385) -/
def Reg.calGate : RegDef := ⟨0x10610, 16, 0x1000, 1, 0x0, 0x3e812101, 0x0, 0xfff1ffff, 0x0, 0x0, 0x0, 0xe0000⟩
def Fld.calGateTapsPerGap : Fld := ⟨Reg.calGate, 0, 4⟩
def Fld.calGateIdle : Fld := ⟨Reg.calGate, 4, 6⟩
def Fld.calGateSlot : Fld := ⟨Reg.calGate, 10, 6⟩
def Fld.calGateRefSlot : Fld := ⟨Reg.calGate, 16, 1⟩
def Fld.calGateDeferMax : Fld := ⟨Reg.calGate, 20, 12⟩
/-- `CAL_CHECK` (R385) -/
def Reg.calCheck : RegDef := ⟨0x10614, 16, 0x1000, 1, 0x0, 0x100408, 0x0, 0x3f0f3f, 0x0, 0x0, 0x0, 0xffc0f0c0⟩
def Fld.calCheckPlaus : Fld := ⟨Reg.calCheck, 0, 6⟩
def Fld.calCheckPlausZq : Fld := ⟨Reg.calCheck, 8, 4⟩
def Fld.calCheckEyeMin : Fld := ⟨Reg.calCheck, 16, 6⟩
/-- `CAL_PERIOD` (R385) -/
def Reg.calPeriod : RegDef := ⟨0x10618, 16, 0x1000, 1, 0x0, 0x18044010, 0x0, 0xffffffff, 0x0, 0x0, 0x0, 0x0⟩
def Fld.calPeriodRead : Fld := ⟨Reg.calPeriod, 0, 8⟩
def Fld.calPeriodWrite : Fld := ⟨Reg.calPeriod, 8, 8⟩
def Fld.calPeriodOsc : Fld := ⟨Reg.calPeriod, 16, 8⟩
def Fld.calPeriodLog : Fld := ⟨Reg.calPeriod, 24, 8⟩
/-- `CAL_STATUS` (R385) -/
def Reg.calStatus : RegDef := ⟨0x1061c, 16, 0x1000, 1, 0x0, 0x0, 0x0, 0x0, 0x0, 0x0, 0x0, 0x0⟩
def Fld.calStatusConsec : Fld := ⟨Reg.calStatus, 0, 2⟩
def Fld.calStatusPending : Fld := ⟨Reg.calStatus, 2, 1⟩
def Fld.calStatusMaxPend : Fld := ⟨Reg.calStatus, 4, 7⟩
/-- `CAL_FAIL_INFO` (R385) -/
def Reg.calFailInfo : RegDef := ⟨0x10620, 16, 0x1000, 1, 0x0, 0x0, 0x0, 0x0, 0x0, 0x3ffff, 0x0, 0xfffc0000⟩
def Fld.calFailInfoReason : Fld := ⟨Reg.calFailInfo, 0, 4⟩
def Fld.calFailInfoKind : Fld := ⟨Reg.calFailInfo, 4, 4⟩
def Fld.calFailInfoLane : Fld := ⟨Reg.calFailInfo, 8, 8⟩
def Fld.calFailInfoRank : Fld := ⟨Reg.calFailInfo, 16, 2⟩
/-- `CAL_LAST_LO` (R385) -/
def Reg.calLastLo : RegDef := ⟨0x10624, 16, 0x1000, 1, 0x0, 0x0, 0x0, 0x0, 0x0, 0x0, 0x0, 0x0⟩
def Fld.calLastLoUs : Fld := ⟨Reg.calLastLo, 0, 32⟩
/-- `CAL_LAST_HI` (R385) -/
def Reg.calLastHi : RegDef := ⟨0x10628, 16, 0x1000, 1, 0x0, 0x0, 0x0, 0x0, 0x0, 0x0, 0x0, 0x0⟩
def Fld.calLastHiUs : Fld := ⟨Reg.calLastHi, 0, 16⟩
/-- `CAL_CNT` (R385) -/
def Reg.calCnt : RegDef := ⟨0x10640, 16, 0x1000, 1, 0x0, 0x0, 0x0, 0x0, 0x0, 0x0, 0xffffffff, 0x0⟩
def Fld.calCntCount : Fld := ⟨Reg.calCnt, 0, 32⟩
/-- `CAL_CNT_FAIL` (R385) -/
def Reg.calCntFail : RegDef := ⟨0x10644, 16, 0x1000, 1, 0x0, 0x0, 0x0, 0x0, 0x0, 0x0, 0xffffffff, 0x0⟩
def Fld.calCntFailCount : Fld := ⟨Reg.calCntFail, 0, 32⟩
/-- `CAL_CNT_FALLBACK` (R385) -/
def Reg.calCntFallback : RegDef := ⟨0x10648, 16, 0x1000, 1, 0x0, 0x0, 0x0, 0x0, 0x0, 0x0, 0xffffffff, 0x0⟩
def Fld.calCntFallbackCount : Fld := ⟨Reg.calCntFallback, 0, 32⟩
/-- `CAL_CNT_TAPS` (R385) -/
def Reg.calCntTaps : RegDef := ⟨0x1064c, 16, 0x1000, 1, 0x0, 0x0, 0x0, 0x0, 0x0, 0x0, 0xffffffff, 0x0⟩
def Fld.calCntTapsCount : Fld := ⟨Reg.calCntTaps, 0, 32⟩
/-- `CAL_CNT_SLOT` (R385) -/
def Reg.calCntSlot : RegDef := ⟨0x10650, 16, 0x1000, 1, 0x0, 0x0, 0x0, 0x0, 0x0, 0x0, 0xffffffff, 0x0⟩
def Fld.calCntSlotCount : Fld := ⟨Reg.calCntSlot, 0, 32⟩
/-- `TRN_CNT_RUN` (R385) -/
def Reg.trnCntRun : RegDef := ⟨0x10654, 16, 0x1000, 1, 0x0, 0x0, 0x0, 0x0, 0x0, 0x0, 0xffffffff, 0x0⟩
def Fld.trnCntRunCount : Fld := ⟨Reg.trnCntRun, 0, 32⟩
/-- `TRN_CNT_ABORT` (R385) -/
def Reg.trnCntAbort : RegDef := ⟨0x10658, 16, 0x1000, 1, 0x0, 0x0, 0x0, 0x0, 0x0, 0x0, 0xffffffff, 0x0⟩
def Fld.trnCntAbortCount : Fld := ⟨Reg.trnCntAbort, 0, 32⟩
/-- `CAL_CNT_SAT` (R385) -/
def Reg.calCntSat : RegDef := ⟨0x1067c, 16, 0x1000, 1, 0x0, 0x0, 0x0, 0x0, 0x0, 0x0, 0x0, 0x0⟩
def Fld.calCntSatSat : Fld := ⟨Reg.calCntSat, 0, 7⟩
/-- `SRAM_STATUS` (R570) -/
def Reg.sramStatus : RegDef := ⟨0x20000, 1, 0x0, 1, 0x0, 0x0, 0x0, 0x0, 0x0, 0x0, 0x0, 0x0⟩
def Fld.sramStatusBgtActive : Fld := ⟨Reg.sramStatus, 0, 1⟩
def Fld.sramStatusBorrowed : Fld := ⟨Reg.sramStatus, 1, 1⟩
def Fld.sramStatusMtBusy : Fld := ⟨Reg.sramStatus, 2, 1⟩
def Fld.sramStatusCopying : Fld := ⟨Reg.sramStatus, 3, 1⟩
def Fld.sramStatusBeamUe : Fld := ⟨Reg.sramStatus, 4, 1⟩
/-- `SRAM_BGT_CTL` (R570) -/
def Reg.sramBgtCtl : RegDef := ⟨0x20004, 1, 0x0, 1, 0x0, 0x4641803, 0x0, 0xfffff03, 0x0, 0x0, 0x0, 0xf00000fc⟩
def Fld.sramBgtCtlEnable : Fld := ⟨Reg.sramBgtCtl, 0, 1⟩
def Fld.sramBgtCtlDramCopy : Fld := ⟨Reg.sramBgtCtl, 1, 1⟩
def Fld.sramBgtCtlPeriod : Fld := ⟨Reg.sramBgtCtl, 8, 8⟩
def Fld.sramBgtCtlDrainMax : Fld := ⟨Reg.sramBgtCtl, 16, 8⟩
def Fld.sramBgtCtlAbandonMax : Fld := ⟨Reg.sramBgtCtl, 24, 4⟩
/-- `SRAM_BGT_POS` (R570) -/
def Reg.sramBgtPos : RegDef := ⟨0x20008, 1, 0x0, 1, 0x0, 0x0, 0x0, 0x0, 0x0, 0x0, 0x0, 0x0⟩
def Fld.sramBgtPosArray : Fld := ⟨Reg.sramBgtPos, 0, 4⟩
def Fld.sramBgtPosRegion : Fld := ⟨Reg.sramBgtPos, 4, 14⟩
def Fld.sramBgtPosPhase : Fld := ⟨Reg.sramBgtPos, 18, 3⟩
/-- `SRAM_MT_CTL` (R570) -/
def Reg.sramMtCtl : RegDef := ⟨0x20010, 1, 0x0, 1, 0x0, 0x0, 0x1ff, 0x0, 0x0, 0x0, 0x0, 0xfffffe00⟩
def Fld.sramMtCtlGroup : Fld := ⟨Reg.sramMtCtl, 0, 7⟩
def Fld.sramMtCtlPreserve : Fld := ⟨Reg.sramMtCtl, 7, 1⟩
def Fld.sramMtCtlGo : Fld := ⟨Reg.sramMtCtl, 8, 1⟩
/-- `SRAM_MT_STATUS` (R570) -/
def Reg.sramMtStatus : RegDef := ⟨0x20014, 1, 0x0, 1, 0x0, 0x0, 0x0, 0x0, 0x0, 0x0, 0x0, 0x0⟩
def Fld.sramMtStatusBusy : Fld := ⟨Reg.sramMtStatus, 0, 1⟩
def Fld.sramMtStatusPass : Fld := ⟨Reg.sramMtStatus, 1, 1⟩
def Fld.sramMtStatusFail : Fld := ⟨Reg.sramMtStatus, 2, 1⟩
def Fld.sramMtStatusRepaired : Fld := ⟨Reg.sramMtStatus, 3, 1⟩
def Fld.sramMtStatusRefused : Fld := ⟨Reg.sramMtStatus, 4, 1⟩
/-- `SRAM_GROUP_SEL` (R570) -/
def Reg.sramGroupSel : RegDef := ⟨0x20020, 1, 0x0, 1, 0x0, 0x0, 0x7f, 0x0, 0x0, 0x0, 0x0, 0xffffff80⟩
def Fld.sramGroupSelGroup : Fld := ⟨Reg.sramGroupSel, 0, 7⟩
/-- `SRAM_GROUP_DATA` (R570) -/
def Reg.sramGroupData : RegDef := ⟨0x20024, 1, 0x0, 1, 0x0, 0x0, 0x0, 0x0, 0x0, 0x0, 0x0, 0x0⟩
def Fld.sramGroupDataArray : Fld := ⟨Reg.sramGroupData, 0, 4⟩
def Fld.sramGroupDataIndex : Fld := ⟨Reg.sramGroupData, 4, 5⟩
def Fld.sramGroupDataPowered : Fld := ⟨Reg.sramGroupData, 9, 1⟩
def Fld.sramGroupDataReplaced : Fld := ⟨Reg.sramGroupData, 10, 1⟩
def Fld.sramGroupDataMap : Fld := ⟨Reg.sramGroupData, 11, 7⟩
def Fld.sramGroupDataRows : Fld := ⟨Reg.sramGroupData, 18, 6⟩
def Fld.sramGroupDataCols : Fld := ⟨Reg.sramGroupData, 24, 6⟩
/-- `SRAM_CNT_COLLIDE` (R570) -/
def Reg.sramCntCollide : RegDef := ⟨0x20040, 1, 0x0, 1, 0x0, 0x0, 0x0, 0x0, 0x0, 0x0, 0xffffffff, 0x0⟩
def Fld.sramCntCollideCount : Fld := ⟨Reg.sramCntCollide, 0, 32⟩
/-- `SRAM_CNT_BANK_WAIT` (R570) -/
def Reg.sramCntBankWait : RegDef := ⟨0x20044, 1, 0x0, 1, 0x0, 0x0, 0x0, 0x0, 0x0, 0x0, 0xffffffff, 0x0⟩
def Fld.sramCntBankWaitCount : Fld := ⟨Reg.sramCntBankWait, 0, 32⟩
/-- `SRAM_CNT_REDIRECT` (R570) -/
def Reg.sramCntRedirect : RegDef := ⟨0x20048, 1, 0x0, 1, 0x0, 0x0, 0x0, 0x0, 0x0, 0x0, 0xffffffff, 0x0⟩
def Fld.sramCntRedirectCount : Fld := ⟨Reg.sramCntRedirect, 0, 32⟩
/-- `SRAM_CNT_BGT_REGION` (R570) -/
def Reg.sramCntBgtRegion : RegDef := ⟨0x2004c, 1, 0x0, 1, 0x0, 0x0, 0x0, 0x0, 0x0, 0x0, 0xffffffff, 0x0⟩
def Fld.sramCntBgtRegionCount : Fld := ⟨Reg.sramCntBgtRegion, 0, 32⟩
/-- `SRAM_CNT_BGT_ABANDON` (R570) -/
def Reg.sramCntBgtAbandon : RegDef := ⟨0x20050, 1, 0x0, 1, 0x0, 0x0, 0x0, 0x0, 0x0, 0x0, 0xffffffff, 0x0⟩
def Fld.sramCntBgtAbandonCount : Fld := ⟨Reg.sramCntBgtAbandon, 0, 32⟩
/-- `SRAM_CNT_BGT_SKIP` (R570) -/
def Reg.sramCntBgtSkip : RegDef := ⟨0x20054, 1, 0x0, 1, 0x0, 0x0, 0x0, 0x0, 0x0, 0x0, 0xffffffff, 0x0⟩
def Fld.sramCntBgtSkipCount : Fld := ⟨Reg.sramCntBgtSkip, 0, 32⟩
/-- `SRAM_CNT_BGT_PASS` (R570) -/
def Reg.sramCntBgtPass : RegDef := ⟨0x20058, 1, 0x0, 1, 0x0, 0x0, 0x0, 0x0, 0x0, 0x0, 0xffffffff, 0x0⟩
def Fld.sramCntBgtPassCount : Fld := ⟨Reg.sramCntBgtPass, 0, 32⟩
/-- `SRAM_CNT_REPAIR` (R570) -/
def Reg.sramCntRepair : RegDef := ⟨0x2005c, 1, 0x0, 1, 0x0, 0x0, 0x0, 0x0, 0x0, 0x0, 0xffffffff, 0x0⟩
def Fld.sramCntRepairCount : Fld := ⟨Reg.sramCntRepair, 0, 32⟩
/-- `SRAM_CNT_MT_RUN` (R570) -/
def Reg.sramCntMtRun : RegDef := ⟨0x20060, 1, 0x0, 1, 0x0, 0x0, 0x0, 0x0, 0x0, 0x0, 0xffffffff, 0x0⟩
def Fld.sramCntMtRunCount : Fld := ⟨Reg.sramCntMtRun, 0, 32⟩
/-- `SRAM_CNT_SAT` (R570) -/
def Reg.sramCntSat : RegDef := ⟨0x2007c, 1, 0x0, 1, 0x0, 0x0, 0x0, 0x0, 0x0, 0x0, 0x0, 0x0⟩
def Fld.sramCntSatSat : Fld := ⟨Reg.sramCntSat, 0, 9⟩
/-- `SRAM_CNT_CE` (R570) -/
def Reg.sramCntCe : RegDef := ⟨0x20100, 14, 0x4, 1, 0x0, 0x0, 0x0, 0x0, 0x0, 0x0, 0xffffffff, 0x0⟩
def Fld.sramCntCeCount : Fld := ⟨Reg.sramCntCe, 0, 32⟩
/-- `SRAM_CNT_UE` (R570) -/
def Reg.sramCntUe : RegDef := ⟨0x20140, 14, 0x4, 1, 0x0, 0x0, 0x0, 0x0, 0x0, 0x0, 0xffffffff, 0x0⟩
def Fld.sramCntUeCount : Fld := ⟨Reg.sramCntUe, 0, 32⟩
/-- `SRAM_CNT_SAT_ARR` (R570) -/
def Reg.sramCntSatArr : RegDef := ⟨0x2017c, 1, 0x0, 1, 0x0, 0x0, 0x0, 0x0, 0x0, 0x0, 0x0, 0x0⟩
def Fld.sramCntSatArrSatCe : Fld := ⟨Reg.sramCntSatArr, 0, 14⟩
def Fld.sramCntSatArrSatUe : Fld := ⟨Reg.sramCntSatArr, 16, 14⟩
/-- `SVC_POLICY` (R515) -/
def Reg.svcPolicy : RegDef := ⟨0x21000, 1, 0x0, 1, 0x0, 0xa10315f, 0x0, 0xfffff1ff, 0x0, 0x0, 0x0, 0xe00⟩
def Fld.svcPolicyAutoMark : Fld := ⟨Reg.svcPolicy, 0, 1⟩
def Fld.svcPolicyAutoRetrain : Fld := ⟨Reg.svcPolicy, 1, 1⟩
def Fld.svcPolicyAutoSppr : Fld := ⟨Reg.svcPolicy, 2, 1⟩
def Fld.svcPolicyAutoRetireWay : Fld := ⟨Reg.svcPolicy, 3, 1⟩
def Fld.svcPolicyHarden : Fld := ⟨Reg.svcPolicy, 4, 1⟩
def Fld.svcPolicyAutoRetireCh : Fld := ⟨Reg.svcPolicy, 5, 1⟩
def Fld.svcPolicyRetrainWeak : Fld := ⟨Reg.svcPolicy, 6, 1⟩
def Fld.svcPolicyRetrainEndtap : Fld := ⟨Reg.svcPolicy, 7, 1⟩
def Fld.svcPolicyAutoGroup : Fld := ⟨Reg.svcPolicy, 8, 1⟩
def Fld.svcPolicyRetrainMax : Fld := ⟨Reg.svcPolicy, 12, 4⟩
def Fld.svcPolicyRowCe : Fld := ⟨Reg.svcPolicy, 16, 8⟩
def Fld.svcPolicyFenceWarn : Fld := ⟨Reg.svcPolicy, 24, 8⟩
/-- `SVC_OTP` (R515) -/
def Reg.svcOtp : RegDef := ⟨0x21004, 1, 0x0, 1, 0x0, 0x0, 0x3, 0x0, 0x0, 0x0, 0x0, 0xfffffffc⟩
def Fld.svcOtpBurnSram : Fld := ⟨Reg.svcOtp, 0, 1⟩
def Fld.svcOtpBurnLane : Fld := ⟨Reg.svcOtp, 1, 1⟩
/-- `SPARE_INV_LANE` (R515) -/
def Reg.spareInvLane : RegDef := ⟨0x21010, 1, 0x0, 1, 0x0, 0x0, 0x0, 0x0, 0x0, 0x0, 0x0, 0x0⟩
def Fld.spareInvLaneFree : Fld := ⟨Reg.spareInvLane, 0, 9⟩
def Fld.spareInvLaneUsed : Fld := ⟨Reg.spareInvLane, 9, 9⟩
def Fld.spareInvLaneBad : Fld := ⟨Reg.spareInvLane, 18, 9⟩
/-- `SPARE_INV_ENDTAP` (R515) -/
def Reg.spareInvEndtap : RegDef := ⟨0x21014, 1, 0x0, 1, 0x0, 0x0, 0x0, 0x0, 0x0, 0x0, 0x0, 0x0⟩
def Fld.spareInvEndtapLines : Fld := ⟨Reg.spareInvEndtap, 0, 13⟩
/-- `SPARE_INV_PPR` (R515) -/
def Reg.spareInvPpr : RegDef := ⟨0x21018, 1, 0x0, 1, 0x0, 0x0, 0x0, 0x0, 0x0, 0x0, 0x0, 0x0⟩
def Fld.spareInvPprSoft : Fld := ⟨Reg.spareInvPpr, 0, 16⟩
def Fld.spareInvPprHard : Fld := ⟨Reg.spareInvPpr, 16, 16⟩
/-- `SPARE_INV_MARK_LO` (R515) -/
def Reg.spareInvMarkLo : RegDef := ⟨0x2101c, 1, 0x0, 1, 0x0, 0x0, 0x0, 0x0, 0x0, 0x0, 0x0, 0x0⟩
def Fld.spareInvMarkLoMarked : Fld := ⟨Reg.spareInvMarkLo, 0, 32⟩
/-- `SPARE_INV_MARK_HI` (R515) -/
def Reg.spareInvMarkHi : RegDef := ⟨0x21020, 1, 0x0, 1, 0x0, 0x0, 0x0, 0x0, 0x0, 0x0, 0x0, 0x0⟩
def Fld.spareInvMarkHiMarked : Fld := ⟨Reg.spareInvMarkHi, 0, 32⟩
/-- `SPARE_INV_WAY` (R515) -/
def Reg.spareInvWay : RegDef := ⟨0x21024, 1, 0x0, 1, 0x0, 0x20000000, 0x0, 0x0, 0x0, 0x0, 0x0, 0x0⟩
def Fld.spareInvWayRetired : Fld := ⟨Reg.spareInvWay, 0, 14⟩
def Fld.spareInvWayLeft : Fld := ⟨Reg.spareInvWay, 16, 14⟩
/-- `SPARE_INV_SRAM` (R515) -/
def Reg.spareInvSram : RegDef := ⟨0x21028, 1, 0x0, 1, 0x0, 0x6, 0x0, 0x0, 0x0, 0x0, 0x0, 0x0⟩
def Fld.spareInvSramGroupsFree : Fld := ⟨Reg.spareInvSram, 0, 3⟩
def Fld.spareInvSramGroupsUsed : Fld := ⟨Reg.spareInvSram, 3, 3⟩
def Fld.spareInvSramBankLedger : Fld := ⟨Reg.spareInvSram, 6, 1⟩
def Fld.spareInvSramBankStaging : Fld := ⟨Reg.spareInvSram, 7, 1⟩
def Fld.spareInvSramRowcol : Fld := ⟨Reg.spareInvSram, 16, 16⟩
/-- `SPARE_INV_OTP` (R515) -/
def Reg.spareInvOtp : RegDef := ⟨0x2102c, 1, 0x0, 1, 0x0, 0x0, 0x0, 0x0, 0x0, 0x0, 0x0, 0x0⟩
/-- `SPARE_INV_OTP.GEN_LEFT` of index j, class RS -/
def Fld.spareInvOtpGenLeft (j : Nat) : Fld := ⟨Reg.spareInvOtp, 2 * j + 0, 2⟩
/-- `SPARE_INV_IMG` (R515) -/
def Reg.spareInvImg : RegDef := ⟨0x21030, 1, 0x0, 1, 0x0, 0x0, 0x0, 0x0, 0x0, 0x0, 0x0, 0x0⟩
def Fld.spareInvImgRomPseq : Fld := ⟨Reg.spareInvImg, 0, 1⟩
def Fld.spareInvImgRomTseq : Fld := ⟨Reg.spareInvImg, 16, 16⟩
/-- `SPARE_INV_CH` (R515) -/
def Reg.spareInvCh : RegDef := ⟨0x21034, 1, 0x0, 1, 0x0, 0x0, 0x0, 0x0, 0x0, 0x0, 0x0, 0x0⟩
def Fld.spareInvChRetired : Fld := ⟨Reg.spareInvCh, 0, 16⟩
def Fld.spareInvChOut : Fld := ⟨Reg.spareInvCh, 16, 16⟩
/-- `IMG_CTL` (R515) -/
def Reg.imgCtl : RegDef := ⟨0x21040, 1, 0x0, 1, 0x0, 0x0, 0xffff0007, 0x0, 0x0, 0x0, 0x0, 0xfff8⟩
def Fld.imgCtlPseq : Fld := ⟨Reg.imgCtl, 0, 1⟩
def Fld.imgCtlTseq : Fld := ⟨Reg.imgCtl, 1, 1⟩
def Fld.imgCtlCopy : Fld := ⟨Reg.imgCtl, 2, 1⟩
def Fld.imgCtlChannels : Fld := ⟨Reg.imgCtl, 16, 16⟩
/-- `IMG_STATUS` (R515) -/
def Reg.imgStatus : RegDef := ⟨0x21044, 1, 0x0, 1, 0x0, 0x0, 0x0, 0x0, 0x0, 0x0, 0x0, 0x0⟩
def Fld.imgStatusBusy : Fld := ⟨Reg.imgStatus, 0, 1⟩
def Fld.imgStatusStaged : Fld := ⟨Reg.imgStatus, 1, 1⟩
def Fld.imgStatusRefused : Fld := ⟨Reg.imgStatus, 2, 1⟩
def Fld.imgStatusCode : Fld := ⟨Reg.imgStatus, 4, 4⟩
/-- `IMG_PSEQ_VER` (R515) -/
def Reg.imgPseqVer : RegDef := ⟨0x21048, 1, 0x0, 1, 0x0, 0x0, 0x0, 0x0, 0x0, 0x0, 0x0, 0x0⟩
def Fld.imgPseqVerVersion : Fld := ⟨Reg.imgPseqVer, 0, 16⟩
def Fld.imgPseqVerIfrev : Fld := ⟨Reg.imgPseqVer, 16, 8⟩
/-- `IMG_TSEQ_VER` (R515) -/
def Reg.imgTseqVer : RegDef := ⟨0x21080, 16, 0x4, 1, 0x0, 0x0, 0x0, 0x0, 0x0, 0x0, 0x0, 0x0⟩
def Fld.imgTseqVerVersion : Fld := ⟨Reg.imgTseqVer, 0, 16⟩
def Fld.imgTseqVerIfrev : Fld := ⟨Reg.imgTseqVer, 16, 8⟩
def Fld.imgTseqVerPending : Fld := ⟨Reg.imgTseqVer, 24, 1⟩
/-- `SVC_CNT_REFUSED` (R515) -/
def Reg.svcCntRefused : RegDef := ⟨0x21100, 1, 0x0, 1, 0x0, 0x0, 0x0, 0x0, 0x0, 0x0, 0xffffffff, 0x0⟩
def Fld.svcCntRefusedCount : Fld := ⟨Reg.svcCntRefused, 0, 32⟩
/-- `SVC_CNT_GROUP` (R515) -/
def Reg.svcCntGroup : RegDef := ⟨0x21104, 1, 0x0, 1, 0x0, 0x0, 0x0, 0x0, 0x0, 0x0, 0xffffffff, 0x0⟩
def Fld.svcCntGroupCount : Fld := ⟨Reg.svcCntGroup, 0, 32⟩
/-- `SVC_CNT_IMG_SWITCH` (R515) -/
def Reg.svcCntImgSwitch : RegDef := ⟨0x21108, 1, 0x0, 1, 0x0, 0x0, 0x0, 0x0, 0x0, 0x0, 0xffffffff, 0x0⟩
def Fld.svcCntImgSwitchCount : Fld := ⟨Reg.svcCntImgSwitch, 0, 32⟩
/-- `SVC_CNT_IMG_REFUSED` (R515) -/
def Reg.svcCntImgRefused : RegDef := ⟨0x2110c, 1, 0x0, 1, 0x0, 0x0, 0x0, 0x0, 0x0, 0x0, 0xffffffff, 0x0⟩
def Fld.svcCntImgRefusedCount : Fld := ⟨Reg.svcCntImgRefused, 0, 32⟩
/-- `SVC_CNT_SAT` (R515) -/
def Reg.svcCntSat : RegDef := ⟨0x2113c, 1, 0x0, 1, 0x0, 0x0, 0x0, 0x0, 0x0, 0x0, 0x0, 0x0⟩
def Fld.svcCntSatSat : Fld := ⟨Reg.svcCntSat, 0, 4⟩
/-- `LF_INFO` (R609) -/
def Reg.lfInfo : RegDef := ⟨0x22000, 1, 0x0, 1, 0x0, 0x0, 0x0, 0x0, 0x0, 0x0, 0x0, 0x0⟩
def Fld.lfInfoSize : Fld := ⟨Reg.lfInfo, 0, 4⟩
def Fld.lfInfoFound : Fld := ⟨Reg.lfInfo, 4, 1⟩
def Fld.lfInfoQuad : Fld := ⟨Reg.lfInfo, 5, 1⟩
def Fld.lfInfoAddr4 : Fld := ⟨Reg.lfInfo, 6, 1⟩
def Fld.lfInfoSck : Fld := ⟨Reg.lfInfo, 8, 8⟩
/-- `LF_CTL` (R609) -/
def Reg.lfCtl : RegDef := ⟨0x22004, 1, 0x0, 1, 0x0, 0x0, 0x2, 0x1, 0x0, 0x0, 0x0, 0xfffffffc⟩
def Fld.lfCtlWrEn : Fld := ⟨Reg.lfCtl, 0, 1⟩
def Fld.lfCtlRescan : Fld := ⟨Reg.lfCtl, 1, 1⟩
/-- `LF_XFER` (R609) -/
def Reg.lfXfer : RegDef := ⟨0x22008, 1, 0x0, 1, 0x0, 0x0, 0xff07, 0x0, 0x0, 0x0, 0x0, 0xffff00f8⟩
def Fld.lfXferOp : Fld := ⟨Reg.lfXfer, 0, 2⟩
def Fld.lfXferGo : Fld := ⟨Reg.lfXfer, 2, 1⟩
def Fld.lfXferLen : Fld := ⟨Reg.lfXfer, 8, 8⟩
/-- `LF_ADDR` (R609) -/
def Reg.lfAddr : RegDef := ⟨0x2200c, 1, 0x0, 1, 0x0, 0x0, 0xffffffff, 0x0, 0x0, 0x0, 0x0, 0x0⟩
def Fld.lfAddrAddr : Fld := ⟨Reg.lfAddr, 0, 32⟩
/-- `LF_STATUS` (R609) -/
def Reg.lfStatus : RegDef := ⟨0x22010, 1, 0x0, 1, 0x0, 0x0, 0x0, 0x0, 0x0, 0x0, 0x0, 0x0⟩
def Fld.lfStatusBusy : Fld := ⟨Reg.lfStatus, 0, 1⟩
def Fld.lfStatusErr : Fld := ⟨Reg.lfStatus, 1, 1⟩
def Fld.lfStatusRefused : Fld := ⟨Reg.lfStatus, 2, 1⟩
def Fld.lfStatusLogBusy : Fld := ⟨Reg.lfStatus, 3, 1⟩
def Fld.lfStatusStopped : Fld := ⟨Reg.lfStatus, 4, 1⟩
/-- `LAST_SEQ_A` (R609) -/
def Reg.lastSeqA : RegDef := ⟨0x22020, 1, 0x0, 1, 0x0, 0x0, 0x0, 0x0, 0x0, 0x0, 0x0, 0x0⟩
def Fld.lastSeqASeq : Fld := ⟨Reg.lastSeqA, 0, 32⟩
/-- `LAST_SEQ_B` (R609) -/
def Reg.lastSeqB : RegDef := ⟨0x22024, 1, 0x0, 1, 0x0, 0x0, 0x0, 0x0, 0x0, 0x0, 0x0, 0x0⟩
def Fld.lastSeqBSeq : Fld := ⟨Reg.lastSeqB, 0, 32⟩
/-- `LAST_STATUS` (R609) -/
def Reg.lastStatus : RegDef := ⟨0x22028, 1, 0x0, 1, 0x0, 0x0, 0x0, 0x0, 0x0, 0x4, 0x0, 0x0⟩
def Fld.lastStatusValidA : Fld := ⟨Reg.lastStatus, 0, 1⟩
def Fld.lastStatusValidB : Fld := ⟨Reg.lastStatus, 1, 1⟩
def Fld.lastStatusTie : Fld := ⟨Reg.lastStatus, 2, 1⟩
def Fld.lastStatusWide : Fld := ⟨Reg.lastStatus, 3, 1⟩
/-- `LOG_STATUS` (R609) -/
def Reg.logStatus : RegDef := ⟨0x22030, 1, 0x0, 1, 0x0, 0x0, 0x0, 0x0, 0x0, 0x7, 0x0, 0xf8⟩
def Fld.logStatusCompleted : Fld := ⟨Reg.logStatus, 0, 1⟩
def Fld.logStatusRolledBack : Fld := ⟨Reg.logStatus, 1, 1⟩
def Fld.logStatusDamaged : Fld := ⟨Reg.logStatus, 2, 1⟩
def Fld.logStatusQueue : Fld := ⟨Reg.logStatus, 8, 8⟩
/-- `OTP_CTL` (R609) -/
def Reg.otpCtl : RegDef := ⟨0x22040, 1, 0x0, 1, 0x0, 0x0, 0xf, 0x0, 0x0, 0x0, 0x0, 0xfffffff0⟩
def Fld.otpCtlRecord : Fld := ⟨Reg.otpCtl, 0, 3⟩
def Fld.otpCtlBurn : Fld := ⟨Reg.otpCtl, 3, 1⟩
/-- `OTP_STATUS` (R609) -/
def Reg.otpStatus : RegDef := ⟨0x22044, 1, 0x0, 1, 0x0, 0x0, 0x0, 0x0, 0x0, 0x0, 0x0, 0x0⟩
def Fld.otpStatusBusy : Fld := ⟨Reg.otpStatus, 0, 1⟩
def Fld.otpStatusFail : Fld := ⟨Reg.otpStatus, 1, 1⟩
def Fld.otpStatusRefused : Fld := ⟨Reg.otpStatus, 2, 1⟩
/-- `OTP_SLOT` (R609) -/
def Reg.otpSlot : RegDef := ⟨0x22048, 1, 0x0, 1, 0x0, 0x1fffff, 0x0, 0x0, 0x0, 0x0, 0x0, 0x0⟩
/-- `OTP_SLOT.SLOT` of index j, class RS -/
def Fld.otpSlotSlot (j : Nat) : Fld := ⟨Reg.otpSlot, 3 * j + 0, 3⟩
/-- `FL_CNT_PROG` (R609) -/
def Reg.flCntProg : RegDef := ⟨0x22080, 1, 0x0, 1, 0x0, 0x0, 0x0, 0x0, 0x0, 0x0, 0xffffffff, 0x0⟩
def Fld.flCntProgCount : Fld := ⟨Reg.flCntProg, 0, 32⟩
/-- `FL_CNT_ERASE` (R609) -/
def Reg.flCntErase : RegDef := ⟨0x22084, 1, 0x0, 1, 0x0, 0x0, 0x0, 0x0, 0x0, 0x0, 0xffffffff, 0x0⟩
def Fld.flCntEraseCount : Fld := ⟨Reg.flCntErase, 0, 32⟩
/-- `FL_CNT_ERR` (R609) -/
def Reg.flCntErr : RegDef := ⟨0x22088, 1, 0x0, 1, 0x0, 0x0, 0x0, 0x0, 0x0, 0x0, 0xffffffff, 0x0⟩
def Fld.flCntErrCount : Fld := ⟨Reg.flCntErr, 0, 32⟩
/-- `FL_CNT_LOG` (R609) -/
def Reg.flCntLog : RegDef := ⟨0x2208c, 1, 0x0, 1, 0x0, 0x0, 0x0, 0x0, 0x0, 0x0, 0xffffffff, 0x0⟩
def Fld.flCntLogCount : Fld := ⟨Reg.flCntLog, 0, 32⟩
/-- `FL_CNT_COMPLETE` (R609) -/
def Reg.flCntComplete : RegDef := ⟨0x22090, 1, 0x0, 1, 0x0, 0x0, 0x0, 0x0, 0x0, 0x0, 0xffffffff, 0x0⟩
def Fld.flCntCompleteCount : Fld := ⟨Reg.flCntComplete, 0, 32⟩
/-- `FL_CNT_ROLLBACK` (R609) -/
def Reg.flCntRollback : RegDef := ⟨0x22094, 1, 0x0, 1, 0x0, 0x0, 0x0, 0x0, 0x0, 0x0, 0xffffffff, 0x0⟩
def Fld.flCntRollbackCount : Fld := ⟨Reg.flCntRollback, 0, 32⟩
/-- `OTP_CNT_BURN` (R609) -/
def Reg.otpCntBurn : RegDef := ⟨0x22098, 1, 0x0, 1, 0x0, 0x0, 0x0, 0x0, 0x0, 0x0, 0xffffffff, 0x0⟩
def Fld.otpCntBurnCount : Fld := ⟨Reg.otpCntBurn, 0, 32⟩
/-- `FL_CNT_SAT` (R609) -/
def Reg.flCntSat : RegDef := ⟨0x2209c, 1, 0x0, 1, 0x0, 0x0, 0x0, 0x0, 0x0, 0x0, 0x0, 0x0⟩
def Fld.flCntSatSat : Fld := ⟨Reg.flCntSat, 0, 7⟩
/-- `OTP_BUF` (R609) -/
def Reg.otpBuf : RegDef := ⟨0x22200, 128, 0x4, 1, 0x0, 0x0, 0xffffffff, 0x0, 0x0, 0x0, 0x0, 0x0⟩
def Fld.otpBufData : Fld := ⟨Reg.otpBuf, 0, 32⟩
/-- `LF_BUF` (R609) -/
def Reg.lfBuf : RegDef := ⟨0x22400, 64, 0x4, 1, 0x0, 0x0, 0xffffffff, 0x0, 0x0, 0x0, 0x0, 0x0⟩
def Fld.lfBufData : Fld := ⟨Reg.lfBuf, 0, 32⟩
/-- `CHAIN_STATUS` (R464) -/
def Reg.chainStatus : RegDef := ⟨0x23000, 1, 0x0, 1, 0x0, 0x0, 0x0, 0x0, 0x0, 0x400, 0x0, 0x0⟩
def Fld.chainStatusAddr : Fld := ⟨Reg.chainStatus, 0, 6⟩
def Fld.chainStatusSource : Fld := ⟨Reg.chainStatus, 6, 2⟩
def Fld.chainStatusValid : Fld := ⟨Reg.chainStatus, 8, 1⟩
def Fld.chainStatusTiedLow : Fld := ⟨Reg.chainStatus, 9, 1⟩
def Fld.chainStatusOverflow : Fld := ⟨Reg.chainStatus, 10, 1⟩
/-- `CHAIN_CTL` (R464) -/
def Reg.chainCtl : RegDef := ⟨0x23004, 1, 0x0, 1, 0x0, 0x3, 0x0, 0x3, 0x0, 0x0, 0x0, 0xfffffffc⟩
def Fld.chainCtlSafeEn : Fld := ⟨Reg.chainCtl, 0, 1⟩
def Fld.chainCtlWrEn : Fld := ⟨Reg.chainCtl, 1, 1⟩
/-- `CHAIN_CNT_FRAME` (R464) -/
def Reg.chainCntFrame : RegDef := ⟨0x23040, 1, 0x0, 1, 0x0, 0x0, 0x0, 0x0, 0x0, 0x0, 0xffffffff, 0x0⟩
def Fld.chainCntFrameCount : Fld := ⟨Reg.chainCntFrame, 0, 32⟩
/-- `CHAIN_CNT_CRC` (R464) -/
def Reg.chainCntCrc : RegDef := ⟨0x23044, 1, 0x0, 1, 0x0, 0x0, 0x0, 0x0, 0x0, 0x0, 0xffffffff, 0x0⟩
def Fld.chainCntCrcCount : Fld := ⟨Reg.chainCntCrc, 0, 32⟩
/-- `CHAIN_CNT_ADDR` (R464) -/
def Reg.chainCntAddr : RegDef := ⟨0x23048, 1, 0x0, 1, 0x0, 0x0, 0x0, 0x0, 0x0, 0x0, 0xffffffff, 0x0⟩
def Fld.chainCntAddrCount : Fld := ⟨Reg.chainCntAddr, 0, 32⟩
/-- `CHAIN_CNT_DUP` (R464) -/
def Reg.chainCntDup : RegDef := ⟨0x2304c, 1, 0x0, 1, 0x0, 0x0, 0x0, 0x0, 0x0, 0x0, 0xffffffff, 0x0⟩
def Fld.chainCntDupCount : Fld := ⟨Reg.chainCntDup, 0, 32⟩
/-- `CHAIN_CNT_SAT` (R464) -/
def Reg.chainCntSat : RegDef := ⟨0x2305c, 1, 0x0, 1, 0x0, 0x0, 0x0, 0x0, 0x0, 0x0, 0x0, 0x0⟩
def Fld.chainCntSatSat : Fld := ⟨Reg.chainCntSat, 0, 4⟩
/-- `SB_CTL` (R347) -/
def Reg.sbCtl : RegDef := ⟨0x23400, 4, 0x40, 1, 0x0, 0x15, 0x0, 0x3f, 0x0, 0x0, 0x0, 0xffffffc0⟩
def Fld.sbCtlI2cRate : Fld := ⟨Reg.sbCtl, 0, 2⟩
def Fld.sbCtlI3cEn : Fld := ⟨Reg.sbCtl, 2, 1⟩
def Fld.sbCtlI3cRate : Fld := ⟨Reg.sbCtl, 3, 2⟩
def Fld.sbCtlWrEn : Fld := ⟨Reg.sbCtl, 5, 1⟩
/-- `SB_STATUS` (R347) -/
def Reg.sbStatus : RegDef := ⟨0x23404, 4, 0x40, 1, 0x0, 0x0, 0x0, 0x0, 0x0, 0x8, 0x0, 0xf0⟩
def Fld.sbStatusMode : Fld := ⟨Reg.sbStatus, 0, 1⟩
def Fld.sbStatusBusy : Fld := ⟨Reg.sbStatus, 1, 1⟩
def Fld.sbStatusErr : Fld := ⟨Reg.sbStatus, 2, 1⟩
def Fld.sbStatusStuck : Fld := ⟨Reg.sbStatus, 3, 1⟩
def Fld.sbStatusPresent : Fld := ⟨Reg.sbStatus, 8, 8⟩
/-- `SB_XFER` (R347) -/
def Reg.sbXfer : RegDef := ⟨0x23408, 4, 0x40, 1, 0x0, 0x0, 0x7ff03df, 0x0, 0x0, 0x0, 0x0, 0xf800fc20⟩
def Fld.sbXferSlot : Fld := ⟨Reg.sbXfer, 0, 3⟩
def Fld.sbXferDev : Fld := ⟨Reg.sbXfer, 3, 2⟩
def Fld.sbXferWrite : Fld := ⟨Reg.sbXfer, 6, 1⟩
def Fld.sbXferGo : Fld := ⟨Reg.sbXfer, 7, 1⟩
def Fld.sbXferLen : Fld := ⟨Reg.sbXfer, 8, 2⟩
def Fld.sbXferOffset : Fld := ⟨Reg.sbXfer, 16, 11⟩
/-- `SB_DATA` (R347) -/
def Reg.sbData : RegDef := ⟨0x2340c, 4, 0x40, 1, 0x0, 0x0, 0xffffffff, 0x0, 0x0, 0x0, 0x0, 0x0⟩
def Fld.sbDataData : Fld := ⟨Reg.sbData, 0, 32⟩
/-- `SB_CNT_NACK` (R347) -/
def Reg.sbCntNack : RegDef := ⟨0x23410, 4, 0x40, 1, 0x0, 0x0, 0x0, 0x0, 0x0, 0x0, 0xffffffff, 0x0⟩
def Fld.sbCntNackCount : Fld := ⟨Reg.sbCntNack, 0, 32⟩
/-- `SB_CNT_TIMEOUT` (R347) -/
def Reg.sbCntTimeout : RegDef := ⟨0x23414, 4, 0x40, 1, 0x0, 0x0, 0x0, 0x0, 0x0, 0x0, 0xffffffff, 0x0⟩
def Fld.sbCntTimeoutCount : Fld := ⟨Reg.sbCntTimeout, 0, 32⟩
/-- `SB_CNT_STUCK` (R347) -/
def Reg.sbCntStuck : RegDef := ⟨0x23418, 4, 0x40, 1, 0x0, 0x0, 0x0, 0x0, 0x0, 0x0, 0xffffffff, 0x0⟩
def Fld.sbCntStuckCount : Fld := ⟨Reg.sbCntStuck, 0, 32⟩
/-- `SB_CNT_SAT` (R347) -/
def Reg.sbCntSat : RegDef := ⟨0x2341c, 4, 0x40, 1, 0x0, 0x0, 0x0, 0x0, 0x0, 0x0, 0x0, 0x0⟩
def Fld.sbCntSatSat : Fld := ⟨Reg.sbCntSat, 0, 3⟩
/-- `AWL_KEY` (R416) -/
def Reg.awlKey : RegDef := ⟨0x30000, 1, 0x0, 1, 0x0, 0x0, 0xffff, 0x0, 0x0, 0x0, 0x0, 0x0⟩
def Fld.awlKeyKey : Fld := ⟨Reg.awlKey, 0, 16⟩
/-- `AWL_STATUS` (R416) -/
def Reg.awlStatus : RegDef := ⟨0x30004, 1, 0x0, 1, 0x0, 0x0, 0x0, 0x0, 0x0, 0x0, 0x0, 0x0⟩
def Fld.awlStatusUnlocked : Fld := ⟨Reg.awlStatus, 0, 1⟩
def Fld.awlStatusActive : Fld := ⟨Reg.awlStatus, 1, 1⟩
/-- `AWL_BP_SEED` (R416) -/
def Reg.awlBpSeed : RegDef := ⟨0x30010, 1, 0x0, 1, 0x0, 0x1, 0x0, 0xffff, 0x0, 0x0, 0x0, 0x0⟩
def Fld.awlBpSeedSeed : Fld := ⟨Reg.awlBpSeed, 0, 16⟩
/-- `AWL_DLJ` (R416) -/
def Reg.awlDlj : RegDef := ⟨0x30014, 1, 0x0, 1, 0x0, 0x0, 0x0, 0xfff, 0x0, 0x0, 0x0, 0x0⟩
def Fld.awlDljPorts : Fld := ⟨Reg.awlDlj, 0, 8⟩
def Fld.awlDljSpan : Fld := ⟨Reg.awlDlj, 8, 4⟩
/-- `AWL_BP` (R416) -/
def Reg.awlBp : RegDef := ⟨0x30020, 9, 0x4, 1, 0x0, 0x0, 0x0, 0xfff, 0x0, 0x0, 0x0, 0x0⟩
def Fld.awlBpDuty : Fld := ⟨Reg.awlBp, 0, 8⟩
def Fld.awlBpBurst : Fld := ⟨Reg.awlBp, 8, 3⟩
def Fld.awlBpDir : Fld := ⟨Reg.awlBp, 11, 1⟩
/-- `AWL_STRETCH_MASK` (R416) -/
def Reg.awlStretchMask : RegDef := ⟨0x30080, 16, 0x4, 1, 0x0, 0x0, 0x0, 0x1fffffff, 0x0, 0x0, 0x0, 0x0⟩
def Fld.awlStretchMaskParam : Fld := ⟨Reg.awlStretchMask, 0, 29⟩
/-- `AWL_STRETCH` (R416) -/
def Reg.awlStretch : RegDef := ⟨0x300c0, 16, 0x4, 1, 0x0, 0x0, 0x0, 0xf, 0x0, 0x0, 0x0, 0x0⟩
def Fld.awlStretchClocks : Fld := ⟨Reg.awlStretch, 0, 4⟩
/-- `AWL_DELAY` (R416) -/
def Reg.awlDelay : RegDef := ⟨0x30100, 64, 0x4, 1, 0x0, 0x0, 0x0, 0xff, 0x0, 0x0, 0x0, 0x0⟩
def Fld.awlDelaySteps : Fld := ⟨Reg.awlDelay, 0, 8⟩

/-! The registers by 4 KiB group of the window (R652). -/

def regs00_0 : List RegDef := [Reg.blkId, Reg.blkUnit, Reg.blkMode, Reg.blkModeReq, Reg.blkStart, Reg.blkStatus, Reg.blkReady, Reg.blkCntMode, Reg.blkCntRefused, Reg.blkCntLastSkip, Reg.blkCntWarm, Reg.blkCntWarmLost, Reg.blkCntSat, Reg.tbNow, Reg.uptimeLo, Reg.uptimeHi]
def regs00_1 : List RegDef := [Reg.refclkStatus, Reg.coreSpeed, Reg.coreSpeedCtl, Reg.coreTemp, Reg.coreVdd, Reg.coreSpeedMon, Reg.coreCntSlow, Reg.tbCntRefclk, Reg.coreCntSat]
def regs00 : List RegDef := regs00_0 ++ regs00_1

def regs01_0 : List RegDef := [Reg.cfgHold, Reg.cfgStatus, Reg.clrCmd, Reg.beamCtl, Reg.beamStatus, Reg.beamTick, Reg.eyeletSel, Reg.eyeletCtl, Reg.eyeletStatus, Reg.regCntAccess, Reg.regCntReject, Reg.regCntSat, Reg.eyeletData]
def regs01 : List RegDef := regs01_0

def regs02_0 : List RegDef := [Reg.evqCtl, Reg.evqCount, Reg.evqPopStatus, Reg.evqItem, Reg.evqCntPush, Reg.evqCntDrop, Reg.evqCntParity, Reg.evqCntFlush, Reg.evqCntSat]
def regs02 : List RegDef := regs02_0

def regs03_0 : List RegDef := [Reg.fltCtl, Reg.fltEpisode, Reg.fltQuiet, Reg.fltRlimit, Reg.fltRcount, Reg.fltEpStartLo, Reg.fltEpStartHi, Reg.fltEpLen, Reg.fltStatus, Reg.fltHist, Reg.fltForce, Reg.fltBroken, Reg.fltCntCorr, Reg.fltCntCont, Reg.fltCntFatal, Reg.fltCntBroken]
def regs03_1 : List RegDef := [Reg.fltCntMerged, Reg.fltCntSat]
def regs03 : List RegDef := regs03_0 ++ regs03_1

def regs04_0 : List RegDef := [Reg.wpCtl, Reg.wpState, Reg.wpHcred, Reg.wpDcred, Reg.wpDcredHeld, Reg.wpCcred, Reg.wpOutstanding, Reg.wpHist, Reg.wpCcredAdv, Reg.wpLastErr, Reg.wpLastLate, Reg.wpArrival, Reg.wpHead, Reg.wpResyncLast, Reg.wpLastDenied, Reg.wpCntReq]
def regs04_1 : List RegDef := [Reg.wpCntHdrCrc, Reg.wpCntLineCrc, Reg.wpCntMalformed, Reg.wpCntTagReuse, Reg.wpCntAborted, Reg.wpCntResync, Reg.wpCntLineInLo, Reg.wpCntLineInHi, Reg.wpCntLineOutLo, Reg.wpCntLineOutHi, Reg.wpCntSat]
def regs04 : List RegDef := regs04_0 ++ regs04_1

def regs06_0 : List RegDef := [Reg.ctxSel, Reg.ctxCmd, Reg.ctxStatus, Reg.ctxCfg, Reg.ctxBudget, Reg.ctxThr, Reg.ctxCntReq, Reg.ctxCntMiss, Reg.ctxCntLineRd, Reg.ctxCntLineWr, Reg.ctxCntAlert, Reg.ctxCntHeld, Reg.ctxCntDenied, Reg.ctxCntPAsT, Reg.ctxCntSat, Reg.arbFar]
def regs06_1 : List RegDef := [Reg.thrCtl]
def regs06 : List RegDef := regs06_0 ++ regs06_1

def regs08_0 : List RegDef := [Reg.ldgHostFree, Reg.ldgHostBorrow, Reg.ldgResFill, Reg.ldgResOffer, Reg.ldgResTag, Reg.ldgResMove, Reg.ldgHostWp, Reg.consFbufA, Reg.consFbufB, Reg.consMreq, Reg.consMoffer, Reg.consDirtyHeld, Reg.consDirtyFree, Reg.consDcred, Reg.consCcred, Reg.consStatus]
def regs08_1 : List RegDef := [Reg.ldgCntHazard, Reg.ldgCntFwd, Reg.ldgCntSupersede, Reg.ldgCntEvictCancel, Reg.ldgCntReoffer, Reg.ldgCntVictimRedo, Reg.ldgCntNoalloc, Reg.ldgCntNarrow, Reg.ldgCntHeadHold, Reg.ldgCntWithdraw, Reg.ldgCntSat, Reg.ldgInspSel, Reg.ldgInspStatus, Reg.ldgInspData]
def regs08 : List RegDef := regs08_0 ++ regs08_1

def regs09_0 : List RegDef := [Reg.tierCtl, Reg.fillGran, Reg.tierStatus, Reg.tierHashSeedLo, Reg.tierHashSeedHi, Reg.tierLfsrSeed, Reg.dirtyBudget, Reg.dirtyCtl, Reg.pidxUsed, Reg.tierLostSel, Reg.tierLostData, Reg.tierPlainPages, Reg.chMap, Reg.tierGeom, Reg.tierSweep, Reg.tierRetired]
def regs09_1 : List RegDef := [Reg.tierCntHit, Reg.tierCntMiss, Reg.tierCntTcMiss, Reg.tierCntAlloc, Reg.tierCntFillLines, Reg.tierCntOfferDirty, Reg.tierCntOfferClean, Reg.tierCntBypass, Reg.tierCntVThrough, Reg.tierCntTagCorr, Reg.tierCntTagLost, Reg.tierCntPoisonSet, Reg.tierCntRetire, Reg.tierCntSat, Reg.tagSel, Reg.tagCmd]
def regs09_2 : List RegDef := [Reg.tagStatus, Reg.tagData]
def regs09 : List RegDef := regs09_0 ++ regs09_1 ++ regs09_2

def regs0a_0 : List RegDef := [Reg.mpCtl, Reg.mpState, Reg.mpDefer, Reg.mpFlushLeft, Reg.mpIfrev, Reg.mpOpen, Reg.mpDeferred, Reg.mpHist, Reg.mpLastProto, Reg.mpHoldupTime, Reg.mpCntFillReq, Reg.mpCntFillLines, Reg.mpCntFillPoison, Reg.mpCntOfferDirty, Reg.mpCntOfferClean, Reg.mpCntAcceptClean]
def regs0a_1 : List RegDef := [Reg.mpCntDecline, Reg.mpCntDefer, Reg.mpCntDeferLong, Reg.mpCntWithdraw, Reg.mpCntWt, Reg.mpCntStale, Reg.mpCntLineCrc, Reg.mpCntProto, Reg.mpCntResync, Reg.mpCntSat, Reg.mpArbCtl, Reg.mpArbStatus, Reg.mpArbPreempt, Reg.mpCntMiss, Reg.mpCntPreempt, Reg.mpCntNopreempt]
def regs0a_2 : List RegDef := [Reg.mpCntDead, Reg.mpCntOverdue, Reg.mpArbSat, Reg.mpCntRange]
def regs0a : List RegDef := regs0a_0 ++ regs0a_1 ++ regs0a_2

def regs10_0 : List RegDef := [Reg.chState, Reg.chSvc, Reg.chSvcRow, Reg.chRetrain, Reg.chPprFree, Reg.chCntFence, Reg.chCntRetrain, Reg.chCntRetrainFail, Reg.chCntPprSoft, Reg.chCntPprHard, Reg.chCntPprNone, Reg.chCntSalvage, Reg.chSvcSat, Reg.chArbCtl, Reg.chArbStatus, Reg.chArbPreempt]
def regs10_1 : List RegDef := [Reg.chCntMiss, Reg.chCntPreempt, Reg.chCntNopreempt, Reg.chCntDead, Reg.chCntHeld, Reg.chCntOverdue, Reg.chArbSat, Reg.chTimA, Reg.chTimB, Reg.chTimC, Reg.chTimD, Reg.chTimE, Reg.chTimF, Reg.chTimG, Reg.chTimH, Reg.chTimI]
def regs10_2 : List RegDef := [Reg.chTimJ, Reg.chTimK, Reg.chIssue, Reg.chPage, Reg.chRef, Reg.chRefStatus, Reg.chTemp, Reg.chTempStatus, Reg.chRowp, Reg.chRowpWin, Reg.chEcc, Reg.chEccMode, Reg.chMark, Reg.chEccSuspect, Reg.chScrub, Reg.chScrubPos]
def regs10_3 : List RegDef := [Reg.chScrubLast, Reg.chFreq, Reg.chFspRate, Reg.chSrStatus, Reg.chCntActLo, Reg.chCntActHi, Reg.chCntRdLo, Reg.chCntRdHi, Reg.chCntWrLo, Reg.chCntWrHi, Reg.chCntPageHitLo, Reg.chCntPageHitHi, Reg.chCntPageConflict, Reg.chCntIdlePre, Reg.chCntRef, Reg.chCntRefPostponed]
def regs10_4 : List RegDef := [Reg.chCntRefForced, Reg.chCntRowAlert, Reg.chCntNbrRef, Reg.chCntRfmRaa, Reg.chCntCe, Reg.chCntCeWb, Reg.chCntUe, Reg.chCntScrubUeFree, Reg.chCntScrubPass, Reg.chCntSrEntry, Reg.chCntSrAbandon, Reg.chCntSrWait, Reg.chCntAbacusHold, Reg.chCntTemp2x, Reg.chCntFreq, Reg.chCntFreqRetry]
def regs10_5 : List RegDef := [Reg.chSchedSat, Reg.phyPop, Reg.phyStatus, Reg.phyVddq, Reg.phyTap, Reg.phyZq, Reg.phyZqCtl, Reg.phyDrv, Reg.phyEq, Reg.phyEndtap, Reg.phyCtl, Reg.phySpareInv, Reg.phySpareMap, Reg.phyLaneSel, Reg.phyLaneData, Reg.phyCntSpare]
def regs10_6 : List RegDef := [Reg.phyCntEndtap, Reg.phyCntVddq, Reg.phyCntLaneWeak, Reg.phyCntAlert, Reg.phyCntSat, Reg.trnCtl, Reg.trnStatus, Reg.trimValid, Reg.calGate, Reg.calCheck, Reg.calPeriod, Reg.calStatus, Reg.calFailInfo, Reg.calLastLo, Reg.calLastHi, Reg.calCnt]
def regs10_7 : List RegDef := [Reg.calCntFail, Reg.calCntFallback, Reg.calCntTaps, Reg.calCntSlot, Reg.trnCntRun, Reg.trnCntAbort, Reg.calCntSat]
def regs10 : List RegDef := regs10_0 ++ regs10_1 ++ regs10_2 ++ regs10_3 ++ regs10_4 ++ regs10_5 ++ regs10_6 ++ regs10_7

def regs20_0 : List RegDef := [Reg.sramStatus, Reg.sramBgtCtl, Reg.sramBgtPos, Reg.sramMtCtl, Reg.sramMtStatus, Reg.sramGroupSel, Reg.sramGroupData, Reg.sramCntCollide, Reg.sramCntBankWait, Reg.sramCntRedirect, Reg.sramCntBgtRegion, Reg.sramCntBgtAbandon, Reg.sramCntBgtSkip, Reg.sramCntBgtPass, Reg.sramCntRepair, Reg.sramCntMtRun]
def regs20_1 : List RegDef := [Reg.sramCntSat, Reg.sramCntCe, Reg.sramCntUe, Reg.sramCntSatArr]
def regs20 : List RegDef := regs20_0 ++ regs20_1

def regs21_0 : List RegDef := [Reg.svcPolicy, Reg.svcOtp, Reg.spareInvLane, Reg.spareInvEndtap, Reg.spareInvPpr, Reg.spareInvMarkLo, Reg.spareInvMarkHi, Reg.spareInvWay, Reg.spareInvSram, Reg.spareInvOtp, Reg.spareInvImg, Reg.spareInvCh, Reg.imgCtl, Reg.imgStatus, Reg.imgPseqVer, Reg.imgTseqVer]
def regs21_1 : List RegDef := [Reg.svcCntRefused, Reg.svcCntGroup, Reg.svcCntImgSwitch, Reg.svcCntImgRefused, Reg.svcCntSat]
def regs21 : List RegDef := regs21_0 ++ regs21_1

def regs22_0 : List RegDef := [Reg.lfInfo, Reg.lfCtl, Reg.lfXfer, Reg.lfAddr, Reg.lfStatus, Reg.lastSeqA, Reg.lastSeqB, Reg.lastStatus, Reg.logStatus, Reg.otpCtl, Reg.otpStatus, Reg.otpSlot, Reg.flCntProg, Reg.flCntErase, Reg.flCntErr, Reg.flCntLog]
def regs22_1 : List RegDef := [Reg.flCntComplete, Reg.flCntRollback, Reg.otpCntBurn, Reg.flCntSat, Reg.otpBuf, Reg.lfBuf]
def regs22 : List RegDef := regs22_0 ++ regs22_1

def regs23_0 : List RegDef := [Reg.chainStatus, Reg.chainCtl, Reg.chainCntFrame, Reg.chainCntCrc, Reg.chainCntAddr, Reg.chainCntDup, Reg.chainCntSat, Reg.sbCtl, Reg.sbStatus, Reg.sbXfer, Reg.sbData, Reg.sbCntNack, Reg.sbCntTimeout, Reg.sbCntStuck, Reg.sbCntSat]
def regs23 : List RegDef := regs23_0

def regs30_0 : List RegDef := [Reg.awlKey, Reg.awlStatus, Reg.awlBpSeed, Reg.awlDlj, Reg.awlBp, Reg.awlStretchMask, Reg.awlStretch, Reg.awlDelay]
def regs30 : List RegDef := regs30_0

/-- The registers of one 4 KiB group; `page` is offset bits [19:12] (R652). Channels 0 to 15 share one table. -/
def pageRegs (page : Nat) : List RegDef :=
  if page = 0 then regs00
  else if page = 1 then regs01
  else if page = 2 then regs02
  else if page = 3 then regs03
  else if page = 4 then regs04
  else if page = 6 then regs06
  else if page = 8 then regs08
  else if page = 9 then regs09
  else if page = 10 then regs0a
  else if 16 ≤ page ∧ page < 32 then regs10
  else if page = 32 then regs20
  else if page = 33 then regs21
  else if page = 34 then regs22
  else if page = 35 then regs23
  else if page = 48 then regs30
  else []

/-- The instance numbers of a register that stands at an offset, if it does. -/
def RegDef.find (r : RegDef) (off : Nat) : Option (Nat × Nat) :=
  if off < r.base then none else
    let d := off - r.base
    let i := if r.n1 ≤ 1 then 0 else d / r.s1
    let e := if r.n1 ≤ 1 then d else d % r.s1
    let k := if r.n2 ≤ 1 then 0 else e / r.s2
    let z := if r.n2 ≤ 1 then e else e % r.s2
    if z = 0 ∧ i < r.n1 ∧ k < r.n2 then some (i, k) else none

/-- The register at a window offset, if any (R613). -/
def findReg (off : Nat) : Option RegDef := (pageRegs (off / 4096)).find? (fun r => (r.find off).isSome)

/-- The word that an offset reads after a cold reset (R654); 0 where no register stands. -/
def resetWord (off : Nat) : Word :=
  match findReg off with
  | some r => r.reset
  | none => 0

end Sys2Proof.Machine
end

