-- ==== Sys2Proof/Machine/State.lean ====
section
/-! DEFINITION. The state of the TE9 as plain data: its registers, its pins, the Welt ports, the line ledger, the DRAM
tier, the media port, the sixteen channels and the block's engines, beside the queue of the commands that wait. -/

namespace Sys2Proof.Machine

/-- Why the block stops. No command of the table stops it: an error of the hardware is a next state, with the error
reported (R517). The one constructor is raised by no meaning; it keeps the type closed and inhabited. Safe. -/
inductive Fault where
  /-- raised by no meaning; safe -/
  | unreachable
  deriving DecidableEq, Repr

/-- Why a command is refused. -/
inductive Refusal where
  /-- the command has no meaning yet; raised by the dispatcher only; safe -/
  | notModelled (mnemonic : String)
  deriving DecidableEq, Repr

/-- The operating modes (R2, R449). -/
inductive Mode where
  | reset | enumerate | load | train | plain | tiered | drain | bypass | holdup | safe | recover | test
  deriving DecidableEq, Repr

/-- The mode codes of R2, read at `BLK_MODE.MODE`. -/
def Mode.code : Mode → Nat
  | .reset => 0 | .enumerate => 1 | .load => 2 | .train => 3 | .plain => 4 | .tiered => 5
  | .drain => 6 | .bypass => 7 | .holdup => 8 | .safe => 9 | .recover => 10 | .test => 11

/-- The mode that a code names, if one does (R2). -/
def Mode.ofCode : Nat → Option Mode
  | 0 => some .reset | 1 => some .enumerate | 2 => some .load | 3 => some .train | 4 => some .plain
  | 5 => some .tiered | 6 => some .drain | 7 => some .bypass | 8 => some .holdup | 9 => some .safe
  | 10 => some .recover | 11 => some .test | _ => none

/-- The four classes of a request (R64). -/
inductive Cls where
  | v | p | t | u
  deriving DecidableEq, Repr

/-! ### Event queue (R638–R649) -/

/-- One item of the event queue: its four words (R638) with the parity of each (R646). -/
structure EvItem where
  prio : Nat
  gap : Bool
  code : Nat
  seq : Nat
  tick : Tick
  source : Nat
  d0 : Word
  d1 : Word
  /-- bit i: word i fails its parity -/
  bad : BitVec 4 := 0
  deriving DecidableEq, Repr

/-- An event that has reached the input stage and waits for a handshake (R641). -/
structure EvPush where
  prio : Nat
  code : Nat
  tick : Tick
  source : Nat
  d0 : Word
  d1 : Word
  deriving DecidableEq, Repr

/-- The event queue. `items` holds the general slots and the gap markers in the order in which they were accepted. -/
structure EvQueue where
  items : List EvItem := []
  seq : Nat := 0
  stage : List EvPush := []
  deriving DecidableEq, Repr

/-! ### Fault collector (R517–R545) -/

/-- The collector's view of the 96 pairs, and its episode list. -/
structure FaultNet where
  /-- bit s: the source end drives pair s into error -/
  err : BitVec 96 := 0
  /-- bit s: pair s is broken (R522) -/
  broken : BitVec 96 := 0
  /-- source and epoch of the source's latest EV_FLT_CORR (R517) -/
  corrAt : KMap Nat := []
  /-- uptimes in µs of the latest 16 episode starts, newest first (R540) -/
  episodes : List Nat := []
  /-- the open episode's start, and the errors merged into it -/
  merged : Nat := 0
  /-- SAFE was entered from HOLDUP (R457) -/
  fromHoldup : Bool := false
  /-- sources that the command in progress put into error, not yet taken by the collector; empty between commands -/
  raised : List (Nat × Option Nat) := []
  /-- the cause of SAFE is fault source 77, so RECOVER reloads the PSEQ image (R526) -/
  reloadPseq : Bool := false
  /-- RECOVER has relocked and completes what the ledger kept (R544 step 6): `mode` holds the mode that it returns to -/
  finishing : Bool := false
  deriving DecidableEq, Repr

/-! ### Welt ports (R15–R60) -/

/-- Port states of R51. -/
inductive PortSt where
  | closed | opened | quiesce | resync
  deriving DecidableEq, Repr

/-- Codes of R51, read at `WP_STATE.STATE`. -/
def PortSt.code : PortSt → Nat
  | .closed => 0 | .opened => 1 | .quiesce => 2 | .resync => 3

/-- An outstanding request of a port: from its header's arrival until its LAST completion is sent (R40). -/
structure Req where
  /-- the model's own number of the request -/
  rid : Nat
  opcode : BitVec 8
  ctx : Nat
  tag : BitVec 16
  len : Nat
  addr : BitVec 52
  operand : BitVec 64
  pmap : Bool
  cls : Cls
  /-- the mode in force at arrival was PLAIN -/
  plain : Bool
  deadline : Tick
  arrival : Tick
  /-- chunk size of R37 at the stamp (R56) -/
  rdRun : Nat
  /-- the context's preemption rights at admission (R86, R100) -/
  rights : Bool
  /-- past the ingress stage -/
  admitted : Bool := false
  /-- payload lines received before admission, with their poison -/
  early : List (Line × Bool) := []
  /-- payload lines counted so far -/
  got : Nat := 0
  /-- the end mark has passed the check of R705; true from the start where no payload belongs to the packet -/
  ended : Bool
  /-- a payload line failed its check (R24) -/
  lineBad : Bool := false
  /-- line operations that have not completed -/
  left : Nat := 0
  /-- the first lines of the RD chunks already handed to the port's output (R37) -/
  chunks : List Nat := []
  /-- the LAST completion has been handed to the port's output -/
  finished : Bool := false
  /-- its header credit is still at the port (R42) -/
  hdrHeld : Bool := true
  /-- its place in the order of admissions (R108) -/
  adm : Nat := 0
  deriving DecidableEq, Repr

/-- The packet whose payload the port is receiving. -/
structure Rx where
  /-- the request, or none when the packet is being discarded -/
  rid : Option Nat
  opcode : BitVec 8
  tag : BitVec 16
  ctx : Nat
  len : Nat
  /-- payload lines received -/
  lines : Nat := 0
  /-- staging lines held for a discarded packet until its end mark -/
  held : Nat := 0
  /-- the header credit of a malformed packet, returned with its end mark (R32) -/
  hdr : Bool := false
  deriving DecidableEq, Repr

/-- A completion packet (R33). -/
structure Completion where
  rid : Nat
  opcode : BitVec 8
  last : Bool
  pmap : Bool
  ctx : Nat
  tag : BitVec 16
  lateness : Nat := 0
  status : Nat
  addr : BitVec 52
  operand : BitVec 64
  lines : List Line := []
  deadline : Tick
  deriving DecidableEq, Repr

/-- One Welt port. -/
structure Port where
  st : PortSt := .closed
  /-- completion credits the fabric advertised, once it has (R46) -/
  adv : Option Nat := none
  /-- header credits: in the header buffer and at the fabric (R42, R59) -/
  hPort : Nat := 0
  hFab : Nat := 0
  /-- data-line credits: at the fabric, and staging lines held (R43) -/
  dFab : Nat := 0
  staged : Nat := 0
  /-- data-line credits to keep back until the issued count is within a lowered limit (R44) -/
  dOver : Nat := 0
  /-- completion credits on hand, and those spent and not yet returned (R45) -/
  cAvail : Nat := 0
  cOut : Nat := 0
  /-- outstanding requests, oldest first -/
  reqs : List Req := []
  rx : Option Rx := none
  /-- completions waiting for completion credits, oldest first -/
  txq : List Completion := []
  /-- the head waits for entries under R79 -/
  headHeld : Bool := false
  /-- the LFSR of the deadline jitter (R414) -/
  dlj : BitVec 16 := 1
  deriving DecidableEq, Repr

/-! ### Contexts (R61–R102) -/

/-- One context's entry, its pending copy, its bucket and its counters. -/
structure Ctx where
  cfg : Word := 0x4
  budget : Word := 0x06400640
  step : Nat := 0
  tokens : Nat := 0
  /-- the copy that waits for its epoch boundary: configuration, budgets, and a step if one was written (R70) -/
  pend : Option (Word × Word × Option Nat) := none
  /-- the time base value of the next token (R95) -/
  refillAt : Option Tick := none
  /-- an alert named the context in the present throttle window (R96) -/
  named : Bool := false
  /-- the entry was found uncorrectable: ADMIT reads 0 until a WRITE applies (R520, source 72) -/
  dead : Bool := false
  cntReq : Nat := 0
  cntMiss : Nat := 0
  cntLineRd : Nat := 0
  cntLineWr : Nat := 0
  cntAlert : Nat := 0
  cntHeld : Nat := 0
  cntDenied : Nat := 0
  cntPAsT : Nat := 0
  deriving DecidableEq, Repr

/-- The counters of a context in the order of R66. -/
def Ctx.counters (c : Ctx) : List Nat :=
  [c.cntReq, c.cntMiss, c.cntLineRd, c.cntLineWr, c.cntAlert, c.cntHeld, c.cntDenied, c.cntPAsT]

/-- The context window (R66–R70): the words shown for the selected context. -/
structure CtxWin where
  /-- software has written `CTX_THR` since the latest write of `CTX_SEL` (R70) -/
  thrWritten : Bool := false
  /-- the captured counters (R69) -/
  captured : List Nat := []
  deriving DecidableEq, Repr

/-! ### Line ledger (R107–R154) -/

/-- Entry states of R119; FREE is absence from the list. -/
inductive LSt where
  | wait | run | staged | ready | offered | locked
  deriving DecidableEq, Repr

/-- Codes of R119. -/
def LSt.code : LSt → Nat
  | .wait => 1 | .run => 2 | .staged => 3 | .ready => 4 | .offered => 5 | .locked => 6

/-- Operation kinds of R154. -/
inductive LKind where
  | rd | wr | wrm | zero | flush | drop | prefetch | barrier | fetchAdd | swap | cas
  | fill | evict | clean | tagRead | tagWrite | move | scrub | bgt
  deriving DecidableEq, Repr

/-- Codes of R154. -/
def LKind.code : LKind → Nat
  | .rd => 0x00 | .wr => 0x01 | .wrm => 0x02 | .zero => 0x03 | .flush => 0x04 | .drop => 0x05 | .prefetch => 0x06
  | .barrier => 0x07 | .fetchAdd => 0x08 | .swap => 0x09 | .cas => 0x0A | .fill => 0x10 | .evict => 0x11
  | .clean => 0x12 | .tagRead => 0x13 | .tagWrite => 0x14 | .move => 0x15 | .scrub => 0x16 | .bgt => 0x17

/-- The pool an entry was taken from (R141, R142). -/
inductive Pool where
  | host | borrow | fillRes | offerRes | tagRes | moveRes
  deriving DecidableEq, Repr

/-- What an entry's line is: a media or flat line by its line address, a DRAM metadata line by its location (R117), or
nothing for a BARRIER (R136). -/
inductive LineKey where
  | host (line : Nat)
  | loc (ch : Nat) (addr : Nat)
  | none
  deriving DecidableEq, Repr

/-- How far a line operation has come. -/
inductive Phase where
  /-- nothing started yet -/
  | fresh
  /-- waits for its set in the tag cache -/
  | tag
  /-- its access `job` is offered to the channel -/
  | dram (job : Nat)
  /-- the channel has delivered the line into the data slot -/
  | got
  /-- waits for the fill -/
  | fill (id : Nat)
  /-- a write whose page is absent: waits for the allocation's switch point -/
  | alloc (id : Nat)
  /-- its frame is known (way), its frame write not yet offered -/
  | place (way : Nat)
  /-- its frame write is made, its directory update to come (R172) -/
  | settle (way : Nat)
  /-- its result is in its slot, its frame still to be found -/
  | result
  /-- waits for media's acceptance only -/
  | media
  /-- waits for the offer -/
  | offer (id : Nat)
  /-- nothing more to do but leave in a completion, or finished -/
  | over
  deriving DecidableEq, Repr

/-- One ledger entry (R118). -/
structure LEntry where
  idx : Nat
  kind : LKind
  st : LSt
  pool : Pool
  ctx : Nat
  port : Nat
  deadline : Tick
  overdue : Bool := false
  key : LineKey
  /-- the host request and the line's number in it -/
  rid : Option Nat := none
  no : Nat := 0
  cls : Cls := .v
  rights : Bool := false
  /-- channel and set of the line's page (R158, R204) -/
  ch : Nat := 0
  set : Nat := 0
  /-- byte mask of a WRM, operand of an atomic -/
  operand : BitVec 64 := 0
  /-- the byte offset of an atomic's word in its line -/
  off : Nat := 0
  phase : Phase := .fresh
  /-- served as bypass, decided at admission (R174, R190) -/
  bypass : Bool := false
  /-- admitted while its channel was FENCING (R190) -/
  fencing : Bool := false
  /-- its class has been settled against the dirty budget (R195) -/
  judged : Bool := false
  /-- its set lies on an UNCLEAN channel: answered under R477 -/
  unclean : Bool := false
  /-- the staged line and its poison -/
  stg : Option (Line × Bool) := none
  /-- the data slot and its poison -/
  slot : Option (Line × Bool) := none
  /-- the end mark has passed: the line may be seen by later entries (R705) -/
  vis : Bool := true
  /-- holds one unit of the dirty budget (R194) -/
  unit : Bool := false
  /-- a write-through of this line is owed (R188, R189) -/
  through : Bool := false
  /-- the write-through has been handed to the media port -/
  sent : Bool := false
  /-- the write-through has been accepted, or none is owed -/
  taken : Bool := false
  /-- the frame holds the line (the frame write is done or none is due) -/
  framed : Bool := false
  /-- the operation has completed towards its requester -/
  fin : Bool := false
  /-- counted as a hazard once (R150) -/
  hazard : Bool := false
  /-- the old value an atomic returns -/
  old : BitVec 64 := 0
  /-- the fill, offer or tag access an internal entry belongs to -/
  owner : Nat := 0
  deriving DecidableEq, Repr

/-! ### DRAM tier (R155–R210) -/

/-- The stored fields of a tag entry (R167); TCHK is computed when the entry is shown. -/
structure Tag where
  valid : BitVec 64 := 0
  dirty : BitVec 64 := 0
  poison : BitVec 64 := 0
  page : Nat := 0
  live : Bool := false
  persist : Bool := false
  retired : Bool := false
  retirePend : Bool := false
  deriving DecidableEq, Repr

/-- A set held in a channel's tag cache (R170). -/
structure CachedSet where
  set : Nat
  /-- a tag line changed since it was read (R171) -/
  changed : Bool := false
  deriving DecidableEq, Repr

/-- A fill (R186, R224). -/
structure Fill where
  id : Nat
  /-- fill buffer index and generation of the fill tag (R220) -/
  buf : Nat
  gen : Nat
  page : Nat
  ch : Nat
  set : Nat
  /-- the sectors fetched, those landed, and those landed poisoned -/
  want : BitVec 64
  landed : BitVec 64 := 0
  bad : BitVec 64 := 0
  demand : BitVec 64
  data : List (Nat × Line) := []
  ctx : Nat
  deadline : Tick
  /-- the FILL_REQ has been sent, and its LAST has arrived -/
  sent : Bool := false
  last : Bool := false
  /-- the allocation it belongs to, or the way of a sector miss -/
  alloc : Option Nat := none
  way : Option Nat := none
  /-- its lines are not installed -/
  noInstall : Bool := false
  /-- sectors not installed because a full write passed the fill (R121) -/
  skip : BitVec 64 := 0
  /-- it brings sectors into its set, so the lost-set list guards it (R177) -/
  guarded : Bool := false
  /-- sectors already valid in the frame through this fill -/
  inst : BitVec 64 := 0
  /-- the lines are being written into the frame by this access -/
  job : Option Nat := none
  rights : Bool := false
  deriving DecidableEq, Repr

/-- A pending allocation (R128, R180–R185). -/
structure Alloc where
  id : Nat
  ch : Nat
  set : Nat
  page : Nat
  /-- the chosen way, none while the choice is to be made -/
  way : Option Nat := none
  redo : Nat := 0
  ctx : Nat
  deadline : Tick
  /-- made by a full write, which needs no fill (R183) -/
  byWrite : Bool := false
  deriving DecidableEq, Repr

/-- What an offer is for. -/
inductive OfferFor where
  | evict (alloc : Nat)
  | flush (rid : Nat)
  | drain | fence | cleaner
  | retire
  deriving DecidableEq, Repr

/-- How far an offer has come. -/
inductive OfferSt where
  /-- its lines are being read from the frame by this access -/
  | reading (job : Nat)
  /-- waits for an offer credit, the port or an earlier message of its page -/
  | queued
  | sent | deferred
  /-- accepted; its OFFER_DATA waits for or holds the data path -/
  | accepted
  deriving DecidableEq, Repr

/-- An offer (R228). -/
structure Offer where
  id : Nat
  why : OfferFor
  dirty : Bool
  ch : Nat
  set : Nat
  way : Nat
  page : Nat
  smap : BitVec 64
  pmap : BitVec 64 := 0
  data : List (Nat × Line) := []
  st : OfferSt
  slot : Nat := 0
  gen : Nat := 0
  ctx : Nat
  deadline : Tick
  holdup : Bool := false
  /-- the uptime in µs at which it was deferred, and whether its warning was raised (R238) -/
  deferAt : Nat := 0
  warned : Bool := false
  /-- restarts of its OFFER_DATA (R87) -/
  restarts : Nat := 0
  /-- sectors written again since the read-out -/
  redirty : BitVec 64 := 0
  /-- counted in `TIER_CNT_OFFER_DIRTY` or `_CLEAN` (once, whatever is reissued) -/
  counted : Bool := false
  overdue : Bool := false
  rights : Bool := false
  deriving DecidableEq, Repr

/-- How far a write-through has come. -/
inductive WtSt where
  | queued
  /-- sending or waiting for the data path -/
  | path
  | sent
  deriving DecidableEq, Repr

/-- A write-through (R239): lines of one page with the ledger entries that wait for it. -/
structure WriteThru where
  id : Nat
  page : Nat
  /-- sector, data, poison, and the ledger entry the line comes from (none: a flush line of a PERSIST frame) -/
  lines : List (Nat × Line × Bool × Option Nat)
  st : WtSt := .queued
  slot : Nat := 0
  gen : Nat := 0
  ctx : Nat
  deadline : Tick
  holdup : Bool := false
  restarts : Nat := 0
  overdue : Bool := false
  rights : Bool := false
  /-- sectors written again in the frame since -/
  redirty : BitVec 64 := 0
  deriving DecidableEq, Repr

/-- A set being read from DRAM into the tag cache (R170), or waiting for tag reserve entries (job none). -/
structure TagFetch where
  ch : Nat
  set : Nat
  job : Option Nat := none
  /-- context and deadline of the operation that asked for the set (R76) -/
  ctx : Nat := 0
  deadline : Tick := 0
  deriving DecidableEq, Repr

/-- The lost-set list entry: channel and set (R176). -/
structure LostSet where
  ch : Nat
  set : Nat
  deriving DecidableEq, Repr

/-! ### Media port (R211–R256) -/

/-- Media-port states of R256. -/
inductive MpSt where
  | down | up | resync | stopped
  deriving DecidableEq, Repr

/-- Codes of `MP_STATE.STATE` (R256). -/
def MpSt.code : MpSt → Nat
  | .down => 0 | .up => 1 | .resync => 2 | .stopped => 3

/-- What holds the write-back data path. -/
inductive MpXfer where
  | offerData (offer : Nat)
  | writeThru (wt : Nat)
  deriving DecidableEq, Repr

/-- The steps of the hold-up flush (R249). -/
inductive HoldupPhase where
  | none
  /-- the flush's lines are being sent and awaited (steps 3 to 6) -/
  | flushing
  /-- step 6 reached; the channels go into self-refresh (step 7) -/
  | retaining
  | done
  deriving DecidableEq, Repr

/-- The media port. -/
structure Media where
  st : MpSt := .down
  /-- RESYNC sent and not yet acknowledged -/
  awaitAck : Bool := false
  /-- RESYNC_ACK taken, the CREDIT that follows it still to come; also true after reset (R222) -/
  awaitCredit : Bool := true
  /-- credits at the block and at the engine (R147) -/
  reqBlock : Nat := 0
  reqEngine : Nat := 0
  offBlock : Nat := 0
  offEngine : Nat := 0
  /-- generations of the fill buffers and of the offer slots (R220) -/
  fillGen : KMap Nat := []
  offerGen : KMap Nat := []
  /-- slot and generation last withdrawn (R221) -/
  withdrawn : KMap Nat := []
  fills : List Fill := []
  offers : List Offer := []
  wts : List WriteThru := []
  /-- the transfer on the write-back data path with the lines already moved (R241) -/
  xfer : Option (MpXfer × Nat) := none
  /-- pages in the order in which their data messages must leave (R237): open accepted offers and write-throughs -/
  ptr : Nat := 1
  holdup : HoldupPhase := .none
  holdupFrom : Nat := 0
  /-- lines carried by the flush -/
  flushed : Nat := 0
  flushLeft : Nat := 0
  deriving DecidableEq, Repr

/-! ### Channels (chapters 06 to 08, 11) -/

/-- Channel states of R466. -/
inductive ChSt where
  | online | fencing | fenced | service | retrain | returning | retired
  deriving DecidableEq, Repr

/-- Codes of R466, read at `CH_STATE.STATE`. -/
def ChSt.code : ChSt → Nat
  | .online => 0 | .fencing => 1 | .fenced => 2 | .service => 3 | .retrain => 4 | .returning => 5 | .retired => 6

/-- A place in DRAM (R163–R165). -/
structure Loc where
  sub : Nat
  rank : Nat
  bank : Nat
  row : Nat
  col : Nat
  deriving DecidableEq, Repr

/-- What a DRAM access is for. -/
inductive JobFor where
  /-- one line of a ledger entry -/
  | host (idx : Nat)
  | offerRead (offer : Nat)
  | fillWrite (fill : Nat)
  | tagRead (set : Nat)
  | tagWrite (set : Nat)
  /-- a patrol-scrub unit; the last of its pass (R294, R296) -/
  | scrub (last : Bool)
  /-- a write-back of a corrected line by its ledger entry (R289) -/
  | ceWb (idx : Nat)
  /-- the lines of a row under soft repair: read, then written back (R497) -/
  | repair
  /-- the DRAM copy of a region under background test (R564) -/
  | bgt
  deriving DecidableEq, Repr

/-- One line of a DRAM access: its place, its content's key, and the ledger entry that holds it. -/
structure JobLine where
  loc : Loc
  /-- key of the line in `State.dram`, or the set of a tag line -/
  key : Nat
  idx : Option Nat := none
  /-- 0 no column command granted, 1 granted, 2 issued -/
  step : Nat := 0
  /-- an ACT was granted for it, so its column command is no page hit -/
  opened : Bool := false
  /-- a read whose data has returned -/
  fin : Bool := false
  deriving DecidableEq, Repr

/-- A DRAM access offered to a channel's arbiters: one burst per line (R257, R85). -/
structure Job where
  id : Nat
  why : JobFor
  write : Bool
  lines : List JobLine
  ctx : Nat
  deadline : Tick
  rights : Bool := false
  overdue : Bool := false
  restarts : Nat := 0
  background : Bool := false
  /-- held back by an empty bucket, already counted for this offer (R94) -/
  held : Bool := false
  deriving DecidableEq, Repr

/-- DRAM commands the abacus knows (R81, R264). -/
inductive DCmd where
  | act | rd | rdA | wr | wrA | pre | ref | refSb | rfm | sre | srx
  deriving DecidableEq, Repr

/-- A granted command in an issue queue (R260). -/
structure QCmd where
  cmd : DCmd
  loc : Loc
  ctx : Nat := 0
  /-- the access and the line of it that a column command belongs to -/
  job : Option Nat := none
  line : Nat := 0
  /-- its row was open -/
  hit : Bool := false
  arrived : Nat := 0
  /-- already counted in `CH_CNT_ABACUS_HOLD` -/
  late : Bool := false
  /-- a neighbour refresh's ACT, which the tracker does not count (R278, R281) -/
  nbr : Bool := false
  deriving DecidableEq, Repr

/-- A tracker entry (R278): row, count, and up to four contributor slots. -/
structure TrackEntry where
  row : Nat
  count : Nat
  slots : List (Nat × Nat)
  deriving DecidableEq, Repr

/-- One command pair of a neighbour refresh (R281): an RFMsb of the bank, or ACT and PRE of one neighbour row; the last of
its refresh is marked. -/
structure NbrRef where
  loc : Loc
  rfm : Bool
  last : Bool
  deriving DecidableEq, Repr

/-- What a rank's mode registers report at TRAIN (R281, R284). -/
structure RankModes where
  rfm : Bool := false
  required : Bool := false
  initial : Nat := 0
  maximum : Nat := 0
  deriving DecidableEq, Repr

/-- Self-refresh states (R299, R301). -/
inductive SrSt where
  | active | entering | inside | exiting
  deriving DecidableEq, Repr

/-- Causes of self-refresh (R298). -/
inductive SrWhy where
  | none | freq | service | safe | holdup | warm
  deriving DecidableEq, Repr

/-- The steps of a frequency change (R303). -/
inductive FreqSt where
  | none | waitIdle | entering | minWait | relocking | exiting | centring
  deriving DecidableEq, Repr

/-- Training progress of a channel (R349–R364). -/
inductive TrnSt where
  | idle
  /-- waits for its SPD reads, its DIMM power and its VDDQ (R345, R488) -/
  | prep
  | running (phase : Nat) (setpoint : Nat)
  | done
  deriving DecidableEq, Repr

/-- A pending calibration correction of one lane and kind (R378). -/
structure Corr where
  kind : Nat
  lane : Nat
  rank : Nat
  /-- units still to apply, signed -/
  delta : Int
  /-- uptime in µs at which it became pending -/
  since : Nat
  deriving DecidableEq, Repr

/-- A calibration pass in progress (R371, R373): its kind's code, the limits it started with, and the reason that the
record kept through it gives, 0 for none. -/
structure CalPass where
  kind : Nat
  check : Word
  why : Nat := 0
  deriving DecidableEq, Repr

/-- A row of the row book (R496). -/
structure RowBook where
  rank : Nat
  bank : Nat
  row : Nat
  ce : Nat
  ue : Bool := false
  deriving DecidableEq, Repr

/-- One channel. -/
structure Channel where
  st : ChSt := .online
  empty : Bool := false
  unclean : Bool := false
  trained : Bool := false
  /-- the DIMMs are powered -/
  powered : Bool := false
  /-- capacity of each rank in 4 KiB units, as the SPDs give it; 0 before they are read (R162, R164) -/
  rankUnits : Nat := 0
  /-- an orderly fence waits for a frequency change or a way retirement to end (R470): its cause code + 1 -/
  fencePend : Nat := 0
  /-- what the repair policy does next with the channel (R495): 0 nothing, 1 RETRAIN once FENCED, 2 RETURN once TRAINED,
  3 RETIRE once FENCED -/
  plan : Nat := 0
  /-- the contents were lost: at a warm reset (R423), or with the DIMMs' power or reset since the fence (R483) -/
  warmLost : Bool := false
  /-- accesses offered, oldest first -/
  jobs : List Job := []
  /-- rotating pointers of the command and data-bus arbiters (R82) -/
  cmdPtr : Nat := 1
  busPtr : Nat := 1
  /-- the data-bus grant decided for the next slot of each subchannel (R83) -/
  busNext : List (Nat × Nat) := []
  /-- DRAM clocks counted on the island -/
  clk : Nat := 0
  /-- open row of a bank, by bank key; 0: closed, row + 1: open (R258) -/
  book : KMap Nat := []
  /-- clock of a bank's latest column command (R267) -/
  lastCol : KMap Nat := []
  /-- clocks at which a rod reads zero, by rod key (R263): as published, and with the stretch of R412 -/
  rods : KMap (Nat × Nat) := []
  /-- clocks of the latest four ACTs of a rank (tFAW) -/
  faw : KMap (List Nat) := []
  /-- issue queues, oldest first (R260) -/
  queue : List QCmd := []
  /-- the rank of the latest burst on a subchannel's data bus, and whether it was a write -/
  bus : KMap (Nat × Bool) := []
  /-- refresh debts: by rank, or by rank * 64 + bank index in same-bank mode (R270, R272) -/
  debt : KMap Nat := []
  /-- clock of a rank's latest candidate, grant or transfer -/
  lastUse : KMap Nat := []
  /-- ranks (or indexes) whose refresh is to be issued, and whether it is forced -/
  refDue : List (Nat × Bool) := []
  /-- logical ranks of a refresh in progress that have been refreshed -/
  refPart : KMap Nat := []
  /-- neighbour refreshes waiting, oldest first -/
  nbr : List NbrRef := []
  /-- banks whose RFMsb is due under R284 -/
  rfmDue : List Loc := []
  modes : KMap RankModes := []
  trackers : KMap (List TrackEntry) := []
  /-- refreshes a bank has received since its tracker was cleared (R282) -/
  trackRefs : KMap Nat := []
  raa : KMap Nat := []
  doubled : Bool := false
  /-- consecutive failed reads by sensor (R277) -/
  sensorFails : KMap Nat := []
  temps : KMap Int := []
  /-- ranks whose SRE, or SRX, has been issued in the entry or exit under way -/
  srRanks : List Nat := []
  sr : SrSt := .active
  srWhy : SrWhy := .none
  freq : FreqSt := .none
  freqTries : Nat := 0
  freqFrom : Nat := 0
  /-- the set point that the change under way goes to -/
  freqTo : Nat := 0
  /-- a TARGET written from step 4 on (R305) -/
  freqNext : Option Nat := none
  /-- corrected errors since the rank's previous EV_CH_CE, and its epoch + 1 (R290) -/
  ceSince : KMap Nat := []
  ceAt : KMap Nat := []
  /-- uncorrectable errors of a rank in the current scrub pass (R291) -/
  ueCount : KMap Nat := []
  ueRaised : KMap Nat := []
  /-- suspects already raised: rank * 32 + device (R292) -/
  suspRaised : List Nat := []
  rowBook : List RowBook := []
  /-- rows that the repair policy is to repair (R495, R496), oldest first -/
  pprWant : List Loc := []
  /-- free repair resources, by rank * 64 + bank group (R496) -/
  pprFree : KMap Nat := []
  trn : TrnSt := .idle
  trnFrom : Nat := 0
  trnRetries : Nat := 0
  /-- a frequency change written while training gathers data (R363) -/
  trnTarget : Option Nat := none
  /-- trim words by set point * 512 + lane * 2 + direction -/
  trims : KMap Word := []
  corr : List Corr := []
  /-- causes held by the PHY and calibration source: VDDQ 0, ALERT_n 1, clock 2, power 3, lane 4, training 5,
  rejections 6, RECOVER centring 7 (R521) -/
  phyCause : BitVec 8 := 0
  vddqBad : Nat := 0
  alerts : Nat := 0
  /-- spare circuits: lane and whether the spare is bad (R336) -/
  spares : KMap Nat := []
  /-- calibration passes in progress (R365) -/
  passes : List CalPass := []
  /-- taps per unit interval at the last accepted pass, by kind (R370) -/
  calTaps : KMap Nat := []
  /-- what the SPD of a DIMM gave, by DIMM index * 4: + 0 its population, + 2 its thermal data (R276, R310, R341) -/
  spd : KMap Nat := []
  /-- the channel was fenced by SAFE's merged errors and is left out of the relock (R541) -/
  noRelock : Bool := false
  walker : Option Nat := none
  fenceFrom : Nat := 0
  fenceWarned : Bool := false
  /-- retrains counted in the window, with the window's start (R492) -/
  retrainFrom : Nat := 0
  endtapFrom : Nat := 0
  /-- modules' serial numbers seen (R486) -/
  serial : KMap Nat := []
  /-- the repair in progress (R497, R500): 0 none; soft: 1 its moves wait in their chains, 2 its lines are being read, 3 it
  waits for the rank's refresh, 4 programmed, 5 its lines are being written back, 6 its journal record is being written;
  7 hard, its record being written -/
  ppr : Nat := 0
  pprLoc : Option Loc := none
  softRows : List Loc := []
  hardRows : List Loc := []
  /-- `TIER_GEOM.SETS` in force at the fence, from RETRAIN until RETURN (R487) -/
  geomOld : Nat := 0
  /-- the DIMMs have been reset since the soft repairs were made (R488) -/
  wasReset : Bool := false
  deriving DecidableEq, Repr

/-! ### Sideband, SRAM, flash, OTP, chain, Awl, beam -/

/-- Who asked for a sideband transaction; the order is the priority of R343. -/
inductive SbWho where
  | power | spd | temp | firmware
  deriving DecidableEq, Repr

/-- A sideband transaction (R341–R346). -/
structure SbTxn where
  who : SbWho
  /-- the channel it is for -/
  ch : Nat
  slot : Nat
  dev : Nat
  write : Bool
  len : Nat
  offset : Nat
  data : Word := 0
  deriving DecidableEq, Repr

/-- One sideband quad. -/
structure Quad where
  cur : Option SbTxn := none
  wait : List SbTxn := []
  tries : Nat := 0
  /-- SDA was found held low and the bus has not been released (R344) -/
  stuck : Bool := false
  deriving DecidableEq, Repr

/-- A repair of a macro group: group, macro, row or column, index (R553, R603). -/
structure SramFix where
  group : Nat
  mac : Nat
  row : Bool
  index : Nat
  deriving DecidableEq, Repr

/-- The SRAM test engines (R557–R569). -/
structure Sram where
  /-- repairs in force -/
  fixes : List SramFix := []
  /-- group replaced by a spare group or bank: keyed by group, the spare's number (R505) -/
  replaced : KMap Nat := []
  /-- failing column groups that a background test left to the next march test: group, macro, index (R567) -/
  cols : List (Nat × Nat × Nat) := []
  /-- group copy of a replacement: the old group and its spare (R505) -/
  copying : Option (Nat × Nat) := none
  /-- replacements that wait for the one in progress or for their spare's power: group and spare -/
  waiting : List (Nat × Nat) := []
  /-- march test in progress: group and preserve (R559); of a preserving one the spare in use, and its step: 1 copying
  out, 2 testing, 3 copying back -/
  march : Option (Nat × Bool) := none
  marchSpare : Nat := 0
  marchStep : Nat := 0
  /-- the march of start step 6 (R558) -/
  atStart : Bool := false
  /-- groups beyond in-macro repair that no spare serves yet (R505, R507) -/
  failed : List Nat := []
  /-- the number, in the order of R561, of the pass's next region -/
  bgtNext : Nat := 0
  /-- regions skipped or abandoned in this pass, by their numbers: the times (R566) -/
  retry : KMap Nat := []
  /-- the test of the region in progress was abandoned (R565) -/
  abandoned : Bool := false
  /-- the channel of the latest DRAM copy, the copy's access and whether it was completely written (R564) -/
  saveCh : Nat := 15
  saveJob : Option (Nat × Nat) := none
  saveDone : Bool := false
  /-- arrays whose regions the background test visits at once, and the next region of the first of them (R519) -/
  urgent : List Nat := []
  urgentNext : Nat := 0
  deriving DecidableEq, Repr

/-- A flash operation in progress (R573–R576). -/
inductive FlashOp where
  | rawRead (addr : Nat) (len : Nat)
  | rawProgram (addr : Nat) (data : List (BitVec 8))
  | rawErase (addr : Nat)
  | log
  deriving DecidableEq, Repr

/-- A log update (R591): its kind and its payload words. -/
structure LogRec where
  kind : Nat
  body : List Nat
  deriving DecidableEq, Repr

/-- A log update between its intent and its COMMIT (R595). -/
structure LogUpdate where
  kind : Nat
  commitAt : Nat
  commit : Nat
  runs : List (Nat × List Nat)
  copy : Nat
  seq : Nat
  page : Nat
  deriving DecidableEq, Repr

/-- The flash interface, the log writer and the OTP controller. -/
structure Flash where
  bytes : KMap (BitVec 8) := []
  op : Option FlashOp := none
  failRun : Nat := 0
  /-- log updates queued, oldest first; the first is in progress while `writing` -/
  log : List LogRec := []
  writing : Bool := false
  isq : Nat := 0
  /-- the next page of the intent ring (R594) -/
  ringPos : Nat := 0
  /-- density code of the part on the board, 0: none (R573, `LF_INFO.SIZE`) -/
  part : Nat := 6
  /-- the log's content as read at start and updated since, by kind * 2^16 + cell, where it differs from the initial
  content (R592) -/
  cells : KMap Nat := []
  /-- by kind: active copy + 1, its SEQ, and the next free page of its slot -/
  copy : KMap Nat := []
  seq : KMap Nat := []
  page : KMap Nat := []
  /-- where the update in progress will have its COMMIT: kind, address and word, its runs, and the copy, SEQ and next page
  that it leaves (R595) -/
  update : Option LogUpdate := none
  otp : KMap (BitVec 8) := []
  /-- burn in progress: record, slot and its content -/
  burn : Option (Nat × Nat × List (BitVec 8)) := none
  /-- slots with bits burned and a failing check (R606): record, slot -/
  otpSpoiled : List (Nat × Nat) := []
  deriving DecidableEq, Repr

/-- What the block has driven on its interfaces, in order. -/
inductive Out where
  | completion (p : PortId) (c : Completion)
  | media (raw : BitVec 256) (lines : List Line)
  | chain (frame : List (BitVec 8))
  | answer (chain : Bool) (data : BitVec 64) (err : Bool)
  deriving DecidableEq, Repr

/-- Pins and power handshakes (R672–R700). -/
structure Pins where
  coldRstN : Bool := false
  warmRstN : Bool := true
  holdupReq : Bool := false
  holdupDone : Bool := false
  safeN : Bool := false
  refclk : Bool := false
  /-- the media engine's interface revision (R672) -/
  mpIfrev : BitVec 8 := 0
  /-- requests and grants of the 25 power groups (R697) -/
  pwrReq : BitVec 25 := 0
  pwrAck : BitVec 25 := 0
  deriving DecidableEq, Repr

/-- Steps of the start sequence (R426). -/
inductive StartStep where
  | off
  /-- waits for REFCLK (step 1) -/
  | refclk
  /-- waits for the power groups of step 2 -/
  | power
  /-- waits for the OTP records (step 3) -/
  | otp
  /-- waits for the flash read (step 4) and the SRAM march (steps 5 and 6) -/
  | last
  /-- ENUMERATE (step 7) -/
  | enumerate
  /-- LOAD, before the Last has been read (steps 8 to 11) -/
  | load
  /-- waits for the epoch boundary of step 12 -/
  | boundary
  /-- TRAIN (steps 13 to 16) -/
  | train
  /-- trained; waits for the epoch boundary of step 17 -/
  | enter
  /-- trained; a tiered start waits for the media port (R451) -/
  | waitMp
  | running
  deriving DecidableEq, Repr

/-- The whole machine. -/
structure State where
  /-- commands that wait, first in first out (the block form's queue) -/
  pending : List Instr := []
  /-- words of the window in force, where they differ from their reset words (R611, R654) -/
  regs : KMap Word := []
  /-- pending RB and RA words by offset (R611, R616) -/
  pend : KMap Word := []
  /-- HOLD has been cleared and the epoch boundary that releases the held values has not come (R617) -/
  holdRelease : Bool := false
  mode : Mode := .reset
  prev : Mode := .reset
  /-- `BLK_MODE.WARM`, `WARM_FLUSH`, `HELD` (R465) -/
  warm : Bool := false
  warmFlush : Bool := false
  held : Bool := false
  /-- the epoch count at which the mode in force was entered (R454) -/
  modeAt : Nat := 0
  /-- the mode in which SAFE was entered, which RECOVER takes up again (R457) -/
  resume : Mode := .reset
  /-- the mode in which TEST was entered (R453) -/
  testFrom : Mode := .reset
  start : StartStep := .off
  /-- periods of `BLK_START.MP_WAIT` that have passed in the present wait (R451) -/
  mpWaits : Nat := 0
  pins : Pins := {}
  timeBase : Tick := 0
  /-- ticks since the last whole µs, 0 to 399 (R397) -/
  tickFrac : Nat := 0
  /-- µs, 48 bits (R397) -/
  uptime : BitVec 48 := 0
  /-- epoch boundaries since reset -/
  epoch : Nat := 0
  evq : EvQueue := {}
  flt : FaultNet := {}
  ports : Vector Port 8 := Vector.ofFn (fun n => { dlj := 0x00F1 ^^^ BitVec.ofNat 16 n.val })
  ctxs : KMap Ctx := []
  ctxWin : CtxWin := {}
  /-- the ingress stage's rotating pointer (R78, R82) -/
  ingressPtr : Nat := 1
  /-- ledger entries in ledger order (R108) -/
  ledger : List LEntry := []
  /-- numbers given to requests, entries' owners and accesses -/
  nextId : Nat := 0
  tags : KMap Tag := []
  caches : Vector (List CachedSet) 16 := Vector.replicate 16 []
  fetches : List TagFetch := []
  lfsr : Vector (BitVec 32) 16 := Vector.ofFn (fun n => if n.val = 0 then 1 else BitVec.ofNat 32 n.val)
  lost : List (Option LostSet) := []
  /-- frames with PERSIST, in the order of marking (R198) -/
  pidx : List Nat := []
  allocs : List Alloc := []
  /-- drain walkers: next set by channel; absent: finished or not walking (R191) -/
  drain : KMap Nat := []
  drainFrom : Nat := 0
  /-- DRAIN has been entered and EV_DRAIN_DONE not yet raised (R191) -/
  drainOpen : Bool := false
  /-- ways whose retirement waits: channel, set, way and step (R201) -/
  retiring : List (Nat × Nat × Nat × Nat) := []
  /-- retired ways as the flash log holds them: channel, set, way -/
  retiredLog : List (Nat × Nat × Nat) := []
  /-- line contents by frame line key; an unlisted line reads zeros -/
  dram : KMap Line := []
  media : Media := {}
  chs : Vector Channel 16 := Vector.replicate 16 {}
  quads : Vector Quad 4 := Vector.replicate 4 {}
  sram : Sram := {}
  flash : Flash := {}
  /-- what the lifetime counters have gained since the last update was queued, by counter; counters 11 and up in lines
  (R591) -/
  life : KMap Nat := []
  /-- uptime in µs up to which counter 2 is queued -/
  lifeAt : Nat := 0
  /-- channels that wait for ZQ_EXT, in order of their due times; the first holds it (R332) -/
  zqQ : List Nat := []
  /-- Awl unlock progress (R404) and the LFSR of each back-pressure target (R409) -/
  awlStep : Nat := 0
  awlLfsr : Vector (BitVec 16) 9 := Vector.ofFn (fun n => if n.val = 1 then 1 else 1 ^^^ BitVec.ofNat 16 n.val)
  /-- beam store: copies by offset, and of the contexts' counters (R629) -/
  beam : KMap Word := []
  beamCtx : KMap (List Nat) := []
  /-- the take in progress clears what it copies -/
  beamClear : Bool := false
  /-- clear commands: the first runs, the others wait (R621) -/
  clears : List Word := []
  /-- tag entry under capture: channel, set, way -/
  tagCap : Option (Nat × Nat × Nat) := none
  /-- images staged for takeover: PSEQ (version and interface revision), TSEQ by channel (R509–R512) -/
  pseqStaged : Option (Nat × Nat) := none
  tseqStaged : KMap Nat := []
  /-- what the block has driven out, oldest first -/
  out : List Out := []
  /-- free values drawn -/
  freeCtr : Nat := 0
  deriving DecidableEq, Repr

/-- The machine right after reset, as the specification gives it: COLD_RST_n low, mode RESET, every register at its
reset word, every queue empty. -/
def State.reset : State := {}

end Sys2Proof.Machine
end

