-- ==== Sys2Proof/Machine/Events.lean ====
section
/-! DEFINITION. The event codes of R671 and the SOURCE codes of R640. -/

namespace Sys2Proof.Machine

/-! Event codes (R671). -/

def Ev.mode : Nat := 0x001
def Ev.modeRefused : Nat := 0x002
def Ev.startDone : Nat := 0x003
def Ev.warmLost : Nat := 0x004
def Ev.mpWait : Nat := 0x005
def Ev.tierNone : Nat := 0x006
def Ev.wpHdrCrc : Nat := 0x040
def Ev.wpCredit : Nat := 0x041
def Ev.wpMalformed : Nat := 0x042
def Ev.wpLineCrc : Nat := 0x043
def Ev.wpTagReuse : Nat := 0x044
def Ev.throttle : Nat := 0x060
def Ev.arbOverdue : Nat := 0x061
def Ev.rowAlert : Nat := 0x062
def Ev.rowAlertBg : Nat := 0x063
def Ev.ldgLost : Nat := 0x080
def Ev.consImbalance : Nat := 0x081
def Ev.tagLost : Nat := 0x0A0
def Ev.tierRankTrim : Nat := 0x0A1
def Ev.drainDone : Nat := 0x0A2
def Ev.dirtyFull : Nat := 0x0A3
def Ev.dirtyResume : Nat := 0x0A4
def Ev.wayRetired : Nat := 0x0A5
def Ev.tierRetireRefused : Nat := 0x0A6
def Ev.mpProto : Nat := 0x0C0
def Ev.mpLineCrc : Nat := 0x0C1
def Ev.mpRangeLost : Nat := 0x0C2
def Ev.mpDeferLong : Nat := 0x0C3
def Ev.holdupDone : Nat := 0x0C4
def Ev.chCe : Nat := 0x100
def Ev.chUe : Nat := 0x101
def Ev.chUeLimit : Nat := 0x102
def Ev.eccSuspect : Nat := 0x103
def Ev.scrubPass : Nat := 0x104
def Ev.temp2x : Nat := 0x105
def Ev.tempSensor : Nat := 0x106
def Ev.freqDone : Nat := 0x107
def Ev.freqRefused : Nat := 0x108
def Ev.phyPopulation : Nat := 0x140
def Ev.phyVddq : Nat := 0x141
def Ev.phyEndtap : Nat := 0x142
def Ev.phyZqExt : Nat := 0x143
def Ev.phyAlert : Nat := 0x144
def Ev.phyLaneWeak : Nat := 0x145
def Ev.phySpare : Nat := 0x146
def Ev.sbStuck : Nat := 0x147
def Ev.sbDenied : Nat := 0x148
def Ev.trnDone : Nat := 0x180
def Ev.trnFail : Nat := 0x181
def Ev.trnAbort : Nat := 0x182
def Ev.calReject : Nat := 0x183
def Ev.calFault : Nat := 0x184
def Ev.calFallback : Nat := 0x185
def Ev.chState : Nat := 0x1C0
def Ev.svcRefused : Nat := 0x1C1
def Ev.fenceSlow : Nat := 0x1C2
def Ev.chUnclean : Nat := 0x1C3
def Ev.chDiscard : Nat := 0x1C4
def Ev.svcDimmNew : Nat := 0x1C5
def Ev.svcGeom : Nat := 0x1C6
def Ev.retrainLimit : Nat := 0x1C7
def Ev.pprDone : Nat := 0x1C8
def Ev.pprNone : Nat := 0x1C9
def Ev.mark : Nat := 0x1CA
def Ev.imageSwitch : Nat := 0x1CB
def Ev.imageRefused : Nat := 0x1CC
def Ev.fltCorr : Nat := 0x200
def Ev.fltCont : Nat := 0x201
def Ev.fltFatal : Nat := 0x202
def Ev.fltBroken : Nat := 0x203
def Ev.recover : Nat := 0x204
def Ev.fltHeld : Nat := 0x205
def Ev.sramRepair : Nat := 0x240
def Ev.sramMtDone : Nat := 0x241
def Ev.sramMtRefused : Nat := 0x242
def Ev.sramBgtSkip : Nat := 0x243
def Ev.sramGroup : Nat := 0x244
def Ev.sramNoSpare : Nat := 0x245
def Ev.lastNone : Nat := 0x280
def Ev.lastTie : Nat := 0x281
def Ev.lastIncompat : Nat := 0x282
def Ev.lastRecord : Nat := 0x283
def Ev.imageMismatch : Nat := 0x284
def Ev.lfErr : Nat := 0x285
def Ev.lfRefused : Nat := 0x286
def Ev.logComplete : Nat := 0x287
def Ev.logRollback : Nat := 0x288
def Ev.logDamaged : Nat := 0x289
def Ev.otpRefused : Nat := 0x28A
def Ev.otpBurnFail : Nat := 0x28B
def Ev.otpFull : Nat := 0x28C
def Ev.chainAddr : Nat := 0x2C0
def Ev.chainDup : Nat := 0x2C1
def Ev.access : Nat := 0x300
def Ev.cfgReject : Nat := 0x301
def Ev.coreSlow : Nat := 0x320
def Ev.refclkLost : Nat := 0x321
def Ev.awlUnlock : Nat := 0x322
def Ev.evqFlush : Nat := 0x3FE
def Ev.gap : Nat := 0x3FF

/-! SOURCE codes (R640). -/

def Src.block : Nat := 0x00
def Src.port (n : Nat) : Nat := 0x08 + n
def Src.media : Nat := 0x10
def Src.chan (n : Nat) : Nat := 0x20 + n
def Src.quad (q : Nat) : Nat := 0x30 + q
def Src.ledger : Nat := 0x40
def Src.tier : Nat := 0x41
def Src.fault : Nat := 0x42
def Src.sram : Nat := 0x43
def Src.flash : Nat := 0x44
def Src.chain : Nat := 0x45
def Src.path : Nat := 0x46
def Src.pseq : Nat := 0x47
def Src.awl : Nat := 0x48
def Src.core : Nat := 0x49
def Src.evq : Nat := 0x4A

/-! Priorities (R638, R639). -/

def Prio.fatal : Nat := 0
def Prio.contained : Nat := 1
def Prio.corrected : Nat := 2
def Prio.info : Nat := 3

end Sys2Proof.Machine
end

