-- ==== Sys2Proof/Machine/Ops.lean ====
section
/-! DEFINITION. The named operations every meaning is built from: sparse tables, registers and their fields, counters,
events, the comparison of deadlines, and free values. -/

namespace Sys2Proof.Machine

/-! ### Sparse tables -/

/-- The value listed for a key. -/
def kFind {β : Type} : KMap β → Nat → Option β
  | [], _ => none
  | (a, b) :: m, k => if a = k then some b else kFind m k

/-- The value of a key, `d` where none is listed. -/
def kGet {β : Type} (d : β) (m : KMap β) (k : Nat) : β := (kFind m k).getD d

/-- The table with `v` listed for `k`, keys kept rising. -/
def kPut {β : Type} : KMap β → Nat → β → KMap β
  | [], k, v => [(k, v)]
  | (a, b) :: m, k, v =>
    if k < a then (k, v) :: (a, b) :: m
    else if k = a then (k, v) :: m
    else (a, b) :: kPut m k v

/-- The table with nothing listed for `k`. -/
def kErase {β : Type} : KMap β → Nat → KMap β
  | [], _ => []
  | (a, b) :: m, k => if a = k then m else (a, b) :: kErase m k

/-- The table in which `k` has the value `v`, where `d` is what the key reads as unlisted. -/
def kSet {β : Type} [DecidableEq β] (d : β) (m : KMap β) (k : Nat) (v : β) : KMap β :=
  if v = d then kErase m k else kPut m k v

/-- Every key of `m` lies above `k`, and the keys rise. -/
def kRising {β : Type} : KMap β → Bool
  | [] => true
  | [_] => true
  | (a, _) :: (b, v) :: m => decide (a < b) && kRising ((b, v) :: m)

/-- The canonical form: keys strictly rising, no entry equal to what its key reads as unlisted. -/
def kWf {β : Type} [DecidableEq β] (d : Nat → β) (m : KMap β) : Bool :=
  kRising m && m.all (fun e => decide (e.2 ≠ d e.1))

/-! ### Registers -/

/-- The word in force at a window offset. -/
def State.rd (s : State) (off : Nat) : Word := kGet (resetWord off) s.regs off

/-- The state with the word in force at an offset changed. -/
def State.wr (s : State) (off : Nat) (w : Word) : State :=
  { s with regs := kSet (resetWord off) s.regs off w }

/-- The mask of a field of `n` bits at bit `lo`. -/
def fieldMask (lo n : Nat) : Word := BitVec.ofNat 32 (2 ^ n - 1) <<< lo

/-- The bits [lo + n - 1 : lo] of a word. -/
def getBits (w : Word) (lo n : Nat) : Nat := (w.toNat >>> lo) % 2 ^ n

/-- The word with the bits [lo + n - 1 : lo] replaced by the low bits of `v`. -/
def putBits (w : Word) (lo n v : Nat) : Word :=
  (w &&& ~~~ fieldMask lo n) ||| ((BitVec.ofNat 32 v <<< lo) &&& fieldMask lo n)

/-- The value in force of a field of register (i, k). -/
def State.fld (s : State) (f : Fld) (i : Nat := 0) (k : Nat := 0) : Nat :=
  getBits (s.rd (f.reg.at i k)) f.lo f.w

/-- A one-bit field in force. -/
def State.flag (s : State) (f : Fld) (i : Nat := 0) (k : Nat := 0) : Bool := s.fld f i k == 1

/-- The state with a field's value in force changed by the hardware. -/
def State.setFld (s : State) (f : Fld) (v : Nat) (i : Nat := 0) (k : Nat := 0) : State :=
  s.wr (f.reg.at i k) (putBits (s.rd (f.reg.at i k)) f.lo f.w v)

/-- The state with a one-bit field set or cleared by the hardware. -/
def State.setFlag (s : State) (f : Fld) (b : Bool) (i : Nat := 0) (k : Nat := 0) : State :=
  s.setFld f b.toNat i k

/-- A 32-bit counter after `n` more counts: it stays at all ones (R619). -/
def satAdd32 (w : Word) (n : Nat) : Word := BitVec.ofNat 32 (min (w.toNat + n) 0xFFFFFFFF)

/-- `n` more counts on a 32-bit RC counter (R619). -/
def State.count (s : State) (r : RegDef) (n : Nat := 1) (i : Nat := 0) (k : Nat := 0) : State :=
  s.wr (r.at i k) (satAdd32 (s.rd (r.at i k)) n)

/-- `n` more counts on a 64-bit RC counter held in a `_LO`/`_HI` pair (R619, R622). -/
def State.count64 (s : State) (lo hi : RegDef) (n : Nat := 1) (i : Nat := 0) : State :=
  let v := min ((s.rd (hi.at i)).toNat * 2 ^ 32 + (s.rd (lo.at i)).toNat + n) (2 ^ 64 - 1)
  (s.wr (lo.at i) (BitVec.ofNat 32 v)).wr (hi.at i) (BitVec.ofNat 32 (v / 2 ^ 32))

/-! ### Time and deadlines -/

/-- Deadline `a` precedes deadline `b` (R74). -/
def precedes (a b : Tick) : Bool :=
  let d := (b - a).toNat
  decide (1 ≤ d ∧ d < 2 ^ 23)

/-- The ticks by which the present time exceeds a deadline, saturating at 0xFFFF, 0 where it is met (R36). -/
def lateness (now deadline : Tick) : Nat :=
  if precedes deadline now then min (now - deadline).toNat 0xFFFF else 0

/-- The operation with deadline `a` goes before that with deadline `b`: overdue work first, then by deadline (R75). -/
def goesBefore (oa : Bool) (a : Tick) (ob : Bool) (b : Tick) : Bool :=
  if oa then !ob else if ob then false else precedes a b

/-- A deadline of background work: so many epochs from now (R77), within the limit of R49. -/
def State.farDeadline (s : State) (epochs : Nat) : Tick :=
  s.timeBase + BitVec.ofNat 24 (min (epochs * 1024) (2 ^ 22))

/-- Uptime in µs (R397). -/
def State.us (s : State) : Nat := s.uptime.toNat

/-! ### Free values -/

/-- A fresh free value of `w` bits, and the state in which it has been drawn. -/
def State.free (s : State) (w : Nat) : BitVec w × State :=
  (Config.freeBits w s.freeCtr, { s with freeCtr := s.freeCtr + 1 })

/-- A fresh number for a request, an access or an owner of entries. -/
def State.fresh (s : State) : Nat × State := (s.nextId, { s with nextId := s.nextId + 1 })

/-! ### Events (R638–R643) -/

/-- An event reaches the input stage of the event queue (R641). -/
def State.event (s : State) (prio code source : Nat) (d0 d1 : Word := 0) : State :=
  { s with evq := { s.evq with stage := s.evq.stage ++
      [{ prio := prio, code := code, tick := s.timeBase, source := source, d0 := d0, d1 := d1 }] } }

/-- An event of information priority (R639). -/
def State.info (s : State) (code source : Nat) (d0 d1 : Word := 0) : State :=
  s.event Prio.info code source d0 d1

/-- A detail word from a number. -/
def dw (n : Nat) : Word := BitVec.ofNat 32 n

/-- Items in the general slots (R641). -/
def EvQueue.general (q : EvQueue) : Nat := q.items.countP (fun i => !i.gap)

/-- The queue is full: every general slot is taken (R641). -/
def EvQueue.full (q : EvQueue) : Bool := decide (1020 ≤ q.general)

/-- An item accepted: it takes the next sequence number (R642). -/
def EvQueue.accept (q : EvQueue) (i : EvItem) : EvQueue :=
  { q with items := q.items ++ [{ i with seq := q.seq }], seq := (q.seq + 1) % 4096 }

/-- The gap marker of a priority counts one more drop (R643). -/
def bumpGap (prio : Nat) (now : Tick) (i : EvItem) : EvItem :=
  if i.gap && i.prio == prio then
    { i with d0 := dw (min (i.d0.toNat + 1) 0xFFFF), d1 := dw now.toNat }
  else i

/-- One push served by the queue: accepted, or dropped with its gap marker (R643). -/
def State.push (s : State) (p : EvPush) : State :=
  if s.evq.full then
    let s := s.count Reg.evqCntDrop
    if s.evq.items.any (fun i => i.gap && i.prio == p.prio) then
      { s with evq := { s.evq with items := s.evq.items.map (bumpGap p.prio s.timeBase) } }
    else
      { s.count Reg.evqCntPush with
        evq := s.evq.accept { prio := p.prio, gap := true, code := Ev.gap, seq := 0, tick := s.timeBase,
                              source := Src.evq, d0 := 1, d1 := dw s.timeBase.toNat } }
  else
    { s.count Reg.evqCntPush with
      evq := s.evq.accept { prio := p.prio, gap := false, code := p.code, seq := 0, tick := p.tick,
                            source := p.source, d0 := p.d0, d1 := p.d1 } }

/-! ### Units of the machine -/

/-- The mode in force: RECOVER until the kept entries have been completed (R544). -/
def State.modeNow (s : State) : Mode := if s.flt.finishing then .recover else s.mode

/-- The state with one port changed. -/
def State.modPort (s : State) (p : PortId) (f : Port → Port) : State :=
  { s with ports := s.ports.set p (f s.ports[p]) }

/-- The state with one channel changed. -/
def State.modCh (s : State) (c : ChanId) (f : Channel → Channel) : State :=
  { s with chs := s.chs.set c (f s.chs[c]) }

/-- Channel `n` as a channel number (numbers are taken modulo 16). -/
def chan (n : Nat) : ChanId := ⟨n % 16, Nat.mod_lt _ (by decide)⟩

/-- Port `n` as a port number. -/
def portOf (n : Nat) : PortId := ⟨n % 8, Nat.mod_lt _ (by decide)⟩

/-- Channel `n`'s state. -/
def State.ch (s : State) (n : Nat) : Channel := s.chs[chan n]

/-- The entry of a context (R61): context 0's is fixed (R62). -/
def State.ctx (s : State) (c : Nat) : Ctx := kGet {} s.ctxs c

/-- The state with one context's entry changed. -/
def State.modCtx (s : State) (c : Nat) (f : Ctx → Ctx) : State :=
  { s with ctxs := kSet {} s.ctxs c (f (s.ctx c)) }

/-- A context counter after `n` more counts (R619). -/
def cntUp (v : Nat) (n : Nat := 1) : Nat := min (v + n) 0xFFFFFFFF

/-- The block drives something on an interface. -/
def State.drive (s : State) (o : Out) : State := { s with out := s.out ++ [o] }

/-- `CFG_HOLD.HOLD` (R617). -/
def State.holding (s : State) : Bool := s.flag Fld.cfgHoldHold

end Sys2Proof.Machine
end

