-- ==== Sys2Proof/Machine/Operands.lean ====
section
/-! DEFINITION. The operand forms: check codes, request headers (R16–R21), media-port headers (R213–R217), line merges
and the places of lines in the tier and in DRAM (R157–R165, R204). -/

namespace Sys2Proof.Machine

/-! ### Check codes -/

/-- The field of `n` bits at bit `lo` of a header, as the header tables number bits. -/
def hbits (raw : BitVec 256) (lo n : Nat) : BitVec n := raw.extractLsb' lo n

/-- The bytes of a bit vector, least significant first, `n` of them from byte `i`. -/
def bytesFrom {w : Nat} (v : BitVec w) : Nat → Nat → List (BitVec 8)
  | _, 0 => []
  | i, n + 1 => v.extractLsb' (8 * i) 8 :: bytesFrom v (i + 1) n

/-- One bit step of the CRC-16 with polynomial 0x1021 (R18). -/
def crc16Bit (c : BitVec 16) : BitVec 16 :=
  if c.getLsbD 15 then (c <<< 1) ^^^ 0x1021 else c <<< 1

/-- `n` applications of a function. -/
def times {α : Type} (f : α → α) : Nat → α → α
  | 0, a => a
  | n + 1, a => times f n (f a)

/-- The CRC-16 of R18 over bytes, from an initial value. -/
def crc16 (init : BitVec 16) : List (BitVec 8) → BitVec 16
  | [] => init
  | b :: bs => crc16 (times crc16Bit 8 (init ^^^ (b.setWidth 16 <<< 8))) bs

/-- One bit step of CRC-32C, reflected (R23). -/
def crc32Bit (c : BitVec 32) : BitVec 32 :=
  if c.getLsbD 0 then (c >>> 1) ^^^ 0x82F63B78 else c >>> 1

/-- The running CRC-32C over bytes, before the final XOR. -/
def crc32Run (c : BitVec 32) : List (BitVec 8) → BitVec 32
  | [] => c
  | b :: bs => crc32Run (times crc32Bit 8 (c ^^^ b.setWidth 32)) bs

/-- CRC-32C (R23): initial value and final XOR 0xFFFF_FFFF. -/
def crc32c (bs : List (BitVec 8)) : BitVec 32 := crc32Run 0xFFFFFFFF bs ^^^ 0xFFFFFFFF

/-- The line check code of a line (R22, R23). -/
def lineCrc (l : Line) : BitVec 32 := crc32c (bytesFrom l 0 64)

/-- One bit step of the chain's CRC-8, polynomial 0x07 (R434). -/
def crc8Bit (c : BitVec 8) : BitVec 8 :=
  if c.getLsbD 7 then (c <<< 1) ^^^ 0x07 else c <<< 1

/-- The CRC-8 of the bead chain over bytes (R434). -/
def crc8 (init : BitVec 8) : List (BitVec 8) → BitVec 8
  | [] => init
  | b :: bs => crc8 (times crc8Bit 8 (init ^^^ b)) bs

/-- The header check code of a header: CRC-16 over bytes 0 to 29 (R18, R214). -/
def headerCrc (raw : BitVec 256) : BitVec 16 := crc16 0xFFFF (bytesFrom raw 0 30)

/-- The HCRC of a header passes (R18). -/
def hcrcOk (raw : BitVec 256) : Bool := hbits raw 240 16 == headerCrc raw

/-! ### Request headers -/

/-- The request fields of an Eobor header (R16). -/
structure Header where
  opcode : BitVec 8
  flags : BitVec 8
  context : BitVec 12
  tag : BitVec 16
  length : BitVec 7
  cls : BitVec 3
  budget : BitVec 16
  address : BitVec 52
  operand : BitVec 64
  deriving DecidableEq, Repr

/-- A header's fields as received; reserved bits are ignored (R16, R17). -/
def Header.parse (raw : BitVec 256) : Header where
  opcode := hbits raw 0 8
  flags := hbits raw 8 8
  context := hbits raw 16 12
  tag := hbits raw 32 16
  length := hbits raw 48 7
  cls := hbits raw 55 3
  budget := hbits raw 64 16
  address := hbits raw 96 52
  operand := hbits raw 160 64

/-- The 240 bits before the HCRC of a header with these fields and zeros elsewhere (R16, R17). -/
def Header.body (h : Header) (status : BitVec 8) : BitVec 256 :=
  h.opcode.setWidth 256 ||| (h.flags.setWidth 256 <<< 8) ||| (h.context.setWidth 256 <<< 16)
    ||| (h.tag.setWidth 256 <<< 32) ||| (h.length.setWidth 256 <<< 48) ||| (h.cls.setWidth 256 <<< 55)
    ||| (h.budget.setWidth 256 <<< 64) ||| (status.setWidth 256 <<< 80) ||| (h.address.setWidth 256 <<< 96)
    ||| (h.operand.setWidth 256 <<< 160)

/-- A whole header with its HCRC (R16, R18). -/
def Header.pack (h : Header) : BitVec 256 :=
  h.body 0 ||| ((headerCrc (h.body 0)).setWidth 256 <<< 240)

/-- FLAGS bit 8 is header bit 8: PMAP (R19). -/
def Header.pmap (h : Header) : Bool := h.flags.getLsbD 0

/-- The request opcodes of R26. -/
def Op.rd : BitVec 8 := 0x01
def Op.wr : BitVec 8 := 0x02
def Op.wrm : BitVec 8 := 0x03
def Op.zero : BitVec 8 := 0x04
def Op.flush : BitVec 8 := 0x05
def Op.drop : BitVec 8 := 0x06
def Op.prefetch : BitVec 8 := 0x07
def Op.barrier : BitVec 8 := 0x08
def Op.fetchAdd : BitVec 8 := 0x09
def Op.swap : BitVec 8 := 0x0A
def Op.cas : BitVec 8 := 0x0B

/-- One of the three atomics (R26). -/
def isAtomic (op : BitVec 8) : Bool := op == Op.fetchAdd || op == Op.swap || op == Op.cas

/-- The payload lines that belong to a request (R26). -/
def payloadLines (op : BitVec 8) (len : Nat) : Nat :=
  if op == Op.wr then len else if op == Op.wrm || op == Op.cas then 1 else 0

/-- The opcodes whose default budget is the read budget (R49). -/
def usesReadBudget (op : BitVec 8) : Bool := op == Op.rd || op == Op.prefetch

/-- The opcode is one of R26. -/
def knownOpcode (op : BitVec 8) : Bool := decide (1 ≤ op.toNat ∧ op.toNat ≤ 11)

/-- Check 1 of R31 on the header: opcode, CLASS, LENGTH, alignment and page rule (R21, R26, R27). BARRIER ignores CLASS
and ADDRESS. -/
def Header.malformed (h : Header) : Bool :=
  let len := h.length.toNat
  let a := h.address.toNat
  if !knownOpcode h.opcode then true
  else if h.opcode == Op.barrier then len != 1
  else if decide (5 ≤ h.cls.toNat) then true
  else if isAtomic h.opcode then len != 1 || a % 8 != 0
  else if h.opcode == Op.wrm then len != 1 || a % 64 != 0
  else decide (len = 0 ∨ 64 < len) || a % 64 != 0 || decide (64 < (a / 64) % 64 + len)

/-- The class code of a header's CLASS override (R21). -/
def overrideCls : Nat → Option Cls
  | 1 => some .v | 2 => some .p | 3 => some .t | 4 => some .u | _ => none

/-- The class of `CTX_CFG.CLASS` (R64). -/
def ctxCls : Nat → Cls
  | 0 => .v | 1 => .p | 2 => .t | _ => .u

/-! ### Media-port headers -/

/-- The fields of a media-port header (R213). -/
structure MediaHdr where
  opcode : Nat
  flags : BitVec 8
  mtag : BitVec 16
  deadline : Tick
  status : Nat
  page : Nat
  lines : Nat
  dsect : Nat
  smap : BitVec 64
  pmap : BitVec 64
  deriving DecidableEq, Repr

/-- A media-port header's fields as received (R213, R214). -/
def MediaHdr.parse (raw : BitVec 256) : MediaHdr where
  opcode := (hbits raw 0 8).toNat
  flags := hbits raw 8 8
  mtag := hbits raw 16 16
  deadline := hbits raw 32 24
  status := (hbits raw 56 8).toNat
  page := (hbits raw 64 34).toNat
  lines := (hbits raw 98 7).toNat
  dsect := (hbits raw 105 6).toNat
  smap := hbits raw 112 64
  pmap := hbits raw 176 64

/-- The header's bits before its HCRC (R213). PMAP lies over bits [239:176]. -/
def MediaHdr.body (m : MediaHdr) : BitVec 256 :=
  BitVec.ofNat 256 (m.opcode % 256) ||| (m.flags.setWidth 256 <<< 8) ||| (m.mtag.setWidth 256 <<< 16)
    ||| (m.deadline.setWidth 256 <<< 32) ||| (BitVec.ofNat 256 (m.status % 256) <<< 56)
    ||| (BitVec.ofNat 256 (m.page % 2 ^ 34) <<< 64) ||| (BitVec.ofNat 256 (m.lines % 128) <<< 98)
    ||| (BitVec.ofNat 256 (m.dsect % 64) <<< 105) ||| (m.smap.setWidth 256 <<< 112)
    ||| (m.pmap.setWidth 256 <<< 176)

/-- A whole media-port header (R213, R214). -/
def MediaHdr.pack (m : MediaHdr) : BitVec 256 :=
  m.body ||| ((headerCrc m.body).setWidth 256 <<< 240)

/-- Set bits of a sector map. -/
def popcount (m : BitVec 64) : Nat := (List.range 64).countP (fun i => m.getLsbD i)

/-- The sectors of a map, ascending. -/
def sectors (m : BitVec 64) : List Nat := (List.range 64).filter (fun i => m.getLsbD i)

/-- The map with one sector. -/
def bit64 (i : Nat) : BitVec 64 := 1#64 <<< i

/-- A line with the bytes that the mask enables taken from `w` (R26). -/
def mergeBytes (mask : BitVec 64) (old w : Line) : Line :=
  let m : Line := (List.range 64).foldl (fun acc i => if mask.getLsbD i then acc ||| (0xFF#512 <<< (8 * i)) else acc) 0
  (old &&& ~~~m) ||| (w &&& m)

/-- The little-endian 64-bit word at byte `off` of a line. -/
def word64 (l : Line) (off : Nat) : BitVec 64 := l.extractLsb' (8 * off) 64

/-- The line with its 64-bit word at byte `off` replaced. -/
def putWord64 (l : Line) (off : Nat) (v : BitVec 64) : Line :=
  (l &&& ~~~((BitVec.ofNat 512 (2 ^ 64 - 1)) <<< (8 * off))) ||| (v.setWidth 512 <<< (8 * off))

/-! ### From page to set (R157–R165, R204) -/

/-- The channel that entry `e` of the channel map names (R157). -/
def State.mapEntry (s : State) (e : Nat) : Nat :=
  s.fld (Fld.chMapEntry (e % 4)) (e / 4)

/-- The weight of a channel, and the number of its map entries below entry `m` (R157, R158). -/
def State.mapWeight (s : State) (c : Nat) : Nat := (List.range 64).countP (fun e => s.mapEntry e == c)
def State.mapBelow (s : State) (c m : Nat) : Nat := (List.range m).countP (fun e => s.mapEntry e == c)

/-- Sets of a channel (R164, `TIER_GEOM.SETS`). -/
def State.sets (s : State) (c : Nat) : Nat := s.fld Fld.tierGeomSets c

/-- Ranks used by a channel (`TIER_GEOM.RANKS`). -/
def State.ranks (s : State) (c : Nat) : Nat := s.fld Fld.tierGeomRanks c

/-- The six-bit fold of a hashed page number (R158). -/
def fold6 (q : Nat) : Nat :=
  (q % 64) ^^^ (q / 2 ^ 6 % 64) ^^^ (q / 2 ^ 12 % 64) ^^^ (q / 2 ^ 18 % 64) ^^^ (q / 2 ^ 24 % 64) ^^^ (q / 2 ^ 30 % 16)

/-- The channel and set of a page (R158). -/
def State.place (s : State) (page : Nat) : Nat × Nat :=
  let seed := s.fld Fld.tierHashSeedHiSeed * 2 ^ 32 + s.fld Fld.tierHashSeedLoSeed
  let q := page ^^^ seed
  let m := fold6 q
  let c := s.mapEntry m
  let w := s.mapWeight c
  let k := s.mapBelow c m
  let u := q / 64
  (c, (u * w + k) % s.sets c)

/-- The channel, set and way of a page in PLAIN (R204). -/
def State.plainPlace (s : State) (n : Nat) : Nat × Nat × Nat :=
  let slot := n % 64
  let c := s.mapEntry slot
  let f := n / 64 * s.mapWeight c + s.mapBelow c slot
  (c, f / 16, f % 16)

/-- Q of R205, over the channels the map names. -/
def State.plainQ (s : State) : Nat :=
  let qs := (List.range 16).filterMap (fun c =>
    let w := s.mapWeight c
    if w = 0 then none else some (16 * s.sets c / w))
  match qs with
  | [] => 0
  | q :: r => r.foldl min q

/-- The first way of a rank, the rank of a way, and the most ways on a rank (R163). -/
def rankOfWay (ranks w : Nat) : Nat := w * ranks / 16
def firstWay (ranks rank : Nat) : Nat := ((List.range 16).find? (fun w => rankOfWay ranks w == rank)).getD 0
def waysPerRank (ranks : Nat) : Nat := (16 + ranks - 1) / (if ranks = 0 then 1 else ranks)

/-- The 4 KiB unit that holds the frame of a set and way, with its rank (R164). -/
def frameUnit (ranks set way : Nat) : Nat × Nat :=
  let r := rankOfWay ranks way
  (r, set * waysPerRank ranks + (way - firstWay ranks r))

/-- The key of a frame, of one of its lines, and of a tag entry in the model's stores. -/
def frameKey (c set way : Nat) : Nat := (c * 2 ^ 24 + set) * 16 + way
def lineKeyOf (c set way sector : Nat) : Nat := frameKey c set way * 64 + sector

/-- Banks of a rank, every logical rank of a stack counted (R165): 16 on DDR4, 32 on DDR5 and MRDIMM (PRESUMED: the
DRAM standards' counts; the manual gives none). -/
def State.banks (s : State) (c : Nat) : Nat :=
  (if s.fld Fld.phyPopGen c = 1 then 16 else 32) * (2 ^ s.fld Fld.phyPopStack c)

/-- 4 KiB units of one row across the rank (R165): 2, and 4 on DDR5 and MRDIMM ranks of x4 devices (PRESUMED: the DRAM
standards' page sizes; the manual gives 8 KiB for DDR4 x4). -/
def State.unitsPerRow (s : State) (c : Nat) : Nat :=
  if s.fld Fld.phyPopGen c ≤ 1 then 2 else if s.fld Fld.phyPopWidth c = 1 then 2 else 4

/-- The place in DRAM of sector `t` of unit `i` of a rank (R165). -/
def State.unitLoc (s : State) (c rank i t : Nat) : Loc :=
  let m := s.unitsPerRow c
  let b := s.banks c
  let slot := i % m
  let j := i / m
  let row := j / b
  let ddr4 := s.fld Fld.phyPopGen c = 1
  { sub := if ddr4 then 0 else t % 2
    rank := rank
    bank := (j % b) ^^^ (row % b)
    row := row
    col := if ddr4 then (4096 * slot + 64 * t) / 8 else (2048 * slot + 64 * (t / 2)) / 4 }

/-- The place in DRAM of a frame's sector. -/
def State.frameLoc (s : State) (c set way sector : Nat) : Loc :=
  let u := frameUnit (s.ranks c) set way
  s.unitLoc c u.1 u.2 sector

/-- The first unit of the tag region, T0 (R164). -/
def State.tagUnit0 (s : State) (c : Nat) : Nat := (s.ch c).rankUnits * 127 / 128

/-- The place in DRAM of line `l` (0 to 7) of a set's tag block (R164, R167). -/
def State.tagLoc (s : State) (c set l : Nat) : Loc :=
  let ranks := if s.ranks c = 0 then 1 else s.ranks c
  let b := set / ranks
  s.unitLoc c (set % ranks) (s.tagUnit0 c + b / 8) (8 * (b % 8) + l)

/-- The location number of a tag line in its channel (R117): the line's place in the channel's own order. -/
def tagAddr (set l : Nat) : Nat := set * 8 + l

/-- Banks of one logical rank, bank groups, and the parts of a bank number (R165): group in the low bits, then the bank in
the group, then the logical rank. Group counts are the DRAM standards' (PRESUMED). -/
def State.perLogical (s : State) (c : Nat) : Nat := if s.fld Fld.phyPopGen c = 1 then 16 else 32
def State.groups (s : State) (c : Nat) : Nat := if s.fld Fld.phyPopGen c = 1 then 4 else 8
def State.logicals (s : State) (c : Nat) : Nat := 2 ^ s.fld Fld.phyPopStack c
def State.logicalOf (s : State) (c bank : Nat) : Nat := bank / s.perLogical c
def State.indexOf (s : State) (c bank : Nat) : Nat := bank % s.perLogical c / s.groups c

/-- Subchannels of a channel (R262). -/
def State.subs (s : State) (c : Nat) : Nat := if s.fld Fld.phyPopGen c = 1 then 1 else 2

/-- The bank key of a place: subchannel, rank and bank together. -/
def bankKey (l : Loc) : Nat := (l.sub * 4 + l.rank) * 256 + l.bank

end Sys2Proof.Machine
end

