-- ==== Sys2Proof/Machine/Flags.lean ====
section
/-! DEFINITION. The flag and book computations: the class of a fault source (R520), reports to the collector, the books
of R147, the dirty budget (R194), preemption rights (R86) and the budget of a deadline (R49). -/

namespace Sys2Proof.Machine

/-! ### Fault sources (R520) -/

/-- The three classes of a fault source (R517). -/
inductive FClass where
  | corrected | contained | fatal
  deriving DecidableEq, Repr

/-- The class of a source, as the table of R520 gives it. -/
def faultClass (src : Nat) : FClass :=
  if src ∈ [63, 66, 77, 84, 85, 86, 88, 89, 90, 92, 94] then .fatal
  else if src = 8 ∨ (10 ≤ src ∧ src ≤ 25) ∨ (58 ≤ src ∧ src ≤ 61)
      ∨ src ∈ [64, 68, 69, 71, 73, 75, 76, 78, 80, 82, 87, 93] then .corrected
  else .contained

/-- The event priority of a source's class (R639). -/
def srcPrio (src : Nat) : Nat :=
  match faultClass src with
  | .fatal => Prio.fatal
  | .contained => Prio.contained
  | .corrected => Prio.corrected

/-- A unit reports a fault source; the collector takes it before the command ends (R517). -/
def State.report (s : State) (src : Nat) (named : Option Nat := none) : State :=
  { s with flt := { s.flt with raised := s.flt.raised ++ [(src, named)] } }

/-- A unit raises its event together with the report of a source (R639). -/
def State.eventOf (s : State) (code source src : Nat) (d0 d1 : Word := 0) (named : Option Nat := none) : State :=
  (s.event (srcPrio src) code source d0 d1).report src named

/-- The pair of a source is in error (R522). -/
def State.inError (s : State) (src : Nat) : Bool := s.flt.err.getLsbD src || s.flt.broken.getLsbD src

/-- A value was not applied (R612): EV_CFG_REJECT with the window offset and the value. -/
def State.reject (s : State) (off : Nat) (v : Word) : State :=
  (s.count Reg.regCntReject).info Ev.cfgReject Src.path (dw off) v

/-! ### Modes -/

/-- The modes in which a port may be OPEN (R52). -/
def Mode.serves : Mode → Bool
  | .plain => true | .tiered => true | .drain => true | .bypass => true | .holdup => true | _ => false

/-- The modes that TRAIN starts into and that serve DRAM (R449). -/
def Mode.tieredLike : Mode → Bool
  | .tiered => true | .drain => true | _ => false

/-- The mode the block is in; in SAFE and RECOVER the mode it goes back to, which the promise of R107 and R112 runs across
(DEDUCED). -/
def State.heldMode (s : State) : Mode := match s.mode with | .safe => s.resume | .recover => s.resume | m => m

/-! ### The books of R147 -/

def poolCount (s : State) (p : Pool) : Nat := s.ledger.countP (fun e => e.pool == p)

/-- Host entries held by a port's requests (`LDG_HOST_WP.HELD`). -/
def hostHeld (s : State) (p : Nat) : Nat := s.ledger.countP (fun e => e.pool == .host && e.port == p)

/-- Free host entries (R141). -/
def hostFree (s : State) : Nat := 122880 - poolCount s .host - poolCount s .borrow

/-- Fill, offer and move buffers held (R143). -/
def fillBufs (s : State) : Nat := s.media.fills.length
def offerBufs (s : State) : Nat :=
  s.media.offers.countP (fun o => o.dirty || !s.media.offers.any (fun x => x.dirty && x.why == o.why && x.page == o.page))
def moveBufs (s : State) : Nat := s.ledger.countP (fun e => e.kind == .move)

/-! ### The dirty budget (R194–R200) -/

/-- The tag entry of a frame (R167). -/
def State.tag (s : State) (c set way : Nat) : Tag := kGet {} s.tags (frameKey c set way)

/-- The tag entry of a frame by its key. -/
def State.tagK (s : State) (k : Nat) : Tag := kGet {} s.tags k

/-- The state with a tag entry changed; the directory marks its set changed in the tag cache (R171). -/
def State.setTag (s : State) (c set way : Nat) (t : Tag) : State :=
  { s with tags := kSet {} s.tags (frameKey c set way) t
           caches := s.caches.set (chan c)
             (s.caches[chan c].map (fun e => if e.set = set then { e with changed := true } else e)) }

/-- The budget in 64 B units: 16,384 for each MiB (R194). -/
def budgetUnits (s : State) : Nat := 16384 * s.fld Fld.dirtyBudgetMib

/-- Units held: one for each staged P-class line that took one, and one for each dirty sector of a frame with PERSIST
(R194). -/
def unitsHeld (s : State) : Nat :=
  s.ledger.countP (fun e => e.unit) + (s.pidx.map (fun k => popcount (s.tagK k).dirty)).sum

/-- Units free, at least 0 (R194). -/
def unitsFree (s : State) : Nat := budgetUnits s - unitsHeld s

/-- The units held have fallen below the low mark: the tier leaves the full state (R195). -/
def resumeCheck (s : State) : State :=
  if s.flag Fld.tierStatusDirtyFull
      && decide (16 * unitsHeld s < s.fld Fld.dirtyCtlLow * budgetUnits s) then
    (s.setFlag Fld.tierStatusDirtyFull false).info Ev.dirtyResume Src.tier (dw (unitsHeld s))
  else s

/-- No unit is free for a P-class write: the tier enters the full state, unless its budget is 0 (R195, R200). -/
def enterFull (s : State) : State :=
  if s.flag Fld.tierStatusDirtyFull || budgetUnits s == 0 then s
  else (s.setFlag Fld.tierStatusDirtyFull true).info Ev.dirtyFull Src.tier (dw (unitsHeld s))

/-! ### Contexts and deadlines -/

/-- Throttle step of a context, read from its applied entry. Context 0 is never throttled (R62). -/
def State.throttleOf (s : State) (c : Nat) : Nat := if c = 0 then 0 else (s.ctx c).step

/-- Preemption rights now (R86): the entry's at admission, and no throttle step (R97). -/
def State.mayPreempt (s : State) (c : Nat) (rights : Bool) : Bool := decide (c ≠ 0) && rights && s.throttleOf c == 0

/-- Rights that an entry gives at admission (R86, R100). -/
def State.entryRights (s : State) (c : Nat) : Bool := decide (c ≠ 0) && getBits (s.ctx c).cfg 5 1 == 0

/-- Base budget of a request (R49, R63). -/
def baseBudget (s : State) (h : Header) : Nat :=
  if h.budget.toNat ≠ 0 then h.budget.toNat
  else
    let w := (s.ctx h.context.toNat).budget
    let b := if usesReadBudget h.opcode then getBits w 0 16 else getBits w 16 16
    if b = 0 then 1600 else b

/-- Effective budget (R49). -/
def effBudget (base step : Nat) : Nat := min (base * 2 ^ step) (2 ^ 22)

/-- One step of a 16-bit LFSR of polynomial x^16 + x^15 + x^13 + x^4 + 1 (R410), shifting left. -/
def lfsr16 (v : BitVec 16) : BitVec 16 :=
  (v <<< 1) ||| BitVec.ofNat 16 ((v.getLsbD 15 ^^ v.getLsbD 14 ^^ v.getLsbD 12 ^^ v.getLsbD 3).toNat)

/-- One step of the victim LFSR (R181). -/
def lfsr32 (v : BitVec 32) : BitVec 32 :=
  (v <<< 1) ||| BitVec.ofNat 32 ((v.getLsbD 31 ^^ v.getLsbD 21 ^^ v.getLsbD 1 ^^ v.getLsbD 0).toNat)

/-- The Awl's registers are unlocked (R404). -/
def State.awlOpen (s : State) : Bool := s.flag Fld.awlStatusUnlocked

/-- Deadline of a request of effective budget `eff` on port `p`, with the Awl's jitter (R49, R414). The LFSR advances
one step for a request of a port whose bit is set. -/
def stampDeadline (s : State) (p : PortId) (eff : Nat) : Tick × State :=
  let ctl := s.rd Reg.awlDlj.at
  if s.awlOpen && ctl.getLsbD p.val then
    let span := s.fld Fld.awlDljSpan
    let v := lfsr16 s.ports[p].dlj
    let width := 2 ^ (span + 1) - 1
    let off : Int := (v.toNat % width : Nat) - (2 ^ span - 1 : Nat)
    let b := max 1 (min (2 ^ 22) ((eff : Int) + off))
    (s.timeBase + BitVec.ofNat 24 b.toNat, s.modPort p (fun q => { q with dlj := v }))
  else (s.timeBase + BitVec.ofNat 24 eff, s)

/-! ### Detail words (R671) -/

def formS (c set way : Nat) : Word := dw (set % 2 ^ 24 + c % 16 * 2 ^ 24 + way % 16 * 2 ^ 28)
def formP0 (page : Nat) : Word := dw (page % 2 ^ 32)
def formP1 (page : Nat) : Word := dw (page / 2 ^ 32 % 4)
def formC (c : Nat) (l : Loc) : Word := dw (c % 16 + l.rank % 4 * 16 + l.bank % 256 * 64 + l.row % 2 ^ 18 * 2 ^ 14)
def formD (c rank dev : Nat) : Word := dw (c % 16 + rank % 4 * 16 + dev % 32 * 64)

/-- Form L of a ledger key: the line address, or the location with bit 8 set. -/
def formL : LineKey → Word × Word
  | .host l => (dw (l % 2 ^ 32), dw (l / 2 ^ 32 % 256))
  | .loc c a => (dw (a % 2 ^ 32), dw (a / 2 ^ 32 % 16 + c % 16 * 16 + 256))
  | .none => (0, 0)

end Sys2Proof.Machine
end

