-- ==== Sys2Proof/Machine/Apply.lean ====
section
/-! DEFINITION. When a buffered write takes effect (R614–R617): the boundaries of the register groups, the values that are
rejected, and what an applied value does at once. -/

namespace Sys2Proof.Machine

/-- The buffered bits of the register at an offset. -/
def bufferedMask (off : Nat) : Word :=
  match findReg off with
  | some r => r.rb ||| r.ra
  | none => 0

/-- A software write becomes pending (R611, R616): a second write replaces the first. -/
def State.putPend (s : State) (off : Nat) (w : Word) : State :=
  if bufferedMask off = 0 then s else { s with pend := kPut s.pend off (w &&& bufferedMask off) }

/-- The word that would stand in force after a pending value applied. -/
def merged (s : State) (off : Nat) (w : Word) : Word :=
  (s.rd off &&& ~~~bufferedMask off) ||| (w &&& bufferedMask off)

/-- Field of a word. -/
def Fld.of (f : Fld) (w : Word) : Nat := getBits w f.lo f.w

/-- Leg counts of R330. -/
def legsOk (w : Word) : Bool :=
  (Fld.phyDrvDrvLegs.of w == 5 || Fld.phyDrvDrvLegs.of w == 6 || Fld.phyDrvDrvLegs.of w == 7)
    && decide (Fld.phyDrvOdtLegs.of w ≤ 6)
    && (Fld.phyDrvCaLegs.of w == 5 || Fld.phyDrvCaLegs.of w == 6 || Fld.phyDrvCaLegs.of w == 7)

/-- The rule by which a register's value is rejected on its own (R105, R200, R273, R283, R330, R464, R547, R571). -/
def valueOk (s : State) (off : Nat) (w : Word) : Bool :=
  if off = Reg.thrCtl.at then
    Fld.thrCtlDepth.of w != 0 && Fld.thrCtlInterval.of w != 0 && Fld.thrCtlWindow.of w != 0
  else if off = Reg.dirtyBudget.at then decide (Fld.dirtyBudgetMib.of w ≤ 16384)
  else if off = Reg.dirtyCtl.at then decide (Fld.dirtyCtlClean.of w ≤ Fld.dirtyCtlLow.of w)
  else if off = Reg.fltQuiet.at then decide (10 ≤ Fld.fltQuietTime.of w)
  else if off = Reg.fltRlimit.at then Fld.fltRlimitLimit.of w != 0 && Fld.fltRlimitWindow.of w != 0
  else if off = Reg.sramBgtCtl.at then Fld.sramBgtCtlDrainMax.of w != 0 && Fld.sramBgtCtlAbandonMax.of w != 0
  else if off = Reg.blkStart.at then
    Fld.blkStartMode.of w ∈ [0x4, 0x5, 0x7, 0xB]
  else if 0x10000 ≤ off ∧ off < 0x20000 then
    let c := (off - 0x10000) / 0x1000
    if off = Reg.chRef.at c then
      decide (Fld.chRefPostpone.of w ≤ 8) && !(Fld.chRefMode.of w == 1 && s.fld Fld.phyPopGen c == 1)
    else if off = Reg.chRowp.at c then decide (64 ≤ Fld.chRowpAlert.of w)
    else if off = Reg.phyDrv.at c then legsOk w
    else true
  else true

/-- Every victim LFSR is loaded from the seed, or from the unit identity (R181). -/
def loadLfsrs (s : State) : State :=
  let seed := if s.fld Fld.tierLfsrSeedSeed = 0 then s.rd Reg.blkUnit.at else s.rd Reg.tierLfsrSeed.at
  { s with lfsr := Vector.ofFn (fun n =>
      let v := seed ^^^ BitVec.ofNat 32 n.val
      if v = 0 then 1 else v) }

/-- The Awl's LFSRs are loaded from `AWL_BP_SEED` (R410, R414). -/
def loadAwl (s : State) : State :=
  let seed : BitVec 16 := BitVec.ofNat 16 (s.fld Fld.awlBpSeedSeed)
  let nz (v : BitVec 16) : BitVec 16 := if v = 0 then 1 else v
  { s with awlLfsr := Vector.ofFn (fun t => nz (seed ^^^ BitVec.ofNat 16 t.val))
           ports := Vector.ofFn (fun p => { s.ports[p] with dlj := nz (seed ^^^ 0x00F0 ^^^ BitVec.ofNat 16 p.val) }) }

/-- Every bucket is cut to the new depth (R148). -/
def cutBuckets (s : State) : State :=
  let d := s.fld Fld.thrCtlDepth
  { s with ctxs := (s.ctxs.map (fun e => (e.1, { e.2 with tokens := min e.2.tokens d }))).filter (fun e => e.2 != {}) }

/-- What an applied value does at once. -/
def afterApply (s : State) (off : Nat) : State :=
  if off = Reg.tierLfsrSeed.at then loadLfsrs s
  else if off = Reg.awlBpSeed.at then loadAwl s
  else if off = Reg.thrCtl.at then cutBuckets s
  else if off = Reg.dirtyBudget.at ∨ off = Reg.dirtyCtl.at then resumeCheck s
  else s

/-- A pending value is dropped. -/
def dropPend (s : State) (off : Nat) : State := { s with pend := kErase s.pend off }

/-- A pending value reaches its boundary: it applies, or its own rule rejects it (R616). -/
def applyReg (s : State) (off : Nat) : State :=
  match kFind s.pend off with
  | none => s
  | some w =>
    let s := dropPend s off
    if valueOk s off w then afterApply (s.wr off (merged s off w)) off else s.reject off w

/-- Every pending value whose offset satisfies `p` reaches its boundary. -/
def applyAll (s : State) (p : Nat → Bool) : State :=
  ((s.pend.map (fun e => e.1)).filter p).foldl applyReg s

/-- Boundaries apply nothing while HOLD is set, or, at a unit's own boundary, until the epoch boundary after the clear
(R617); in ENUMERATE and LOAD everything waits for the boundary of start step 12 (R430). -/
def unitMayApply (s : State) : Bool := !s.holding && !s.holdRelease && s.mode != .enumerate && s.mode != .load

/-! ### Groups judged together -/

/-- The pending or present limit of port `n`. -/
def limitOf (s : State) (n : Nat) : Nat :=
  match kFind s.pend (Reg.wpDcred.at n) with
  | some w => Fld.wpDcredLimit.of w
  | none => s.fld Fld.wpDcredLimit n

/-- One port's limit changes (R44): a growing limit gives its credits to the fabric at once, a shrinking one is worked
off. -/
def setLimit (s : State) (n lim : Nat) : State :=
  let old := s.fld Fld.wpDcredLimit n
  let s := s.setFld Fld.wpDcredLimit lim n
  let isOpen := s.ports[portOf n].st == .opened
  s.modPort (portOf n) (fun q =>
    if !isOpen then q
    else if old ≤ lim then
      let back := min (lim - old) q.dOver
      { q with dOver := q.dOver - back, dFab := q.dFab + (lim - old - back) }
    else
      -- credits at the fabric cannot be recalled: the excess is kept back as staging lines free (R44)
      { q with dOver := q.dOver + (old - lim) })

/-- The eight data-line limits (R44). -/
def applyLimits (s : State) : State :=
  let offs := (List.range 8).map (fun n => Reg.wpDcred.at n)
  let waiting := offs.filter (fun o => (kFind s.pend o).isSome)
  if waiting.isEmpty then s
  else
    let lims := (List.range 8).map (limitOf s)
    let ok := lims.sum == 131072 && (List.range 8).all (fun n => !s.flag Fld.wpCtlEnable n || decide (64 ≤ limitOf s n))
    if ok then
      let s := (List.range 8).foldl (fun s n => setLimit s n (lims.getD n 0)) s
      waiting.foldl dropPend s
    else waiting.foldl (fun s o => (dropPend s o).reject o ((kFind s.pend o).getD 0)) s

/-- Registers of the channel map and the hash seed (R160). -/
def mapOffs : List Nat := (List.range 16).map (fun k => Reg.chMap.at k)
def seedOffs : List Nat := [Reg.tierHashSeedLo.at, Reg.tierHashSeedHi.at]

/-- The channel map with its pending words in place. -/
def mapNext (s : State) (e : Nat) : Nat :=
  (Fld.chMapEntry (e % 4)).of (merged s (Reg.chMap.at (e / 4)) ((kFind s.pend (Reg.chMap.at (e / 4))).getD (s.rd (Reg.chMap.at (e / 4)))))

/-- A map may be applied when each entry names a channel with ranks that is not RETIRED (R160). -/
def mapOk (s : State) : Bool :=
  (List.range 64).all (fun e => s.fld Fld.tierGeomRanks (mapNext s e) != 0 && (s.ch (mapNext s e)).st != .retired)

/-- The map and the seed reach their boundary (R160): at an epoch boundary of BYPASS, and at step 17 of the start. In any
other mode they are not applied. `start`: the moment is step 17. -/
def applyMap (s : State) (start : Bool) : State :=
  let waitMap := mapOffs.filter (fun o => (kFind s.pend o).isSome)
  let waitSeed := seedOffs.filter (fun o => (kFind s.pend o).isSome)
  let refuse (s : State) (l : List Nat) : State := l.foldl (fun s o => (dropPend s o).reject o ((kFind s.pend o).getD 0)) s
  if s.mode = .bypass || start then
    let s :=
      if waitMap.isEmpty then s
      else if mapOk s then waitMap.foldl applyReg s else refuse s waitMap
    waitSeed.foldl applyReg s
  else if s.mode = .enumerate || s.mode = .load || s.mode = .train then s
  else refuse (refuse s waitMap) waitSeed

/-- The channel map of R161 from the channels' frame counts. -/
def buildWeights (f : Nat → Nat) : List Nat :=
  let total := ((List.range 16).map f).sum
  let w0 := (List.range 16).map (fun c => if f c = 0 then 0 else max 1 (64 * f c / total))
  -- 64 * F / total - w, compared as 64 * F + (64 - w) * total to stay in the natural numbers
  let best (w : List Nat) : Nat := (List.range 16).foldl (fun b c =>
    if f c = 0 then b
    else if f b = 0 || decide (64 * f b + (64 - w.getD b 0) * total < 64 * f c + (64 - w.getD c 0) * total) then c
    else b) 0
  let up (w : List Nat) : List Nat := if w.sum < 64 then w.set (best w) (w.getD (best w) 0 + 1) else w
  let top (w : List Nat) : Nat := (List.range 16).foldl (fun b c => if w.getD b 0 ≤ w.getD c 0 then c else b) 0
  let down (w : List Nat) : List Nat := if 64 < w.sum then w.set (top w) (w.getD (top w) 0 - 1) else w
  if total = 0 then w0 else (List.range 64).foldl (fun w _ => down (up w)) w0

/-- The slots of the map by rounds (R161). -/
def buildSlots (w : List Nat) : List Nat :=
  ((List.range 64).map (fun r => (List.range 16).filter (fun c => decide (r < w.getD c 0)))).flatten.take 64

/-- The block builds the map itself (R161). -/
def buildMap (s : State) : State :=
  let w := buildWeights (fun c => if s.ranks c = 0 || (s.ch c).st == .retired then 0 else 16 * s.sets c)
  let slots := buildSlots w
  (List.range slots.length).foldl (fun s e => s.setFld (Fld.chMapEntry (e % 4)) (slots.getD e 0) (e / 4)) s

/-- Timing registers of a channel (R264). -/
def timOffs (c : Nat) : List Nat :=
  [Reg.chTimA, Reg.chTimB, Reg.chTimC, Reg.chTimD, Reg.chTimE, Reg.chTimF, Reg.chTimG, Reg.chTimH, Reg.chTimI,
   Reg.chTimJ, Reg.chTimK].map (fun r => r.at c)

/-- The timing fields that a channel's generation uses, without the TURN_ fields (R264, R266). -/
def timFields (s : State) (c : Nat) : List Fld :=
  let base := [Fld.chTimATrcd, Fld.chTimATrp, Fld.chTimATras, Fld.chTimBTrc, Fld.chTimBTrtp, Fld.chTimBTwr,
    Fld.chTimCTrrdS, Fld.chTimCTrrdL, Fld.chTimCTccdS, Fld.chTimCTccdL, Fld.chTimDTwtrS, Fld.chTimDTwtrL,
    Fld.chTimDTfaw, Fld.chTimECl, Fld.chTimECwl, Fld.chTimFTrfc, Fld.chTimHTrefi, Fld.chTimITxs, Fld.chTimITsrMin,
    Fld.chTimJTmod, Fld.chTimKTzqCal]
  let d5 := if 2 ≤ s.fld Fld.phyPopGen c then [Fld.chTimDTccdLWr, Fld.chTimFTrfcSb, Fld.chTimGTrfmSb, Fld.chTimKTzqLat] else []
  let st := if s.fld Fld.phyPopStack c ≠ 0 then [Fld.chTimGTrfcDlr, Fld.chTimJTrrdDlr, Fld.chTimJTfawDlr] else []
  base ++ d5 ++ st

/-- The waiting timing values apply together or not at all (R266). -/
def applyTimings (s : State) (c : Nat) : State :=
  let waiting := (timOffs c).filter (fun o => (kFind s.pend o).isSome)
  if waiting.isEmpty then s
  else
    let ok := (timFields s c).all (fun f =>
      let o := f.reg.at c
      f.of (merged s o ((kFind s.pend o).getD (s.rd o))) != 0)
    if ok then waiting.foldl applyReg s
    else waiting.foldl (fun s o => (dropPend s o).reject o ((kFind s.pend o).getD 0)) s

/-! ### The boundaries of R614 -/

/-- An offset of channel `c`'s group. -/
def inChannel (c off : Nat) : Bool := off / 0x1000 == 16 + c

/-- A channel boundary (R615): every pending value of the channel applies, but those with a boundary of their own. -/
def channelBoundary (s : State) (c : Nat) : State :=
  if !unitMayApply s then s
  else
    let s := applyTimings s c
    applyAll s (fun o => inChannel c o && !(timOffs c).contains o && o != Reg.trnCtl.at c && o != Reg.phyZq.at c)

/-- A packet boundary of port `p` (R56). -/
def portBoundary (s : State) (p : PortId) : State :=
  if unitMayApply s then applyReg s (Reg.wpCtl.at p.val) else s

/-- A transfer boundary of the media port (R256): no transfer is in progress. -/
def mediaBoundary (s : State) : State :=
  if unitMayApply s && s.media.xfer.isNone then
    applyReg (applyReg (applyReg s Reg.mpCtl.at) Reg.mpDefer.at) Reg.mpArbPreempt.at
  else s

/-- A transaction boundary of a sideband quad (R348). -/
def quadBoundary (s : State) (q : Nat) : State :=
  if unitMayApply s && s.quads[(⟨q % 4, Nat.mod_lt _ (by decide)⟩ : Fin 4)].cur.isNone then applyReg s (Reg.sbCtl.at q) else s

/-- Offsets that apply at an epoch boundary: all but those of a unit with a boundary of its own. -/
def blockWide (off : Nat) : Bool :=
  let g := off / 0x1000
  g != 4 && g != 0xA && !(decide (0x10 ≤ g) && decide (g ≤ 0x1F)) && !(List.range 4).any (fun q => Reg.sbCtl.at q == off)
    && !mapOffs.contains off && !seedOffs.contains off

/-- The contexts' pending copies apply (R70, R99). -/
def applyContexts (s : State) : State :=
  let d := s.fld Fld.thrCtlDepth
  let iv := s.fld Fld.thrCtlInterval
  let f (c : Ctx) : Ctx :=
    match c.pend with
    | none => c
    | some (cfg, bud, stp) =>
      let c1 := { c with cfg := cfg, budget := bud, pend := none, dead := false }
      match stp with
      | none => c1
      | some t =>
        if t = 0 then { c1 with step := 0, tokens := 0, refillAt := none }
        else if c.step = 0 then
          { c1 with step := t, tokens := d, refillAt := some (s.timeBase + BitVec.ofNat 24 (iv * 2 ^ (t - 1))) }
        else { c1 with step := t }
  { s with ctxs := (s.ctxs.map (fun e => (e.1, f e.2))).filter (fun e => e.2 != {}) }

/-- An epoch boundary's part for buffered values (R614, R617): nothing while HOLD is set. -/
def epochApply (s : State) : State :=
  if s.holding then s
  else
    let s := { s with holdRelease := false }
    let s := applyLimits s
    let s := applyMap s false
    let s := applyAll s blockWide
    applyContexts s

end Sys2Proof.Machine
end

