-- ==== Sys2Proof/Machine/Access.lean ====
section
/-! DEFINITION. Entries of the ledger, DRAM accesses offered to the channels (R257), and the tag cache (R170–R172). -/

namespace Sys2Proof.Machine

/-! ### Ledger entries -/

/-- The smallest index that no entry of the ledger uses; entries hold distinct indexes below 131,072 (R141). -/
def freeIdx (s : State) : Nat :=
  ((List.range (s.ledger.length + 1)).find? (fun i => s.ledger.all (fun e => e.idx != i))).getD 0

/-- The state with an entry added at the end of ledger order (R108). -/
def addEntry (s : State) (e : LEntry) : State := { s with ledger := s.ledger ++ [{ e with idx := freeIdx s }] }

/-- The entry of an index. -/
def entry? (s : State) (idx : Nat) : Option LEntry := s.ledger.find? (fun e => e.idx == idx)

/-- The state with one entry changed. -/
def modEntry (s : State) (idx : Nat) (f : LEntry → LEntry) : State :=
  { s with ledger := s.ledger.map (fun e => if e.idx = idx then f e else e) }

/-- A write-through goes on without the entry that a line of it came from: a later value of the line is on its way (R122). -/
def WriteThru.detach (gone : List Nat) (w : WriteThru) : WriteThru :=
  let mine (l : Nat × Line × Bool × Option Nat) : Bool := match l.2.2.2 with | some i => gone.contains i | none => false
  if !w.lines.any mine then w
  else { w with
    lines := w.lines.map (fun l => if mine l then (l.1, l.2.1, l.2.2.1, none) else l)
    redirty := (w.lines.filter mine).foldl (fun m l => m ||| bit64 l.1) w.redirty }

/-- The state without the entries that satisfy `p`; their write-throughs go on without them. -/
def dropEntries (s : State) (p : LEntry → Bool) : State :=
  let gone := (s.ledger.filter (fun e => p e && e.sent && !e.taken)).map (fun e => e.idx)
  let s : State := { s with ledger := s.ledger.filter (fun e => !p e) }
  if gone.isEmpty then s else { s with media := { s.media with wts := s.media.wts.map (WriteThru.detach gone) } }

/-- The entries of one line's chain, in ledger order (R116). -/
def chain (s : State) (k : LineKey) : List LEntry := s.ledger.filter (fun e => e.key == k && k != .none)

/-- The earlier entries of an entry's chain, in ledger order. -/
def earlier (s : State) (e : LEntry) : List LEntry :=
  (s.ledger.takeWhile (fun x => x.idx != e.idx)).filter (fun x => x.key == e.key && e.key != .none)

/-- The later entries of an entry's chain, in ledger order. -/
def later (s : State) (e : LEntry) : List LEntry :=
  ((s.ledger.dropWhile (fun x => x.idx != e.idx)).drop 1).filter (fun x => x.key == e.key && e.key != .none)

/-! ### DRAM accesses -/

/-- A background access: one under context 0 (R77). -/
def isBackground (why : JobFor) (ctx : Nat) : Bool :=
  match why with
  | .host _ => ctx == 0
  | .offerRead _ => ctx == 0
  | .fillWrite _ => ctx == 0
  | .tagRead _ => ctx == 0
  | .tagWrite _ => ctx == 0
  | _ => true

/-- A frequency change is refused (R302): REFUSED, EV_FREQ_REFUSED with its code, and the change under way ends. -/
def freqRefuse (s : State) (c target code : Nat) : State :=
  let s := (s.setFlag Fld.chFreqRefused true c).setFlag Fld.chFreqBusy false c
  let s := s.modCh (chan c) (fun q => { q with freq := .none, freqTries := 0 })
  s.info Ev.freqRefused (Src.chan c) (dw (c % 16 + target % 4 * 16 + code * 256))

/-- The change goes back to its step 2, and is refused once its attempts are used (R304). -/
def freqRetry (s : State) (c : Nat) : State :=
  let s := s.count Reg.chCntFreqRetry 1 c
  let n := (s.ch c).freqTries + 1
  if s.fld Fld.chFreqTries c ≤ n then freqRefuse s c (s.ch c).freqTo 5
  else s.modCh (chan c) (fun q => { q with freq := .waitIdle, freqTries := n })

/-- A host-caused candidate abandons a self-refresh entry under way (R300), or waits for the exit (R301). -/
def wakeChannel (s : State) (c : Nat) : State :=
  match (s.ch c).sr, (s.ch c).srWhy with
  | .entering, .freq =>
    if !(s.ch c).srRanks.isEmpty then s.count Reg.chCntSrWait 1 (chan c)
    else freqRetry ((s.count Reg.chCntSrAbandon 1 (chan c)).modCh (chan c) (fun q =>
      { q with sr := .active, srWhy := .none, srRanks := [], freq := .waitIdle })) c
  | .inside, .freq => s.count Reg.chCntSrWait 1 (chan c)
  | .exiting, _ => s.count Reg.chCntSrWait 1 (chan c)
  | _, _ => s

/-- The state in which an access has been offered to a channel's arbiters, and its number. -/
def newJob (s : State) (c : Nat) (why : JobFor) (write : Bool) (lines : List JobLine) (ctx : Nat) (deadline : Tick)
    (rights : Bool) (overdue : Bool := false) : Nat × State :=
  let bg := isBackground why ctx
  let s := if bg then s else wakeChannel s c
  let j : Job := { id := s.nextId, why := why, write := write, lines := lines, ctx := ctx, deadline := deadline,
                   rights := rights, overdue := overdue, background := bg }
  (s.nextId, { s with nextId := s.nextId + 1 }.modCh (chan c) (fun q => { q with jobs := q.jobs ++ [j] }))

/-- The access of a number on a channel. -/
def job? (s : State) (c id : Nat) : Option Job := (s.ch c).jobs.find? (fun j => j.id == id)

/-- The state with one access changed. -/
def modJob (s : State) (c id : Nat) (f : Job → Job) : State :=
  s.modCh (chan c) (fun q => { q with jobs := q.jobs.map (fun j => if j.id = id then f j else j) })

/-- The state in which an access has ended: it is no candidate any more. -/
def endJob (s : State) (c id : Nat) : State :=
  s.modCh (chan c) (fun q => { q with jobs := q.jobs.filter (fun j => j.id != id) })

/-- A candidate withdraws (R89): with a grant already decided for it, its slot is a dead one. Commands already granted
stay in the issue queue without an access. -/
def withdrawJob (s : State) (c id : Nat) : State :=
  let q := s.ch c
  let s := if q.busNext.any (fun b => b.2 = id) then s.count Reg.chCntDead 1 (chan c) else s
  (endJob s c id).modCh (chan c) (fun q =>
    { q with busNext := q.busNext.filter (fun b => b.2 != id)
             queue := q.queue.map (fun x => if x.job = some id then { x with job := none } else x) })

/-! ### The tag cache (R170–R172) -/

/-- The set is held in its channel's share of the tag cache. -/
def cached (s : State) (c set : Nat) : Bool := s.caches[chan c].any (fun e => e.set == set)

/-- The set has been referenced: it becomes the newest (R170). -/
def touchSet (s : State) (c set : Nat) : State :=
  let l := s.caches[chan c]
  { s with caches := s.caches.set (chan c) (l.filter (fun e => e.set == set) ++ l.filter (fun e => e.set != set)) }

/-- The eight lines of a set's tag block, as the lines of an access (R167). -/
def tagLines (s : State) (c set : Nat) : List JobLine :=
  (List.range 8).map (fun l => { loc := s.tagLoc c set l, key := set })

/-- Tag reserve entries for the eight lines of a set (R141). -/
def takeTagEntries (s : State) (kind : LKind) (c set id ctx : Nat) (deadline : Tick) : State :=
  (List.range 8).foldl (fun s l => addEntry s
    { idx := 0, kind := kind, st := .run, pool := .tagRes, ctx := ctx, port := 0, deadline := deadline,
      key := .loc c (tagAddr set l), phase := .dram id, owner := id }) s

/-- Eight tag reserve entries are free (R141). -/
def tagRoom (s : State) : Bool := decide (poolCount s .tagRes + 8 ≤ 1024)

/-- Start reading a set into the tag cache, when eight tag reserve entries are free. -/
def startFetch (s : State) (c set ctx : Nat) (deadline : Tick) : State :=
  if tagRoom s then
    let (id, s) := newJob s c (.tagRead set) false (tagLines s c set) ctx deadline (s.entryRights ctx)
    let s := takeTagEntries s .tagRead c set id ctx deadline
    { s with fetches := s.fetches.filter (fun f => !(f.ch == c && f.set == set)) ++ [{ ch := c, set := set, job := some id, ctx := ctx, deadline := deadline }] }
  else s

/-- The set is asked for: it is there, or its reading starts, counted in `TIER_CNT_TC_MISS` (R170, R210). -/
def wantSet (s : State) (c set ctx : Nat) (deadline : Tick) : Bool × State :=
  if cached s c set then (true, touchSet s c set)
  else if s.fetches.any (fun f => f.ch == c && f.set == set) then (false, s)
  else
    let s := s.count Reg.tierCntTcMiss
    let s := { s with fetches := s.fetches ++ [{ ch := c, set := set, ctx := ctx, deadline := deadline }] }
    (false, startFetch s c set ctx deadline)

/-- Fetches that waited for tag reserve entries start (R144). -/
def startFetches (s : State) : State :=
  (s.fetches.filter (fun f => f.job.isNone)).foldl (fun s f => startFetch s f.ch f.set f.ctx f.deadline) s

/-- The set has been read: it enters its group, and the group's oldest set leaves it, written back when changed
(R170, R171). -/
def installSet (s : State) (c set : Nat) : State :=
  let l := s.caches[chan c]
  let group := l.filter (fun e => e.set % 640 == set % 640)
  let s := { s with fetches := s.fetches.filter (fun f => !(f.ch == c && f.set == set)) }
  let s :=
    if group.length < 8 then s
    else match group.getLast? with
      | none => s
      | some v =>
        let s := { s with caches := s.caches.set (chan c) (s.caches[chan c].filter (fun e => e.set != v.set)) }
        if v.changed && tagRoom s then
          let dl := s.farDeadline (s.fld Fld.arbFarRepair)
          let (id, s) := newJob s c (.tagWrite v.set) true (tagLines s c v.set) 0 dl false
          takeTagEntries s .tagWrite c v.set id 0 dl
        else s
  { s with caches := s.caches.set (chan c) ({ set := set } :: s.caches[chan c]) }

/-! ### Frames -/

/-- The way that holds a page, if one does (R179). -/
def findWay (s : State) (c set page : Nat) : Option Nat :=
  (List.range 16).find? (fun w => let t := s.tag c set w; t.live && t.page == page)

/-- The directory entry after an invalidation: a frame without valid sectors is not live (R169). -/
def Tag.trim (t : Tag) : Tag := if t.valid = 0 then { retired := t.retired, retirePend := t.retirePend } else t

/-- The state with a directory entry changed, PERSIST released where no dirty sector is left (R197). -/
def putTag (s : State) (c set way : Nat) (t : Tag) : State :=
  let t := t.trim
  let gone := t.persist && t.dirty == 0
  let t := if gone then { t with persist := false } else t
  let s := s.setTag c set way t
  if t.persist then s else { s with pidx := s.pidx.filter (fun k => k != frameKey c set way) }

/-- Sectors are invalidated (R124, R156, R233). -/
def invalidate (s : State) (c set way : Nat) (m : BitVec 64) : State :=
  let t := s.tag c set way
  putTag s c set way { t with valid := t.valid &&& ~~~m, dirty := t.dirty &&& ~~~m, poison := t.poison &&& ~~~m }

/-- Sectors have reached media: they are dirty no more (R188, R232). -/
def cleaned (s : State) (c set way : Nat) (m : BitVec 64) : State :=
  let t := s.tag c set way
  putTag s c set way { t with dirty := t.dirty &&& ~~~m }

/-- The content of a frame's line; an unwritten line reads zeros. -/
def frameLine (s : State) (c set way sector : Nat) : Line := kGet 0 s.dram (lineKeyOf c set way sector)

/-- The state with a frame's line written. -/
def putLine (s : State) (c set way sector : Nat) (l : Line) : State :=
  { s with dram := kSet 0 s.dram (lineKeyOf c set way sector) l }

/-- The state with a sector poisoned by a DRAM error (R156). -/
def poisonSector (s : State) (c set way sector : Nat) : State :=
  let t := s.tag c set way
  if (t.valid.getLsbD sector || s.mode == .plain) && !t.poison.getLsbD sector then
    (s.setTag c set way { t with poison := t.poison ||| bit64 sector }).count Reg.tierCntPoisonSet
  else s

/-- A tag entry is lost (R176): its fields are cleared and its set joins the lost-set list, or the list is full (R178).
In PLAIN the page's poison bits are all set instead (R206). -/
def loseTag (s : State) (c set way : Nat) : State :=
  let s := s.count Reg.tierCntTagLost
  let s := s.eventOf Ev.tagLost Src.tier 62 (formS c set way) 0 (some set)
  if s.mode = .plain then s.setTag c set way { poison := BitVec.allOnes 64, retired := (s.tag c set way).retired }
  else
    let s := { s.setTag c set way {} with pidx := s.pidx.filter (fun k => k != frameKey c set way) }
    if s.lost.any (fun l => l = some ⟨c, set⟩) then s
    else match s.lost.findIdx? (fun l => l.isNone) with
      | some i => { s with lost := s.lost.set i (some ⟨c, set⟩) }
      | none => if s.lost.length < 64 then { s with lost := s.lost ++ [some ⟨c, set⟩] } else s.report 63

/-- A set on the lost-set list (R177). -/
def onLostList (s : State) (c set : Nat) : Bool := s.lost.any (fun l => l = some ⟨c, set⟩)

end Sys2Proof.Machine
end

