-- ==== Sys2Proof/Machine/PortOps.lean ====
section
/-! DEFINITION. What a Welt port does: its credit books (R42–R47), its completions (R33–R39), resynchronisation (R55) and
the taking of packets (R31, R32, R705). -/

namespace Sys2Proof.Machine

/-! ### Status codes and completion opcodes (R33, R34) -/

def Status.ok : Nat := 0
def Status.poison : Nat := 1
def Status.range : Nat := 2
def Status.denied : Nat := 3
def Status.unavail : Nat := 4
def Status.aborted : Nat := 5

def Op.rdData : BitVec 8 := 0x81
def Op.done : BitVec 8 := 0x82
def Op.atomData : BitVec 8 := 0x83
def Op.err : BitVec 8 := 0x8F

/-! ### Credits -/

/-- A header leaves the header buffer: its credit returns to the fabric, but not in QUIESCE or SAFE (R42, R51, R54). -/
def returnHdr (s : State) (p : PortId) : State :=
  let give := s.ports[p].st == .opened && s.mode != .safe && s.modeNow != .recover
  s.modPort p (fun q => { q with hPort := q.hPort - 1, hFab := if give then q.hFab + 1 else q.hFab })

/-- Staging lines are freed: their credits return to the fabric, but not in SAFE, in a closed port, or while a lowered
limit is still exceeded (R43, R44, R54). -/
def returnData (s : State) (p : PortId) (n : Nat) : State :=
  let give := (s.ports[p].st == .opened || s.ports[p].st == .quiesce) && s.mode != .safe && s.modeNow != .recover
  s.modPort p (fun q =>
    let back := min n q.dOver
    { q with staged := q.staged - n, dOver := q.dOver - back, dFab := if give then q.dFab + (n - back) else q.dFab })

/-- Kinds whose staged line holds a staging line of the port: a payload belongs to them (R26). -/
def LKind.hasPayload : LKind → Bool
  | .wr => true | .wrm => true | .cas => true | _ => false

/-- A ledger entry gives up its staging line (R43). -/
def freeStaging (s : State) (e : LEntry) : State :=
  if e.stg.isSome && e.kind.hasPayload then
    modEntry (returnData s (portOf e.port) 1) e.idx (fun x => { x with stg := none })
  else s

/-- An entry leaves the ledger: its access is withdrawn and its staging line freed. -/
def releaseEntry (s : State) (e : LEntry) : State :=
  let s := freeStaging s e
  let s := match e.phase with
    | .dram j => withdrawJob s e.ch j
    | _ => s
  dropEntries s (fun x => x.idx == e.idx)

/-- Every entry of a request leaves the ledger. -/
def releaseRequest (s : State) (rid : Nat) : State :=
  (s.ledger.filter (fun e => e.rid == some rid)).foldl releaseEntry s

/-! ### Sending completions -/

/-- Completion credits that a packet costs (R45). -/
def Completion.cost (c : Completion) : Nat := 1 + c.lines.length

/-- A request of a port by its number. -/
def req? (s : State) (p : PortId) (rid : Nat) : Option Req := s.ports[p].reqs.find? (fun r => r.rid == rid)

/-- The state with one request changed. -/
def modReq (s : State) (p : PortId) (rid : Nat) (f : Req → Req) : State :=
  s.modPort p (fun q => { q with reqs := q.reqs.map (fun r => if r.rid = rid then f r else r) })

/-- A port without outstanding requests leaves QUIESCE for CLOSED, where no credits are advertised (R51). -/
def settlePort (s : State) (p : PortId) : State :=
  let q := s.ports[p]
  if q.st = .quiesce && q.reqs.isEmpty && q.txq.isEmpty then
    s.modPort p (fun q => { q with st := .closed, adv := none, hPort := 0, hFab := 0, dFab := 0, dOver := 0,
                                   cAvail := 0, cOut := 0 })
  else s

/-- What a packet that carries LAST ends: the tag is free, a late request counts for its context, and a request that never
left the header buffer gives up its header credit and its staging lines (R36, R40, R42, R43, R106). -/
def finishTag (s : State) (p : PortId) (c : Completion) (late : Nat) : State :=
  let s := (s.setFld Fld.wpLastLateLate late p.val).setFld Fld.wpLastLateTag c.tag.toNat p.val
  let s := if late = 0 then s else s.modCtx c.ctx (fun x => { x with cntMiss := cntUp x.cntMiss })
  match req? s p c.rid with
  | none => s
  | some r =>
    let s := if r.hdrHeld then returnHdr s p else s
    let s := if r.early.isEmpty then s else returnData s p r.early.length
    let s := s.modPort p (fun q => { q with
      reqs := q.reqs.filter (fun x => x.rid != c.rid)
      rx := q.rx.map (fun x => if x.rid = some c.rid then { x with rid := none } else x) })
    settlePort s p

/-- A completion packet is sent (R33–R37): lateness is taken now, credits are spent, and the entries of lines that left
are released. -/
def sendOne (s : State) (p : PortId) (c : Completion) : State :=
  let late := lateness s.timeBase c.deadline
  let s := s.modPort p (fun q => { q with cAvail := q.cAvail - c.cost, cOut := q.cOut + c.cost })
  let s := s.count64 Reg.wpCntLineOutLo Reg.wpCntLineOutHi c.lines.length p.val
  let s := if c.status = Status.aborted then s.count Reg.wpCntAborted 1 p.val else s
  let s := s.drive (.completion p { c with lateness := late })
  let s := if c.opcode = Op.rdData then
      dropEntries (s.modCtx c.ctx (fun x => { x with cntLineRd := cntUp x.cntLineRd c.lines.length })) (fun e => e.rid == some c.rid && e.kind == .rd
        && decide (c.addr.toNat / 64 % 64 ≤ e.no ∧ e.no < c.addr.toNat / 64 % 64 + c.lines.length))
    else s
  if c.last then finishTag s p c late else s

/-- Packets leave in order while the port holds the credits of the front one (R45). -/
def drainTx : Nat → State → PortId → State
  | 0, s, _ => s
  | n + 1, s, p =>
    match s.ports[p].txq with
    | [] => s
    | c :: rest =>
      if c.cost ≤ s.ports[p].cAvail then
        drainTx n (sendOne (s.modPort p (fun q => { q with txq := rest })) p c) p
      else s

/-- A completion joins the port's output. -/
def pushTx (s : State) (p : PortId) (c : Completion) : State :=
  let s := s.modPort p (fun q => { q with txq := q.txq ++ [c] })
  drainTx s.ports[p].txq.length s p

/-- The final completion of a request without payload (R33, R35): DONE, ATOM_DATA or ERR. -/
def finishReq (s : State) (p : PortId) (rid : Nat) (opcode : BitVec 8) (status : Nat) (operand : BitVec 64 := 0) : State :=
  match req? s p rid with
  | none => s
  | some r =>
    if r.finished then s
    else
      let s := modReq s p rid (fun r => { r with finished := true })
      pushTx s p { rid := rid, opcode := opcode, last := true, pmap := false, ctx := r.ctx, tag := r.tag, status := status,
                   addr := r.addr, operand := operand, deadline := r.deadline }

/-- A request completes ERR; its entries are released and the chunks that wait for credits are not sent. -/
def failReq (s : State) (p : PortId) (rid : Nat) (status : Nat) : State :=
  match req? s p rid with
  | none => s
  | some r =>
    if r.finished then s
    else
      let s := releaseRequest s rid
      let s := s.modPort p (fun q => { q with txq := q.txq.filter (fun c => c.rid != rid) })
      finishReq s p rid Op.err status

/-- One line of a request has completed: with its last line, and its end mark passed, the request completes DONE, with
POISON when a line failed its check (R24, R35). -/
def lineDone (s : State) (p : PortId) (rid : Nat) : State :=
  let s := modReq s p rid (fun r => { r with left := r.left - 1 })
  match req? s p rid with
  | none => s
  | some r =>
    if r.left = 0 && r.ended then finishReq s p rid Op.done (if r.lineBad then Status.poison else Status.ok) else s

/-- The chunks of a read that are ready leave in ascending order (R37, R38). -/
def sendChunks (s : State) (p : PortId) (rid : Nat) : State :=
  match req? s p rid with
  | none => s
  | some r =>
    let run := if r.rdRun = 0 then 1 else r.rdRun
    let total := (r.len + run - 1) / run
    (List.range total).foldl (fun s k =>
      match req? s p rid with
      | none => s
      | some r =>
        let first := k * run
        let n := min run (r.len - first)
        let base := r.addr.toNat / 64 % 64
        let es := (List.range n).filterMap (fun i =>
          s.ledger.find? (fun e => e.rid == some rid && e.kind == .rd && e.no == base + first + i && e.st == .ready))
        if r.finished || r.chunks.contains first || es.length ≠ n then s
        else
          let ls := es.map (fun e => e.slot.getD (0, false))
          let pm : BitVec 64 := (List.range n).foldl (fun m i =>
            if (ls.getD i (0, false)).2 then m ||| bit64 i else m) 0
          let s := modReq s p rid (fun r => { r with chunks := r.chunks ++ [first],
                                                     finished := r.chunks.length + 1 == total })
          -- the data bytes of a poisoned line are undefined (R38): free values
          let (out, s) := ls.foldl (fun (acc : List Line × State) l =>
            if l.2 then let (v, s) := acc.2.free 512; (acc.1 ++ [v], s) else (acc.1 ++ [l.1], acc.2)) ([], s)
          pushTx s p { rid := rid, opcode := Op.rdData, last := r.chunks.length + 1 == total, pmap := pm != 0,
                       ctx := r.ctx, tag := r.tag, status := if pm = 0 then Status.ok else Status.poison,
                       addr := r.addr + BitVec.ofNat 52 (64 * first), operand := pm, lines := out,
                       deadline := r.deadline }) s

/-! ### Opening, quiescing and resynchronising (R46, R51–R56) -/

/-- The port may be open now (R52). -/
def mayOpen (s : State) (p : PortId) : Bool :=
  s.flag Fld.wpCtlEnable p.val && s.modeNow.serves && decide (65 ≤ s.ports[p].adv.getD 0)

/-- The port opens with full pools of header and data-line credits. -/
def openPort (s : State) (p : PortId) : State :=
  let lim := s.fld Fld.wpDcredLimit p.val
  let s := s.setFld Fld.wpCcredAdvAdvertised (s.ports[p].adv.getD 0) p.val
  s.modPort p (fun q => { q with st := .opened, hPort := 0, hFab := 2048, dFab := lim - q.staged, dOver := 0 })

/-- The port's state follows its enable, its credits and the mode (R51, R52): a CLOSED port opens, an OPEN one goes to
QUIESCE when ENABLE falls and CLOSED when the mode no longer serves it. A QUIESCE runs to its end (R51): the credits that it
kept back come with the next opening. -/
def updatePort (s : State) (p : PortId) : State :=
  match s.ports[p].st with
  | .closed => if mayOpen s p then openPort s p else s
  | .opened =>
    if !s.flag Fld.wpCtlEnable p.val then settlePort (s.modPort p (fun q => { q with st := .quiesce })) p
    else if s.mode = .test then settlePort (s.modPort p (fun q => { q with st := .quiesce })) p
    else if !s.modeNow.serves then s.modPort p (fun q => { q with st := .closed })
    else s
  | .quiesce => settlePort s p
  | .resync => s

/-- Every outstanding request of a port completes ERR ABORTED; the number aborted (R39, R55). -/
def abortPort (s : State) (p : PortId) : Nat × State :=
  let rs := s.ports[p].reqs.filter (fun r => !r.finished)
  (rs.length, rs.foldl (fun s r => failReq s p r.rid Status.aborted) s)

/-- The port resynchronises: it aborts its outstanding requests, resets its header and data-line books to their full
pools and reopens or closes (R55). -/
def resyncPort (s : State) (p : PortId) (reason : Nat) : State :=
  let s := s.modPort p (fun q => { q with st := .resync })
  let (n, s) := abortPort s p
  let s := s.count Reg.wpCntResync 1 p.val
  let s := (s.setFld Fld.wpResyncLastReason reason p.val).setFld Fld.wpResyncLastAborted n p.val
  let s := s.modPort p (fun q => { q with
    staged := q.staged - (q.rx.map (fun x => x.held)).getD 0 - (q.reqs.map (fun r => r.early.length)).sum, rx := none, hPort := 0, headHeld := false,
    reqs := q.reqs.map (fun r => { r with hdrHeld := false, early := [] }) })
  if mayOpen s p then openPort s p
  else s.modPort p (fun q => { q with st := .closed, hFab := 0, dFab := 0, dOver := 0 })

/-- Record of the latest packet error (`WP_LAST_ERR`, R662). -/
def lastErr (s : State) (p : PortId) (tag : BitVec 16) (op : BitVec 8) (kind : Nat) : State :=
  ((s.setFld Fld.wpLastErrTag tag.toNat p.val).setFld Fld.wpLastErrOpcode op.toNat p.val).setFld Fld.wpLastErrKind kind p.val

/-- A header whose HCRC fails (R55). In SAFE the port resynchronises only when the block leaves RECOVER (R54). -/
def headerFail (s : State) (p : PortId) (raw : BitVec 256) : State :=
  let h := Header.parse raw
  let s := (s.count Reg.wpCntHdrCrc 1 p.val).setFlag Fld.wpHistHdrCrc true p.val
  let s := lastErr s p h.tag h.opcode 1
  let s := s.eventOf Ev.wpHdrCrc (Src.port p.val) p.val (dw p.val)
  if s.mode = .safe ∨ s.modeNow = .recover then s else resyncPort s p 1

/-- A credit overrun (R47), treated as a header check failure. -/
def overrun (s : State) (p : PortId) (tag : BitVec 16) (op : BitVec 8) : State :=
  let s := s.setFlag Fld.wpHistCredit true p.val
  let s := lastErr s p tag op 5
  let s := s.eventOf Ev.wpCredit (Src.port p.val) p.val (dw p.val) (dw (s.ports[p].adv.getD 0))
  if s.mode = .safe ∨ s.modeNow = .recover then s else resyncPort s p 2

/-! ### Taking packets -/

/-- The page and the lines of a request. -/
def Req.page (r : Req) : Nat := r.addr.toNat / 4096
def Req.first (r : Req) : Nat := r.addr.toNat / 64 % 64

/-- Check 2 of R31: context 0, a missing permission, or an entry that does not admit. -/
def deniedCheck (s : State) (h : Header) : Bool :=
  let c := h.context.toNat
  let cfg := (s.ctx c).cfg
  c == 0 || getBits cfg 2 1 == 0 || (s.ctx c).dead || (h.opcode == Op.drop && getBits cfg 3 1 == 0)
    || (isAtomic h.opcode && getBits cfg 4 1 == 0)

/-- A channel that serves no request of PLAIN (R31 check 4, R482): anything but ONLINE. -/
def plainFenced (s : State) (page : Nat) : Bool := (s.ch (s.plainPlace page).1).st != .online

/-- Check 3 of R31: address bits [51:46], FLUSH and DROP in PLAIN, a page beyond the installed capacity. -/
def rangeCheck (s : State) (h : Header) : Bool :=
  let page := h.address.toNat / 4096
  if h.opcode = Op.barrier then false
  else decide (2 ^ 46 ≤ h.address.toNat)
    || (s.mode == .plain && (h.opcode == Op.flush || h.opcode == Op.drop || decide (64 * s.plainQ ≤ page)))

/-- The first failing check of R31 after check 1, as an ERR status. -/
def admissionCheck (s : State) (h : Header) : Option Nat :=
  if deniedCheck s h then some Status.denied
  else if rangeCheck s h then some Status.range
  else if s.mode == .plain && h.opcode != Op.barrier && plainFenced s (h.address.toNat / 4096) then some Status.unavail
  else if s.mode == .holdup then some Status.aborted
  else none

/-- The class that governs a request (R21, R71, R72). -/
def govClass (s : State) (h : Header) : Cls :=
  let base := (overrideCls h.cls.toNat).getD (ctxCls (getBits (s.ctx h.context.toNat).cfg 0 2))
  match s.mode with
  | .plain => .v
  | .bypass => .u
  | .drain => if base = .v ∨ base = .p then .t else base
  | _ => base

/-- A DENIED completion is recorded and counted (R31, R66, R662). -/
def recordDenied (s : State) (p : PortId) (h : Header) : State :=
  let s := (s.setFld Fld.wpLastDeniedContext h.context.toNat p.val).setFld Fld.wpLastDeniedOpcode h.opcode.toNat p.val
  s.modCtx h.context.toNat (fun c => { c with cntDenied := cntUp c.cntDenied })

/-- A malformed packet: its event and count (R32). -/
def recordMalformed (s : State) (p : PortId) (tag : BitVec 16) (op : BitVec 8) (len lines : Nat) : State :=
  let s := (s.count Reg.wpCntMalformed 1 p.val).setFlag Fld.wpHistMalformed true p.val
  let s := lastErr s p tag op 3
  s.info Ev.wpMalformed (Src.port p.val) (dw (tag.toNat + op.toNat * 2 ^ 16)) (dw (len + lines % 128 * 2 ^ 16))

/-- The packet in progress has ended (R705): a discarded packet gives its credits back; a request whose line count differs
from R26 completes ERR ABORTED without effect; otherwise its lines become visible. -/
def endPacket (s : State) (p : PortId) : State :=
  match s.ports[p].rx with
  | none => s
  | some x =>
    let s := s.modPort p (fun q => { q with rx := none })
    let s := if x.held = 0 then s else returnData s p x.held
    let s := if x.hdr then returnHdr s p else s
    match x.rid with
    | none => s
    | some rid =>
      match req? s p rid with
      | none => s
      | some r =>
        if r.finished then s
        else if x.lines = payloadLines x.opcode x.len then
          let s := modReq s p rid (fun r => { r with ended := true })
          { s with ledger := s.ledger.map (fun e => if e.rid = some rid then { e with vis := true } else e) }
        else
          let s := recordMalformed s p x.tag x.opcode x.len x.lines
          failReq s p rid Status.aborted

/-- A request packet's header has been received (R31, R40–R42, R48, R49). -/
def takeHeader (s : State) (p : PortId) (raw : BitVec 256) : State :=
  let s := endPacket s p
  let h := Header.parse raw
  if !hcrcOk raw then headerFail s p raw
  else if s.ports[p].hFab = 0 then overrun s p h.tag h.opcode
  else
    let s := s.modPort p (fun q => { q with hFab := q.hFab - 1, hPort := q.hPort + 1 })
    let pay := payloadLines h.opcode h.length.toNat
    let rx : Rx := { rid := none, opcode := h.opcode, tag := h.tag, ctx := h.context.toNat, len := h.length.toNat }
    if s.ports[p].reqs.any (fun r => r.tag == h.tag) then
      let s := (s.count Reg.wpCntTagReuse 1 p.val).setFlag Fld.wpHistTagReuse true p.val
      let s := lastErr s p h.tag h.opcode 4
      let s := s.info Ev.wpTagReuse (Src.port p.val) (dw h.tag.toNat) (dw h.context.toNat)
      let s := returnHdr s p
      s.modPort p (fun q => { q with rx := some rx })
    else
      let (rid, s) := s.fresh
      let (dl, s) := stampDeadline s p (effBudget (baseBudget s h) (s.throttleOf h.context.toNat))
      let run := match s.fld Fld.wpCtlRdRun p.val with | 0 => 1 | 1 => 8 | 2 => 16 | _ => 64
      let r : Req := { rid := rid, opcode := h.opcode, ctx := h.context.toNat, tag := h.tag, len := h.length.toNat,
                       addr := h.address, operand := h.operand, pmap := h.pmap && h.opcode == Op.wr,
                       cls := govClass s h, plain := s.mode == .plain, deadline := dl, arrival := s.timeBase,
                       rdRun := run, rights := s.entryRights h.context.toNat, ended := pay == 0 }
      let s := s.modPort p (fun q => { q with reqs := q.reqs ++ [r], rx := some { rx with rid := some rid } })
      if s.mode = .safe ∨ s.modeNow = .recover then failReq s p rid Status.aborted
      else if h.malformed then
        let s := recordMalformed s p h.tag h.opcode h.length.toNat 0
        let s := if pay = 0 then s
          else (modReq s p rid (fun r => { r with hdrHeld := false })).modPort p (fun q =>
            { q with rx := q.rx.map (fun x => { x with hdr := true }) })
        failReq s p rid Status.aborted
      else match admissionCheck s h with
        | some st =>
          let s := if st = Status.denied then recordDenied s p h else s
          failReq s p rid st
        | none => s

/-- The ledger entry of a line of a request. -/
def lineEntry? (s : State) (rid no : Nat) : Option LEntry :=
  s.ledger.find? (fun e => e.rid == some rid && e.no == no)

/-- A payload line arrives (R24, R25, R43, R47): it takes a staging line and is poisoned if its check failed or the
packet's poison map marks it. -/
def takeLine (s : State) (p : PortId) (data : Line) (crc : BitVec 32) : State :=
  match s.ports[p].rx with
  | none => s
  | some x =>
    if s.ports[p].dFab = 0 then overrun s p x.tag x.opcode
    else
      let s := s.modPort p (fun q => { q with dFab := q.dFab - 1, staged := q.staged + 1,
                                              rx := some { x with lines := x.lines + 1 } })
      let s := s.count64 Reg.wpCntLineInLo Reg.wpCntLineInHi 1 p.val
      let hold (s : State) : State := s.modPort p (fun q => { q with rx := q.rx.map (fun x => { x with held := x.held + 1 }) })
      match x.rid with
      | none => hold s
      | some rid =>
        match req? s p rid with
        | none => hold s
        | some r =>
          if r.finished || decide (payloadLines x.opcode x.len ≤ x.lines) then hold s
          else
            let bad := lineCrc data != crc
            let s := if bad then
                let s := (s.count Reg.wpCntLineCrc 1 p.val).setFlag Fld.wpHistLineCrc true p.val
                let s := lastErr s p r.tag r.opcode 2
                let s := s.info Ev.wpLineCrc (Src.port p.val) (dw (r.tag.toNat + x.lines % 64 * 2 ^ 16)) (dw r.ctx)
                modReq s p rid (fun r => { r with lineBad := true })
              else s
            let line := (data, bad || (r.pmap && r.operand.getLsbD x.lines))
            let s := modReq s p rid (fun r => { r with got := r.got + 1 })
            if r.admitted then
              match lineEntry? s rid (r.first + x.lines) with
              | some e => modEntry s e.idx (fun e => { e with stg := some line, st := if e.kind = .cas then e.st else .staged })
              | none => hold s
            else modReq s p rid (fun r => { r with early := r.early ++ [line] })

end Sys2Proof.Machine
end

