-- ==== Sys2Proof/Machine/TierOps.lean ====
section
/-! DEFINITION. The single view and the tier: hazards (R120–R137), lookups (R179), allocations (R180–R185), fills (R186,
R187), offers (R228) and write-throughs (R239), one line operation at a time. -/

namespace Sys2Proof.Machine

/-! ### Kinds of line operation -/

/-- WR, WRM, ZERO and the atomics write their line (R110). -/
def LKind.writes : LKind → Bool
  | .wr => true | .wrm => true | .zero => true | .fetchAdd => true | .swap => true | .cas => true | _ => false

def LKind.atomic : LKind → Bool
  | .fetchAdd => true | .swap => true | .cas => true | _ => false

/-- A full write: WR, ZERO, or a WRM whose mask is all ones (R121). -/
def LEntry.full (e : LEntry) : Bool :=
  match e.kind with
  | .wr => true
  | .zero => true
  | .wrm => e.operand == BitVec.allOnes 64
  | _ => false

/-- The result of a partial write or an atomic stands in its slot. -/
def LEntry.hasResult (e : LEntry) : Bool :=
  match e.phase with
  | .result => true | .place _ => true | .settle _ => true | .media => true | .alloc _ => true | .over => true
  | .dram _ => e.st == .staged
  | _ => false

/-- The value that a write has produced, if it has: a full write's staged line once its end mark has passed, a partial
write's or an atomic's result (R121, R705). -/
def LEntry.produced (e : LEntry) : Option (Line × Bool) :=
  if e.full then (if e.vis then (match e.stg with | some v => some v | none => e.slot) else none)
  else if e.hasResult then e.slot else none

/-- The sector of an entry's host line. -/
def LEntry.sector (e : LEntry) : Nat := match e.key with | .host l => l % 64 | _ => 0
def LEntry.page (e : LEntry) : Nat := match e.key with | .host l => l / 64 | _ => 0

/-- The ledger key of a sector of a page. -/
def hostKey (page sector : Nat) : LineKey := .host (page * 64 + sector)

/-! ### Where a line operation takes its value from (R121) -/

/-- What the earlier entries of a chain give a later operation. -/
inductive Origin where
  /-- nothing earlier: the frame or media -/
  | frame
  /-- a copy -/
  | copy (l : Line) (bad : Bool)
  /-- an earlier write that has not produced its value (R123) -/
  | unproduced
  /-- it waits -/
  | wait
  deriving DecidableEq, Repr

/-- The line as an offer holds it in its buffer, once read out. -/
def offerLine (s : State) (id sector : Nat) : Option (Line × Bool) :=
  match s.media.offers.find? (fun o => o.id == id) with
  | none => none
  | some o => (o.data.find? (fun d => d.1 == sector)).map (fun d => (d.2, o.pmap.getLsbD sector))

/-- The rule of R121 over the earlier entries, the latest first. -/
def originScan (s : State) : List LEntry → Origin
  | [] => .frame
  | x :: xs =>
    match x.kind with
    | .wr | .wrm | .zero | .fetchAdd | .swap | .cas =>
      match x.produced with
      | some v => .copy v.1 v.2
      | none => if x.st = .locked then .wait else .unproduced
    | .drop => .wait
    | .evict | .clean =>
      match offerLine s x.owner x.sector with
      | some v => .copy v.1 v.2
      | none => .wait
    | .move | .scrub =>
      match x.slot with
      | some v => .copy v.1 v.2
      | none => .wait
    | _ => originScan s xs

/-- A write that is still to be applied to its frame. -/
def LEntry.unframed (e : LEntry) : Bool := e.kind.writes && !e.framed && !e.bypass && e.phase != .media

/-- Where an entry's value comes from. An offer holds the line as the frame holds it, without the writes still to be
applied to the frame. -/
def origin (s : State) (e : LEntry) : Origin :=
  let es := (earlier s e).reverse
  originScan s (if es.any LEntry.unframed then es.filter (fun x => x.kind != .evict && x.kind != .clean) else es)

/-- The entry waits; it is counted once (R150). -/
def holdEntry (s : State) (e : LEntry) : State :=
  if e.hazard then modEntry s e.idx (fun x => { x with st := .wait })
  else modEntry (s.count Reg.ldgCntHazard) e.idx (fun x => { x with st := .wait, hazard := true })

/-- A BARRIER of the entry's context precedes it and has not completed (R137). -/
def behindBarrier (s : State) (e : LEntry) : Bool :=
  (s.ledger.takeWhile (fun x => x.idx != e.idx)).any (fun x => x.kind == .barrier && x.ctx == e.ctx && e.rid.isSome)

/-! ### Service by channel state (R174, R190) -/

/-- The channel makes DRAM accesses for host operations. -/
def channelServes (s : State) (c : Nat) : Bool :=
  match (s.ch c).st with
  | .online => true | .fencing => true | .returning => true | _ => false

/-- All sixteen ways of a set are retired (R203). -/
def allRetired (s : State) (c set : Nat) : Bool := (List.range 16).all (fun w => (s.tag c set w).retired)

/-- A line operation admitted now in this set is served as bypass (R174, R190, R192, R203). -/
def bypassNow (s : State) (c set : Nat) : Bool :=
  s.mode == .bypass || s.sets c == 0 || allRetired s c set ||
    match (s.ch c).st with
    | .online => s.flag Fld.tierSweepActive c && decide (s.fld Fld.tierSweepFrontier c ≤ set)
    | .fencing => decide (s.fld Fld.tierSweepFrontier c ≤ set)
    | .returning => decide (s.fld Fld.tierSweepFrontier c ≤ set)
    | _ => true

/-- A drain walker or the channel's fence walker has passed the set (R191, R472). -/
def walkerPassed (s : State) (c set : Nat) : Bool :=
  ((s.ch c).st == .fencing && (match (s.ch c).walker with | some w => decide (set < w) | none => true))
    || (s.mode == .drain && (match kFind s.drain c with | some w => decide (set < w) | none => true))

/-! ### Offers (R228–R237) -/

/-- Free entries of the offer reserve (R141). -/
def offerRoom (s : State) : Nat := 2048 - poolCount s .offerRes

/-- An offer of a frame's sectors is begun: its lines are read from the frame into an offer buffer, each under an offer
entry (R126, R180, R228). -/
def startOffer (s : State) (why : OfferFor) (dirty : Bool) (c set way : Nat) (smap : BitVec 64) (ctx : Nat)
    (deadline : Tick) (rights : Bool) : State :=
  let t := s.tag c set way
  let (id, s) := s.fresh
  let kind := match why with | .evict _ => LKind.evict | _ => LKind.clean
  let ss := sectors smap
  let lines := ss.map (fun x => ({ loc := s.frameLoc c set way x, key := lineKeyOf c set way x } : JobLine))
  let (job, s) := newJob s c (.offerRead id) false lines ctx deadline rights
  let s := ss.foldl (fun s x => addEntry s
    { idx := 0, kind := kind, st := .run, pool := .offerRes, ctx := ctx, port := 0, deadline := deadline,
      key := hostKey t.page x, ch := c, set := set, phase := .dram job, owner := id }) s
  let o : Offer := { id := id, why := why, dirty := dirty, ch := c, set := set, way := way, page := t.page, smap := smap,
                     pmap := t.poison &&& smap, st := .reading job, ctx := ctx, deadline := deadline, rights := rights }
  { s with media := { s.media with offers := s.media.offers ++ [o] } }

/-- The dirty sectors of a frame that no open offer carries to media. -/
def unoffered (s : State) (c set way : Nat) : BitVec 64 :=
  (s.media.offers.filter (fun o => o.ch == c && o.set == set && o.way == way && o.dirty)).foldl (fun m o =>
    m &&& ~~~(o.smap &&& ~~~o.redirty)) (s.tag c set way).dirty

/-- Sectors of a page that are to be written through and whose frame write is still to be made: media gets a newer value
than the frame holds. -/
def throughFirst (s : State) (page : Nat) : BitVec 64 :=
  (s.ledger.filter (fun e => e.unframed && e.through && e.page == page)).foldl (fun m e => m ||| bit64 e.sector) 0

/-- A clean of a frame: its dirty sectors are offered, but those that a write-through takes to media first, when entries
and a buffer are free (R125, R228). -/
def startClean (s : State) (why : OfferFor) (c set way ctx : Nat) (deadline : Tick) (rights : Bool) : Bool × State :=
  let t := s.tag c set way
  let d := t.dirty &&& ~~~throughFirst s t.page
  if d = 0 || decide (offerRoom s < popcount d ∨ 1792 ≤ offerBufs s) then (false, s)
  else (true, startOffer s why true c set way d ctx deadline rights)

/-- The state with one offer changed. -/
def modOffer (s : State) (id : Nat) (f : Offer → Offer) : State :=
  { s with media := { s.media with offers := s.media.offers.map (fun o => if o.id = id then f o else o) } }

/-- The offer's entries leave the ledger. -/
def freeOfferEntries (s : State) (id : Nat) : State :=
  dropEntries s (fun e => (e.kind == .evict || e.kind == .clean) && e.owner == id)

/-- An offer ends: its buffer and entries are free, and FLUSH lines that waited for it are `done` or look again. -/
def endOffer (s : State) (id : Nat) (done : Bool) : State :=
  let s := freeOfferEntries s id
  let s := { s with media := { s.media with offers := s.media.offers.filter (fun o => o.id != id) } }
  { s with ledger := s.ledger.map (fun e =>
      if e.phase = .offer id then { e with phase := if done then .over else .fresh } else e) }

/-- The media message of an opcode. -/
def driveMedia (s : State) (opcode : Nat) (flags : BitVec 8) (mtag page : Nat) (deadline : Tick) (smap pmap : BitVec 64)
    (dsect : Nat) (lines : List Line) : State :=
  let m : MediaHdr := { opcode := opcode, flags := flags, mtag := BitVec.ofNat 16 mtag, deadline := deadline, status := 0,
                        page := page, lines := lines.length, dsect := dsect, smap := smap, pmap := pmap }
  s.drive (.media m.pack lines)

/-- The tag of an offer or write-through slot (R220). -/
def offerTag (slot gen : Nat) : Nat := slot + gen % 64 * 1024

/-- An unaccepted offer is withdrawn (R130, R235): WITHDRAW is sent for one already at the media engine. -/
def withdrawOffer (s : State) (o : Offer) : State :=
  let s := match o.st with
    | .reading j => withdrawJob s o.ch j
    | .sent | .deferred =>
      let s := driveMedia s 0x04 0 (offerTag o.slot o.gen) o.page 0 0 0 0 []
      let s := s.count Reg.mpCntWithdraw
      { s with media := { s.media with offBlock := s.media.offBlock + 1, offEngine := s.media.offEngine - 1,
                                       withdrawn := kPut s.media.withdrawn o.slot o.gen } }
    | _ => s
  endOffer s o.id false

/-- An offer that media has not accepted (R235). -/
def Offer.unaccepted (o : Offer) : Bool := o.st != .accepted

/-! ### Allocations (R180–R185) -/

def modAlloc (s : State) (id : Nat) (f : Alloc → Alloc) : State :=
  { s with allocs := s.allocs.map (fun a => if a.id = id then f a else a) }

/-- An allocation ends without allocating (R132): its fills install nothing, and writes that waited are written
through. -/
def endAlloc (s : State) (id : Nat) : State :=
  let s := s.count Reg.ldgCntNoalloc
  { s with
    allocs := s.allocs.filter (fun a => a.id != id)
    media := { s.media with fills := s.media.fills.map (fun f =>
      if f.alloc = some id then { f with alloc := none, noInstall := true } else f) }
    ledger := s.ledger.map (fun e => if e.phase = .alloc id then { e with phase := .media, through := true } else e) }

/-- An allocation must choose again (R130–R132): at most four times. -/
def redoAlloc (s : State) (a : Alloc) : State :=
  let s := s.count Reg.ldgCntVictimRedo
  if 4 ≤ a.redo then endAlloc s a.id else modAlloc s a.id (fun a => { a with way := none, redo := a.redo + 1 })

/-- A way is eligible as a victim (R180). -/
def eligible (s : State) (c set way : Nat) : Bool :=
  let t := s.tag c set way
  !t.retired && !t.retirePend
    && !(t.live && s.ledger.any (fun e => match e.key with | .host l => l / 64 == t.page | _ => false))
    && !s.allocs.any (fun a => a.ch == c && a.set == set && a.way == some way)

/-- Up to 16 draws from a channel's LFSR for an eligible way (R180, R181). -/
def drawWay (ok : Nat → Bool) : Nat → BitVec 32 → Option Nat × BitVec 32
  | 0, v => (none, v)
  | n + 1, v =>
    let v := lfsr32 v
    let w := v.toNat % 16
    if ok w then (some w, v) else drawWay ok n v

/-- The victim choice (R180): the way, and the state with the draws made. -/
def chooseWay (s : State) (c set : Nat) : Option Nat × State :=
  let es := (List.range 16).filter (eligible s c set)
  match es.find? (fun w => !(s.tag c set w).live) with
  | some w => (some w, s)
  | none =>
    if es.isEmpty then (none, s)
    else
      let (w, v) := drawWay (fun w => es.contains w) 16 s.lfsr[chan c]
      let s := { s with lfsr := s.lfsr.set (chan c) v }
      match w with
      | some w => (some w, s)
      | none => (es.head?, s)

/-- The choice of an allocation is made, and its victim offered (R180, R182). -/
def chooseVictim (s : State) (a : Alloc) : State :=
  if decide (offerRoom s < 64 ∨ 1792 ≤ offerBufs s) then endAlloc s a.id
  else match chooseWay s a.ch a.set with
    | (none, s) => endAlloc s a.id
    | (some w, s) =>
      let s := modAlloc s a.id (fun a => { a with way := some w })
      let t := s.tag a.ch a.set w
      if !t.live then s
      else
        let rights := s.entryRights a.ctx
        let s := if t.dirty = 0 then s
          else startOffer s (.evict a.id) true a.ch a.set w t.dirty a.ctx a.deadline rights
        let cl := t.valid &&& ~~~t.dirty &&& ~~~t.poison
        if cl = 0 || !s.flag Fld.tierCtlCleanOffer then s
        else startOffer s (.evict a.id) false a.ch a.set w cl a.ctx a.deadline rights

/-- The pending allocation of a page, if there is one (R184). -/
def allocOf (s : State) (page : Nat) : Option Alloc := s.allocs.find? (fun a => a.page == page)

/-- A new allocation; its victim choice is made at once. -/
def startAlloc (s : State) (c set page ctx : Nat) (deadline : Tick) (byWrite : Bool) : Nat × State :=
  let (id, s) := s.fresh
  let a : Alloc := { id := id, ch := c, set := set, page := page, ctx := ctx, deadline := deadline, byWrite := byWrite }
  (id, chooseVictim { s with allocs := s.allocs ++ [a] } a)

/-- Correction write-backs of the line are withdrawn by a later write (R289). -/
def dropWriteBacks (s : State) (e : LEntry) : State :=
  (s.ledger.filter (fun x => x.kind == .scrub && x.key == e.key && x.slot.isSome)).foldl releaseEntry s

/-- A write reaches the chain of its line (R130, R131): unaccepted offers of the line are withdrawn, an allocation that
has chosen the page's frame chooses again. -/
def writeArrives (s : State) (e : LEntry) : State :=
  let s := dropWriteBacks s e
  let os := s.media.offers.filter (fun o => o.page == e.page)
  match s.allocs.find? (fun a => match a.way with
      | some w => (s.tag a.ch a.set w).live && (s.tag a.ch a.set w).page == e.page | none => false) with
  | some a =>
    let un := os.filter (fun o => o.why == .evict a.id && o.unaccepted)
    let s := if un.isEmpty then s.count Reg.ldgCntReoffer else s.count Reg.ldgCntEvictCancel
    redoAlloc (un.foldl withdrawOffer s) a
  | none =>
    let un := os.filter (fun o => o.unaccepted && o.smap.getLsbD e.sector)
    un.foldl (fun s o => withdrawOffer (s.count Reg.ldgCntEvictCancel) o) s

/-! ### Fills (R186, R224) -/

/-- Sectors of a granularity code (R186). -/
def granSize : Nat → Nat
  | 0 => 1 | 1 => 8 | 2 => 16 | _ => 64

/-- The fill granularity of a class; U class fetches what it demands. -/
def granOf (s : State) : Cls → Nat
  | .v => granSize (s.fld Fld.fillGranV)
  | .p => granSize (s.fld Fld.fillGranP)
  | .t => granSize (s.fld Fld.fillGranT)
  | .u => 1

/-- The aligned groups of size `g` that hold a sector of `m`. -/
def groups (g : Nat) (m : BitVec 64) : BitVec 64 :=
  (List.range 64).foldl (fun acc i =>
    if (List.range g).any (fun k => m.getLsbD (i / g * g + k)) then acc ||| bit64 i else acc) 0

/-- Extra-sector entries (R142): from the fill reserve, else borrowed while more than 8,192 host entries are free; else
the fill is narrowed, counted once. -/
def takeFillEntries (s : State) (id c set page ctx : Nat) (deadline : Tick) :
    List Nat → BitVec 64 → Bool → BitVec 64 × Bool × State
  | [], m, nar => (m, nar, s)
  | x :: xs, m, nar =>
    let pool := if poolCount s .fillRes < 4096 then some Pool.fillRes
      else if 8192 < hostFree s then some Pool.borrow else none
    match pool with
    | none => takeFillEntries s id c set page ctx deadline xs m true
    | some p =>
      let s := addEntry s { idx := 0, kind := .fill, st := .run, pool := p, ctx := ctx, port := 0, deadline := deadline,
                            key := hostKey page x, ch := c, set := set, phase := .fill id, owner := id }
      takeFillEntries s id c set page ctx deadline xs (m ||| bit64 x) nar

/-- The lowest free fill buffer (R143). -/
def freeFillBuf (s : State) : Nat :=
  ((List.range (s.media.fills.length + 1)).find? (fun b => s.media.fills.all (fun f => f.buf != b))).getD 0

/-- A fill of a page (R186): demand sectors, and the extra sectors of their groups that are neither valid nor in the
ledger. FILL_REQ leaves when the port sends it. -/
def startFill (s : State) (c set page : Nat) (demand : BitVec 64) (g : Nat) (valid : BitVec 64) (ctx : Nat)
    (deadline : Tick) (way alloc : Option Nat) (noInstall : Bool) (spec : Bool) : Nat × State :=
  let (id, s) := s.fresh
  let extra := (sectors (groups g demand &&& ~~~demand &&& ~~~valid)).filter (fun x =>
    !s.ledger.any (fun e => e.key == hostKey page x))
  let (m, nar, s) := takeFillEntries s id c set page ctx deadline extra 0 false
  let s := if nar then s.count Reg.ldgCntNarrow else s
  let buf := freeFillBuf s
  let gen := (kGet 31 s.media.fillGen buf + 1) % 32
  let f : Fill := { id := id, buf := buf, gen := gen, page := page, ch := c, set := set, want := demand ||| m,
                    demand := if spec then 0 else demand, ctx := ctx, deadline := deadline, alloc := alloc, way := way,
                    noInstall := noInstall, guarded := !noInstall, rights := s.entryRights ctx }
  (id, { s with media := { s.media with fills := s.media.fills ++ [f], fillGen := kPut s.media.fillGen buf gen } })

def modFill (s : State) (id : Nat) (f : Fill → Fill) : State :=
  { s with media := { s.media with fills := s.media.fills.map (fun x => if x.id = id then f x else x) } }

/-- An open fill that is still to bring a sector into its frame, no full write of the sector having passed it (R121). -/
def fillOf (s : State) (page sector : Nat) : Option Fill :=
  s.media.fills.find? (fun f => f.page == page && !f.noInstall && (f.want &&& ~~~f.skip &&& ~~~f.inst).getLsbD sector)

/-! ### Serving a line (R179, R187) -/

/-- The line of an entry has been delivered into its data slot. -/
def deliver (s : State) (idx : Nat) (l : Line) (bad : Bool) : State :=
  modEntry s idx (fun e => { e with slot := some (l, bad), phase := .got })

/-- The entries of the same request that would miss together with `e` (R186). -/
def companions (s : State) (e : LEntry) : List LEntry :=
  s.ledger.filter (fun x => x.rid == e.rid && x.rid.isSome && (x.phase == .fresh || x.phase == .tag)
    && (x.idx == e.idx || (x.kind == e.kind && x.bypass == e.bypass && !behindBarrier s x
        && (match origin s x with | .frame => true | .unproduced => x.kind == .rd | _ => false))))

/-- The entries wait for a fill. -/
def attach (s : State) (es : List LEntry) (id : Nat) : State :=
  es.foldl (fun s e => modEntry s e.idx (fun x => { x with phase := .fill id, st := if x.st = .locked then .locked else .run })) s

/-- A line is read from media without allocation (R73, R188, R190). -/
def mediaRead (s : State) (e : LEntry) : State :=
  let es := companions s e
  let m := es.foldl (fun m x => m ||| bit64 x.sector) (0 : BitVec 64)
  let (id, s) := startFill s e.ch e.set e.page m 1 0 e.ctx e.deadline none none true false
  attach s es id

/-- A DRAM access for one line of an entry (R257). -/
def hostAccess (s : State) (e : LEntry) (way : Nat) (write : Bool) : State :=
  let jl : JobLine := { loc := s.frameLoc e.ch e.set way e.sector, key := lineKeyOf e.ch e.set way e.sector, idx := some e.idx }
  let (id, s) := newJob s e.ch (.host e.idx) write [jl] e.ctx e.deadline e.rights e.overdue
  modEntry s e.idx (fun x => { x with phase := .dram id, st := if write then .staged
                                       else if x.st = .locked then .locked else .run })

/-- The lines that a missing entry's fill must not fetch again, and the lines missing with it. -/
def missing (s : State) (e : LEntry) (valid : BitVec 64) : List LEntry :=
  (companions s e).filter (fun x => !valid.getLsbD x.sector && (fillOf s x.page x.sector).isNone)

/-- The lookup of an operation that needs the line's value (R179): from the frame, by a sector fill, by an allocation and
its fill, or from media. -/
def readLookup (s : State) (e : LEntry) : State :=
  if e.bypass then mediaRead (s.count Reg.tierCntBypass) e
  else if !channelServes s e.ch then holdEntry s e
  else
    match wantSet s e.ch e.set e.ctx e.deadline with
    | (false, s) => modEntry s e.idx (fun x => { x with phase := .tag, st := if x.st = .locked then .locked else .run })
    | (true, s) =>
      if s.mode = .plain then
        let way := (s.plainPlace e.page).2.2
        let t := s.tag e.ch e.set way
        if t.retired then
          match e.rid with
          | some rid => failReq s (portOf e.port) rid Status.range
          | none => s
        else
          let s := s.count Reg.tierCntHit
          if t.poison.getLsbD e.sector then deliver s e.idx 0 true else hostAccess s e way false
      else
        match fillOf s e.page e.sector with
        | some f =>
          let s := attach (s.count Reg.tierCntMiss) [e] f.id
          match f.data.find? (fun d => d.1 == e.sector) with
          | some d => deliver s e.idx d.2 (f.bad.getLsbD e.sector)
          | none => s
        | none =>
          match findWay s e.ch e.set e.page with
          | some w =>
            let t := s.tag e.ch e.set w
            if t.valid.getLsbD e.sector then
              let s := s.count Reg.tierCntHit
              if t.poison.getLsbD e.sector then deliver s e.idx (frameLine s e.ch e.set w e.sector) true
              else hostAccess s e w false
            else if e.fencing then mediaRead (s.count Reg.tierCntBypass) e
            else
              let es := missing s e t.valid
              let s := s.count Reg.tierCntMiss es.length
              let m := es.foldl (fun m x => m ||| bit64 x.sector) (0 : BitVec 64)
              let (id, s) := startFill s e.ch e.set e.page m (granOf s e.cls) t.valid e.ctx e.deadline (some w) none false
                (e.kind == .prefetch)
              attach s es id
          | none =>
            let es := missing s e 0
            let s := s.count Reg.tierCntMiss es.length
            if e.cls = .u then mediaRead s e
            else if e.fencing then mediaRead (s.count Reg.tierCntBypass) e
            else
              let m := es.foldl (fun m x => m ||| bit64 x.sector) (0 : BitVec 64)
              let (aid, s) := match allocOf s e.page with
                | some a => (a.id, s)
                | none => startAlloc s e.ch e.set e.page e.ctx e.deadline false
              let open_ := s.allocs.any (fun a => a.id == aid)
              let (id, s) := startFill s e.ch e.set e.page m (granOf s e.cls) 0 e.ctx e.deadline none
                (if open_ then some aid else none) (!open_) (e.kind == .prefetch)
              attach (modFill s id (fun f => { f with guarded := true })) es id

/-! ### Reads (R121, R123) -/

/-- A read's line is ready to leave (R119): the chunks of its request are looked at again. -/
def readReady (s : State) (e : LEntry) (v : Line × Bool) : State :=
  let s := modEntry s e.idx (fun x => { x with slot := some v, st := .ready, phase := .over })
  match e.rid with
  | some rid => sendChunks s (portOf e.port) rid
  | none => s

/-- One turn of a read. -/
def turnRead (s : State) (e : LEntry) : State :=
  if e.st = .ready then s
  else if e.unclean then
    match origin s e with
    | .copy l b => readReady (s.count Reg.ldgCntFwd) e (l, b)
    | _ => readReady s e (0, true)
  else
    match origin s e with
    | .wait => if e.phase = .fresh || e.phase = .tag then holdEntry s e else s
    | .copy l b =>
      let s := s.count Reg.ldgCntFwd
      match e.phase with
      | .dram j => readReady ((withdrawJob s e.ch j).count Reg.ldgCntWithdraw) e (l, b)
      | .got => readReady (s.count Reg.ldgCntWithdraw) e (l, b)
      | _ => readReady s e (l, b)
    | .frame =>
      match e.phase with
      | .fresh | .tag => readLookup s e
      | .got => readReady s e (e.slot.getD (0, false))
      | _ => s
    | .unproduced =>
      match e.phase with
      | .fresh | .tag => readLookup s e
      | _ => s

/-! ### Writes (R121, R122, R188, R189, R194–R197) -/

/-- The class of a write is settled when its line is staged (R195): a P-class write takes a unit or runs as T; T and U
class, bypass and writes to a fencing channel go through to media. -/
def judge (s : State) (e : LEntry) : State :=
  let (cls, unit, s) :=
    if e.cls = .p && s.mode != .plain && !e.bypass then
      if decide (0 < unitsFree s) && !s.flag Fld.tierStatusDirtyFull then (Cls.p, true, s)
      else (Cls.t, false, (enterFull s).modCtx e.ctx (fun c => { c with cntPAsT := cntUp c.cntPAsT }))
    else (e.cls, false, s)
  let thr := cls = .t || cls = .u || e.bypass || e.fencing
  modEntry s e.idx (fun x => { x with cls := cls, unit := unit, through := x.through || thr, judged := true })

/-- The write completes when staged (V, and P with a unit), not at media's acceptance (R71). -/
def LEntry.early (e : LEntry) : Bool :=
  (e.cls == .v || (e.cls == .p && (e.unit || e.fin))) && !e.bypass
    && (!e.fencing || (match e.phase with | .dram _ => e.st == .staged | .settle _ => true | _ => false))

/-- A line of a write has completed towards its requester (R71, R133): counted, and the request completes with its last
line; an atomic returns its old value. -/
def finishLine (s : State) (e : LEntry) : State :=
  if e.fin then s
  else
    let s := modEntry s e.idx (fun x => { x with fin := true })
    let s := s.modCtx e.ctx (fun c => { c with cntLineWr := cntUp c.cntLineWr,
                                               cntLineRd := if e.kind.atomic then cntUp c.cntLineRd else c.cntLineRd })
    match e.rid with
    | none => s
    | some rid =>
      if e.kind.atomic then finishReq s (portOf e.port) rid Op.atomData Status.ok e.old
      else lineDone s (portOf e.port) rid

/-- A produced line may leave for media: a later write of a line never passes an earlier one, nor an earlier read that
media may still serve (R107). -/
def mayLeave (s : State) (e : LEntry) : Bool :=
  !(earlier s e).any (fun x => (x.kind.writes && !x.sent && (x.through || x.produced.isNone || !x.judged))
    || (x.kind == .rd && x.st != .ready && s.mode != .holdup))

/-- The write-through of a line is queued, once every other line of its request on its page is settled: the lines that go
to media travel together (R239). A hold-up waits for none of them (R249). -/
def queueThrough (s : State) (e : LEntry) : State :=
  let mates := s.ledger.filter (fun x => x.kind.writes && !x.sent && x.page == e.page
    && (x.idx == e.idx || (x.rid == e.rid && x.rid.isSome)))
  let due := mates.filter (fun x => x.through && x.produced.isSome && mayLeave s x)
  if s.mode != .holdup && mates.any (fun x => !x.judged || (x.through && !due.any (fun y => y.idx == x.idx))) then s
  else if !due.any (fun x => x.idx == e.idx) then s
  else
    let (id, s) := s.fresh
    let w : WriteThru := { id := id, page := e.page, ctx := e.ctx, deadline := e.deadline, rights := e.rights,
                           lines := due.map (fun x => (x.sector, (x.produced.getD (0, false)).1, (x.produced.getD (0, false)).2, some x.idx)) }
    let s := { s with media := { s.media with wts := s.media.wts ++ [w] } }
    let s := due.foldl (fun s x => modEntry s x.idx (fun y => { y with sent := true })) s
    -- an offer begun meanwhile holds an older value of a line whose frame write is still to be made (R130)
    let m := (due.filter LEntry.unframed).foldl (fun m x => m ||| bit64 x.sector) (0 : BitVec 64)
    (s.media.offers.filter (fun o => o.page == e.page && o.unaccepted && o.smap &&& m != 0)).foldl withdrawOffer s

/-- Frame writes of earlier entries of the line are still to be made, or earlier reads have not captured (R121, R122). -/
def frameBlocked (s : State) (e : LEntry) : Bool :=
  (earlier s e).any (fun x =>
    match x.kind with
    | .rd => x.st != .ready
    | .prefetch => false
    | .wr | .wrm | .zero | .fetchAdd | .swap | .cas => !x.framed && x.phase != .media && x.phase != .over
    | .drop => true
    | .move => true
    | _ => false)

/-- A staged V- or P-class write whose frame write has not started is superseded by a later full write (R122). -/
def superseded (s : State) (e : LEntry) : Bool :=
  e.early && (e.phase == .fresh || e.phase == .tag || e.phase == .result) && e.fin && e.produced.isSome &&
    (match (later s e).dropWhile (fun x => !(x.full && x.produced.isSome)) with
     | [] => false
     | _ :: _ => ((later s e).takeWhile (fun x => !(x.full && x.produced.isSome))).all (fun x =>
         match x.kind with
         | .rd => x.st == .ready
         | .flush => true
         | .prefetch => true
         | .wrm | .fetchAdd | .swap | .cas => x.hasResult
         | _ => false))

/-- A full write passes an open fill of its page: the fill's line is not installed (R121). -/
def skipFill (s : State) (page sector : Nat) : State :=
  { s with media := { s.media with fills := s.media.fills.map (fun f =>
      if f.page = page && !f.inst.getLsbD sector then { f with skip := f.skip ||| bit64 sector } else f) } }

/-- The placement of a produced write (R188): its frame write, an allocation, or media only. -/
def placeWrite (s : State) (e : LEntry) : State :=
  if e.bypass then
    modEntry (s.count Reg.tierCntBypass) e.idx (fun x => { x with phase := .media, through := true })
  else if !channelServes s e.ch then s
  else
    match wantSet s e.ch e.set e.ctx e.deadline with
    | (false, s) => s
    | (true, s) =>
      if s.mode = .plain then
        let way := (s.plainPlace e.page).2.2
        if (s.tag e.ch e.set way).retired then
          match e.rid with
          | some rid => failReq s (portOf e.port) rid Status.range
          | none => s
        else hostAccess (s.count Reg.tierCntHit) e way true
      else
        let s := skipFill s e.page e.sector
        match findWay s e.ch e.set e.page with
        | some w =>
          let hit := (s.tag e.ch e.set w).valid.getLsbD e.sector
          let s := if !e.full then s else if hit then s.count Reg.tierCntHit else s.count Reg.tierCntMiss
          hostAccess s e w true
        | none =>
          match allocOf s e.page with
          | some a => modEntry s e.idx (fun x => { x with phase := .alloc a.id })
          | none =>
            let s := if e.full then s.count Reg.tierCntMiss else s
            if e.cls = .u || !e.full then
              modEntry s e.idx (fun x => { x with phase := .media, through := true })
            else if e.fencing then
              modEntry (s.count Reg.tierCntBypass) e.idx (fun x => { x with phase := .media, through := true })
            else
              let (aid, s) := startAlloc s e.ch e.set e.page e.ctx e.deadline true
              if s.allocs.any (fun a => a.id == aid) then modEntry s e.idx (fun x => { x with phase := .alloc aid })
              else modEntry s e.idx (fun x => { x with phase := .media, through := true })

/-- Later writes mark the offers and write-throughs that carry an older value of the sector. -/
def markRewritten (s : State) (page sector idx : Nat) : State :=
  { s with media := { s.media with
      offers := s.media.offers.map (fun o => if o.page = page then { o with redirty := o.redirty ||| bit64 sector } else o)
      wts := s.media.wts.map (fun w => if w.page = page && w.lines.any (fun l => l.1 == sector && l.2.2.2 != some idx)
        then { w with redirty := w.redirty ||| bit64 sector } else w) } }

/-- The directory update of a frame write that has been made (R155, R188, R194–R197): V, D and P of its sector, PERSIST
and the unit, and the content of the frame's line. -/
def settleWrite (s : State) (e : LEntry) (way : Nat) : State :=
  match wantSet s e.ch e.set e.ctx e.deadline with
  | (false, s) => s
  | (true, s) =>
    let v := e.produced.getD (0, false)
    let b := bit64 e.sector
    let t := s.tag e.ch e.set way
    let s := putLine s e.ch e.set way e.sector v.1
    let s := freeStaging s e
    if s.mode = .plain then
      let s := s.setTag e.ch e.set way { t with poison := if v.2 then t.poison ||| b else t.poison &&& ~~~b }
      dropEntries s (fun x => x.idx == e.idx)
    else
      let others := t.dirty &&& ~~~b
      let mark := e.unit && !t.persist
      let markOk := mark && decide (popcount others ≤ unitsFree s ∧ s.pidx.length < 1048576)
      let charged := e.cls == .v && t.persist && !t.dirty.getLsbD e.sector && !e.taken
      let noUnit := charged && unitsFree s == 0
      let s := if noUnit then s.count Reg.tierCntVThrough else s
      let thr := e.through || (mark && !markOk) || noUnit
      let unit := e.unit && mark && !markOk
      let persist := t.persist || markOk
      let dirty := if e.taken then others else t.dirty ||| b
      let s := if markOk then { s with pidx := s.pidx ++ [frameKey e.ch e.set way] } else s
      let s := markRewritten s e.page e.sector e.idx
      let s := putTag s e.ch e.set way { t with valid := t.valid ||| b, dirty := dirty, persist := persist,
                                                poison := if v.2 then t.poison ||| b else t.poison &&& ~~~b }
      let s := resumeCheck s
      if thr && !e.taken then
        modEntry s e.idx (fun x => { x with slot := some v, stg := none, through := true, unit := unit, framed := true,
                                            phase := .media })
      else dropEntries s (fun x => x.idx == e.idx)

/-- The result of a partial write or an atomic over its base line (R26, R28, R30, R127, R133): the result line with its
poison, the old word, and whether anything is written. -/
def combine (e : LEntry) (base : Line × Bool) (staged : Line × Bool) : (Line × Bool) × BitVec 64 × Bool :=
  match e.kind with
  | .wrm => ((mergeBytes e.operand base.1 staged.1, base.2 || staged.2), 0, true)
  | .fetchAdd => let o := word64 base.1 e.off; ((putWord64 base.1 e.off (o + e.operand), base.2), o, true)
  | .swap => let o := word64 base.1 e.off; ((putWord64 base.1 e.off e.operand, base.2), o, true)
  | .cas =>
    let o := word64 base.1 e.off
    if o = e.operand then ((putWord64 base.1 e.off (word64 staged.1 0), base.2), o, true) else (base, o, false)
  | _ => (staged, 0, true)

/-- The base line has been found: the result is made in the data slot and the lock released (R30, R133). -/
def makeResult (s : State) (e : LEntry) (base : Line × Bool) : State :=
  let stg := e.stg.getD (0, false)
  if e.kind = .cas && stg.2 then
    match e.rid with | some rid => failReq s (portOf e.port) rid Status.aborted | none => s
  else if e.kind.atomic && base.2 then
    match e.rid with | some rid => failReq s (portOf e.port) rid Status.poison | none => s
  else
    let (v, old, wrote) := combine e base stg
    if wrote then
      modEntry s e.idx (fun x => { x with slot := some v, old := old, phase := .result, st := .staged })
    else
      -- a failed CAS writes nothing (R110): it returns the old value and ends
      let s := match e.rid with
        | some rid => finishReq s (portOf e.port) rid Op.atomData Status.ok old
        | none => s
      let s := s.modCtx e.ctx (fun c => { c with cntLineRd := cntUp c.cntLineRd })
      match entry? s e.idx with
      | some e => releaseEntry s e
      | none => s

/-- A partial write or an atomic looks for its base line (R121, R133). -/
def seekBase (s : State) (e : LEntry) : State :=
  if e.kind.hasPayload && !(e.stg.isSome && e.vis) then s
  else
    match e.phase with
    | .got => makeResult s e (e.slot.getD (0, false))
    | .fresh | .tag =>
      match origin s e with
      | .wait => holdEntry s e
      | .unproduced => holdEntry s e
      | .copy l b => makeResult s e (l, b)
      | .frame =>
        let s := if e.kind.atomic then modEntry s e.idx (fun x => { x with st := .locked }) else s
        readLookup s { e with st := if e.kind.atomic then .locked else e.st }
    | _ => s

/-- One turn of a write: its class is settled, its base found, its completion and write-through sent, its frame write
placed or its directory update made. -/
def turnWrite (s : State) (e : LEntry) : State :=
  let s := if !e.judged && e.stg.isSome || !e.judged && e.kind.atomic && e.hasResult then judge s e else s
  let s := match entry? s e.idx with
    | some e => if !e.full && !e.hasResult then seekBase s e else s
    | none => s
  let s := match entry? s e.idx with
    | some e =>
      let s := if !e.judged && e.hasResult then judge s e else s
      match entry? s e.idx with
      | some e =>
        -- a write completes when staged, an atomic once its result exists (R71, R133)
        let ready := if e.kind.atomic then e.hasResult else e.stg.isSome && e.vis
        if e.judged && e.early && ready then finishLine s e else s
      | none => s
    | none => s
  let s := match entry? s e.idx with
    | some e => if e.through && !e.sent && e.judged && e.produced.isSome then queueThrough s e else s
    | none => s
  match entry? s e.idx with
  | none => s
  | some e =>
    match e.phase with
    | .settle w => settleWrite s e w
    | .place w => hostAccess s e w true
    | .fresh | .tag | .result =>
      if !e.judged || e.produced.isNone || (e.phase != .result && !e.full) then s
      else if superseded s e then
        let s := s.count Reg.ldgCntSupersede
        let s := freeStaging s e
        resumeCheck (dropEntries s (fun x => x.idx == e.idx))
      else if frameBlocked s e then s
      else placeWrite s e
    -- its write-through was accepted before its place was found
    | .media => if e.taken then resumeCheck (releaseEntry s e) else s
    | _ => s

/-! ### FLUSH, DROP, PREFETCH and BARRIER (R124, R125, R28, R136) -/

/-- A line of a request without data has completed: its entry is released. -/
def endLine (s : State) (e : LEntry) : State :=
  let s := dropEntries s (fun x => x.idx == e.idx)
  match e.rid with
  | some rid => lineDone s (portOf e.port) rid
  | none => s

/-- One turn of a FLUSH line (R125): it waits for the earlier writes and offers of its line, then cleans the frame if the
line is dirty. -/
def turnFlush (s : State) (e : LEntry) : State :=
  match e.phase with
  | .over => endLine s e
  | .offer _ => s
  | _ =>
    if (earlier s e).any (fun x => x.kind.writes || x.kind == .drop) then holdEntry s e
    else if s.media.offers.any (fun o => o.page == e.page && o.smap.getLsbD e.sector) then holdEntry s e
    else if e.bypass then endLine s e
    else if !channelServes s e.ch then holdEntry s e
    else
      match wantSet s e.ch e.set e.ctx e.deadline with
      | (false, s) => modEntry s e.idx (fun x => { x with phase := .tag, st := .run })
      | (true, s) =>
        match findWay s e.ch e.set e.page with
        | none => endLine s e
        | some w =>
          if !(s.tag e.ch e.set w).dirty.getLsbD e.sector then endLine s e
          else if (later s e).any (fun x => x.unframed && x.through && x.taken) then endLine s e
          else if (throughFirst s e.page).getLsbD e.sector then holdEntry s e
          else
            match startClean s (.flush (e.rid.getD 0)) e.ch e.set w e.ctx e.deadline e.rights with
            | (false, s) => s
            | (true, s) =>
              match s.media.offers.getLast? with
              | none => s
              | some o => { s with ledger := s.ledger.map (fun x =>
                  if x.rid = e.rid && x.kind = .flush && o.smap.getLsbD x.sector
                      && (x.idx = e.idx || (x.phase = .fresh && !(earlier s x).any (fun y => y.kind.writes)))
                  then { x with phase := .offer o.id, st := .run } else x) }

/-- One turn of a DROP line (R124): it waits for earlier reads, results and fills, supersedes staged writes, and
invalidates the line. -/
def turnDrop (s : State) (e : LEntry) : State :=
  let es := earlier s e
  if es.any (fun x => (x.kind == .rd && x.st != .ready) || (x.kind == .prefetch) || x.kind == .fill
      || (x.kind.writes && (x.produced.isNone || !x.judged)) || x.kind == .move || x.kind == .drop) then holdEntry s e
  else if es.any (fun x => x.kind.writes && (match x.phase with | .dram _ => true | .settle _ => true | _ => false)) then
    holdEntry s e
  else if (fillOf s e.page e.sector).isSome then holdEntry s e
  else
    let s := (es.filter (fun x => x.kind.writes && x.phase != .media)).foldl (fun s x =>
      let s := s.count Reg.ldgCntSupersede
      if x.through then modEntry s x.idx (fun y => { y with phase := .media })
      else dropEntries (freeStaging s x) (fun y => y.idx == x.idx)) s
    let s := resumeCheck s
    if e.bypass || !channelServes s e.ch then endLine s e
    else
      match wantSet s e.ch e.set e.ctx e.deadline with
      | (false, s) => modEntry s e.idx (fun x => { x with phase := .tag, st := .run })
      | (true, s) =>
        match findWay s e.ch e.set e.page with
        | none => endLine s e
        | some w => endLine (resumeCheck (invalidate s e.ch e.set w (bit64 e.sector))) e

/-- A PREFETCH line has passed the hazard check: it counts towards its request's DONE (R28). -/
def prefetchDone (s : State) (e : LEntry) : State :=
  if e.fin then s
  else
    match e.rid with
    | some rid => lineDone (modEntry s e.idx (fun x => { x with fin := true })) (portOf e.port) rid
    | none => s

/-- One turn of a PREFETCH line (R28): its request completes once the hazard check has passed; then it fills. -/
def turnPrefetch (s : State) (e : LEntry) : State :=
  match e.phase with
  | .fresh | .tag =>
    match origin s e with
    | .wait => holdEntry s e
    | o =>
      let s := prefetchDone s e
      if e.unclean || e.bypass || e.cls = .u || s.mode = .plain || o != .frame then
        dropEntries s (fun x => x.idx == e.idx)
      else
        match wantSet s e.ch e.set e.ctx e.deadline with
        | (false, s) => modEntry s e.idx (fun x => { x with phase := .tag, st := .run })
        | (true, s) =>
          let hit := match findWay s e.ch e.set e.page with
            | some w => (s.tag e.ch e.set w).valid.getLsbD e.sector
            | none => false
          if hit then dropEntries (s.count Reg.tierCntHit) (fun x => x.idx == e.idx)
          else if e.fencing then dropEntries s (fun x => x.idx == e.idx)
          else match entry? s e.idx with
            | some e => readLookup s e
            | none => s
  | .got => dropEntries (prefetchDone s e) (fun x => x.idx == e.idx)
  -- a line that another line of its request took along into its fill
  | _ => prefetchDone s e

/-- One turn of a BARRIER (R136): it completes when no earlier-admitted request of its context is outstanding. -/
def turnBarrier (s : State) (e : LEntry) : State :=
  match e.rid with
  | none => s
  | some rid =>
    let mine := (req? s (portOf e.port) rid).map (fun r => r.adm)
    let busy := s.ports.toList.any (fun q => q.reqs.any (fun r =>
      r.ctx == e.ctx && r.admitted && r.rid != rid && decide (r.adm < mine.getD 0)))
    if busy then holdEntry s e
    else finishReq (dropEntries s (fun x => x.idx == e.idx)) (portOf e.port) rid Op.done Status.ok

/-- One turn of an entry of the ledger. -/
def turnEntry (s : State) (idx : Nat) : State :=
  match entry? s idx with
  | none => s
  | some e =>
    if behindBarrier s e && e.phase = .fresh then holdEntry s e
    else
      match e.kind with
      | .rd => turnRead s e
      | .wr | .wrm | .zero | .fetchAdd | .swap | .cas => turnWrite s e
      | .flush => turnFlush s e
      | .drop => turnDrop s e
      | .prefetch => turnPrefetch s e
      | .barrier => turnBarrier s e
      | _ => s

/-! ### Switch points and installation (R128, R183, R187) -/

/-- An allocation's way is free for its page: every offer of its victim is resolved (R128). -/
def allocResolved (s : State) (a : Alloc) : Bool :=
  a.way.isSome && !s.media.offers.any (fun o => o.why == .evict a.id && o.unaccepted)

/-- One turn of an allocation: its victim choice if it is due, or its switch point. -/
def turnAlloc (s : State) (id : Nat) : State :=
  match s.allocs.find? (fun a => a.id == id) with
  | none => s
  | some a =>
    let waiting := s.ledger.filter (fun e => e.phase == .alloc id && e.produced.isSome)
    let fills := s.media.fills.filter (fun f => f.alloc == some id)
    if a.way.isNone then
      if waiting.isEmpty && fills.isEmpty then { s with allocs := s.allocs.filter (fun a => a.id != id) }
      else chooseVictim s a
    else if !allocResolved s a then s
    else
      let ready := !waiting.isEmpty || fills.any (fun f => f.landed != 0)
      if !ready then
        if fills.isEmpty && !s.ledger.any (fun e => e.phase == .alloc id) then
          { s with allocs := s.allocs.filter (fun a => a.id != id) }
        else s
      else
        match wantSet s a.ch a.set a.ctx a.deadline with
        | (false, s) => s
        | (true, s) =>
          let w := a.way.getD 0
          let k := frameKey a.ch a.set w
          let m := waiting.foldl (fun m e => m ||| bit64 e.sector) (0 : BitVec 64)
          let s := { s with pidx := s.pidx.filter (fun x => x != k) }
          let s := s.setTag a.ch a.set w { page := a.page, live := true, valid := m, dirty := m }
          let s := s.count Reg.tierCntAlloc
          resumeCheck { s with
            allocs := s.allocs.filter (fun a => a.id != id)
            media := { s.media with fills := s.media.fills.map (fun f =>
              if f.alloc = some id then { f with alloc := none, way := some w } else f) }
            ledger := s.ledger.map (fun e => if e.phase = .alloc id && e.produced.isSome then { e with phase := .place w }
                                             else if e.phase = .alloc id then { e with phase := .result } else e) }

/-- A fill ends: its buffer and its own entries are free. -/
def endFill (s : State) (id : Nat) : State :=
  let s := dropEntries s (fun e => e.kind == .fill && e.owner == id)
  { s with media := { s.media with fills := s.media.fills.filter (fun f => f.id != id) } }

/-- One turn of a fill: lines that have landed become valid in the frame once it belongs to their page, and the whole is
written to DRAM as one transfer (R187). -/
def turnFill (s : State) (id : Nat) : State :=
  match s.media.fills.find? (fun f => f.id == id) with
  | none => s
  | some f =>
    if f.noInstall then (if f.last then endFill s id else s)
    else
      match f.way with
      | none => s
      | some w =>
        if f.job.isSome then s
        else
          let t := s.tag f.ch f.set w
          if !(t.live && t.page == f.page) then modFill s id (fun f => { f with noInstall := true })
          else if !channelServes s f.ch then s
          else
            let new := f.landed &&& ~~~f.inst &&& ~~~f.skip &&& ~~~t.valid
            let s :=
              if new = 0 then s
              else match wantSet s f.ch f.set f.ctx f.deadline with
                | (false, s) => s
                | (true, s) =>
                  let s := s.setTag f.ch f.set w { t with valid := t.valid ||| new, poison := t.poison ||| (f.bad &&& new) }
                  let s := (sectors new).foldl (fun s x =>
                    putLine s f.ch f.set w x (((f.data.find? (fun d => d.1 == x)).map (fun d => d.2)).getD 0)) s
                  let s := s.count Reg.tierCntFillLines (popcount new)
                  modFill s id (fun f => { f with inst := f.inst ||| new })
            match s.media.fills.find? (fun f => f.id == id) with
            | none => s
            | some f =>
              if !f.last || decide (f.landed &&& ~~~f.inst &&& ~~~f.skip &&& ~~~(s.tag f.ch f.set w).valid ≠ 0) then s
              else if f.inst = 0 then endFill s id
              else
                let lines := (sectors f.inst).map (fun x =>
                  ({ loc := s.frameLoc f.ch f.set w x, key := lineKeyOf f.ch f.set w x } : JobLine))
                let (j, s) := newJob s f.ch (.fillWrite id) true lines f.ctx f.deadline f.rights
                modFill s id (fun f => { f with job := some j })

/-! ### Way retirement (R201, R202) -/

/-- A line of a frame is in the ledger, or a pending allocation has chosen its way. -/
def wayBusy (s : State) (c set way : Nat) : Bool :=
  let t := s.tag c set way
  (t.live && s.ledger.any (fun e => match e.key with | .host l => l / 64 == t.page && e.kind != .clean | _ => false))
    || s.allocs.any (fun a => a.ch == c && a.set == set && a.way == some way)

/-! ### Walks that have ended (R191, R472) -/

/-- Sectors of a page with a write-through that media has still to accept, or with its frame write still to be made. -/
def throughOwed (s : State) (page : Nat) : BitVec 64 :=
  (s.ledger.filter (fun e => e.kind.writes && e.page == page && e.through && (!e.taken || e.unframed))).foldl
    (fun m e => m ||| bit64 e.sector) 0

/-- A dirty frame of a set that its walker has passed, with no write-through to follow, is offered as soon as it can be
(R191, R472). -/
def lateClean (s : State) (k : Nat) : State :=
  let c := k / 2 ^ 28
  let set := k / 16 % 2 ^ 24
  if walkerPassed s c set && (unoffered s c set (k % 16) &&& ~~~throughOwed s (s.tag c set (k % 16)).page) != 0 then
    (startClean s (if (s.ch c).st = .fencing then .fence else .drain) c set (k % 16) 0
      (s.farDeadline (s.fld Fld.arbFarRepair)) false).2
  else s

/-- Late cleans of every frame that walkers have left dirty. -/
def lateCleans (s : State) : State :=
  if s.mode = .drain || s.chs.any (fun q => q.st == .fencing) then
    ((s.tags.filter (fun e => e.2.dirty != 0)).map (fun e => e.1)).foldl lateClean s
  else s

/-- A sector of the channel is dirty. -/
def channelDirty (s : State) (c : Nat) : Bool :=
  s.tags.any (fun e => decide (e.1 / 2 ^ 28 = c) && e.2.dirty != 0)

/-- Staged lines, offers or installing fills of a channel remain (R472). -/
def channelBusy (s : State) (c : Nat) : Bool :=
  s.ledger.any (fun e => e.ch == c && !e.bypass && (e.kind.writes || e.kind == .evict || e.kind == .clean))
    || s.media.offers.any (fun o => o.ch == c)
    || s.media.fills.any (fun f => f.ch == c && !f.noInstall)

/-- What `TIER_STATUS.CLEAN` reads (R210): no sector is dirty and no V- or P-class line is staged. It reads its reset
value 0 in RESET. -/
def tierClean (s : State) : Bool :=
  s.mode != .reset && s.tags.all (fun e => e.2.dirty == 0)
    && !s.ledger.any (fun e => e.kind.writes && (e.cls == .v || e.cls == .p))

/-- The drain is complete (R191): CLEAN is set and EV_DRAIN_DONE raised, once. -/
def drainCheck (s : State) : State :=
  if s.mode = .drain && s.drainOpen && s.drain.isEmpty && tierClean s then
    { s with drainOpen := false }.info Ev.drainDone Src.tier (dw (min (s.us / 1000 - s.drainFrom) 0xFFFFFFFF))
  else s

end Sys2Proof.Machine
end

