-- ==== Sys2Proof/Machine/MediaOps.lean ====
section
/-! DEFINITION. What the media port does (R211–R256): sending, answers, the write-back data path, resynchronisation and
the hold-up flush. -/

namespace Sys2Proof.Machine

/-! ### Slots and credits (R220, R223) -/

/-- A slot is in use by an open offer or write-through. -/
def slotUsed (s : State) (n : Nat) : Bool :=
  s.media.offers.any (fun o => (o.st == .sent || o.st == .deferred || o.st == .accepted) && o.slot == n)
    || s.media.wts.any (fun w => w.st != .queued && w.slot == n)

/-- The lowest free offer slot and its next generation (R220). -/
def takeSlot (s : State) : Nat × Nat × State :=
  let n := ((List.range 1024).find? (fun n => !slotUsed s n)).getD 0
  let g := (kGet 63 s.media.offerGen n + 1) % 64
  (n, g, { s with media := { s.media with offerGen := kPut s.media.offerGen n g, offBlock := s.media.offBlock - 1,
                                          offEngine := s.media.offEngine + 1 } })

/-- An offer credit comes back to the block (R223). -/
def offerCredit (s : State) : State :=
  { s with media := { s.media with offBlock := s.media.offBlock + 1, offEngine := s.media.offEngine - 1 } }

def modWt (s : State) (id : Nat) (f : WriteThru → WriteThru) : State :=
  { s with media := { s.media with wts := s.media.wts.map (fun w => if w.id = id then f w else w) } }

/-- The fill tag of a fill (R220). -/
def Fill.tag (f : Fill) : Nat := f.buf + f.gen * 2048

/-- HOLDUP_START has been sent and the flush runs (R249). -/
def State.flushing (s : State) : Bool := s.media.holdup == .flushing

/-- FLAGS bit 9, HOLDUP, of an offer or write-through: set on every one sent after HOLDUP_START (R215). -/
def holdupFlag (s : State) : BitVec 8 := if s.media.holdup == .none then 0 else 2

/-! ### Sending on the header lane -/

/-- FILL_REQs leave in order while request credits last (R224); none leaves in HOLDUP (R249). -/
def sendFills (s : State) : State :=
  if s.mode = .holdup then s
  else
    (s.media.fills.filter (fun f => !f.sent)).foldl (fun s f =>
      if s.media.reqBlock = 0 then s
      else
        let left := f.want &&& ~~~f.landed
        let dem := (sectors (f.demand &&& left)).head?
        let s := { s with media := { s.media with reqBlock := s.media.reqBlock - 1, reqEngine := s.media.reqEngine + 1 } }
        let s := driveMedia (s.count Reg.mpCntFillReq) 0x01 (if dem.isNone then 4 else 0) f.tag f.page f.deadline left 0
          (dem.getD 0) []
        modFill s f.id (fun f => { f with sent := true })) s

/-- A new offer of a page is held behind its accepted offers and its write-throughs (R237). -/
def offerHeld (s : State) (o : Offer) : Bool :=
  s.media.offers.any (fun x => x.page == o.page && decide (x.id < o.id) && x.st == .accepted)
    || s.media.wts.any (fun w => w.page == o.page && decide (w.id < o.id))

/-- Offers leave in order while offer credits last (R228). -/
def sendOffers (s : State) : State :=
  (s.media.offers.filter (fun o => o.st == .queued)).foldl (fun s o =>
    if s.media.offBlock = 0 || offerHeld s o then s
    else
      let (n, g, s) := takeSlot s
      let s := driveMedia s (if o.dirty then 0x02 else 0x03) (holdupFlag s) (offerTag n g) o.page o.deadline
        o.smap o.pmap 0 []
      let s := if o.dirty then s.count Reg.mpCntOfferDirty else s.count Reg.mpCntOfferClean
      let s := if o.counted then s else if o.dirty then s.count Reg.tierCntOfferDirty else s.count Reg.tierCntOfferClean
      let s := modOffer s o.id (fun o => { o with st := .sent, slot := n, gen := g, counted := true })
      { s with ledger := s.ledger.map (fun e =>
          if (e.kind = .evict || e.kind = .clean) && e.owner = o.id then { e with st := .offered } else e) }) s

/-- A write-through is held behind an accepted offer of its page whose data has not been sent, and behind the earlier
write-throughs of its page that have not been sent (R237). An offer that was accepted before a resynchronisation, and of
which a line has been rewritten since, holds the write-through of that line until it is on media again (R247). -/
def wtHeld (s : State) (w : WriteThru) : Bool :=
  s.media.offers.any (fun x => x.page == w.page && decide (x.id < w.id)
      && (x.st == .accepted || w.lines.any (fun l => (x.redirty &&& x.smap).getLsbD l.1)))
    || s.media.wts.any (fun x => x.page == w.page && decide (x.id < w.id) && x.st != .sent)

/-- Write-throughs take their offer credits and become candidates for the data path (R239, R241). -/
def readyThroughs (s : State) : State :=
  (s.media.wts.filter (fun w => w.st == .queued)).foldl (fun s w =>
    if s.media.offBlock = 0 || wtHeld s w then s
    else
      let (n, g, s) := takeSlot s
      modWt s w.id (fun w => { w with st := .path, slot := n, gen := g })) s

/-- Everything the header lane can send now; a port that is not UP sends nothing but RESYNC (R222). -/
def mediaPump (s : State) : State :=
  if s.media.st = .up then readyThroughs (sendOffers (sendFills s)) else s

/-! ### Lines that have reached media (R188, R232) -/

/-- `MP_FLUSH_LEFT` falls in a hold-up as lines reach media and their units are free (R194, R255). -/
def flushFalls (s : State) : State :=
  if s.mode = .holdup then { s with media := { s.media with flushLeft := min s.media.flushLeft (unitsHeld s) } } else s

/-- A line of a write-through is on media: its unit is free, its request's line completes, its frame's sector is dirty no
more unless it was written again, and its entry is released once its frame holds the line. -/
def lineOnMedia (s : State) (w : WriteThru) (l : Nat × Line × Bool × Option Nat) : State :=
  let s := if s.mode = .holdup && w.holdup then { s with media := { s.media with flushed := s.media.flushed + 1 } } else s
  match l.2.2.2 with
  | none =>
    let (c, set) := s.place w.page
    match findWay s c set w.page with
    | some way => if w.redirty.getLsbD l.1 then s else cleaned s c set way (bit64 l.1)
    | none => s
  | some idx =>
    match entry? s idx with
    | none => s
    | some e =>
      let s := modEntry s idx (fun x => { x with taken := true, unit := false })
      let s := finishLine s { e with taken := true }
      let s := if e.framed && !w.redirty.getLsbD l.1 && !e.bypass then
          match findWay s e.ch e.set e.page with
          | some way => cleaned s e.ch e.set way (bit64 l.1)
          | none => s
        else s
      match entry? s idx with
      | none => s
      | some e => if e.framed || e.phase == .media then releaseEntry s e else s

/-- A write-through has been accepted (R240). -/
def throughTaken (s : State) (w : WriteThru) : State :=
  let s := { s with media := { s.media with wts := s.media.wts.filter (fun x => x.id != w.id) } }
  flushFalls (resumeCheck (w.lines.foldl (fun s l => lineOnMedia s w l) s))

/-- A write-through outside the media space: its lines are discarded and its requests complete ERR RANGE (R233). -/
def throughRange (s : State) (w : WriteThru) : State :=
  let s := { s with media := { s.media with wts := s.media.wts.filter (fun x => x.id != w.id) } }
  let s := (s.count Reg.mpCntRange).setFlag Fld.mpHistRangeLost true
  let s := s.info Ev.mpRangeLost Src.media (formP0 w.page) (formP1 w.page)
  let s := w.lines.foldl (fun s l =>
    let (c, set) := s.place w.page
    let s := match findWay s c set w.page with
      | some way => if s.mode = .bypass then s else invalidate s c set way (bit64 l.1)
      | none => s
    match l.2.2.2.bind (entry? s) with
    | none => s
    | some e =>
      match e.rid with
      | some rid => if (req? s (portOf e.port) rid).isSome then failReq s (portOf e.port) rid Status.range else releaseEntry s e
      | none => releaseEntry s e) s
  flushFalls (resumeCheck s)

/-- An offer's lines are on media (R232): its frame's sectors are clean, unless written again or already another
page's. -/
def offerOnMedia (s : State) (o : Offer) : State :=
  let t := s.tag o.ch o.set o.way
  let s := if o.dirty && t.live && t.page == o.page then cleaned s o.ch o.set o.way (o.smap &&& ~~~o.redirty) else s
  flushFalls (resumeCheck (endOffer s o.id true))

/-! ### The write-back data path (R241–R243) -/

/-- Lines of a transfer. -/
def xferLines (s : State) : MpXfer → Nat
  | .offerData id => ((s.media.offers.find? (fun o => o.id == id)).map (fun o => popcount o.smap)).getD 0
  | .writeThru id => ((s.media.wts.find? (fun w => w.id == id)).map (fun w => w.lines.length)).getD 0

/-- Deadline, overdue state, context, restarts and rights of a transfer. -/
def xferKey (s : State) : MpXfer → Tick × Bool × Nat × Nat × Bool
  | .offerData id => ((s.media.offers.find? (fun o => o.id == id)).map (fun o =>
      (o.deadline, o.overdue, o.ctx, o.restarts, o.rights))).getD (0, false, 0, 0, false)
  | .writeThru id => ((s.media.wts.find? (fun w => w.id == id)).map (fun w =>
      (w.deadline, w.overdue, w.ctx, w.restarts, w.rights))).getD (0, false, 0, 0, false)

/-- Rotating context order: the distance of a context counting upward from the pointer (R82). -/
def rotation (ptr ctx : Nat) : Nat := (ctx + 4096 - ptr) % 4096

/-- Candidate `b` is granted before candidate `a`, each a deadline, an overdue state and a context (R74, R75, R82). -/
def beats (ptr : Nat) (b a : Tick × Bool × Nat) : Bool :=
  if goesBefore b.2.1 b.1 a.2.1 a.1 then true
  else if goesBefore a.2.1 a.1 b.2.1 b.1 then false
  else if b.2.1 && a.2.1 then false
  else decide (rotation ptr b.2.2 < rotation ptr a.2.2)

/-- The transfers that compete for the data path, oldest first. -/
def mediaCandidates (s : State) : List MpXfer :=
  let os := (s.media.offers.filter (fun o => o.st == .accepted)).map (fun o => (o.id, MpXfer.offerData o.id))
  let ws := (s.media.wts.filter (fun w => w.st == .path)).map (fun w => (w.id, MpXfer.writeThru w.id))
  ((os ++ ws).filter (fun x => some x.2 != s.media.xfer.map (fun y => y.1))).map (fun x => x.2)

/-- The candidate to be granted. -/
def mediaBest (s : State) : Option MpXfer :=
  (mediaCandidates s).foldl (fun b x =>
    match b with
    | none => some x
    | some y =>
      let kx := xferKey s x; let ky := xferKey s y
      if beats s.media.ptr (kx.1, kx.2.1, kx.2.2.1) (ky.1, ky.2.1, ky.2.2.1) then some x else b) none

/-- The media-port arbiter grants, if it is not frozen and a candidate is present (R80, R90). -/
def mediaGrant (s : State) : State :=
  if s.flag Fld.mpArbCtlFreeze || s.media.st != .up then s
  else match mediaBest s with
    | none => s
    | some x => { s with media := { s.media with xfer := some (x, 0), ptr := ((xferKey s x).2.2.1 + 1) % 4096 } }

/-- A transfer's restart count rises (R87). -/
def addRestart (s : State) (x : MpXfer) : State :=
  let s := match x with
    | .offerData id => modOffer s id (fun o => { o with restarts := o.restarts + 1 })
    | .writeThru id => modWt s id (fun w => { w with restarts := w.restarts + 1 })
  if (xferKey s x).2.2.2.1 = s.fld Fld.mpArbPreemptRestartMax then s.count Reg.mpCntNopreempt else s

/-- A candidate preempts a transfer (R85): its deadline precedes by more than MARGIN, or it alone is overdue. -/
def preempts (margin : Nat) (cand xfer : Tick × Bool) : Bool :=
  if xfer.2 then false
  else if cand.2 then true
  else
    let d := (xfer.1 - cand.1).toNat
    decide (margin + 1 ≤ d ∧ d < 2 ^ 23)

/-- The last line handshake of a transfer has ended (R232, R106): its message has been sent. -/
def xferDone (s : State) (x : MpXfer) : State :=
  let k := xferKey s x
  let s := if lateness s.timeBase k.1 = 0 then s else s.count Reg.mpCntMiss
  let s := { s with media := { s.media with xfer := none } }
  match x with
  | .offerData id =>
    match s.media.offers.find? (fun o => o.id == id) with
    | none => s
    | some o =>
      let ls := (sectors o.smap).map (fun i => ((o.data.find? (fun d => d.1 == i)).map (fun d => d.2)).getD 0)
      let s := driveMedia s 0x06 0 (offerTag o.slot o.gen) o.page 0 o.smap o.pmap 0 ls
      offerOnMedia s o
  | .writeThru id =>
    match s.media.wts.find? (fun w => w.id == id) with
    | none => s
    | some w =>
      let sm := w.lines.foldl (fun m l => m ||| bit64 l.1) (0 : BitVec 64)
      let pm := w.lines.foldl (fun m l => if l.2.2.1 then m ||| bit64 l.1 else m) (0 : BitVec 64)
      let ls := (sectors sm).map (fun i => ((w.lines.find? (fun l => l.1 == i)).map (fun l => l.2.1)).getD 0)
      let s := driveMedia (s.count Reg.mpCntWt) 0x05 (holdupFlag s) (offerTag w.slot w.gen) w.page w.deadline
        sm pm 0 ls
      modWt s id (fun w => { w with st := .sent })

/-! ### Resynchronisation (R244–R248) -/

/-- A transfer in progress is cut. -/
def cutXfer (s : State) : State := { s with media := { s.media with xfer := none } }

/-- Step 1 of R245: the transfer is cut, RESYNC sent; the books of both credit pools are void until the next CREDIT. -/
def startResync (s : State) : State :=
  let s := (cutXfer s).count Reg.mpCntResync
  let s := driveMedia s 0x0E 0 0 0 0 0 0 0 []
  let s := mediaBoundary { s with media := { s.media with st := .resync, awaitAck := true, awaitCredit := true, reqBlock := 0,
                                                          reqEngine := 0, offBlock := 0, offEngine := 0 } }
  if s.flag Fld.mpCtlEnable || s.mode = .holdup then s else { s with media := { s.media with st := .down } }

/-- A protocol fault (R244). -/
def protoFault (s : State) (code : Nat) (m : MediaHdr) : State :=
  let s := (s.count Reg.mpCntProto).setFlag Fld.mpHistProto true
  let s := ((s.setFld Fld.mpLastProtoCode code).setFld Fld.mpLastProtoOpcode m.opcode).setFld Fld.mpLastProtoMtag m.mtag.toNat
  let s := s.eventOf Ev.mpProto Src.media 9 (dw (code + m.opcode * 256 + m.mtag.toNat * 65536))
  startResync s

/-- Step 5 of R245: open work is queued again for sending, in its original order and with new generations. -/
def reissue (s : State) : State :=
  let gens := s.media.fills.foldl (fun g f => kPut g f.buf ((kGet 31 g f.buf + 1) % 32)) s.media.fillGen
  { s with media := { s.media with
      fillGen := gens
      fills := s.media.fills.map (fun f =>
        if f.last then f else { f with sent := false, gen := kGet 0 gens f.buf })
      offers := s.media.offers.map (fun o => match o.st with
        | .reading _ => o
        | _ => { o with st := .queued })
      wts := s.media.wts.map (fun w => { w with st := .queued }) } }

/-- The port does not look at a message: it is STOPPED, disabled, or waits for RESYNC_ACK (R246, R248, R256). -/
def mediaDeaf (s : State) : Bool :=
  s.media.st == .stopped || s.media.awaitAck || (!s.flag Fld.mpCtlEnable && s.mode != .holdup)

/-- The form checks of every message (R214, R216, R244 codes 0x01 to 0x03). `op` is the opcode the message has. -/
def mediaForm (m : MediaHdr) (raw : BitVec 256) (ops : List Nat) (nlines : Nat) : Option Nat :=
  if !hcrcOk raw then some 0x01
  else if !ops.contains m.opcode then some 0x02
  else if m.opcode = 0x81 then
    if m.lines ≠ popcount m.smap || m.lines ≠ nlines || decide (m.pmap &&& ~~~m.smap ≠ 0) then some 0x03 else none
  else if m.lines ≠ 0 then some 0x03
  else none

/-- A header failed its check: the history bit beside the fault (R244, R256). -/
def mediaFault (s : State) (code : Nat) (m : MediaHdr) : State :=
  let s := if code = 0x01 then s.setFlag Fld.mpHistHdrCrc true else s
  protoFault s code m

/-- Opcodes that the fill direction carries (R217). -/
def fillOps : List Nat := [0x81, 0x82, 0x83, 0x84, 0x85, 0x8E, 0x0E]

/-! ### Answers -/

/-- The open offer, or sent write-through, of an offer tag. -/
def openOffer (s : State) (tag : Nat) : Option Offer :=
  s.media.offers.find? (fun o => (o.st == .sent || o.st == .deferred) && offerTag o.slot o.gen == tag)
def openThrough (s : State) (tag : Nat) : Option WriteThru :=
  s.media.wts.find? (fun w => w.st == .sent && offerTag w.slot w.gen == tag)

/-- An answer that names no open offer: stale, or a protocol fault (R221). -/
def strayAnswer (s : State) (m : MediaHdr) : State :=
  let tag := m.mtag.toNat
  if kFind s.media.withdrawn (tag % 1024) = some (tag / 1024) then s.count Reg.mpCntStale
  else mediaFault s 0x05 m

/-- ACCEPT (R230–R232). -/
def takeAccept (s : State) (m : MediaHdr) : State :=
  match openOffer s m.mtag.toNat with
  | some o =>
    if m.status ≠ 0 then mediaFault s 0x06 m
    else
      let s := if o.dirty then s else s.count Reg.mpCntAcceptClean
      let s := freeOfferEntries (offerCredit s) o.id
      modOffer s o.id (fun o => { o with st := .accepted })
  | none =>
    match openThrough s m.mtag.toNat with
    | some w =>
      if m.status = 0 then throughTaken (offerCredit s) w
      else if m.status = 2 then throughRange (offerCredit s) w
      else mediaFault s 0x06 m
    | none => strayAnswer s m

/-- FLUSH lines that wait for an offer outside the media space: media cannot hold them, so their requests complete ERR
RANGE (DEDUCED: R12, R233). -/
def flushRange (s : State) (id : Nat) : State :=
  (s.ledger.filter (fun e => e.phase == .offer id)).foldl (fun s e =>
    match e.rid with
    | some rid => if (req? s (portOf e.port) rid).isSome then failReq s (portOf e.port) rid Status.range else s
    | none => s) s

/-- A dirty offer outside the media space (R233): its sectors are invalidated. -/
def offerRange (s : State) (o : Offer) : State :=
  let s := flushRange s o.id
  let s := (s.count Reg.mpCntRange).setFlag Fld.mpHistRangeLost true
  let s := s.info Ev.mpRangeLost Src.media (formP0 o.page) (formP1 o.page)
  let t := s.tag o.ch o.set o.way
  let s := if t.live && t.page == o.page then invalidate s o.ch o.set o.way (o.smap &&& ~~~o.redirty) else s
  resumeCheck (endOffer s o.id true)

/-- DECLINE (R230, R233). -/
def takeDecline (s : State) (m : MediaHdr) : State :=
  match openOffer s m.mtag.toNat with
  | some o =>
    if o.dirty then
      if m.status = 2 then offerRange ((offerCredit s).count Reg.mpCntDecline) o else mediaFault s 0x06 m
    else if m.status = 0 then endOffer ((offerCredit s).count Reg.mpCntDecline) o.id true
    else if m.status = 2 then endOffer (((offerCredit s).count Reg.mpCntDecline).count Reg.mpCntRange) o.id true
    else mediaFault s 0x06 m
  | none =>
    match openThrough s m.mtag.toNat with
    | some w => if m.status = 2 then throughRange (offerCredit s) w else mediaFault s 0x06 m
    | none => strayAnswer s m

/-- DEFER (R229, R230, R251). -/
def takeDefer (s : State) (m : MediaHdr) : State :=
  match openOffer s m.mtag.toNat with
  | some o =>
    if s.media.holdup != .none then mediaFault s 0x08 m
    else if m.status ≠ 0 then mediaFault s 0x06 m
    else
      let s := s.count Reg.mpCntDefer
      if o.st = .deferred then s
      else modOffer s o.id (fun x => { x with st := .deferred, deferAt := s.us })
  | none =>
    if (openThrough s m.mtag.toNat).isSome then mediaFault s 0x06 m else strayAnswer s m

/-! ### Fill data (R225–R227, R252) -/

/-- A line of a fill lands (R187, R226, R177): its waiting entries are served. -/
def landLine (s : State) (fid sector : Nat) (l : Line) (bad : Bool) : State :=
  match s.media.fills.find? (fun f => f.id == fid) with
  | none => s
  | some f =>
    let bad := bad || (f.guarded && onLostList s f.ch f.set)
    let s := modFill s fid (fun f => { f with landed := f.landed ||| bit64 sector, data := f.data ++ [(sector, l)],
                                              bad := if bad then f.bad ||| bit64 sector else f.bad })
    (s.ledger.filter (fun e => e.phase == .fill fid && e.sector == sector && e.kind != .fill)).foldl (fun s e =>
      deliver s e.idx l bad) s

/-- A fill outside the media space (R227): its waiting requests complete ERR RANGE, its allocation ends. -/
def fillRange (s : State) (f : Fill) : State :=
  let s := s.count Reg.mpCntRange
  let s := (s.ledger.filter (fun e => e.phase == .fill f.id && e.kind != .fill)).foldl (fun s e =>
    match e.rid with
    | some rid => if (req? s (portOf e.port) rid).isSome then failReq s (portOf e.port) rid Status.range else releaseEntry s e
    | none => releaseEntry s e) s
  let s := match f.alloc with | some a => endAlloc s a | none => s
  endFill s f.id

/-- FILL_DATA (R225, R226). The lines come with their check codes. -/
def takeFillData (s : State) (m : MediaHdr) (lines : List (Line × BitVec 32)) : State :=
  match s.media.fills.find? (fun f => f.sent && !f.last && f.tag == m.mtag.toNat) with
  | none => mediaFault s 0x04 m
  | some f =>
    let isLast := m.flags.getLsbD 0
    let credit (s : State) : State :=
      { s with media := { s.media with reqBlock := s.media.reqBlock + 1, reqEngine := s.media.reqEngine - 1 } }
    if m.status = 2 && m.smap = 0 && isLast then fillRange (credit s) f
    else if m.smap = 0 || decide (m.smap &&& ~~~(f.want &&& ~~~f.landed) ≠ 0)
        || (isLast && (f.landed ||| m.smap) != f.want) then mediaFault s 0x04 m
    else
      let s := s.count Reg.mpCntFillLines lines.length
      let s := s.count Reg.mpCntFillPoison (popcount m.pmap)
      let discard := s.media.holdup != .none
      let s := ((sectors m.smap).zip lines).foldl (fun s x =>
        let bad := lineCrc x.2.1 != x.2.2
        let s := if bad then
            ((s.count Reg.mpCntLineCrc).setFlag Fld.mpHistLineCrc true).eventOf Ev.mpLineCrc Src.media 8 (formP0 f.page)
              (dw (f.page / 2 ^ 32 % 4 + x.1 * 256))
          else s
        if discard then modFill s f.id (fun f => { f with landed := f.landed ||| bit64 x.1, skip := f.skip ||| bit64 x.1 })
        else landLine s f.id x.1 x.2.1 (bad || m.pmap.getLsbD x.1)) s
      if isLast then modFill (credit s) f.id (fun f => { f with last := true }) else s

/-! ### CREDIT and RESYNC_ACK (R222, R245) -/

/-- HOLDUP_START (R217, R249): a port that is not UP sends it after its CREDIT (R222, R256). -/
def sendHoldupStart (s : State) : State := driveMedia s 0x07 0 0 0 0 0 0 0 []

/-- CREDIT (R222): the port is UP, and open work is sent again. A hold-up flush that found it DOWN starts. -/
def takeCredit (s : State) (m : MediaHdr) : State :=
  let reqs := m.smap.toNat % 4096
  let offs := m.smap.toNat / 65536 % 4096
  if !s.media.awaitCredit || reqs ≠ 2048 || offs ≠ 1024 then mediaFault s 0x07 m
  else
    let s := { s with media := { s.media with st := .up, awaitCredit := false, reqBlock := 2048, reqEngine := 0,
                                              offBlock := 1024, offEngine := 0 } }
    mediaPump (reissue (if s.flag Fld.mpStateHoldupActive then sendHoldupStart s else s))

/-- RESYNC_ACK (R245, R246). -/
def takeAck (s : State) (m : MediaHdr) : State :=
  if s.media.awaitAck then { s with media := { s.media with awaitAck := false, awaitCredit := true } }
  else mediaFault s 0x09 m

/-- The port's ENABLE takes effect (R256): clearing it on an UP port resynchronises and leaves it DOWN; setting it again
sends RESYNC once more. -/
def enableChange (s : State) (v : Bool) (was : Bool) : State :=
  if v = was ∨ s.mode = .holdup ∨ s.media.st = .stopped then s
  else if v then startResync s
  else
    let s := if s.media.st = .up then startResync s else s
    { s with media := { s.media with st := .down } }

/-- The media port's transfer boundary, with what a changed ENABLE does. -/
def mediaEdge (s : State) : State :=
  let was := s.flag Fld.mpCtlEnable
  let s := mediaBoundary s
  enableChange s (s.flag Fld.mpCtlEnable) was

/-- One decision of the media-port arbiter, at the last beat of a line handshake or on an idle path (R83, R85, R241). -/
def mediaArbitrate (s : State) : State :=
  if s.media.st != .up then s
  else match s.media.xfer with
    | none => mediaGrant s
    | some (x, n) =>
      if xferLines s x ≤ n + 1 then
        let s := xferDone s x
        mediaGrant (mediaPump (mediaEdge s))
      else
        let k := xferKey s x
        let s := { s with media := { s.media with xfer := some (x, n + 1) } }
        let cand := mediaBest s
        let go := match cand with
          | none => false
          | some y =>
            let ky := xferKey s y
            !s.flag Fld.mpArbCtlFreeze && decide (k.2.2.2.1 < s.fld Fld.mpArbPreemptRestartMax)
              && s.mayPreempt ky.2.2.1 ky.2.2.2.2
              && preempts (s.fld Fld.mpArbPreemptMargin) (ky.1, ky.2.1) (k.1, k.2.1)
        if go then
          let s := addRestart (s.count Reg.mpCntPreempt) x
          mediaGrant { s with media := { s.media with xfer := none } }
        else s

/-! ### The hold-up flush (R249–R252) -/

/-- The staged P-class lines leave for media: those of one request and page travel in one WRITE_THRU with HOLDUP (R239,
R249). -/
def flushStaged (s : State) : State :=
  let left := s.ledger.filter (fun e => e.unit && !e.sent && e.produced.isSome)
  let s := left.foldl (fun s e => modEntry s e.idx (fun x => { x with through := true })) s
  left.foldl (fun s e =>
    match entry? s e.idx with
    | none => s
    | some e =>
      if e.sent then s
      else
        let s := queueThrough s e
        { s with media := { s.media with wts := s.media.wts.map (fun w =>
            if w.lines.any (fun l => l.2.2.2 == some e.idx) then { w with holdup := true } else w) } }) s

/-- The next frames of the persist index are read for the flush while buffers last (R193, R250). A sector with a staged
P-class line is left to that line. -/
def flushFrames (s : State) : State :=
  s.pidx.foldl (fun s k =>
    let way := k % 16
    let set := k / 16 % 2 ^ 24
    let c := k / 2 ^ 28
    let t := s.tagK k
    let staged := (s.ledger.filter (fun e => e.unit && e.page == t.page)).foldl (fun m e => m ||| bit64 e.sector) (0 : BitVec 64)
    let m := t.dirty &&& ~~~staged
    if m = 0 || (s.ch c).unclean || s.media.offers.any (fun o => o.page == t.page)
        || s.media.wts.any (fun w => w.holdup && w.page == t.page)
        || decide (offerRoom s < popcount m ∨ 1792 ≤ offerBufs s) then s
    else
      let s := startOffer s .drain true c set way m 0 (s.farDeadline (s.fld Fld.dirtyCtlFar)) false
      match s.media.offers.getLast? with
      | none => s
      | some o => modOffer s o.id (fun o => { o with holdup := true })) s

/-- A frame read for the flush becomes a WRITE_THRU with HOLDUP (R239, R249). -/
def flushConvert (s : State) : State :=
  (s.media.offers.filter (fun o => o.holdup && o.st == .queued && !o.counted)).foldl (fun s o =>
    let w : WriteThru := { id := o.id, page := o.page, ctx := o.ctx, deadline := o.deadline, holdup := true,
                           lines := o.data.map (fun d => (d.1, d.2, o.pmap.getLsbD d.1, none)) }
    let s := freeOfferEntries s o.id
    { s with media := { s.media with offers := s.media.offers.filter (fun x => x.id != o.id), wts := s.media.wts ++ [w] } }) s

/-- Nothing is left to flush and every offer and write-through open at the port is resolved (R249 step 6). -/
def flushSettled (s : State) : Bool :=
  s.media.wts.isEmpty && !s.media.offers.any (fun o => match o.st with | .reading _ => o.holdup | .queued => o.holdup | _ => true)
    && !s.ledger.any (fun e => e.unit)
    && s.pidx.all (fun k => (s.tagK k).dirty == 0 || (s.ch (k / 2 ^ 28)).unclean)

end Sys2Proof.Machine
end

