-- ==== Sys2Proof/Machine/FaultOps.lean ====
section
/-! DEFINITION. Mode changes (R450), channel states and fences (R466–R482), the flash log's queue (R591), and the fault
collector with the entry into SAFE (R517–R543). -/

namespace Sys2Proof.Machine

/-! ### Modes (R450) -/

/-- The mode, PREV, the counter and EV_MODE (R450). -/
def setMode (s : State) (m : Mode) : State :=
  let s := (s.count Reg.blkCntMode).info Ev.mode Src.block (dw (s.modeNow.code + m.code * 16))
  { s with prev := s.modeNow, mode := m, modeAt := s.epoch, flt := { s.flt with finishing := false } }

/-- The block changes mode, and the ports follow (R450, R52). -/
def enterMode (s : State) (m : Mode) : State :=
  let s := setMode s m
  (List.range 8).foldl (fun s p => updatePort s (portOf p)) s

/-! ### The flash log's queue (R591, R601) -/

/-- Kinds of log record (R591). -/
def LogKind.lifetime : Nat := 1
def LogKind.recovery : Nat := 2
def LogKind.lane : Nat := 3
def LogKind.sram : Nat := 4
def LogKind.ways : Nat := 5
def LogKind.journal : Nat := 6
def LogKind.cal : Nat := 7

/-- First word of a journal record's body: what the record says of its channel (R475, R490, R493, R497, R500, R501). -/
def Jr.opened : Nat := 0
def Jr.commit : Nat := 1
def Jr.soft : Nat := 2
def Jr.hard : Nat := 3
def Jr.mark : Nat := 4
def Jr.unmark : Nat := 5
def Jr.retire : Nat := 6
def Jr.unretire : Nat := 7
def Jr.dropped : Nat := 8
def Jr.module : Nat := 9

/-- The log takes records: the flash interface is not stopped, and no hold-up is in force (R576, R601). -/
def logOpen (s : State) : Bool := !s.inError 83 && s.mode != .holdup

/-- A lifetime counter has gained (R591). -/
def lifeUp (s : State) (k : Nat) (n : Nat := 1) : State := { s with life := kPut s.life k (kGet 0 s.life k + n) }

/-- An update joins the log writer's queue; while the writer is stopped none is written (R601). -/
def queueLog (s : State) (kind : Nat) (body : List Nat) : State :=
  if logOpen s then { s with flash := { s.flash with log := s.flash.log ++ [{ kind := kind, body := body }] } } else s

/-! ### Channel states (R466–R468) -/

/-- Cause codes of EV_CH_STATE (R671). -/
def Why.command : Nat := 0
def Why.fault : Nat := 1
def Why.policy : Nat := 2
def Why.flow : Nat := 3

/-- A channel changes state (R467): EV_CH_STATE with the old and new states. -/
def setChSt (s : State) (c : Nat) (st : ChSt) (why : Nat) : State :=
  let old := (s.ch c).st
  if old = st then s
  else (s.modCh (chan c) (fun q => { q with st := st })).info Ev.chState (Src.chan c)
    (dw (c % 16 + old.code * 16 + st.code * 256 + why * 4096))

/-- The arbiters of a channel make no grant for host traffic: frozen by register, or by its state (R90, R466). -/
def cmdFrozen (s : State) (c : Nat) : Bool :=
  s.flag Fld.chArbCtlFreeze c || (s.ch c).st == .fenced || (s.ch c).st == .service || (s.ch c).st == .retrain
    || (s.ch c).st == .retired

/-- Both FREEZE bits of a channel (R471, R490). -/
def setFreeze (s : State) (c : Nat) (v : Bool) : State :=
  (s.setFlag Fld.chArbCtlFreeze v c).setFlag Fld.chArbCtlFreezeData v c

/-- An orderly fence begins (R471, R482): FENCING, its journal entry, and in TIERED and DRAIN its walker. -/
def beginFence (s : State) (c : Nat) (why : Nat) : State :=
  let s := lifeUp (s.count Reg.chCntFence 1 c) 5
  let s := setChSt s c .fencing why
  let s := (queueLog s LogKind.journal [Jr.opened, c]).setFlag Fld.tierSweepActive false c
  let tiered := s.mode.tieredLike
  s.modCh (chan c) (fun q => { q with
    trained := false, fencePend := 0, fenceFrom := s.us, fenceWarned := false, walker := if tiered then some 0 else none })

/-- An orderly fence is asked for: it waits for a frequency change and for a way retirement past its step 1 (R470). -/
def orderlyFence (s : State) (c : Nat) (why : Nat) : State :=
  match (s.ch c).st with
  | .online | .returning =>
    if (s.ch c).freq != .none || s.retiring.any (fun r => r.1 == c && decide (1 ≤ r.2.2.2)) then
      s.modCh (chan c) (fun q => { q with fencePend := why + 1 })
    else beginFence s c why
  | _ => s

/-- An access of patrol scrub, or a correction's write-back, which go on in FENCED (R295, R297). -/
def JobFor.scrubs : JobFor → Bool
  | .scrub _ => true | .ceWb _ => true | _ => false

/-- Accesses of a channel end without their effect, with the readings they were for and the commands granted to them:
every one at an immediate fence, all but patrol scrub's at the end of an orderly one. -/
def dropAccesses (s : State) (c : Nat) (all : Bool) : State :=
  let keep (j : Job) : Bool := !all && j.why.scrubs
  let kept := ((s.ch c).jobs.filter keep).map (fun j => j.id)
  let s := dropEntries s (fun e => (e.kind == .scrub && e.ch == c && !kept.contains e.owner)
    || (match e.key with | .loc n _ => n == c && !(e.kind == .scrub && kept.contains e.owner) | _ => false))
  let s := { s with fetches := s.fetches.filter (fun f => f.ch != c) }
  s.modCh (chan c) (fun q => { q with
    jobs := q.jobs.filter keep
    queue := q.queue.filter (fun x => !all && x.job.any (fun id => kept.contains id))
    busNext := q.busNext.filter (fun b => kept.contains b.2)
    ppr := if 6 ≤ q.ppr then q.ppr else 0
    pprLoc := if 6 ≤ q.ppr then q.pprLoc else none })

/-- Offers of a channel that are still being read from it end. -/
def stopOffer (s : State) (o : Offer) : State :=
  match o.st with | .reading _ => endOffer s o.id false | _ => s

/-- A fill of a fenced channel installs nothing. -/
def stopFill (f : Fill) : Fill := { f with noInstall := true, alloc := none, way := none, job := none }

/-- A write kept at an immediate fence goes back to its staged line or its result. -/
def restage (x : LEntry) : LEntry :=
  { x with phase := (if x.through && x.framed then .media else if x.full then .fresh
                     else if x.slot.isSome then .result else .fresh), st := .staged }

/-- One host operation of a channel at an immediate fence (R478). -/
def stopEntry (s : State) (e : LEntry) : State :=
  let p := portOf e.port
  match e.rid with
  | none => s
  | some rid =>
    let sent := match req? s p rid with | none => true | some r => r.finished
    match e.kind with
    | .rd =>
      if e.st = .ready then s
      else modEntry s e.idx (fun x => { x with phase := .fresh, st := .wait, unclean := true })
    | .wr | .wrm | .zero | .fetchAdd | .swap | .cas =>
      if sent then modEntry s e.idx restage else failReq s p rid Status.aborted
    | _ => if sent then dropEntries s (fun x => x.idx == e.idx) else failReq s p rid Status.aborted

/-- In-flight work of a channel at an immediate fence (R478): writes whose completion has been sent stay staged, reads
complete POISON, everything else ERR ABORTED. -/
def stopWork (s : State) (c : Nat) : State :=
  let s := (s.media.offers.filter (fun o => o.ch == c)).foldl stopOffer s
  let ids := (s.allocs.filter (fun a => a.ch == c)).map (fun a => a.id)
  let fills := s.media.fills.map (fun f => if f.ch = c then stopFill f else f)
  let s := { s with allocs := s.allocs.filter (fun a => a.ch != c), media := { s.media with fills := fills } }
  let s := (s.ledger.filter (fun e => e.ch == c && !e.bypass && e.rid.isSome)).foldl stopEntry s
  let s := { s with ledger := s.ledger.map (fun e =>
    match e.phase with | .alloc id => if ids.contains id then { e with phase := .fresh } else e | _ => e) }
  dropAccesses s c true

/-- Staged writes of a channel that the ledger keeps. -/
def keptWrites (s : State) (c : Nat) : List LEntry :=
  s.ledger.filter (fun e => e.ch == c && !e.bypass && e.kind.writes && e.fin)

/-- An immediate fence (R474–R478, R482). -/
def immediateFence (s : State) (c : Nat) (why : Nat) : State :=
  match (s.ch c).st with
  | .online | .fencing | .returning =>
    let unclean := s.heldMode.tieredLike && !tierClean s
    let s := if (s.ch c).st = .fencing then s else queueLog s LogKind.journal [Jr.opened, c]
    let s := lifeUp (s.count Reg.chCntFence 1 c) 5
    let s := stopWork s c
    let s := setFreeze s c true
    let s := setChSt s c .fenced why
    let s := s.modCh (chan c) (fun q => { q with
      trained := false, unclean := unclean, fencePend := 0, walker := none, freq := .none, freqNext := none, book := [],
      sr := if q.sr = .entering then .active else q.sr, srWhy := if q.sr = .entering then .none else q.srWhy })
    let s := { s with retiring := s.retiring.filter (fun r => r.1 != c), drain := kErase s.drain c }
    if unclean then s.info Ev.chUnclean (Src.chan c) (dw (c % 16)) (dw (keptWrites s c).length)
    else { s with caches := s.caches.set (chan c) [] }
  | _ => s

/-- A fault fences its channel, and the repair policy takes it through RETRAIN and RETURN (R474, R495). -/
def planRetrain (s : State) (c : Nat) : State :=
  if s.flag Fld.svcPolicyAutoRetrain then s.modCh (chan c) (fun q => { q with plan := 1 }) else s

/-- A contained error of a channel fences it; one that falls in SAFE or RECOVER leaves no time for an orderly fence, and the
channel is left out of the relock (R541, R542). -/
def faultFence (s : State) (c : Nat) (orderly : Bool) : State :=
  if s.mode = .safe || s.modeNow = .recover then
    (planRetrain (immediateFence s c Why.fault) c).modCh (chan c) (fun q => { q with noRelock := true })
  else planRetrain (if orderly then orderlyFence s c Why.fault else immediateFence s c Why.fault) c

/-- A cause of a channel's PHY and calibration source holds (R521), and the source is reported. -/
def phyFault (s : State) (c bit : Nat) : State :=
  (s.modCh (chan c) (fun q => { q with phyCause := q.phyCause ||| (1#8 <<< bit) })).report (42 + c) (some c)

/-! ### Walks that end (R471, R472) -/

/-- The channel holds nothing of its sets that a fence must see out (R472, R473, R482). Operations that its frames serve are
seen out in every mode (DEDUCED). -/
def fenceEmpty (s : State) (c : Nat) : Bool :=
  !s.ledger.any (fun e => e.ch == c && !e.bypass && e.rid.isSome && e.kind != .barrier) && !channelBusy s c
    && (!s.mode.tieredLike || ((s.ch c).walker.isNone && !channelDirty s c))

/-- Changed sets of the channel's tag-cache share are written back while tag reserve entries last (R471 step 5). -/
def writeBackTags (s : State) (c : Nat) : State :=
  (s.caches[chan c].filter (fun e => e.changed)).foldl (fun s e =>
    if tagRoom s then
      let dl := s.farDeadline (s.fld Fld.arbFarRepair)
      let (id, s) := newJob s c (.tagWrite e.set) true (tagLines s c e.set) 0 dl false
      let s := takeTagEntries s .tagWrite c e.set id 0 dl
      { s with caches := s.caches.set (chan c) (s.caches[chan c].map (fun x => if x.set = e.set then { x with changed := false } else x)) }
    else s) s

/-- The channel's accesses that a fence still waits for; a soft repair under way completes first. -/
def tagWritesOpen (s : State) (c : Nat) : Bool :=
  decide (0 < (s.ch c).ppr ∧ (s.ch c).ppr < 6) || s.caches[chan c].any (fun e => e.changed)
    || (s.ch c).jobs.any (fun j => match j.why with | .tagWrite _ => true | _ => false)

/-- A fence that has emptied its channel ends in FENCED (R471, R472). -/
def fenceTurn (s : State) (c : Nat) : State :=
  if (s.ch c).st = .fencing && fenceEmpty s c then
    let s := writeBackTags s c
    if tagWritesOpen s c then s
    else
      let s := dropAccesses s c false
      let s := setFreeze { s with caches := s.caches.set (chan c) [], pidx := s.pidx.filter (fun k => k / 2 ^ 28 != c),
                                  drain := kErase s.drain c } c true
      setChSt s c .fenced Why.flow
  else s

/-- A fence that waited begins once its reason is gone (R470). -/
def pendTurn (s : State) (c : Nat) : State :=
  let q := s.ch c
  if q.fencePend ≠ 0 && q.freq == .none && !s.retiring.any (fun r => r.1 == c && decide (1 ≤ r.2.2.2)) then
    orderlyFence (s.modCh (chan c) (fun q => { q with fencePend := 0 })) c (q.fencePend - 1)
  else s

/-! ### Self-refresh (R298, R299, R537) -/

/-- The channel has been trained and its drivers are on. -/
def phyTrained (s : State) (c : Nat) : Bool := s.fld Fld.trimValidValid c != 0 && s.flag Fld.phyStatusDrvOn c

/-- A channel whose contents SAFE, HOLDUP and a warm reset keep (R455, R537). -/
def healthy (s : State) (c : Nat) : Bool :=
  let q := s.ch c
  (q.st == .online || q.st == .fencing || q.st == .returning || (q.st == .fenced && q.trained))
    && phyTrained s c && q.sr != .inside && q.powered && !s.inError (42 + c)

/-- Self-refresh entry begins (R299). -/
def startSr (s : State) (c : Nat) (why : SrWhy) : State :=
  s.modCh (chan c) (fun q =>
    match q.sr with
    | .inside => { q with srWhy := why }
    | _ => { q with sr := .entering, srWhy := why })

/-- Every healthy channel begins its self-refresh entry. -/
def retainAll (s : State) (why : SrWhy) : State :=
  (List.range 16).foldl (fun s c => if healthy s c then startSr s c why else s) s

/-- No channel is still on its way into self-refresh. -/
def retained (s : State) (why : SrWhy) : Bool :=
  (List.range 16).all (fun c => !((s.ch c).sr == .entering && (s.ch c).srWhy == why))

/-! ### SAFE (R534–R543) -/

/-- Uptime in whole µs split over the two start registers (R540). -/
def noteStart (s : State) : State :=
  let s := (s.wr Reg.fltEpStartLo.at (dw (s.us % 2 ^ 32))).wr Reg.fltEpStartHi.at (dw (s.us / 2 ^ 32 % 2 ^ 16))
  let n := min (s.fld Fld.fltRcountCount + 1) 0xFFFF
  let s := lifeUp (s.setFld Fld.fltRcountCount n) 3
  { s with flt := { s.flt with episodes := (s.us :: s.flt.episodes).take 16, merged := 0, fromHoldup := s.mode == .holdup,
                               reloadPseq := false } }

/-- The OTP burn in progress is interrupted (R606): its slot has bits burned and a failing check. -/
def cutBurn (s : State) : State :=
  match s.flash.burn with
  | none => s
  | some (r, k, _) =>
    { s with flash := { s.flash with burn := none, otpSpoiled := s.flash.otpSpoiled ++ [(r, k)] } }.setFlag Fld.otpStatusBusy false

/-- Images staged and not yet switched are abandoned (R513). -/
def abandonImages (s : State) : State :=
  if s.pseqStaged.isNone && s.tseqStaged.isEmpty then s
  else
    let s := ((s.setFlag Fld.imgStatusBusy false).setFlag Fld.imgStatusStaged false).setFlag Fld.imgStatusRefused true
    let s := s.tseqStaged.foldl (fun s e => s.setFlag Fld.imgTseqVerPending false e.1) s
    { s with pseqStaged := none, tseqStaged := [] }

/-- A port at the entry into SAFE (R54): it completes its outstanding requests ERR ABORTED; credits already at the fabric
stay there. -/
def safePort (s : State) (p : PortId) : State := (abortPort s p).2

/-- A channel at the entry into SAFE (R535, R470): commands granted and not issued are withdrawn, a training is
abandoned. -/
def safeChannel (s : State) (c : Nat) : State :=
  s.modCh (chan c) (fun q => { q with
    queue := [], busNext := [], passes := []
    jobs := q.jobs.map (fun j => { j with lines := j.lines.map (fun l => if l.step = 1 then { l with step := 0 } else l) })
    trn := if q.st = .retrain then .idle else q.trn })

/-- The reaction of every unit to the safe-state net, and the start of an episode (R534–R540). -/
def enterSafe (s : State) : State :=
  let s := noteStart s
  let s : State := { s with resume := s.mode, pins := { s.pins with safeN := false } }
  let s := setMode s .safe
  let s := (List.range 8).foldl (fun s p => safePort s (portOf p)) s
  let s := cutXfer { s with media := { s.media with st := .stopped, holdup := .none } }
  let s := (List.range 16).foldl safeChannel s
  let s := retainAll s .safe
  abandonImages (cutBurn s)

/-- A fatal error while the block recovers returns it to SAFE in the same episode (R542). -/
def backToSafe (s : State) : State :=
  let s := setMode s .safe
  let s := cutXfer { s with media := { s.media with st := .stopped } }
  let s := (List.range 16).foldl safeChannel s
  retainAll s .safe

/-! ### The collector (R517–R531) -/

/-- Bit `src` of a vector of three 32-bit registers. -/
def setSrcBit (s : State) (f : Fld) (src : Nat) (v : Bool) : State :=
  s.wr (f.reg.at (src / 32)) (putBits (s.rd (f.reg.at (src / 32))) (src % 32) 1 v.toNat)

/-- The force bit of a source (R530). -/
def forced (s : State) (src : Nat) : Bool := getBits (s.rd (Reg.fltForce.at (src / 32))) (src % 32) 1 == 1

/-- A force bit that acts: one of a fatal source only while FATAL_ARM is set (R530). -/
def forceActs (s : State) (src : Nat) : Bool :=
  forced s src && (faultClass src != .fatal || s.flag Fld.fltCtlFatalArm)

/-- The class at which the collector takes an error: a broken pair at least as contained (R522). -/
def reactClass (src : Nat) (broken : Bool) : FClass :=
  if broken && faultClass src == .corrected then .contained else faultClass src

/-- The item, the counter and the history bit of one error (R517, R518, R527). -/
def bookError (s : State) (src : Nat) (broken : Bool) : State :=
  let d0 := dw (src % 128 + (forceActs s src).toNat * 256 + broken.toNat * 512)
  let s := setSrcBit s Fld.fltHistSrc src true
  match reactClass src broken with
  | .corrected =>
    let s := s.count Reg.fltCntCorr
    let last := kGet 0 s.flt.corrAt src
    if last = 0 || decide (last + 1024 ≤ s.epoch + 1) then
      { s with flt := { s.flt with corrAt := kPut s.flt.corrAt src (s.epoch + 1) } }.event Prio.corrected Ev.fltCorr Src.fault d0
    else s
  | .contained => (s.count Reg.fltCntCont).event Prio.contained Ev.fltCont Src.fault d0
  | .fatal => (s.count Reg.fltCntFatal).event Prio.fatal Ev.fltFatal Src.fault d0

/-- The block's own answer to one error: merged in SAFE, and the safe state for a fatal one (R517, R541, R542). -/
def blockReact (s : State) (src : Nat) (broken : Bool) : State :=
  let fatal := reactClass src broken == .fatal
  let s := if fatal && src = 77 then { s with flt := { s.flt with reloadPseq := true } } else s
  match s.modeNow with
  | .safe => { s.count Reg.fltCntMerged with flt := { s.flt with merged := s.flt.merged + 1 } }
  | .recover => if fatal then backToSafe s else s
  | .reset => s
  | _ => if fatal then (let keep := s.flt.reloadPseq
                        let s := enterSafe s
                        { s with flt := { s.flt with reloadPseq := keep } }) else s

/-- The units are held in reset, or not powered yet: their pairs read (0,1) (R525, R703). -/
def pairsHeld (s : State) : Bool := s.start == .off || s.start == .refclk || s.start == .power

/-- The pair of a source leaves (0,1): a pair already in error shows the collector no second transition (R524, R531). -/
def collectOne (s : State) (src : Nat) : State :=
  if s.inError src || (s.mode = .reset && pairsHeld s) then s
  else
    let s := { s with flt := { s.flt with err := s.flt.err ||| (1#96 <<< src) } }
    blockReact (bookError s src false) src false

/-- The cause of a source has ended: its pair returns to no error, unless a force holds it (R524, R531). -/
def causeEnds (s : State) (src : Nat) : State :=
  if forceActs s src then s else { s with flt := { s.flt with err := s.flt.err &&& ~~~(1#96 <<< src) } }

/-- The collector takes what the units have reported. -/
def collectAll (s : State) : State :=
  let l := s.flt.raised
  l.foldl (fun s e => collectOne s e.1) { s with flt := { s.flt with raised := [] } }

/-- A pair breaks (R522): an error of its source at its class or at contained class, its bit, its counter, fault source 95
and EV_FLT_BROKEN. -/
def breakPair (s : State) (src : Nat) : State :=
  if s.flt.broken.getLsbD src || (s.mode = .reset && pairsHeld s) then s
  else
    let was := s.inError src
    let s := { s with flt := { s.flt with broken := s.flt.broken ||| (1#96 <<< src) } }
    let s := s.count Reg.fltCntBroken
    let s := if was then s else bookError s src true
    let s := s.event Prio.contained Ev.fltBroken Src.fault (dw (src % 128 + (forceActs s src).toNat * 256 + 512))
    let s := if was then s else blockReact s src true
    collectOne s 95

/-- The quiet timer runs (R541): no fatal source reads 1 and REFCLK is not held over. -/
def quietRuns (s : State) : Bool :=
  s.mode == .safe && !s.held && !s.flag Fld.refclkStatusHoldover
    && (List.range 96).all (fun n => faultClass n != .fatal || !s.inError n)

end Sys2Proof.Machine
end

