-- ==== Sys2Proof/Machine/ModeOps.lean ====
section
/-! DEFINITION. The long mode changes: HOLDUP and its flush (R249, R456), the quiesce of a warm reset (R420), and what the
two resets leave (R418, R422). -/

namespace Sys2Proof.Machine

/-! ### The two resets (R418, R422) -/

/-- What the flash and the OTP keep through a reset (R422): their content, and an update in progress. -/
def keptFlash (f : Flash) : Flash :=
  { bytes := f.bytes, part := f.part, log := if f.writing then f.log.take 1 else [], writing := f.writing, isq := f.isq,
    ringPos := f.ringPos, cells := f.cells, copy := f.copy, seq := f.seq, page := f.page, update := f.update,
    otp := f.otp, otpSpoiled := f.otpSpoiled }

/-- The state after a reset has cleared every volatile state; the commands that wait and what the block has driven out are
the environment's. -/
def cleared (s : State) : State :=
  { pending := s.pending, out := s.out, freeCtr := s.freeCtr, nextId := s.nextId, flash := keptFlash (cutBurn s).flash }

/-- HOLDUP_REQ after a reset: the environment has lowered it where the hold-up it asked for has been served. -/
def holdupAsked (s : State) : Bool := s.pins.holdupReq && s.mode != .holdup && !s.flt.fromHoldup

/-- COLD_RST_n low (R418, R684): everything volatile is lost; no power is asked for (R700). -/
def coldReset (s : State) : State :=
  { cleared s with pins := { s.pins with coldRstN := false, holdupReq := holdupAsked s, holdupDone := false, safeN := false, pwrReq := 0 } }

/-- The channel keeps its contents through a warm reset: it is in self-refresh (R422). -/
def keepsDram (s : State) (c : Nat) : Bool := (s.ch c).sr == .inside

/-- A channel after a warm reset: its self-refresh and its modules' power. -/
def warmChannel (s : State) (c : ChanId) : Channel :=
  let q := s.chs[c]
  if keepsDram s c.val then { sr := .inside, srWhy := .warm, powered := true, hardRows := q.hardRows, softRows := q.softRows,
                              serial := q.serial }
  else { warmLost := s.ranks c.val != 0, hardRows := q.hardRows, serial := q.serial }

/-- The power groups that a warm reset keeps asking for (R700). -/
def warmReq (s : State) : BitVec 25 :=
  (List.range 16).foldl (fun m c => if keepsDram s c then m ||| (1#25 <<< (3 + c)) else m) 0x7#25

/-- The lifetime counters' gains at a warm reset: one reset more, and the seconds of uptime (R591). -/
def lifeWithUptime (s : State) : KMap Nat :=
  let up := kGet 0 s.life 2 + (s.us - s.lifeAt) / 1000000
  kPut (kPut s.life 1 (kGet 0 s.life 1 + 1)) 2 up

/-- The block enters RESET at the end of a warm-reset quiesce (R420–R423). A still-low WARM_RST_n holds it there
(R683). -/
def warmReset (s : State) : State :=
  let n := cleared s
  let n := { n with
    warm := true
    dram := s.dram.filter (fun e => keepsDram s (e.1 / 2 ^ 34))
    tags := s.tags.filter (fun e => keepsDram s (e.1 / 2 ^ 28))
    chs := Vector.ofFn (warmChannel s)
    life := lifeWithUptime s
    pins := { s.pins with coldRstN := true, holdupReq := holdupAsked s, holdupDone := false, safeN := false, pwrReq := warmReq s }
    start := if s.pins.warmRstN then .refclk else .off }
  (n.wr Reg.chainStatus.at (s.rd Reg.chainStatus.at)).wr Reg.blkCntWarm.at (satAdd32 (s.rd Reg.blkCntWarm.at) 1)

/-! ### Hold-up (R249, R456) and warm quiesce (R420) -/

/-- Every line of a write has been staged (R249 step 2). -/
def wholeStaged (s : State) (r : Req) : Bool :=
  r.ended && s.ledger.all (fun e => e.rid != some r.rid || (e.kind.writes && e.produced.isSome))

/-- A request survives the start of a hold-up: it has its entries, and it is a write whose lines are staged, or any
admitted read where the frames serve (R53, R249 step 2, R420). -/
def survives (s : State) (plain : Bool) (r : Req) : Bool :=
  r.finished || (r.admitted &&
    (if s.ledger.any (fun e => e.rid == some r.rid && e.kind.writes) then wholeStaged s r
     else plain && (r.opcode == Op.rd || r.opcode == Op.barrier)))

/-- A port's requests that do not survive complete ERR ABORTED. -/
def abortUnstaged (plain : Bool) (s : State) (p : PortId) : State :=
  (s.ports[p].reqs.filter (fun r => !survives s plain r)).foldl (fun s r => failReq s p r.rid Status.aborted) s

/-- Step 3 of R249: HOLDUP_START, and the offers that are withdrawn. A disabled port acts as though enabled (R256). -/
def flushStart (s : State) : State :=
  let s := match s.media.st with
    | .up => sendHoldupStart s
    | .down => if s.flag Fld.mpCtlEnable then s else startResync s
    | _ => s
  let drop : List Offer := s.media.offers.filter (fun o => o.unaccepted && (!o.dirty || !(s.tag o.ch o.set o.way).persist))
  let s := drop.foldl withdrawOffer s
  let s : State := { s with
    allocs := []
    ledger := s.ledger.map (fun e => match e.phase with | .alloc _ => { e with phase := .fresh } | _ => e) }
  { s with media := { s.media with fills := s.media.fills.map (fun f => { f with alloc := none, noInstall := true }) } }

/-- The hold-up clears every force bit, FATAL_ARM and every Awl control, and locks the Awl (R407, R533). -/
def holdupClears (s : State) : State :=
  let s := (List.range 3).foldl (fun s i => s.wr (Reg.fltForce.at i) 0) s
  let s := s.setFlag Fld.fltCtlFatalArm false
  let awl := (s.regs.map (fun e => e.1)).filter (fun o => decide (0x30000 ≤ o ∧ o < 0x31000) && o != Reg.awlStatus.at)
  let s := awl.foldl (fun s o => s.wr o (resetWord o)) s
  let s : State := { s with pend := s.pend.filter (fun e => !(decide (0x30000 ≤ e.1 ∧ e.1 < 0x31000))), awlStep := 0 }
  (s.setFlag Fld.awlStatusUnlocked false).setFlag Fld.awlStatusActive false

/-- The background test gives up its region (R569): a region that is borrowed is restored first. -/
def bgtAbandon (s : State) : State :=
  match s.fld Fld.sramBgtPosPhase with
  | 0 => s
  | 3 =>
    let s : State := { s with sram := { s.sram with abandoned := true } }
    (s.count Reg.sramCntBgtAbandon).setFld Fld.sramBgtPosPhase 4
  | 4 => s
  | _ => (s.setFld Fld.sramBgtPosPhase 0).setFlag Fld.sramStatusBgtActive false

/-- What every entry into HOLDUP stops: the OTP burn (R606), queued log updates (R601), the background test (R569). -/
def holdupStops (s : State) : State :=
  let s := cutBurn s
  let s : State := { s with flash := { s.flash with log := if s.flash.writing then s.flash.log.take 1 else [] } }
  bgtAbandon s

/-- The block enters HOLDUP from the mode in force (R249, R455, R456). `flush`: media takes part. -/
def beginHoldup (s : State) : State :=
  let old := s.mode
  let s := holdupStops (enterMode s .holdup)
  match old with
  | .plain =>
    let s := (List.range 8).foldl (fun s p => abortUnstaged true s (portOf p)) s
    { s with media := { s.media with holdup := .flushing, holdupFrom := s.us } }
  | .tiered | .drain | .bypass =>
    let s := (List.range 8).foldl (fun s p => abortUnstaged false s (portOf p)) s
    let s := flushStart s
    let s := s.setFlag Fld.mpStateHoldupActive true
    { s with media := { s.media with holdup := .flushing, holdupFrom := s.us, flushed := 0, flushLeft := unitsHeld s } }
  | .reset => { s with media := { s.media with holdup := .done }, pins := { s.pins with holdupDone := true } }
  | _ =>
    let s : State := { s with start := .off, chs := s.chs.map (fun q => { q with trn := .idle }) }
    retainAll { s with media := { s.media with holdup := .retaining, holdupFrom := s.us } } .holdup

/-- The flush came from a tiered mode, so media carries it. -/
def flushFromTier (s : State) : Bool := s.prev.tieredLike || s.prev == .bypass

/-- Steps 4 to 7 of R249, as far as they have come. -/
def holdupTurn (s : State) : State :=
  match s.media.holdup with
  | .flushing =>
    if flushFromTier s then
      let s := mediaPump (flushConvert (flushFrames (flushStaged s)))
      if flushSettled s then
        let s := s.setFlag Fld.mpStateHoldupDone true
        retainAll { s with media := { s.media with holdup := .retaining } } .holdup
      else s
    else if s.ledger.any (fun e => e.rid.isSome) then s
    else retainAll { s with media := { s.media with holdup := .retaining } } .holdup
  | .retaining =>
    if !retained s .holdup then s
    else
      let t := s.us - s.media.holdupFrom
      let s : State := { s with media := { s.media with holdup := .done } }
      let s := if flushFromTier s then
          (s.wr Reg.mpHoldupTime.at (dw (min t 0xFFFFFFFF))).setFlag Fld.mpStateHoldupActive false
        else s
      if s.warmFlush && !s.pins.holdupReq then s
      else
        let s : State := { s with pins := { s.pins with holdupDone := true } }
        if flushFromTier s then
          (lifeUp s 4).info Ev.holdupDone Src.media (dw s.media.flushed) (s.rd Reg.mpHoldupTime.at)
        else s
  | _ => s

/-- A falling edge of WARM_RST_n starts the quiesce (R420, R421). -/
def beginQuiesce (s : State) : State :=
  let s : State := { s with warmFlush := true }
  match s.modeNow with
  | .plain | .tiered | .drain | .bypass | .test => beginHoldup s
  | .holdup => s
  | .safe => s
  | .recover => retainAll s .warm
  | _ => retainAll { s with start := .off, chs := s.chs.map (fun q => { q with trn := .idle }) } .warm

/-- The quiesce has ended (R420, R539). -/
def quiesced (s : State) : Bool :=
  s.warmFlush &&
    match s.mode with
    | .holdup => s.media.holdup == .done
    | .safe => retained s .safe
    | _ => retained s .warm && retained s .safe

/-- The warm reset takes place once its quiesce has ended. -/
def quiesceTurn (s : State) : State := if quiesced s then warmReset s else s

end Sys2Proof.Machine
end

