-- ==== Sys2Proof/Machine/FlashOps.lean ====
section
/-! DEFINITION. The flash and the OTP as bytes: the Last copies (R578–R590), the log with its intents, entries and
compactions (R591–R600), and the OTP records (R603–R608). -/

namespace Sys2Proof.Machine

/-! ### Bytes of the flash -/

/-- A byte of the flash; an unlisted byte is erased. -/
def flashByte (s : State) (a : Nat) : BitVec 8 := kGet 0xFF s.flash.bytes a

/-- Part of a table: the entries with keys from `a` to `a + n - 1`. -/
def kRange {β : Type} (m : KMap β) (a n : Nat) : KMap β := m.filter (fun e => decide (a ≤ e.1 ∧ e.1 < a + n))

/-- `n` bytes of the flash from an address. -/
def flashBytes (s : State) (a n : Nat) : List (BitVec 8) :=
  let m := kRange s.flash.bytes a n
  (List.range n).map (fun i => kGet 0xFF m (a + i))

/-- A little-endian number from bytes. -/
def leNat : List (BitVec 8) → Nat
  | [] => 0
  | b :: bs => b.toNat + 256 * leNat bs

/-- The `n` low bytes of a number, little-endian. -/
def leBytes (n v : Nat) : List (BitVec 8) := (List.range n).map (fun i => BitVec.ofNat 8 (v / 256 ^ i))

def flashWord (s : State) (a : Nat) : Nat := leNat (flashBytes s a 4)

/-- Bytes after a program operation: a program clears bits (R573). -/
def programBytes (m : KMap (BitVec 8)) (a : Nat) (l : List (BitVec 8)) : KMap (BitVec 8) :=
  let n := l.length
  let old := kRange m a n
  let mid := ((List.range n).zip l).filterMap (fun x =>
    let v := kGet 0xFF old (a + x.1) &&& x.2
    if v = 0xFF then none else some (a + x.1, v))
  m.filter (fun e => decide (e.1 < a)) ++ mid ++ m.filter (fun e => decide (a + n ≤ e.1))

/-- Program operations that `n` bytes from an address take: one for each 256-byte page touched (R596). -/
def pagesOf (a n : Nat) : Nat := if n = 0 then 0 else (a + n - 1) / 256 - a / 256 + 1

/-- Bytes programmed, with the page programs counted. -/
def programAt (s : State) (a : Nat) (l : List (BitVec 8)) : State :=
  { s with flash := { s.flash with bytes := programBytes s.flash.bytes a l } }.count Reg.flCntProg (pagesOf a l.length)

/-- Sectors of 4 KiB erased, counted. -/
def eraseAt (s : State) (a n : Nat) : State :=
  { s with flash := { s.flash with bytes := s.flash.bytes.filter (fun e => !(decide (a ≤ e.1 ∧ e.1 < a + n))) } }.count
    Reg.flCntErase (n / 4096)

/-- Bytes of the flash (R578), 0 without one. -/
def flashSize (s : State) : Nat := if s.flag Fld.lfInfoFound then 2 ^ (20 + s.fld Fld.lfInfoSize) else 0

/-- The CRC-32C of a list of bytes as a number (R23, R579). -/
def crcOf (l : List (BitVec 8)) : Nat := (crc32c l).toNat

/-- `b` is newer than `a` under the rule of R581. -/
def newerSeq (b a : Nat) : Bool :=
  let d := (b + 2 ^ 32 - a) % 2 ^ 32
  decide (1 ≤ d ∧ d ≤ 2 ^ 31 - 1)

/-! ### OTP records (R603–R608) -/

/-- Offset and slot size of OTP record `k`. -/
def otpPlace : Nat → Nat × Nat
  | 0 => (0x000, 16) | 1 => (0x040, 8) | 2 => (0x060, 64) | 3 => (0x160, 512) | 4 => (0x960, 256) | 5 => (0xD60, 16)
  | _ => (0xDA0, 8)

/-- The bytes of a slot of a record; an unburned byte reads 0. -/
def otpSlotBytes (s : State) (k slot : Nat) : List (BitVec 8) :=
  let (off, n) := otpPlace k
  (List.range n).map (fun i => kGet 0 s.flash.otp (off + slot * n + i))

/-- The mark and the check code of a slot match (R604). -/
def otpSlotOk (s : State) (k slot : Nat) : Bool :=
  let b := otpSlotBytes s k slot
  let n := b.length
  b.head? == some 0xA5 && (crc16 0xFFFF (b.take (n - 2))).toNat == leNat (b.drop (n - 2))

/-- The slot has bits burned (R605). -/
def otpSlotUsed (s : State) (k slot : Nat) : Bool :=
  (otpSlotBytes s k slot).any (fun b => b != 0) || s.flash.otpSpoiled.any (fun x => x.1 == k && x.2 == slot)

/-- The valid slot of a record (R604). -/
def otpValid (s : State) (k : Nat) : Option Nat := [3, 2, 1, 0].find? (fun i => otpSlotOk s k i)

/-- Slots above the highest slot with any bit burned (R605, R607). -/
def otpFree (s : State) (k : Nat) : Nat :=
  match [3, 2, 1, 0].find? (fun i => otpSlotUsed s k i) with
  | some i => 3 - i
  | none => 4

/-- A byte of a record's valid slot, 0 where there is none. -/
def otpByte (s : State) (k i : Nat) : Nat :=
  match otpValid s k with
  | some slot => ((otpSlotBytes s k slot).getD i 0).toNat
  | none => 0

/-- A record is locked (R608). -/
def otpLocked (s : State) (k : Nat) : Bool :=
  (List.range 4).any (fun slot => otpSlotOk s 6 slot && ((otpSlotBytes s 6 slot).getD 1 0).getLsbD k)

/-- The 2-byte entry of a lane substitution (R603). -/
def laneEntry (c slice spare lane : Nat) : Nat := c % 16 + slice % 8 * 16 + spare % 2 * 128 + lane % 32 * 256 + 2 ^ 15

/-- The 4-byte entry of an SRAM repair (R603). -/
def sramEntry (f : SramFix) : Nat :=
  f.group % 128 + f.mac % 32 * 128 + (if f.row then 0 else 1) * 4096 + f.index % 1024 * 2 ^ 16 + 2 ^ 31

/-- The repair that a row or column entry names (R603). -/
def sramOfEntry (w : Nat) : Option SramFix :=
  if w / 2 ^ 31 % 2 = 1 && decide (w / 4096 % 4 ≤ 1) then
    some { group := w % 128, mac := w / 128 % 32, row := w / 4096 % 4 == 0, index := w / 2 ^ 16 % 1024 }
  else none

/-! ### The log: layout (R578, R591–R594) -/

/-- Offset of a kind's first slot from the log's base, slot size, and bytes of content. -/
def logPlace : Nat → Nat × Nat × Nat
  | 1 => (0x10000, 0x4000, 256) | 2 => (0x18000, 0x4000, 4096) | 3 => (0x20000, 0x4000, 512)
  | 4 => (0x28000, 0x8000, 8192) | 5 => (0x38000, 0x10000, 32768) | 6 => (0x58000, 0x20000, 32768)
  | _ => (0x98000, 0x40000, 65536)

/-- The address of a slot of a kind. -/
def slotAt (s : State) (kind copy : Nat) : Nat := flashSize s / 2 + (logPlace kind).1 + copy * (logPlace kind).2.1

/-- Initial content of a kind's cells (R592): empty entries of the retired ways, zeros elsewhere. -/
def cellInit (kind : Nat) : Nat := if kind = 5 then 0xFFFFFFFF else 0

/-- A cell of a record's content. -/
def logCell (s : State) (kind i : Nat) : Nat := kGet (cellInit kind) s.flash.cells (kind * 2 ^ 16 + i)

/-- Cells after runs have been applied. -/
def applyRuns (kind : Nat) (m : KMap Nat) (runs : List (Nat × List Nat)) : KMap Nat :=
  runs.foldl (fun m r => ((List.range r.2.length).zip r.2).foldl (fun m x =>
    kSet (cellInit kind) m (kind * 2 ^ 16 + r.1 + x.1) x.2) m) m

/-- The bytes of a kind's whole content. -/
def contentBytes (kind : Nat) (m : KMap Nat) : List (BitVec 8) :=
  let m := kRange m (kind * 2 ^ 16) (2 ^ 16)
  ((List.range ((logPlace kind).2.2 / 4)).map (fun i => leBytes 4 (kGet (cellInit kind) m (kind * 2 ^ 16 + i)))).flatten

/-- The bytes of runs (R593). -/
def runBytes (runs : List (Nat × List Nat)) : List (BitVec 8) :=
  (runs.map (fun r => leBytes 4 r.1 ++ leBytes 4 r.2.length ++ (r.2.map (leBytes 4)).flatten)).flatten

/-- Runs read from bytes; none where they do not end exactly. The number of runs bounds the reading. -/
def readRuns : Nat → List (BitVec 8) → Option (List (Nat × List Nat))
  | 0, l => if l.isEmpty then some [] else none
  | n + 1, l =>
    if l.length < 8 then none
    else
      let first := leNat (l.take 4)
      let cnt := leNat ((l.drop 4).take 4)
      let rest := l.drop 8
      if rest.length < 4 * cnt then none
      else (readRuns n (rest.drop (4 * cnt))).map (fun t =>
        (first, (List.range cnt).map (fun i => leNat ((rest.drop (4 * i)).take 4))) :: t)

/-- The ASCII marks "VLOG", "VLUP" and "VINT", as little-endian words. -/
def Mark.slot : Nat := 0x474F4C56
def Mark.entry : Nat := 0x50554C56
def Mark.intent : Nat := 0x544E4956

/-- Bytes 0 to 27 of an update entry's header (R593). -/
def entryHead (kind nruns isq len : Nat) : List (BitVec 8) :=
  leBytes 4 Mark.entry ++ leBytes 1 kind ++ leBytes 1 nruns ++ leBytes 2 0 ++ leBytes 4 isq ++ leBytes 4 len ++ leBytes 12 0

/-- Bytes 0 to 27 of an intent's header (R594). -/
def intentHead (kind nruns isq len : Nat) (compact : Bool) (copy page pages : Nat) : List (BitVec 8) :=
  leBytes 4 Mark.intent ++ leBytes 1 kind ++ leBytes 1 nruns ++ leBytes 1 compact.toNat ++ leBytes 1 0 ++ leBytes 4 isq
    ++ leBytes 4 len ++ leBytes 1 copy ++ leBytes 3 0 ++ leBytes 4 page ++ leBytes 4 pages

/-- Bytes 0 to 27 of a slot header (R592). -/
def slotHead (kind seq baseLen isq : Nat) : List (BitVec 8) :=
  leBytes 4 Mark.slot ++ leBytes 1 kind ++ leBytes 1 1 ++ leBytes 2 0 ++ leBytes 4 seq ++ leBytes 4 baseLen
    ++ leBytes 4 isq ++ leBytes 8 0

/-! ### Writing (R594–R597) -/

/-- An intent is programmed at the ring's next page, the ring's next sector erased before a sector is entered (R594). An
intent that would run past the ring's end begins at its first page. -/
def writeIntent (s : State) (bytes : List (BitVec 8)) : State :=
  let pages := (bytes.length + 255) / 256
  let start := if 256 < s.flash.ringPos + pages then 0 else s.flash.ringPos
  let base := flashSize s / 2
  let sectors := (List.range pages).filter (fun i => (start + i) % 16 == 0 || (i == 0 && start % 16 == 0))
  let s := sectors.foldl (fun s i => eraseAt s (base + (((start + i) / 16 + 1) % 16) * 4096) 4096) s
  let s := programAt s (base + start * 256) bytes
  { s with flash := { s.flash with ringPos := (start + pages) % 256 } }

/-- A compaction: the target slot is erased, its header and base programmed, its COMMIT left erased (R595, R597). Answers
the COMMIT's address and word and the first page after the base. -/
def writeBase (s : State) (kind copy seq isq : Nat) (content : KMap Nat) : (Nat × Nat × Nat) × State :=
  let a := slotAt s kind copy
  let (_, size, len) := logPlace kind
  let base := contentBytes kind content
  let head := slotHead kind seq len isq
  let s := eraseAt s a size
  let s := programAt (programAt s a head) (a + 256) base
  ((a + 28, crcOf (head ++ base), 1 + (len + 255) / 256), s)

/-- An update entry without its COMMIT, at a page of a slot (R593, R595). -/
def writeEntry (s : State) (kind copy page isq : Nat) (runs : List (Nat × List Nat)) : (Nat × Nat × Nat) × State :=
  let rb := runBytes runs
  let len := 32 + rb.length
  let head := entryHead kind runs.length isq len
  let a := slotAt s kind copy + 256 * page
  let s := programAt (programAt s a head) (a + 32) rb
  ((a + 28, crcOf (head ++ rb), page + (len + 255) / 256), s)

/-- The flash can be written and nothing else holds it (R601, R602). -/
def logReady (s : State) : Bool :=
  logOpen s && !s.flash.writing && s.flash.op.isNone && s.flag Fld.lfInfoFound

/-- The log writer begins an update with these runs: intent, then entry or compaction (R595 steps 1 and 2, R597, R600). -/
def beginUpdate (s : State) (kind : Nat) (runs : List (Nat × List Nat)) : State :=
  let isq := (s.flash.isq + 1) % 2 ^ 32
  let copy := kGet 0 s.flash.copy kind
  let page := kGet 0 s.flash.page kind
  let rb := runBytes runs
  let pages := (32 + rb.length + 255) / 256
  let compact := copy == 0 || page == 0 || decide ((logPlace kind).2.1 / 256 < page + pages)
  let target := if compact then (if copy = 1 then 1 else 0) else copy - 1
  let head := intentHead kind runs.length isq (32 + rb.length) compact target (if compact then 0 else page) pages
  let s := writeIntent s (head ++ leBytes 4 (crcOf (head ++ rb)) ++ rb)
  let seq := if compact then (kGet 0 s.flash.seq kind + 1) % 2 ^ 32 else kGet 0 s.flash.seq kind
  let ((at_, word, next), s) :=
    if compact then writeBase s kind target seq isq (applyRuns kind s.flash.cells runs)
    else writeEntry s kind target page isq runs
  let u : LogUpdate := { kind := kind, commitAt := at_, commit := word, runs := runs, copy := target + 1, seq := seq, page := next }
  let s : State := { s with flash := { s.flash with isq := isq, writing := true, op := some .log, update := some u } }
  s.setFlag Fld.lfStatusLogBusy true

/-- The COMMIT of the update in progress is programmed: the update has taken place (R595). -/
def commitUpdate (s : State) : State :=
  match s.flash.update with
  | none => s
  | some u =>
    let s := (programAt s u.commitAt (leBytes 4 u.commit)).count Reg.flCntLog
    let f := s.flash
    let s : State := { s with flash := { f with
      cells := applyRuns u.kind f.cells u.runs
      copy := kPut f.copy u.kind u.copy
      seq := kPut f.seq u.kind u.seq
      page := kPut f.page u.kind u.page
      log := f.log.drop 1
      update := none
      writing := false
      op := match f.op with | some .log => none | o => o } }
    s.setFlag Fld.lfStatusLogBusy false

/-! ### Reading the log at start (R592, R598, R599) -/

/-- The slot of a kind has a valid COMMIT. -/
def slotOk (s : State) (kind copy : Nat) : Bool :=
  let a := slotAt s kind copy
  let n := flashWord s (a + 12)
  flashWord s a == Mark.slot && (flashByte s (a + 4)).toNat == kind && flashByte s (a + 5) == 1
    && decide (n ≤ (logPlace kind).2.1 - 256)
    && flashWord s (a + 28) == crcOf (flashBytes s a 28 ++ flashBytes s (a + 256) n)

def slotSeq (s : State) (kind copy : Nat) : Nat := flashWord s (slotAt s kind copy + 8)

/-- The active copy of a kind, plus one; 0 for none (R592). -/
def activeCopy (s : State) (kind : Nat) : Nat :=
  match slotOk s kind 0, slotOk s kind 1 with
  | true, true => if newerSeq (slotSeq s kind 1) (slotSeq s kind 0) then 2 else 1
  | true, false => 1
  | false, true => 2
  | false, false => 0

/-- An update entry with a valid COMMIT at an address: its ISEQ, pages and runs. -/
def entryAt (s : State) (kind a : Nat) : Option (Nat × Nat × List (Nat × List Nat)) :=
  let len := flashWord s (a + 12)
  if flashWord s a == Mark.entry && (flashByte s (a + 4)).toNat == kind && decide (32 ≤ len ∧ len ≤ (logPlace kind).2.1)
      && flashWord s (a + 28) == crcOf (flashBytes s a 28 ++ flashBytes s (a + 32) (len - 32)) then
    (readRuns (flashByte s (a + 5)).toNat (flashBytes s (a + 32) (len - 32))).map (fun r =>
      (flashWord s (a + 8), (len + 255) / 256, r))
  else none

/-- The walk of R598 over the pages after the base: cells, the first free page (or the damaged one), and whether the kind is damaged. `fuel`
bounds the pages. -/
def walkEntries (s : State) (kind slot : Nat) : Nat → Nat → KMap Nat → KMap Nat × Nat × Bool
  | 0, page, m => (m, page, false)
  | fuel + 1, page, m =>
    if (logPlace kind).2.1 / 256 ≤ page then (m, page, false)
    else
      let a := slot + 256 * page
      let w := flashWord s a
      if w = 0xFFFFFFFF then (m, page, false)
      else if w = 0 then walkEntries s kind slot fuel (page + 1) m
      else match entryAt s kind a with
        | some (_, pages, runs) => walkEntries s kind slot fuel (page + pages) (applyRuns kind m runs)
        | none => (m, page, true)

/-- The cells of a kind's base (R592). -/
def baseCells (s : State) (kind slot : Nat) (m : KMap Nat) : KMap Nat :=
  let n := flashWord s (slot + 12) / 4
  let b := kRange s.flash.bytes (slot + 256) (4 * n)
  (List.range n).foldl (fun m i =>
    let w := leNat ((List.range 4).map (fun j => kGet 0xFF b (slot + 256 + 4 * i + j)))
    if w = cellInit kind then m else m ++ [(kind * 2 ^ 16 + i, w)]) m

/-- The content of one kind is read (the last loop of R598). -/
def readKind (s : State) (kind : Nat) : State :=
  let copy := activeCopy s kind
  if copy = 0 then
    { s with flash := { s.flash with copy := kPut s.flash.copy kind 0, page := kPut s.flash.page kind 0 } }
  else
    let slot := slotAt s kind (copy - 1)
    let len := flashWord s (slot + 12)
    let (m, page, bad) := walkEntries s kind slot ((logPlace kind).2.1 / 256) (1 + (len + 255) / 256)
      (baseCells s kind slot s.flash.cells)
    let s : State := { s with flash := { s.flash with
      cells := m, copy := kPut s.flash.copy kind copy, seq := kPut s.flash.seq kind (slotSeq s kind (copy - 1))
      page := kPut s.flash.page kind (if bad then 0 else page) } }
    if bad then (s.setFlag Fld.logStatusDamaged true).info Ev.logDamaged Src.flash (dw kind) (dw (slot + 256 * page)) else s

/-- The kinds' contents are read into the cells, in the order of their numbers. -/
def readKinds (s : State) : State :=
  [1, 2, 3, 4, 5, 6, 7].foldl readKind { s with flash := { s.flash with cells := [], copy := [], seq := [], page := [] } }

/-- An intent of the ring whose CHECK passes at a page: its ISEQ and its pages in the ring. -/
def intentAt (s : State) (page : Nat) : Option (Nat × Nat) :=
  let a := flashSize s / 2 + 256 * page
  let len := flashWord s (a + 12)
  if flashWord s a == Mark.intent && decide (32 ≤ len ∧ page * 256 + len ≤ 0x10000)
      && flashWord s (a + 28) == crcOf (flashBytes s a 28 ++ flashBytes s (a + 32) (len - 32)) then
    some (flashWord s (a + 8), (len + 255) / 256)
  else none

/-- The page of the newest intent, with its ISEQ and pages (R598). -/
def newestIntent (s : State) : Option (Nat × Nat × Nat) :=
  (List.range 256).foldl (fun b p =>
    match intentAt s p with
    | none => b
    | some (isq, n) =>
      match b with
      | none => some (p, isq, n)
      | some (_, j, _) => if newerSeq isq j then some (p, isq, n) else b) none

/-- An update is completed at power-up: counted and reported (R598). -/
def noteComplete (s : State) (kind isq : Nat) : State :=
  ((s.count Reg.flCntComplete).setFlag Fld.logStatusCompleted true).info Ev.logComplete Src.flash (dw isq) (dw kind)

/-- The newest intent's update is completed where its COMMIT is missing (R598). -/
def completeIntent (s : State) (page isq : Nat) : State :=
  let a := flashSize s / 2 + 256 * page
  let kind := (flashByte s (a + 4)).toNat
  let compact := (flashByte s (a + 6)).getLsbD 0
  let copy := (flashByte s (a + 16)).toNat % 2
  let first := flashWord s (a + 20)
  let len := flashWord s (a + 12)
  match readRuns (flashByte s (a + 5)).toNat (flashBytes s (a + 32) (len - 32)) with
  | none => s
  | some runs =>
    let finish (r : (Nat × Nat × Nat) × State) : State :=
      noteComplete (programAt r.2 r.1.1 (leBytes 4 r.1.2.1)) kind isq
    let content (s : State) : KMap Nat := applyRuns kind (readKind { s with flash := { s.flash with cells := [] } } kind).flash.cells runs
    let slot := slotAt s kind copy
    if compact then
      if slotOk s kind copy && flashWord s (slot + 16) == isq then s
      else
        let old := activeCopy s kind
        let seq := if old = 0 then 0 else (slotSeq s kind (old - 1) + 1) % 2 ^ 32
        finish (writeBase s kind copy seq isq (content s))
    else
      if (entryAt s kind (slot + 256 * first)).any (fun e => e.1 == isq) then s
      else
        let pages := (logPlace kind).2.1 / 256
        let p := ((List.range pages).find? (fun q => decide (first ≤ q)
          && (flashBytes s (slot + 256 * q) 256).all (fun b => b == 0xFF))).getD pages
        let need := (len + 255) / 256
        let s := (List.range (p - first)).foldl (fun s i => programAt s (slot + 256 * (first + i)) (leBytes 4 0)) s
        if p + need ≤ pages then finish (writeEntry s kind copy p isq runs)
        else
          let seq := (slotSeq s kind copy + 1) % 2 ^ 32
          finish (writeBase s kind (1 - copy) seq isq (content s))

/-- Power-up recovery (R598). -/
def recoverLog (s : State) : State :=
  if !s.flag Fld.lfInfoFound then s
  else
    let s : State := { s with flash := { s.flash with log := [], writing := false, op := none, update := none } }
    let s := match newestIntent s with
      | none => { s with flash := { s.flash with isq := 0, ringPos := 0 } }
      | some (page, isq, n) =>
        let s := completeIntent s page isq
        let next := (page + n) % 256
        let a := flashSize s / 2 + 256 * next
        let torn := !(flashBytes s a 256).all (fun b => b == 0xFF) && (intentAt s next).isNone
        let s := if torn then
            ((s.count Reg.flCntRollback).setFlag Fld.logStatusRolledBack true).info Ev.logRollback Src.flash (dw isq) (dw (256 * next))
          else s
        -- a torn intent's page is left behind: the writer goes on at the sector that follows
        { s with flash := { s.flash with isq := isq, ringPos := if torn then ((next / 16 + 1) * 16) % 256 else next } }
    readKinds s

/-! ### What the log says (R591) -/

/-- Journal cells of a channel (DESIGN CHOICE): 0 an entry is open, 2 retired, 3 and 4 module serials, 5 to 8 the marked
device of a rank plus one, then 240 repair rows of two cells from cell 32: a row cell holds its kind (1 soft, 2 hard), its
rank and its bank, the next its row. -/
def jrCell (c i : Nat) : Nat := c * 512 + i

def jrOpen (s : State) (c : Nat) : Bool := logCell s 6 (jrCell c 0) != 0
def jrRetired (s : State) (c : Nat) : Bool := logCell s 6 (jrCell c 2) != 0
def jrSerial (s : State) (c d : Nat) : Nat := logCell s 6 (jrCell c (3 + d))

def jrRowCell (kind : Nat) (l : Loc) : Nat := kind + l.rank % 4 * 256 + l.bank % 256 * 1024

/-- Repair rows of a channel: their slot, kind and place. -/
def jrRows (s : State) (c : Nat) : List (Nat × Nat × Loc) :=
  (List.range 240).filterMap (fun i =>
    let w := logCell s 6 (jrCell c (32 + 2 * i))
    if w % 256 = 0 then none
    else some (i, w % 256, { sub := 0, rank := w / 256 % 4, bank := w / 1024 % 256,
                             row := logCell s 6 (jrCell c (33 + 2 * i)), col := 0 }))

/-- Runs that write a repair row: over the row's own record where it has one (R500), else into the first empty slot. -/
def jrRowRuns (s : State) (c kind : Nat) (l : Loc) : List (Nat × List Nat) :=
  let slot := match (jrRows s c).find? (fun r => r.2.2.rank == l.rank && r.2.2.bank == l.bank && r.2.2.row == l.row) with
    | some r => some r.1
    | none => (List.range 240).find? (fun i => logCell s 6 (jrCell c (32 + 2 * i)) % 256 == 0)
  match slot with
  | some i => [(jrCell c (32 + 2 * i), [jrRowCell kind l, l.row])]
  | none => []

/-- The entries of a half-word record (lane sparing): 256 entries of two bytes. -/
def laneEntries (s : State) : List Nat :=
  (List.range 256).map (fun i => logCell s 3 (i / 2) / 2 ^ (16 * (i % 2)) % 2 ^ 16)

/-- The record's retired ways: channel, set, way (R591). -/
def loggedWays (s : State) : List (Nat × Nat × Nat) :=
  (kRange s.flash.cells (5 * 2 ^ 16) 8192).map (fun e => (e.2 % 16, e.2 / 16 % 2 ^ 24, e.2 / 2 ^ 28 % 16))

/-- The word of a trim line in a trim entry, as `State.trims` keys it: set point, lane, direction. -/
def trimKey (sp lane : Nat) (tx : Bool) : Nat := sp * 512 + lane * 2 + tx.toNat

/-- A trim entry of a channel and set point (R588) as 256 cells. -/
def trimEntry (s : State) (c sp : Nat) : List Nat :=
  let q := s.ch c
  let valid := getBits (s.rd (Reg.trimValid.at c)) sp 1
  let line (tx : Bool) (lane : Nat) : List (BitVec 8) :=
    let w := (kGet 0 q.trims (trimKey sp lane tx)).toNat
    leBytes 2 (w / 16 % 512 + w % 16 * 512)
  let b := leBytes 4 (kGet 0 q.serial 0) ++ leBytes 4 (kGet 0 q.serial 1) ++ leBytes 1 sp
    ++ leBytes 1 (s.fld Fld.phyPopGen c) ++ leBytes 1 (s.fld (Fld.chFspRateRate sp) c) ++ leBytes 1 valid
    ++ leBytes 4 (s.rd (Reg.phyZq.at c)).toNat ++ leBytes 4 (s.rd (Reg.phyEq.at c)).toNat ++ leBytes 24 0
    ++ ((List.range 149).map (line true)).flatten ++ ((List.range 149).map (line false)).flatten ++ leBytes 380 0
  let all := b ++ leBytes 4 (crcOf b)
  (List.range 256).map (fun i => leNat ((all.drop (4 * i)).take 4))

/-- The runs that a queued record makes of its body (R591). -/
def runsOf (s : State) (r : LogRec) : List (Nat × List Nat) :=
  match r.kind, r.body with
  | 1, cells => [(0, cells)]
  | 2, [start, endMode, len, merged] =>
    let i := logCell s 2 0 % 255
    [(0, [(i + 1) % 255]), (4 + 4 * i, [start % 2 ^ 32, start / 2 ^ 32 % 2 ^ 16 + endMode * 2 ^ 16, len % 2 ^ 32, merged % 2 ^ 32])]
  | 3, [c, slice, spare, lane] =>
    let e := laneEntry c slice spare lane
    let es := laneEntries s
    let pos := match es.findIdx? (fun x => x / 2 ^ 15 == 1 && x % 256 == e % 256) with
      | some i => some i
      | none => es.findIdx? (fun x => x / 2 ^ 15 == 0)
    match pos with
    | none => []
    | some i =>
      let old := logCell s 3 (i / 2)
      [(i / 2, [if i % 2 = 0 then old / 2 ^ 16 * 2 ^ 16 + e else old % 2 ^ 16 + e * 2 ^ 16])]
  | 4, [w] => match (List.range 2048).find? (fun i => logCell s 4 i / 2 ^ 31 == 0) with
    | some i => [(i, [w])]
    | none => []
  | 5, [c, set, way] => match (List.range 8192).find? (fun i => logCell s 5 i == 0xFFFFFFFF) with
    | some i => [(i, [c % 16 + set % 2 ^ 24 * 16 + way % 16 * 2 ^ 28])]
    | none => []
  | 6, j :: c :: rest =>
    if j = Jr.opened then [(jrCell c 0, [1, 1])]
    else if j = Jr.commit then [(jrCell c 0, [0, 0])]
    else if j = Jr.retire then [(jrCell c 2, [1])]
    else if j = Jr.unretire then [(jrCell c 2, [0])]
    else match rest with
      | [rank, x] =>
        if j = Jr.mark then [(jrCell c (5 + rank), [x + 1])]
        else if j = Jr.module then [(jrCell c (3 + rank), [x])]
        else []
      | [rank] =>
        if j = Jr.unmark then [(jrCell c (5 + rank), [0])]
        else if j = Jr.dropped then
          (jrCell c (5 + rank), [0]) :: ((jrRows s c).filter (fun r => r.2.2.rank == rank)).map (fun r =>
            (jrCell c (32 + 2 * r.1), [0, 0]))
        else []
      | [rank, bank, row] =>
        jrRowRuns s c (if j = Jr.hard then 2 else 1) { sub := 0, rank := rank, bank := bank, row := row, col := 0 }
      | _ => []
  | 7, chans => (chans.map (fun c => (List.range 4).map (fun sp => ((4 * c + sp) * 256, trimEntry s c sp)))).flatten
  | _, _ => []

/-- The log writer takes up the oldest queued update when the flash is free (R595, R602). -/
def logTurn (s : State) : State :=
  if !logReady s then s
  else match s.flash.log with
    | [] => s
    | r :: _ =>
      let runs := runsOf s r
      if runs.isEmpty then s else beginUpdate s r.kind runs

/-! ### The Last (R579–R590) -/

/-- A record of a Last: TYPE, ARG, and its payload's address and length (R583). -/
structure LastRec where
  typ : Nat
  arg : Nat
  at_ : Nat
  len : Nat
  deriving DecidableEq, Repr

/-- Exactly `n` records from `a` that end exactly at `end_` (R580, R583). -/
def lastRecords (s : State) (end_ : Nat) : Nat → Nat → Option (List LastRec)
  | 0, a => if a = end_ then some [] else none
  | n + 1, a =>
    if end_ < a + 8 then none
    else
      let len := flashWord s (a + 4)
      let next := a + 8 + (len + 3) / 4 * 4
      if end_ < next then none
      else (lastRecords s end_ n next).map (fun l =>
        { typ := leNat (flashBytes s a 2), arg := leNat (flashBytes s (a + 2) 2), at_ := a + 8, len := len } :: l)

/-- The address of a Last copy; `b`: copy B (R578). -/
def copyAt (s : State) (b : Bool) : Nat := if b then flashSize s / 4 else 0

/-- The records of a copy, if it is valid (R580). -/
def lastCopy (s : State) (b : Bool) : Option (List LastRec) :=
  let a := copyAt s b
  let d := flashSize s
  let len := flashWord s (a + 8)
  let fmt := leNat (flashBytes s (a + 4) 2)
  let minFmt := otpByte s 5 2 + 256 * otpByte s 5 3
  if decide (d = 0) || flashWord s a != 0x54534C56 || fmt != 1 || decide (fmt < minFmt) || len % 4 != 0
      || decide (len < 32 ∨ d / 4 < len) || flashWord s (a + 28) != crcOf (flashBytes s a 28 ++ flashBytes s (a + 32) (len - 32))
  then none
  else
    let n := flashWord s (a + 16)
    -- a copy of LENGTH bytes holds at most LENGTH / 8 records
    if len / 8 < n then none else lastRecords s (a + len) n (a + 32)

/-- The Last copy in use: `BLK_STATUS.LAST` 1 names copy A, 2 copy B. -/
def chosenLast (s : State) : List LastRec :=
  match s.fld Fld.blkStatusLast with
  | 1 => (lastCopy s false).getD []
  | 2 => (lastCopy s true).getD []
  | _ => []

/-- A blob's check: its last four bytes are the CRC-32C of the others (R583). -/
def blobOk (s : State) (r : LastRec) : Bool :=
  decide (4 ≤ r.len) && flashWord s (r.at_ + r.len - 4) == crcOf (flashBytes s r.at_ (r.len - 4))

/-- The latest record of a type and argument whose blob check passes (R590). -/
def lastFind (s : State) (l : List LastRec) (typ arg : Nat) : Option LastRec :=
  match (l.filter (fun r => r.typ == typ && r.arg == arg)).getLast? with
  | some r => if blobOk s r then some r else none
  | none => none

/-- The timing image of a set point for a generation: the rate code and the eleven timing words (R584). -/
def timingImage (s : State) (sp gen : Nat) : Option (Nat × List Nat) :=
  (lastFind s (chosenLast s) 0x13 (sp + gen * 4)).map (fun r =>
    (flashWord s r.at_ % 256, (List.range 11).map (fun i => flashWord s (r.at_ + 4 + 4 * i))))

/-- The Last holds training seeds for a set point and generation (R350, R584). -/
def lastSeeds (s : State) (sp gen : Nat) : Bool := (lastFind s (chosenLast s) 0x12 (sp + gen * 4)).isSome

/-- The calibration summary holds a set point of a channel whose module serials are the channel's (R350). -/
def logSeeds (s : State) (c sp : Nat) : Bool :=
  let i := (4 * c + sp) * 256
  let q := s.ch c
  logCell s 7 (i + 2) / 2 ^ 24 % 2 == 1 && logCell s 7 i == kGet 0 q.serial 0 && logCell s 7 (i + 1) == kGet 0 q.serial 1
    && logCell s 7 (i + 2) / 256 % 256 == s.fld Fld.phyPopGen c

/-- The header fields of an image payload (R586): version, interface revision, hardware range, partner range. -/
def imageHead (s : State) (r : LastRec) : Nat × Nat × (Nat × Nat) × (Nat × Nat) :=
  let b (i : Nat) : Nat := (flashByte s (r.at_ + i)).toNat
  (b 0 + 256 * b 1, b 2, (b 4, b 5), (b 6, b 7))

end Sys2Proof.Machine
end

