-- ==== Sys2Proof/Machine/DramOps.lean ====
section
/-! DEFINITION. A channel's clocked island and its arbiters: the timing abacus (R259–R266), refresh (R270–R274), row
protection (R278–R285), self-refresh (R299–R301), and the grants of R80–R94. -/

namespace Sys2Proof.Machine

/-! ### The abacus (R261–R264) -/

/-- Parameter numbers of R413, which also name the rods. -/
def Rod.rcd : Nat := 0
def Rod.rp : Nat := 1
def Rod.ras : Nat := 2
def Rod.rc : Nat := 3
def Rod.rtp : Nat := 4
def Rod.wr : Nat := 5
def Rod.rrdS : Nat := 6
def Rod.rrdL : Nat := 7
def Rod.ccdS : Nat := 8
def Rod.ccdL : Nat := 9
def Rod.ccdLWr : Nat := 10
def Rod.wtrS : Nat := 11
def Rod.wtrL : Nat := 12
def Rod.faw : Nat := 13
def Rod.rfc : Nat := 14
def Rod.rfcSb : Nat := 15
def Rod.rfmSb : Nat := 16
def Rod.rfcDlr : Nat := 17
def Rod.xs : Nat := 18
def Rod.srMin : Nat := 19
def Rod.mod : Nat := 20
def Rod.rrdDlr : Nat := 21
def Rod.fawDlr : Nat := 22
def Rod.zqCal : Nat := 23
def Rod.zqLat : Nat := 24
def Rod.turnRR : Nat := 25
def Rod.turnWW : Nat := 26
def Rod.turnRW : Nat := 27
def Rod.turnWR : Nat := 28
/-- the end of the latest burst on a data bus; no parameter -/
def Rod.bus : Nat := 29

/-- The key of a rod of a parameter and a scope. -/
def rodKey (param scope : Nat) : Nat := param * 2 ^ 16 + scope

/-- Scopes: a bank, a bank group, a logical rank, a physical rank, the banks of one index, a data bus. -/
def scBank (l : Loc) : Nat := bankKey l
def scPhys (l : Loc) : Nat := l.sub * 4 + l.rank
def scRank (s : State) (c : Nat) (l : Loc) : Nat := scPhys l * 16 + s.logicalOf c l.bank
def scGroup (s : State) (c : Nat) (l : Loc) : Nat := scRank s c l * 8 + l.bank % s.groups c
def scIndex (s : State) (c : Nat) (l : Loc) : Nat := scRank s c l * 8 + s.indexOf c l.bank
/-- scope of all banks of a logical rank, and of one index, for the time from PRE -/
def scAllRp (s : State) (c : Nat) (l : Loc) : Nat := 0x4000 + scRank s c l
def scIdxRp (s : State) (c : Nat) (l : Loc) : Nat := 0x8000 + scIndex s c l

/-- The clocks at which a rod reads zero: published, and stretched (R412). -/
def rodAt (s : State) (c key : Nat) : Nat × Nat := kGet (0, 0) (s.ch c).rods key

/-- The stretch of a parameter on a channel (R412, R413). -/
def stretchOf (s : State) (c param : Nat) : Nat :=
  if decide (param < 29) && getBits (s.rd (Reg.awlStretchMask.at c)) param 1 == 1 then s.fld Fld.awlStretchClocks c else 0

/-- A rod is loaded so that it reads zero `n` clocks from clock `from_`; a later release stands. -/
def loadRod (s : State) (c param scope from_ n : Nat) : State :=
  let k := rodKey param scope
  let old := rodAt s c k
  let v := (max old.1 (from_ + n), max old.2 (from_ + n + stretchOf s c param))
  s.modCh (chan c) (fun q => { q with rods := kPut q.rods k v })

/-- Clocks of a burst (R262): 8 unit intervals on DDR4, 16 on a DDR5 or MRDIMM subchannel. -/
def burstClocks (s : State) (c : Nat) : Nat := if s.fld Fld.phyPopGen c = 1 then 4 else 8

/-- The rods that govern a command. -/
def governing (s : State) (c : Nat) (cmd : DCmd) (l : Loc) : List Nat :=
  let rank := [rodKey Rod.rfc (scRank s c l), rodKey Rod.rfcSb (scIndex s c l), rodKey Rod.rfmSb (scIndex s c l),
    rodKey Rod.xs (scPhys l), rodKey Rod.mod (scPhys l), rodKey Rod.zqCal (scPhys l), rodKey Rod.zqLat (scPhys l)]
  match cmd with
  | .act => rank ++ [rodKey Rod.rp (scBank l), rodKey Rod.rc (scBank l), rodKey Rod.rrdS (scRank s c l),
      rodKey Rod.rrdL (scGroup s c l), rodKey Rod.faw (scRank s c l), rodKey Rod.rrdDlr (scRank s c l),
      rodKey Rod.fawDlr (scPhys l)]
  | .rd | .rdA => [rodKey Rod.rcd (scBank l), rodKey Rod.ccdS (scPhys l), rodKey Rod.ccdL (scGroup s c l),
      rodKey Rod.wtrS (scPhys l), rodKey Rod.wtrL (scGroup s c l)]
  | .wr | .wrA => [rodKey Rod.rcd (scBank l), rodKey Rod.ccdS (scPhys l), rodKey Rod.ccdL (scGroup s c l),
      rodKey Rod.ccdLWr (scGroup s c l)]
  | .pre => [rodKey Rod.ras (scBank l), rodKey Rod.rtp (scBank l), rodKey Rod.wr (scBank l)]
  | .ref => rank ++ [rodKey Rod.rp (scAllRp s c l), rodKey Rod.rfcDlr (scRank s c l)]
  | .refSb => rank ++ [rodKey Rod.rp (scIdxRp s c l)]
  | .rfm => rank ++ [rodKey Rod.rp (scIdxRp s c l)]
  | .sre => rank ++ [rodKey Rod.rp (scAllRp s c l)]
  | .srx => [rodKey Rod.srMin (scPhys l)]

/-- The first clock at which the data bus lets a column command go: published, and stretched (R264). -/
def busAt (s : State) (c : Nat) (write : Bool) (l : Loc) : Nat × Nat :=
  let lat := if write then s.fld Fld.chTimECwl c else s.fld Fld.chTimECl c
  let free := match kFind (s.ch c).bus l.sub with
    | none => rodAt s c (rodKey Rod.bus l.sub)
    | some (rank, wasWrite) =>
      let base := rodAt s c (rodKey Rod.bus l.sub)
      let turn := if !wasWrite && write then some Rod.turnRW
        else if rank = l.rank then none
        else if wasWrite && !write then some Rod.turnWR
        else if write then some Rod.turnWW else some Rod.turnRR
      match turn with
      | none => base
      | some p => rodAt s c (rodKey p l.sub)
  (free.1 - lat, free.2 - lat)

def DCmd.column : DCmd → Bool
  | .rd => true | .rdA => true | .wr => true | .wrA => true | _ => false
def DCmd.writes : DCmd → Bool
  | .wr => true | .wrA => true | _ => false

/-- The command is allowed within the lookahead, as published (R259). -/
def published (s : State) (c : Nat) (cmd : DCmd) (l : Loc) : Bool :=
  let until_ := (s.ch c).clk + s.fld Fld.chIssueLookahead c
  (governing s c cmd l).all (fun k => decide ((rodAt s c k).1 ≤ until_))
    && (!cmd.column || decide ((busAt s c cmd.writes l).1 ≤ until_))

/-- Every rod that governs the command reads zero now (R261). -/
def released (s : State) (c : Nat) (cmd : DCmd) (l : Loc) : Bool :=
  (governing s c cmd l).all (fun k => decide ((rodAt s c k).2 ≤ (s.ch c).clk))
    && (!cmd.column || decide ((busAt s c cmd.writes l).2 ≤ (s.ch c).clk))

/-- The rods that a command loads when it issues (R264). -/
def loadRods (s : State) (c : Nat) (cmd : DCmd) (l : Loc) : State :=
  let t := (s.ch c).clk
  let ld (f : Fld) (param scope : Nat) (s : State) : State := loadRod s c param scope t (s.fld f c)
  let others := (List.range (s.logicals c)).filter (fun g => g != s.logicalOf c l.bank)
  match cmd with
  | .act =>
    let s := ld Fld.chTimATrcd Rod.rcd (scBank l) s
    let s := ld Fld.chTimATras Rod.ras (scBank l) s
    let s := ld Fld.chTimBTrc Rod.rc (scBank l) s
    let s := ld Fld.chTimCTrrdS Rod.rrdS (scRank s c l) s
    let s := ld Fld.chTimCTrrdL Rod.rrdL (scGroup s c l) s
    let s := others.foldl (fun s g => ld Fld.chTimJTrrdDlr Rod.rrdDlr (scPhys l * 16 + g) s) s
    let fk := scRank s c l
    let sk := 0x1000 + scPhys l
    let f1 := (t :: kGet [] (s.ch c).faw fk).take 4
    let f2 := (t :: kGet [] (s.ch c).faw sk).take 4
    let s := s.modCh (chan c) (fun q => { q with faw := kPut (kPut q.faw fk f1) sk f2 })
    let s := if f1.length = 4 then loadRod s c Rod.faw fk (f1.getD 3 0) (s.fld Fld.chTimDTfaw c) else s
    if others.isEmpty || f2.length ≠ 4 then s
    else loadRod s c Rod.fawDlr (scPhys l) (f2.getD 3 0) (s.fld Fld.chTimJTfawDlr c)
  | .rd | .rdA =>
    let s := ld Fld.chTimBTrtp Rod.rtp (scBank l) s
    let s := ld Fld.chTimCTccdS Rod.ccdS (scPhys l) s
    let s := ld Fld.chTimCTccdL Rod.ccdL (scGroup s c l) s
    let e := t + s.fld Fld.chTimECl c + burstClocks s c
    let s := loadRod s c Rod.bus l.sub e 0
    let s := loadRod s c Rod.turnRR l.sub e (s.fld Fld.chTimETurnRr c)
    let s := loadRod s c Rod.turnRW l.sub e (s.fld Fld.chTimETurnRw c)
    s.modCh (chan c) (fun q => { q with bus := kPut q.bus l.sub (l.rank, false) })
  | .wr | .wrA =>
    let s := ld Fld.chTimCTccdS Rod.ccdS (scPhys l) s
    let s := ld Fld.chTimCTccdL Rod.ccdL (scGroup s c l) s
    let s := if 2 ≤ s.fld Fld.phyPopGen c then ld Fld.chTimDTccdLWr Rod.ccdLWr (scGroup s c l) s else s
    let e := t + s.fld Fld.chTimECwl c + burstClocks s c
    let s := loadRod s c Rod.wr (scBank l) e (s.fld Fld.chTimBTwr c)
    let s := loadRod s c Rod.wtrS (scPhys l) e (s.fld Fld.chTimDTwtrS c)
    let s := loadRod s c Rod.wtrL (scGroup s c l) e (s.fld Fld.chTimDTwtrL c)
    let s := loadRod s c Rod.bus l.sub e 0
    let s := loadRod s c Rod.turnWW l.sub e (s.fld Fld.chTimETurnWw c)
    let s := loadRod s c Rod.turnWR l.sub e (s.fld Fld.chTimETurnWr c)
    s.modCh (chan c) (fun q => { q with bus := kPut q.bus l.sub (l.rank, true) })
  | .pre =>
    let s := ld Fld.chTimATrp Rod.rp (scBank l) s
    let s := ld Fld.chTimATrp Rod.rp (scAllRp s c l) s
    ld Fld.chTimATrp Rod.rp (scIdxRp s c l) s
  | .ref =>
    let s := ld Fld.chTimFTrfc Rod.rfc (scRank s c l) s
    others.foldl (fun s g => ld Fld.chTimGTrfcDlr Rod.rfcDlr (scPhys l * 16 + g) s) s
  | .refSb => ld Fld.chTimFTrfcSb Rod.rfcSb (scIndex s c l) s
  | .rfm => ld Fld.chTimGTrfmSb Rod.rfmSb (scIndex s c l) s
  | .sre => ld Fld.chTimITsrMin Rod.srMin (scPhys l) s
  | .srx => ld Fld.chTimITxs Rod.xs (scPhys l) s

/-! ### Ranks and idleness -/

/-- Refresh runs: the channel is powered and out of self-refresh (R274). -/
def refreshes (s : State) (c : Nat) : Bool :=
  let q := s.ch c
  q.powered && (q.sr == .active || q.sr == .entering) && s.fld Fld.phyPopRanks c != 0

/-- Same-bank refresh is in force (R272). -/
def sameBank (s : State) (c : Nat) : Bool := s.fld Fld.chRefMode c == 1 && s.fld Fld.phyPopGen c != 1

/-- The units that keep a refresh debt: ranks, or the bank indexes of each rank. The key of an index is the rank's key
plus one more than its number. -/
def debtKeys (s : State) (c : Nat) : List Nat :=
  let ranks := List.range (s.fld Fld.phyPopRanks c)
  if sameBank s c then (ranks.map (fun r => (List.range 4).map (fun i => r * 64 + 1 + i))).flatten
  else ranks.map (fun r => r * 64)

def debtOf (s : State) (c k : Nat) : Nat := kGet 0 (s.ch c).debt k

def setDebt (s : State) (c k v : Nat) : State := s.modCh (chan c) (fun q => { q with debt := kSet 0 q.debt k (min v 9) })

/-- A place belongs to a unit of refresh. -/
def inUnit (s : State) (c k : Nat) (l : Loc) : Bool :=
  l.rank == k / 64 && (k % 64 == 0 || s.indexOf c l.bank == k % 64 - 1)

/-- An access has work left in a unit of refresh: a candidate or a transfer. -/
def unitWanted (s : State) (c k : Nat) : Bool :=
  (s.ch c).jobs.any (fun j => j.lines.any (fun l => l.step != 2 && inUnit s c k l.loc))

/-- The unit has been without candidate, grant and transfer for `CH_REF.IDLE` × 4 clocks (R271). -/
def unitIdle (s : State) (c k : Nat) : Bool :=
  !unitWanted s c k && !(s.ch c).queue.any (fun x => x.cmd.column && inUnit s c k x.loc)
    && decide (kGet 0 (s.ch c).lastUse (k / 64) + s.fld Fld.chRefIdle c * 4 ≤ (s.ch c).clk)

/-- A refresh of a unit is asked for. -/
def askRefresh (s : State) (c k : Nat) (forced : Bool) : State :=
  if (s.ch c).refDue.any (fun r => r.1 == k) then
    s.modCh (chan c) (fun q => { q with refDue := q.refDue.map (fun r => if r.1 = k then (k, r.2 || forced) else r) })
  else s.modCh (chan c) (fun q => { q with refDue := q.refDue ++ [(k, forced)] })

/-! ### Row protection (R278–R285) -/

/-- Rows of a bank (R164, R165). -/
def bankRows (s : State) (c : Nat) : Nat := (s.ch c).rankUnits / (s.unitsPerRow c * s.banks c)

/-- The entry with the lowest count, the first of them. -/
def lowest (l : List TrackEntry) : Option TrackEntry :=
  l.foldl (fun b e => match b with | none => some e | some x => if e.count < x.count then some e else b) none
def lowestSlot (l : List (Nat × Nat)) : Option (Nat × Nat) :=
  l.foldl (fun b e => match b with | none => some e | some x => if e.2 < x.2 then some e else b) none

/-- The tracker's update on an ACT (R278): the tracker and the updated entry. Counts are 16 bits. -/
def track (t : List TrackEntry) (row ctx : Nat) : List TrackEntry × TrackEntry :=
  let up (e : TrackEntry) : TrackEntry :=
    let cap (n : Nat) : Nat := min (n + 1) 0xFFFF
    let slots :=
      match e.slots.find? (fun x => x.1 == ctx) with
      | some _ => e.slots.map (fun x => if x.1 = ctx then (x.1, cap x.2) else x)
      | none =>
        if e.slots.length < 4 then e.slots ++ [(ctx, 1)]
        else match lowestSlot e.slots with
          | none => [(ctx, 1)]
          | some v => e.slots.map (fun x => if x.1 = v.1 then (ctx, cap v.2) else x)
    { e with count := cap e.count, slots := slots }
  match t.find? (fun e => e.row == row) with
  | some e => (t.map (fun x => if x.row = row then up e else x), up e)
  | none =>
    if t.length < 32 then
      let e := up { row := row, count := 0, slots := [] }
      (t ++ [e], e)
    else match lowest t with
      | none => (t, { row := row, count := 0, slots := [] })
      | some v =>
        let e := up { row := row, count := v.count, slots := [] }
        (t.map (fun x => if x.row = v.row then e else x), e)

/-- The context that an alert names: the most activations, context 0 excluded, ties to the lower number (R93). -/
def alertCtx (e : TrackEntry) : Option Nat :=
  let l := e.slots.filter (fun x => x.1 != 0)
  (l.foldl (fun b x => match b with
    | none => some x
    | some y => if decide (y.2 < x.2) || (x.2 == y.2 && decide (x.1 < y.1)) then some x else b) none).map (fun x => x.1)

/-- The named context's step rises by one; from 0 its bucket is filled (R93, R95). -/
def raiseStep (s : State) (c ctx : Nat) : State :=
  let t := min ((s.ctx ctx).step + 1) 15
  let d := s.fld Fld.thrCtlDepth
  let iv := s.fld Fld.thrCtlInterval
  let s := s.modCtx ctx (fun x => { x with
    step := t, named := true, cntAlert := cntUp x.cntAlert
    tokens := if x.step = 0 then d else x.tokens
    refillAt := if x.step = 0 then some (s.timeBase + BitVec.ofNat 24 (iv * 2 ^ (t - 1))) else x.refillAt })
  s.info Ev.throttle (Src.chan c) (dw (ctx % 4096 + t * 4096))

/-- The rank's neighbour refreshes are RFMsb commands (R281). -/
def rfmForm (s : State) (c : Nat) (l : Loc) : Bool :=
  s.fld Fld.chRowpMethod c == 0 && s.fld Fld.phyPopGen c != 1 && (kGet {} (s.ch c).modes l.rank).rfm

/-- The commands of a neighbour refresh (R281). -/
def neighbours (s : State) (c : Nat) (l : Loc) : List NbrRef :=
  if rfmForm s c l then [{ loc := l, rfm := true, last := true }]
  else
    let d := s.fld Fld.chRowpDist c + 1
    let rows := ((List.range (2 * d + 1)).map (fun i => l.row + i)).filter (fun r =>
      decide (d ≤ r ∧ r - d ≠ l.row ∧ r - d < bankRows s c))
    let rows := rows.map (fun r => r - d)
    (List.range rows.length).map (fun i => { loc := { l with row := rows.getD i 0 }, rfm := false, last := i + 1 == rows.length })

/-- A row alert (R280, R93). -/
def rowAlert (s : State) (c : Nat) (l : Loc) (e : TrackEntry) : State :=
  let s := s.modCh (chan c) (fun q => { q with nbr := q.nbr ++ neighbours s c l })
  let named := if s.flag Fld.thrCtlEnable then alertCtx e else none
  let s := match named with
    | some x => raiseStep s c x
    | none => if s.flag Fld.thrCtlEnable then s.info Ev.rowAlertBg (Src.chan c) (formC c l) else s
  let bk := bankKey l
  let t := (kGet [] (s.ch c).trackers bk).map (fun x => if x.row = l.row then { x with count := 0, slots := [] } else x)
  let s := s.modCh (chan c) (fun q => { q with trackers := kPut q.trackers bk t })
  let s := s.count Reg.chCntRowAlert 1 c
  s.info Ev.rowAlert (Src.chan c) (formC c l) (dw (match named with | some x => x + 4096 | none => 0))

/-- The trackers and the rolling counts after an ACT (R278, R284). -/
def trackAct (s : State) (c : Nat) (l : Loc) (ctx : Nat) : State :=
  let bk := bankKey l
  let m := kGet {} (s.ch c).modes l.rank
  let n := kGet 0 (s.ch c).raa bk + 1
  let s := if m.required then
      s.modCh (chan c) (fun q => { q with
        raa := kPut q.raa bk n
        rfmDue := if n = m.initial || (decide (m.initial < n) && !q.rfmDue.any (fun x => bankKey x == bk)) then q.rfmDue ++ [l] else q.rfmDue })
    else s
  let (t, e) := track (kGet [] (s.ch c).trackers bk) l.row ctx
  let s := s.modCh (chan c) (fun q => { q with trackers := kPut q.trackers bk t })
  if s.fld Fld.chRowpAlert c ≤ e.count then rowAlert s c l e else s

/-- A bank has received a refresh (R282, R284): its tracker window, and its rolling count (PRESUMED: JESD79-5 lowers it by
the initial threshold). -/
def bankRefreshed (s : State) (c bk rank : Nat) : State :=
  let n := kGet 0 (s.ch c).trackRefs bk + 1
  let m := kGet {} (s.ch c).modes rank
  let s := s.modCh (chan c) (fun q => { q with raa := if m.required then kSet 0 q.raa bk (kGet 0 q.raa bk - m.initial) else q.raa })
  if s.fld Fld.chRowpWinRefs c ≤ n then
    s.modCh (chan c) (fun q => { q with trackers := kErase q.trackers bk, trackRefs := kErase q.trackRefs bk })
  else s.modCh (chan c) (fun q => { q with trackRefs := kPut q.trackRefs bk n })

/-- Every bank of a place's logical rank (or of its index) has been refreshed. -/
def banksRefreshed (s : State) (c : Nat) (l : Loc) (index : Bool) : State :=
  (List.range (s.perLogical c)).foldl (fun s b =>
    if index && s.indexOf c b != s.indexOf c l.bank then s
    else bankRefreshed s c (scPhys l * 256 + (s.logicalOf c l.bank * s.perLogical c + b)) l.rank) s

/-! ### The arbiters' candidates (R80–R83, R257, R258) -/

/-- The next line of an access on a subchannel: its index and place. -/
def nextLine (j : Job) (sub : Nat) : Option (Nat × JobLine) :=
  ((List.range j.lines.length).zip j.lines).find? (fun x => x.2.loc.sub == sub && x.2.step == 0)

/-- An earlier access of the same kind has a line of the same row still to be granted (R257). -/
def rowTurn (s : State) (c : Nat) (j : Job) (l : Loc) : Bool :=
  ((s.ch c).jobs.takeWhile (fun x => x.id != j.id)).all (fun x => x.background != j.background
    || !x.lines.any (fun y => y.step == 0 && bankKey y.loc == bankKey l && y.loc.row == l.row))

/-- The command that a line needs next, as the bank book says (R258). -/
def needs (s : State) (c : Nat) (write : Bool) (l : Loc) : DCmd :=
  let row := kGet 0 (s.ch c).book (bankKey l)
  if row = 0 then .act
  else if row = l.row + 1 then (if write then .wr else .rd)
  else .pre

/-- No command for the bank waits in the issue queue (R259). -/
def bankFree (s : State) (c : Nat) (l : Loc) : Bool := !(s.ch c).queue.any (fun x => bankKey x.loc == bankKey l)

/-- The issue queue of a subchannel has room (R260). -/
def queueRoom (s : State) (c sub : Nat) : Bool := decide ((s.ch c).queue.countP (fun x => x.loc.sub == sub) < 4)

/-- The place waits for a refresh or a neighbour refresh (R271, R281, R498). -/
def withheld (s : State) (c : Nat) (l : Loc) : Bool :=
  (s.ch c).refDue.any (fun r => r.2 && inUnit s c r.1 l)
    || (s.ch c).nbr.any (fun n => bankKey n.loc == bankKey l)
    || (s.ch c).rfmDue.any (fun n => bankKey n == bankKey l)

/-- The bank's candidates wait for a soft repair (R498); the repair's own accesses do not. -/
def repairing (s : State) (c : Nat) (why : JobFor) (l : Loc) : Bool :=
  (decide (3 < (s.ch c).ppr ∧ (s.ch c).ppr < 6)) && why != .repair
    && (s.ch c).pprLoc.any (fun r => r.rank == l.rank && r.bank == l.bank)

/-- Grants for host traffic and background work are possible on the channel (R90, R299, R466). Patrol scrub goes on in
FENCED, whose entry has set both FREEZE bits (R297, R471). -/
def mayGrant (s : State) (c : Nat) (j : Job) : Bool :=
  let q := s.ch c
  s.mode != .safe && q.freq != .centring
    && (match q.sr with
        | .active => true
        | .entering => j.lines.any (fun l => l.step != 0) && q.srWhy != .safe
        | _ => false)
    && (!cmdFrozen s c || ((q.st == .fenced || q.sr == .entering) && j.why.scrubs))

/-- A background access is offered when no host-caused one waits, or when its deadline precedes every waiting one (R77); one
that has begun goes on. -/
def offered (s : State) (c : Nat) (j : Job) : Bool :=
  !j.background || j.lines.any (fun l => l.step != 0) || (s.ch c).jobs.all (fun x => x.background || x.lines.all (fun l => l.step != 0)
    || goesBefore j.overdue j.deadline x.overdue x.deadline)

/-- The ACT of an access finds a token, where its context is throttled (R94). -/
def tokenOk (s : State) (j : Job) : Bool := s.throttleOf j.ctx == 0 || (s.ctx j.ctx).tokens != 0

/-- An ACT stays within the maximum rolling count (R284). -/
def raaOk (s : State) (c : Nat) (l : Loc) : Bool :=
  let m := kGet {} (s.ch c).modes l.rank
  !m.required || decide (kGet 0 (s.ch c).raa (bankKey l) + 1 ≤ m.maximum)

/-- The data bus of the subchannel is granted to the access (R81). -/
def busGranted (s : State) (c : Nat) (j : Job) (sub : Nat) : Bool := (s.ch c).busNext.any (fun b => b.1 == sub && b.2 == j.id)

/-- A candidate of the command arbiter: the access, the line, the command. -/
structure Cand where
  job : Job
  line : Nat
  loc : Loc
  cmd : DCmd
  deriving DecidableEq, Repr

/-- The candidate that an access is on a subchannel, whatever its rods, grants and tokens say. -/
def candOf (s : State) (c sub : Nat) (j : Job) : Option Cand :=
  match nextLine j sub with
  | none => none
  | some (i, l) => some { job := j, line := i, loc := l.loc, cmd := needs s c j.write l.loc }

/-- A burst of the access has been granted on the subchannel. -/
def begunOn (j : Job) (sub : Nat) : Bool := j.lines.any (fun l => l.loc.sub == sub && l.step != 0)

/-- The candidate may be considered: its access may be granted and nothing withholds its bank. -/
def standing (s : State) (c : Nat) (x : Cand) : Bool :=
  mayGrant s c x.job && offered s c x.job && !withheld s c x.loc && !repairing s c x.job.why x.loc && bankFree s c x.loc && queueRoom s c x.loc.sub
    && (begunOn x.job x.loc.sub || rowTurn s c x.job x.loc)

/-- The candidates of a subchannel. -/
def candsOf (s : State) (c sub : Nat) : List Cand := (s.ch c).jobs.filterMap (candOf s c sub)

/-- The access whose transfer is in progress on a subchannel. -/
def transferOf (s : State) (c sub : Nat) : Option Job :=
  ((s.ch c).busNext.find? (fun b => b.1 == sub)).bind (fun b => (job? s c b.2).filter (begunOn · sub))

/-- A row that a transfer in progress still needs stays open for it, and a row that a candidate waits to use is not closed
for a candidate that does not go before it (DEDUCED: R88, R258). -/
def rowFree (s : State) (c : Nat) (x : Cand) : Bool :=
  let here := (transferOf s c x.loc.sub).any (fun j => j.id == x.job.id)
  here || (!(transferOf s c x.loc.sub).any (fun j => j.lines.any (fun l =>
      l.step == 0 && bankKey l.loc == bankKey x.loc && l.loc.row != x.loc.row))
    && (x.cmd != .pre || !(candsOf s c x.loc.sub).any (fun y =>
      y.cmd.column && bankKey y.loc == bankKey x.loc && standing s c y
        && !goesBefore x.job.overdue x.job.deadline y.job.overdue y.job.deadline)))

/-- The data-bus arbiter makes no grant (R91); in FENCED it serves patrol scrub alone (R297). -/
def dataFrozen (s : State) (c : Nat) : Bool := s.flag Fld.chArbCtlFreezeData c && (s.ch c).st != .fenced && (s.ch c).sr != .entering

/-- The candidate is eligible at the command arbiter (R81). -/
def eligibleCmd (s : State) (c : Nat) (x : Cand) : Bool :=
  standing s c x && published s c x.cmd x.loc
    && (!x.cmd.column || (busGranted s c x.job x.loc.sub && !dataFrozen s c))
    && (x.cmd != .act || (tokenOk s x.job && raaOk s c x.loc))
    && (x.cmd.column || rowFree s c x)

/-- The candidate is eligible at the data-bus arbiter: its row is open and its column command allowed. -/
def eligibleBus (s : State) (c : Nat) (x : Cand) : Bool := standing s c x && x.cmd.column && published s c x.cmd x.loc

/-- The best of some candidates (R80, R82). -/
def bestCand (ptr : Nat) (l : List Cand) : Option Cand :=
  l.foldl (fun b x => match b with
    | none => some x
    | some y => if beats ptr (x.job.deadline, x.job.overdue, x.job.ctx) (y.job.deadline, y.job.overdue, y.job.ctx)
        then some x else b) none

/-! ### Grants -/

/-- A command enters its issue queue (R260). -/
def enqueue (s : State) (c : Nat) (x : QCmd) : State :=
  s.modCh (chan c) (fun q => { q with queue := q.queue ++ [{ x with arrived := q.clk }] })

/-- The bank book after a grant (R258): open rows are row + 1. -/
def setBook (s : State) (c : Nat) (l : Loc) (v : Nat) : State :=
  s.modCh (chan c) (fun q => { q with book := kSet 0 q.book (bankKey l) v })

/-- A rank has been used by a candidate, a grant or a transfer (R271). -/
def usedRank (s : State) (c : Nat) (l : Loc) : State :=
  s.modCh (chan c) (fun q => { q with lastUse := kPut q.lastUse l.rank q.clk })

/-- Auto-precharge travels with a column command when IDLE is 0 and no other candidate wants the row (R269). -/
def autoPre (s : State) (c : Nat) (x : Cand) : Bool :=
  s.fld Fld.chPageIdle c == 0
    && !(s.ch c).jobs.any (fun j => ((List.range j.lines.length).zip j.lines).any (fun y =>
        (j.id != x.job.id || y.1 != x.line) && y.2.step == 0 && bankKey y.2.loc == bankKey x.loc && y.2.loc.row == x.loc.row))

/-- The command arbiter grants a candidate its command (R258, R82, R94). -/
def grantCmd (s : State) (c : Nat) (x : Cand) : State :=
  let id := x.job.id
  let mark (f : JobLine → JobLine) (s : State) : State :=
    modJob s c id (fun j => { j with lines := j.lines.modify x.line f })
  let s := s.modCh (chan c) (fun q => { q with cmdPtr := (x.job.ctx + 1) % 4096 })
  let s := usedRank s c x.loc
  match x.cmd with
  | .act =>
    let s := if s.throttleOf x.job.ctx = 0 then s else s.modCtx x.job.ctx (fun y => { y with tokens := y.tokens - 1 })
    let s := mark (fun l => { l with opened := true }) (modJob s c id (fun j => { j with held := false }))
    enqueue (setBook s c x.loc (x.loc.row + 1)) c { cmd := .act, loc := x.loc, ctx := x.job.ctx, job := some id, line := x.line }
  | .pre =>
    let s := s.count Reg.chCntPageConflict 1 c
    enqueue (setBook s c x.loc 0) c { cmd := .pre, loc := x.loc, ctx := x.job.ctx }
  | _ =>
    let ap := autoPre s c x
    let hit := match x.job.lines[x.line]? with | some l => !l.opened | none => false
    let s := mark (fun l => { l with step := 1 }) s
    let s := if ap then setBook s c x.loc 0 else s
    let left := match job? s c id with | some j => (nextLine j x.loc.sub).isSome | none => false
    let s := if left then s else s.modCh (chan c) (fun q => { q with busNext := q.busNext.filter (fun b => !(b.1 == x.loc.sub && b.2 == id)) })
    enqueue s c { cmd := if x.job.write then (if ap then .wrA else .wr) else (if ap then .rdA else .rd), loc := x.loc,
                  ctx := x.job.ctx, job := some id, line := x.line, hit := hit }

/-- An ACT held back by an empty bucket is counted once for each offer (R94). -/
def noteHeld (s : State) (c : Nat) (x : Cand) : State :=
  if x.cmd = .act && !x.job.held && standing s c x && published s c .act x.loc && !tokenOk s x.job then
    let s := modJob s c x.job.id (fun j => { j with held := true })
    (s.count Reg.chCntHeld 1 c).modCtx x.job.ctx (fun y => { y with cntHeld := cntUp y.cntHeld })
  else s

/-! ### Commands that bypass arbitration (R84, R271, R281, R299) -/

/-- Open banks of a channel that satisfy `p`, by bank key. -/
def openBanks (s : State) (c : Nat) (p : Loc → Bool) : List Loc :=
  (s.ch c).book.filterMap (fun e =>
    let l : Loc := { sub := e.1 / 1024, rank := e.1 / 256 % 4, bank := e.1 % 256, row := e.2 - 1, col := 0 }
    if p l then some l else none)

/-- The PRE of an open bank, when its rods allow it. -/
def grantPre (s : State) (c : Nat) (l : Loc) : Option State :=
  if bankFree s c l && queueRoom s c l.sub && published s c .pre l then
    some (enqueue (setBook s c l 0) c { cmd := .pre, loc := l })
  else none

/-- First answer of a list of attempts. -/
def firstSome {α : Type} : List (Option α) → Option α
  | [] => none
  | some a :: _ => some a
  | none :: l => firstSome l

/-- The places, one for each logical rank on each subchannel, of a rank's refresh; with an index, one of its banks. -/
def refreshPlaces (s : State) (c k : Nat) : List Loc :=
  ((List.range (s.subs c)).map (fun sub => (List.range (s.logicals c)).map (fun g =>
    ({ sub := sub, rank := k / 64, bank := g * s.perLogical c + (k % 64 - 1) * s.groups c, row := 0, col := 0 } : Loc)))).flatten

/-- One command of a refresh that is due: a PRE of one of its open banks, or its next REF or REFsb (R270–R272). -/
def grantRefresh (s : State) (c k : Nat) : Option State :=
  let open_ := openBanks s c (fun l => inUnit s c k l)
  if !open_.isEmpty then firstSome (open_.map (grantPre s c))
  else if (s.ch c).queue.any (fun x => inUnit s c k x.loc) then none
  else
    let n := kGet 0 (s.ch c).refPart k
    match (refreshPlaces s c k)[n]? with
    | none => none
    | some l =>
      let cmd := if k % 64 = 0 then DCmd.ref else DCmd.refSb
      if queueRoom s c l.sub && published s c cmd l then
        some (enqueue s c { cmd := cmd, loc := l, line := k })
      else none

/-- One command of a neighbour refresh that waits (R281, R285): it follows a due refresh of its bank. -/
def grantNbr (s : State) (c : Nat) (n : NbrRef) : Option State :=
  if (s.ch c).refDue.any (fun r => inUnit s c r.1 n.loc) || !bankFree s c n.loc || !queueRoom s c n.loc.sub then none
  else
    let row := kGet 0 (s.ch c).book (bankKey n.loc)
    let pop (s : State) : State :=
      let s := if n.last then s.count Reg.chCntNbrRef 1 c else s
      s.modCh (chan c) (fun q => { q with nbr := q.nbr.filter (fun x => x != n) })
    if n.rfm then
      let open_ := openBanks s c (fun l => l.sub == n.loc.sub && inUnit s c (n.loc.rank * 64 + 1 + s.indexOf c n.loc.bank) l)
      if !open_.isEmpty then firstSome (open_.map (grantPre s c))
      else if published s c .rfm n.loc then some (pop (enqueue s c { cmd := .rfm, loc := n.loc, nbr := true })) else none
    else if row = n.loc.row + 1 then (grantPre s c n.loc).map pop
    else if row ≠ 0 then grantPre s c n.loc
    else if published s c .act n.loc then
      some (enqueue (setBook s c n.loc (n.loc.row + 1)) c { cmd := .act, loc := n.loc, nbr := true })
    else none

/-- One RFMsb that the rolling count asks for (R284). -/
def grantRfm (s : State) (c : Nat) (l : Loc) : Option State :=
  if !bankFree s c l || !queueRoom s c l.sub then none
  else
    let open_ := openBanks s c (fun x => x.sub == l.sub && inUnit s c (l.rank * 64 + 1 + s.indexOf c l.bank) x)
    if !open_.isEmpty then firstSome (open_.map (grantPre s c))
    else if published s c .rfm l then
      some ((enqueue s c { cmd := .rfm, loc := l, nbr := false }).modCh (chan c) (fun q =>
        { q with rfmDue := q.rfmDue.filter (fun x => bankKey x != bankKey l) }))
    else none

/-- Places of every populated rank, one for each subchannel. -/
def rankPlaces (s : State) (c : Nat) : List Loc :=
  ((List.range (s.subs c)).map (fun sub => (List.range (s.fld Fld.phyPopRanks c)).map (fun r =>
    ({ sub := sub, rank := r, bank := 0, row := 0, col := 0 } : Loc)))).flatten

/-- One command of a self-refresh entry (R299, R538): owed refreshes (not at SAFE), neighbour refreshes, precharges, and
an SRE for every rank. -/
def grantEntry (s : State) (c : Nat) : Option State :=
  let owed := if (s.ch c).srWhy = .safe then [] else (debtKeys s c).filter (fun k => debtOf s c k != 0)
  match owed, (s.ch c).nbr with
  | k :: ks, _ => firstSome ((k :: ks).map (grantRefresh s c))
  | [], n :: ns => firstSome ((n :: ns).map (grantNbr s c))
  | [], [] =>
    let open_ := openBanks s c (fun _ => true)
    -- an access that has begun keeps its rows until it has issued whole
    if (s.ch c).jobs.any (fun j => j.lines.any (fun l => l.step != 0) && j.lines.any (fun l => l.step != 2))
        && (s.ch c).srWhy != .safe then none
    else if !open_.isEmpty then firstSome (open_.map (grantPre s c))
    else firstSome (((rankPlaces s c).filter (fun l => !(s.ch c).srRanks.contains (scPhys l)
        && !(s.ch c).queue.any (fun x => x.cmd == .sre && scPhys x.loc == scPhys l))).map (fun l =>
      if queueRoom s c l.sub && published s c .sre l then some (enqueue s c { cmd := .sre, loc := l }) else none))

/-- One command of a self-refresh exit (R301): an SRX for every rank. -/
def grantExit (s : State) (c : Nat) : Option State :=
  firstSome (((rankPlaces s c).filter (fun l => !(s.ch c).srRanks.contains (scPhys l)
      && !(s.ch c).queue.any (fun x => x.cmd == .srx && scPhys x.loc == scPhys l))).map (fun l =>
    if queueRoom s c l.sub && published s c .srx l then some (enqueue s c { cmd := .srx, loc := l }) else none))

/-- The next command that goes ahead of every candidate (R84). -/
def bypassCmd (s : State) (c : Nat) : Option State :=
  match (s.ch c).sr with
  | .entering => grantEntry s c
  | .exiting => grantExit s c
  | .inside => none
  | .active =>
    firstSome ((s.ch c).refDue.map (fun r => grantRefresh s c r.1)
      ++ (s.ch c).rfmDue.map (grantRfm s c) ++ (s.ch c).nbr.map (grantNbr s c))

/-- One decision of the command arbiter (R80–R84, R258, R299). -/
def cmdGrant (s : State) (c : Nat) : State :=
  if s.fld Fld.phyPopRanks c = 0 || !(s.ch c).powered then s
  else match bypassCmd s c with
    | some s => s
    | none =>
      let cs := candsOf s c 0 ++ candsOf s c 1
      let s := cs.foldl (fun s x => noteHeld s c x) s
      match bestCand (s.ch c).cmdPtr (cs.filter (eligibleCmd s c)) with
      | some x => grantCmd s c x
      | none => s

/-! ### The data-bus arbiter (R83, R85–R88) -/

/-- A transfer restarts from its first burst (R87). -/
def restartJob (s : State) (c : Nat) (j : Job) : State :=
  let s := s.count Reg.chCntPreempt 1 c
  let s := if j.restarts + 1 = s.fld Fld.chArbPreemptRestartMax c then s.count Reg.chCntNopreempt 1 c else s
  let s := modJob s c j.id (fun x => { x with
    restarts := x.restarts + 1, lines := x.lines.map (fun l => { l with step := 0, opened := false, fin := false }) })
  s.modCh (chan c) (fun q => { q with
    busNext := q.busNext.filter (fun b => b.2 != j.id)
    queue := q.queue.map (fun x => if x.job = some j.id && x.cmd.column then { x with job := none } else x) })

/-- The data-bus arbiter grants a subchannel's next slot. -/
def grantBus (s : State) (c sub : Nat) (x : Cand) : State :=
  s.modCh (chan c) (fun q => { q with busNext := q.busNext ++ [(sub, x.job.id)], busPtr := (x.job.ctx + 1) % 4096 })

/-- One decision of the data-bus arbiter for a subchannel (R83, R85). -/
def busArbitrate (s : State) (c sub : Nat) : State :=
  if dataFrozen s c then s
  else
    let held := (s.ch c).busNext.find? (fun b => b.1 == sub)
    let cs := (candsOf s c sub).filter (fun x => eligibleBus s c x && !(s.ch c).busNext.any (fun b => b.2 == x.job.id && b.1 == sub))
    match held with
    | none => match bestCand (s.ch c).busPtr cs with | some x => grantBus s c sub x | none => s
    | some b =>
      match job? s c b.2 with
      | none => s.modCh (chan c) (fun q => { q with busNext := q.busNext.filter (fun y => y != b) })
      | some j =>
        -- a slot whose access has begun no burst and lost its row is decided anew (R81, R83)
        if !begunOn j sub && !(candOf s c sub j).any (eligibleBus s c) then
          let s := s.modCh (chan c) (fun q => { q with busNext := q.busNext.filter (fun y => y != b) })
          match bestCand (s.ch c).busPtr cs with | some x => grantBus s c sub x | none => s
        -- only a multi-burst transfer that has begun can be preempted
        else if decide (j.lines.length ≤ 1) || j.lines.all (fun l => l.step == 0) then s
        else
          let able := cs.filter (fun x => s.mayPreempt x.job.ctx x.job.rights
            && preempts (s.fld Fld.chArbPreemptMargin c) (x.job.deadline, x.job.overdue) (j.deadline, j.overdue))
          if s.fld Fld.chArbPreemptRestartMax c ≤ j.restarts then s
          else match bestCand (s.ch c).busPtr able with
            | some x => grantBus (restartJob s c j) c sub x
            | none => s

/-! ### Issue (R260, R261) -/

/-- Bank-index or rank of a finished refresh (R270–R272): the debt falls, and a refresh gap is a boundary (R615). -/
def refreshDone (s : State) (c k : Nat) : State :=
  let n := kGet 0 (s.ch c).refPart k + 1
  if n < (refreshPlaces s c k).length then s.modCh (chan c) (fun q => { q with refPart := kPut q.refPart k n })
  else
    let s := s.count Reg.chCntRef 1 c
    let s := if (s.ch c).refDue.contains (k, true) then s.count Reg.chCntRefForced 1 c else s
    let s := s.modCh (chan c) (fun q => { q with refPart := kErase q.refPart k })
    let s := setDebt s c k (debtOf s c k - 1)
    let s := s.modCh (chan c) (fun q => { q with
      ppr := if q.ppr = 3 && q.pprLoc.any (fun l => inUnit s c k l) then 4 else q.ppr })
    let more := s.modCh (chan c) (fun q => { q with refDue := q.refDue.filter (fun r =>
      r.1 != k || (if r.2 then decide (s.fld Fld.chRefPostpone c < debtOf s c k)
                   else debtOf s c k != 0 && !unitWanted s c k)) })
    channelBoundary more c

/-- Every rank has entered self-refresh (R299). -/
def entered (s : State) (c : Nat) : State :=
  if (rankPlaces s c).all (fun l => (s.ch c).srRanks.contains (scPhys l)) then
    s.modCh (chan c) (fun q => { q with sr := .inside, srRanks := [], freq := if q.freq = .entering then .minWait else q.freq })
  else s

/-- The channel is out of self-refresh (R274): every debt reads 1. -/
def exited (s : State) (c : Nat) : State :=
  let s := s.modCh (chan c) (fun q => { q with
    sr := .active, srWhy := .none, srRanks := [], refDue := [], refPart := []
    freq := if q.freq = .exiting then .centring else q.freq })
  (debtKeys s c).foldl (fun s k => setDebt s c k 1) s

/-- The effects of a command as it issues. -/
def issueCmd (s : State) (c : Nat) (x : QCmd) : State :=
  let s := loadRods s c x.cmd x.loc
  let s := if x.cmd.column then
      s.modCh (chan c) (fun q => { q with lastCol := kPut q.lastCol (bankKey x.loc) q.clk })
    else s
  match x.cmd with
  | .act =>
    let s := s.count64 Reg.chCntActLo Reg.chCntActHi 1 c
    if x.nbr then s else trackAct s c x.loc x.ctx
  | .rd | .rdA | .wr | .wrA =>
    let s := if x.cmd.writes then s.count64 Reg.chCntWrLo Reg.chCntWrHi 1 c else s.count64 Reg.chCntRdLo Reg.chCntRdHi 1 c
    let s := if x.hit then s.count64 Reg.chCntPageHitLo Reg.chCntPageHitHi 1 c else s
    let s := match x.job with
      | none => s
      | some id => modJob s c id (fun j => { j with lines := j.lines.modify x.line (fun l => { l with step := 2 }) })
    let s := usedRank s c x.loc
    if x.cmd = .rdA || x.cmd = .wrA then
      -- the auto-precharge begins once its rods read zero, and loads the row-precharge rods from there
      let from_ := ((governing s c .pre x.loc).map (fun k => (rodAt s c k).2)).foldl max (s.ch c).clk
      let n := s.fld Fld.chTimATrp c
      loadRod (loadRod (loadRod s c Rod.rp (scBank x.loc) from_ n) c Rod.rp (scAllRp s c x.loc) from_ n) c Rod.rp
        (scIdxRp s c x.loc) from_ n
    else s
  | .pre => s
  | .ref => refreshDone (banksRefreshed s c x.loc false) c x.line
  | .refSb => refreshDone (banksRefreshed s c x.loc true) c x.line
  | .rfm =>
    let bk := bankKey x.loc
    let m := kGet {} (s.ch c).modes x.loc.rank
    let s := s.modCh (chan c) (fun q => { q with raa := kSet 0 q.raa bk (kGet 0 q.raa bk - m.initial) })
    if x.nbr then s else s.count Reg.chCntRfmRaa 1 c
  | .sre =>
    let s := s.count Reg.chCntSrEntry 1 c
    entered (s.modCh (chan c) (fun q => { q with srRanks := q.srRanks ++ [scPhys x.loc] })) c
  | .srx =>
    let s := s.modCh (chan c) (fun q => { q with srRanks := q.srRanks ++ [scPhys x.loc] })
    if (rankPlaces s c).all (fun l => (s.ch c).srRanks.contains (scPhys l)) then exited s c else s

/-- Commands that have waited beyond the lookahead are counted once (R261). -/
def noteHolds (s : State) (c : Nat) : State :=
  let la := s.fld Fld.chIssueLookahead c
  let late (x : QCmd) : Bool := !x.late && decide (x.arrived + la < (s.ch c).clk)
  let n := (s.ch c).queue.countP late
  (s.count Reg.chCntAbacusHold n c).modCh (chan c) (fun q =>
    { q with queue := q.queue.map (fun x => if late x then { x with late := true } else x) })

/-- The position of the command to issue on a subchannel: the oldest whose rods read zero and whose bank has no older
command (R260). -/
def issuable (s : State) (c sub : Nat) : List QCmd → List QCmd → Option QCmd
  | _, [] => none
  | before, x :: xs =>
    if x.loc.sub = sub && released s c x.cmd x.loc && !before.any (fun y => bankKey y.loc == bankKey x.loc) then some x
    else issuable s c sub (before ++ [x]) xs

/-- `clocks` DRAM clocks pass on the island, and the subchannel's issue queue issues one command if it can. -/
def issueTurn (s : State) (c sub clocks : Nat) : State :=
  let s := s.modCh (chan c) (fun q => { q with clk := q.clk + clocks })
  let s := noteHolds s c
  match issuable s c sub [] (s.ch c).queue with
  | none => s
  | some x => issueCmd (s.modCh (chan c) (fun q => { q with queue := q.queue.erase x })) c x

end Sys2Proof.Machine
end

