-- ==== Sys2Proof/Machine/ReturnOps.lean ====
section
/-! DEFINITION. What comes back from DRAM: the three outcomes of a read (R289–R292), where read lines go, and the end of
writes. -/

namespace Sys2Proof.Machine

/-! ### Corrected and uncorrectable reads (R289–R292, R496) -/

/-- A device of a rank is marked (R293, R501): `CH_MARK`, the journal, EV_MARK. `why`: 1 command, 2 suspect, 3 lane. -/
def markDevice (s : State) (c rank dev why : Nat) : State :=
  let s := (s.setFld (Fld.chMarkDev rank) dev c).setFld (Fld.chMarkValid rank) 1 c
  let s := queueLog s LogKind.journal [Jr.mark, c, rank, dev]
  s.info Ev.mark (Src.chan c) (formD c rank dev) (dw why)

/-- A rank may be marked: x4 devices and no mark yet (R501). -/
def mayMark (s : State) (c rank : Nat) : Bool :=
  s.fld Fld.phyPopWidth c == 0 && s.fld (Fld.chMarkValid rank) c == 0 && decide (rank < s.fld Fld.phyPopRanks c)

/-- The suspect record of a rank (R292). -/
def noteSuspect (s : State) (c rank dev : Nat) : State :=
  if s.fld (Fld.chMarkValid rank) c = 1 && s.fld (Fld.chMarkDev rank) c = dev then s
  else
    let n := if s.fld Fld.chEccSuspectCount c rank ≠ 0 && s.fld Fld.chEccSuspectDev c rank = dev
      then min (s.fld Fld.chEccSuspectCount c rank + 1) 0xFFFF else 1
    let s := (s.setFld Fld.chEccSuspectDev dev c rank).setFld Fld.chEccSuspectCount n c rank
    let key := rank * 32 + dev
    if decide (s.fld Fld.chEccMarkAt c ≤ n) && !(s.ch c).suspRaised.contains key then
      let s := s.modCh (chan c) (fun q => { q with suspRaised := q.suspRaised ++ [key] })
      let s := s.info Ev.eccSuspect (Src.chan c) (formD c rank dev) (dw n)
      if s.flag Fld.svcPolicyAutoMark && mayMark s c rank then markDevice s c rank dev 2 else s
    else s

/-- The row of a book entry is a repair candidate (R496). -/
def rowCandidate (s : State) (r : RowBook) : Bool := r.ue || decide (s.fld Fld.svcPolicyRowCe ≤ r.ce)

/-- The row book (R496): a row joins it or counts in it; a row that becomes a candidate is handed to the repair policy. -/
def noteRow (s : State) (c : Nat) (l : Loc) (ue : Bool) : State :=
  let same (r : RowBook) : Bool := r.rank == l.rank && r.bank == l.bank && r.row == l.row
  let q := s.ch c
  let old := q.rowBook.find? same
  let new : RowBook := match old with
    | some r => { r with ce := if ue then r.ce else r.ce + 1, ue := r.ue || ue }
    | none => { rank := l.rank, bank := l.bank, row := l.row, ce := if ue then 0 else 1, ue := ue }
  let book := match old with
    | some _ => q.rowBook.map (fun r => if same r then new else r)
    | none =>
      if q.rowBook.length < 32 then q.rowBook ++ [new]
      else
        let low := q.rowBook.foldl (fun (b : Option RowBook) r =>
          if r.ue then b else match b with | none => some r | some x => if r.ce < x.ce then some r else b) none
        match low with
        | none => q.rowBook
        | some v => q.rowBook.map (fun r => if r = v then new else r)
  let was := match old with | some r => rowCandidate s r | none => false
  let want := rowCandidate s new && !was && book.contains new && s.flag Fld.svcPolicyAutoSppr
  s.modCh (chan c) (fun q => { q with rowBook := book, pprWant := if want then q.pprWant ++ [l] else q.pprWant })

/-- A corrected read (R289, R290, R292). -/
def noteCe (s : State) (c : Nat) (l : Loc) (dev : Nat) : State :=
  let s := s.count Reg.chCntCe 1 c
  let s := noteRow (noteSuspect s c l.rank dev) c l false
  let n := kGet 0 (s.ch c).ceSince l.rank + 1
  let last := kGet 0 (s.ch c).ceAt l.rank
  if last = 0 || decide (last + 1024 ≤ s.epoch + 1) then
    let s := s.modCh (chan c) (fun q => { q with ceSince := kErase q.ceSince l.rank, ceAt := kPut q.ceAt l.rank (s.epoch + 1) })
    s.eventOf Ev.chCe (Src.chan c) (10 + c) (formD c l.rank dev) (dw n)
  else s.modCh (chan c) (fun q => { q with ceSince := kPut q.ceSince l.rank n })

/-- An uncorrectable read (R289, R291): EV_CH_UE, the rank's count, and beyond the limit the contained fault with its
orderly fence (R474). -/
def noteUe (s : State) (c : Nat) (l : Loc) (tagLine : Bool) : State :=
  let s := s.count Reg.chCntUe 1 c
  let s := s.info Ev.chUe (Src.chan c) (formC c l) (dw (l.col % 2048 + tagLine.toNat * 2048))
  let s := noteRow s c l true
  let n := kGet 0 (s.ch c).ueCount l.rank + 1
  let s := s.modCh (chan c) (fun q => { q with ueCount := kPut q.ueCount l.rank n })
  if decide (s.fld Fld.chEccUeLimit c < n) && kGet 0 (s.ch c).ueRaised l.rank = 0 then
    let s := s.modCh (chan c) (fun q => { q with ueRaised := kPut q.ueRaised l.rank 1 })
    let s := s.eventOf Ev.chUeLimit (Src.chan c) (26 + c) (dw (c % 16 + l.rank % 4 * 16)) (dw n) (some c)
    faultFence s c true
  else s

/-- A corrected line is written back under context 0 with a move reserve entry, when one is free (R289, R295). -/
def writeBack (s : State) (c : Nat) (key : LineKey) (jl : JobLine) (v : Line) : State :=
  if 1024 ≤ poolCount s .moveRes then s
  else
    let idx := freeIdx s
    let dl := s.farDeadline (s.fld Fld.arbFarRepair)
    let s := addEntry s { idx := 0, kind := .scrub, st := .run, pool := .moveRes, ctx := 0, port := 0, deadline := dl,
                          key := key, ch := c, slot := some (v, false) }
    let (id, s) := newJob s c (.ceWb idx) true [{ loc := jl.loc, key := jl.key, idx := some idx }] 0 dl false
    modEntry s idx (fun e => { e with phase := .dram id, owner := id })

/-- The outcome of one line that was read: its counts and its write-back; the answer says whether the line is lost. -/
def eccOutcome (s : State) (c : Nat) (key : LineKey) (jl : JobLine) (v : Line) (out : EccOut) (tagLine always : Bool) :
    Bool × State :=
  match out with
  | .clean => (false, s)
  | .corrected dev =>
    let s := noteCe s c jl.loc dev
    (false, if always || s.flag Fld.chEccCeWb c then writeBack s c key jl v else s)
  | .uncorrectable => (true, noteUe s c jl.loc tagLine)

/-! ### The parts of a line key -/

def keyChan (k : Nat) : Nat := k / 2 ^ 34
def keySet (k : Nat) : Nat := k / 1024 % 2 ^ 24
def keyWay (k : Nat) : Nat := k / 64 % 16
def keySector (k : Nat) : Nat := k % 64

/-! ### Reads -/

/-- A line operation on the channel has ended after its deadline (R106). -/
def noteMiss (s : State) (c : Nat) (j : Job) : State :=
  if lateness s.timeBase j.deadline = 0 then s
  else
    let s := s.count Reg.chCntMiss 1 c
    if j.background then s.modCtx 0 (fun x => { x with cntMiss := cntUp x.cntMiss }) else s

/-- The scrub pass has ended (R296). -/
def scrubPassEnd (s : State) (c : Nat) : State :=
  let s := s.count Reg.chCntScrubPass 1 c
  let s := s.wr (Reg.chScrubLast.at c) (dw (min (s.us / 1000000) 0xFFFFFFFF))
  let s := s.info Ev.scrubPass (Src.chan c) (dw (c % 16)) (s.rd (Reg.chScrubLast.at c))
  let s := s.modCh (chan c) (fun q => { q with ueCount := [], ueRaised := [] })
  -- the cause of the contained ECC source has ended (R291, R521)
  causeEnds s (26 + c)

/-- The page of PLAIN that lies in a frame (R204). -/
def plainPage (s : State) (c set way : Nat) : Option Nat :=
  let w := s.mapWeight c
  if w = 0 then none
  else
    let f := set * 16 + way
    ((List.range 64).find? (fun m => s.mapEntry m == c && s.mapBelow c m == f % w)).map (fun m => f / w * 64 + m)

/-- The ledger key of a frame's sector now: its page's line where it is valid, else its location (R117, R294). A line
beyond the channel's sets belongs to no page. -/
def frameLedgerKey (s : State) (k : Nat) : LineKey :=
  let c := keyChan k
  let own : LineKey := .loc c (2 ^ 34 + k % 2 ^ 34)
  if s.sets c ≤ keySet k then own
  else if s.mode = .plain then
    match plainPage s c (keySet k) (keyWay k) with
    | some n => hostKey n (keySector k)
    | none => own
  else
    let t := s.tag c (keySet k) (keyWay k)
    if t.live && t.valid.getLsbD (keySector k) then hostKey t.page (keySector k) else own

/-- The line of an entry that scrub or a repair holds is a tag line: line `l` of its set. -/
def tagLineOf : LineKey → Option Nat
  | .loc _ a => if a < 2 ^ 33 then some (a % 8) else none
  | _ => none

/-- A tag line is lost: its two entries are (R168). -/
def loseTagLine (s : State) (c set l : Nat) : State := loseTag (loseTag s c set (2 * l)) c set (2 * l + 1)

/-- A line of a scrub unit (R295), whose entry leaves the ledger; a line that the unit's restart reads again has none.
Tag lines carry their set as key. -/
def scrubLine (s : State) (c : Nat) (jl : JobLine) (id : Nat) (out : EccOut) : State :=
  match (jl.idx.bind (entry? s)).filter (fun e => e.kind == .scrub && e.owner == id) with
  | none => s
  | some e =>
    let s := dropEntries s (fun x => x.idx == e.idx)
    let tl := tagLineOf e.key
    let v := if tl.isSome then 0 else kGet 0 s.dram jl.key
    let (lost, s) := eccOutcome s c e.key jl v out tl.isSome true
    if !lost then s
    else match tl with
      | some l => loseTagLine s c jl.key l
      | none =>
        let t := s.tag c (keySet jl.key) (keyWay jl.key)
        if decide (keySet jl.key < s.sets c) && (t.valid.getLsbD (keySector jl.key) || s.mode == .plain) then
          poisonSector s c (keySet jl.key) (keyWay jl.key) (keySector jl.key)
        else
          ({ s with dram := kErase s.dram jl.key }).count Reg.chCntScrubUeFree 1 c

/-- A repair move's line has been read into its move buffer (R497, R498). -/
def repairLine (s : State) (c : Nat) (jl : JobLine) (out : EccOut) : State :=
  let key := ((jl.idx.bind (entry? s)).map (fun e => e.key)).getD .none
  let tl := tagLineOf key
  let v := if tl.isSome then 0 else kGet 0 s.dram jl.key
  let s := match out with
    | .clean => s
    | .corrected d => noteCe s c jl.loc d
    | .uncorrectable => noteUe s c jl.loc tl.isSome
  let lost := match out with | .uncorrectable => true | _ => false
  let s :=
    if !lost then s
    else match tl with
      | some l => loseTagLine s c jl.key l
      | none =>
        if s.sets c ≤ keySet jl.key then s
        else poisonSector s c (keySet jl.key) (keyWay jl.key) (keySector jl.key)
  match jl.idx with
  | some i => modEntry s i (fun e => { e with slot := some (v, lost) })
  | none => s

/-- One line of a read goes where its access sends it. -/
def lineRead (s : State) (c : Nat) (j : Job) (jl : JobLine) (i : Nat) (out : EccOut) : State :=
  match j.why with
  | .host idx =>
    match entry? s idx with
    | none => s
    | some e =>
      if e.phase ≠ .dram j.id then s
      else
        let v := kGet 0 s.dram jl.key
        let (lost, s) := eccOutcome s c e.key jl v out false false
        let s := if lost then poisonSector s c (keySet jl.key) (keyWay jl.key) (keySector jl.key) else s
        deliver s idx v lost
  | .offerRead id =>
    match s.media.offers.find? (fun o => o.id == id) with
    | none => s
    | some o =>
      let v := kGet 0 s.dram jl.key
      let (lost, s) := eccOutcome s c (hostKey o.page (keySector jl.key)) jl v out false false
      let s := if lost then poisonSector s c (keySet jl.key) (keyWay jl.key) (keySector jl.key) else s
      modOffer s id (fun o => { o with data := o.data.filter (fun d => d.1 != keySector jl.key) ++ [(keySector jl.key, v)],
                                       pmap := if lost then o.pmap ||| bit64 (keySector jl.key) else o.pmap })
  | .tagRead set =>
    let (lost, s) := eccOutcome s c (.loc c (tagAddr set i)) jl 0 out true false
    let s := match out with | .corrected _ => s.count Reg.tierCntTagCorr | _ => s
    if lost then loseTag (loseTag s c set (2 * i)) c set (2 * i + 1) else s
  | .scrub _ => scrubLine s c jl j.id out
  | .repair => repairLine s c jl out
  | _ => s

/-- The whole of a read access has returned. -/
def readEnd (s : State) (c : Nat) (j : Job) : State :=
  let s := endJob s c j.id
  match j.why with
  | .offerRead id => modOffer s id (fun o => { o with st := .queued })
  | .tagRead set =>
    let s := dropEntries s (fun e => e.kind == .tagRead && e.owner == j.id)
    installSet s c set
  | .scrub last => if last then scrubPassEnd s c else s
  | .repair => s.modCh (chan c) (fun q => { q with ppr := if q.ppr = 2 then 3 else q.ppr })
  | _ => s

/-- Read data returns from the channel for a line of an access whose column command has issued (R289). -/
def readReturn (s : State) (c id line : Nat) (out : EccOut) : State :=
  match job? s c id with
  | none => s
  | some j =>
    match j.lines[line]? with
    | none => s
    | some jl =>
      if j.write || jl.step ≠ 2 || jl.fin then s
      else
        let s := noteMiss s c j
        let s := modJob s c id (fun j => { j with lines := j.lines.modify line (fun l => { l with fin := true }) })
        let s := lineRead s c j jl line out
        match job? s c id with
        | none => s
        | some j => if j.lines.all (fun l => l.fin) then readEnd s c j else s

/-! ### Writes -/

/-- A write access has been made in DRAM (R43, R172, R187). -/
def writeEnd (s : State) (c id : Nat) : State :=
  match job? s c id with
  | none => s
  | some j =>
    if !j.write || !j.lines.all (fun l => l.step == 2) then s
    else
      let s := lifeUp (endJob (noteMiss s c j) c id) (11 + c) j.lines.length
      match j.why with
      | .host idx =>
        match entry? s idx with
        | none => s
        | some e =>
          if e.phase ≠ .dram id then s
          else modEntry s idx (fun x => { x with phase := .settle (keyWay ((j.lines.head?.map (fun l => l.key)).getD 0)) })
      | .fillWrite f => endFill s f
      | .tagWrite _ => dropEntries s (fun e => e.kind == .tagWrite && e.owner == id)
      | .ceWb idx => dropEntries (s.count Reg.chCntCeWb 1 c) (fun e => e.idx == idx)
      | .repair =>
        let s := dropEntries s (fun e => e.kind == .move && e.ch == c)
        let s := s.modCh (chan c) (fun q => { q with ppr := 6 })
        match (s.ch c).pprLoc with
        | some l => queueLog s LogKind.journal [Jr.soft, c, l.rank, l.bank, l.row]
        | none => s
      | .bgt =>
        dropEntries { s with sram := { s.sram with saveDone := true } } (fun e => e.kind == .bgt && e.owner == id)
      | _ => s

end Sys2Proof.Machine
end

