-- ==== Sys2Proof/Machine/TrainOps.lean ====
section
/-! DEFINITION. A channel's PHY and TSEQ: the sideband (R341–R346), the population (R309–R312), power (R345), spare lanes
(R336–R340) and training (R349–R364). -/

namespace Sys2Proof.Machine

/-! ### The sideband (R341–R344) -/

def quadId (q : Nat) : QuadId := ⟨q % 4, Nat.mod_lt _ (by decide)⟩

/-- Places in the order of R343. -/
def SbWho.rank : SbWho → Nat
  | .power => 0 | .temp => 1 | .firmware => 2 | .spd => 3

def State.modQuad (s : State) (q : Nat) (f : Quad → Quad) : State :=
  { s with quads := s.quads.set (quadId q) (f s.quads[quadId q]) }

/-- The waiting transaction that goes first (R343). -/
def sbFirst (l : List SbTxn) : Option SbTxn :=
  l.foldl (fun b t => match b with | none => some t | some x => if t.who.rank < x.who.rank then some t else b) none

/-- An idle quad starts its next transaction, at a transaction boundary (R343, R348). -/
def sbNext (s : State) (q : Nat) : State :=
  let s := quadBoundary s q
  let u := s.quads[quadId q]
  match u.cur, sbFirst u.wait with
  | none, some t => s.modQuad q (fun u => { u with cur := some t, wait := u.wait.erase t, tries := 0 })
  | _, _ => s

/-- A transaction joins its quad. -/
def sbQueue (s : State) (q : Nat) (t : SbTxn) : State := sbNext (s.modQuad q (fun u => { u with wait := u.wait ++ [t] })) q

/-- Slot code of a DIMM (R341), and the bit of a slot in `SB_STATUS.PRESENT`. -/
def slotCode (c d : Nat) : Nat := 2 * (c % 4) + d
def present (s : State) (c d : Nat) : Bool := getBits (s.rd (Reg.sbStatus.at (c / 4))) (8 + slotCode c d) 1 == 1

/-- Transactions of a kind for a channel that are waiting or in progress. -/
def sbOpen (s : State) (c : Nat) (p : SbTxn → Bool) : Bool :=
  let u := s.quads[quadId (c / 4)]
  (u.cur.toList ++ u.wait).any (fun t => t.ch == c && p t)

/-- The SPD reads of a channel's two slots: population, serial number and thermal data (DESIGN CHOICE: one word each). -/
def readSpd (s : State) (c : Nat) : State :=
  [0, 1].foldl (fun s d => [0, 1, 2].foldl (fun s off =>
    sbQueue s (c / 4) { who := .spd, ch := c, slot := slotCode c d, dev := 0, write := false, len := 4, offset := off }) s) s

/-- PMIC power commands for a channel's DIMMs (R345). -/
def pmicPower (s : State) (c : Nat) (on : Bool) : State :=
  ([0, 1].filter (present s c)).foldl (fun s d =>
    sbQueue s (c / 4) { who := .power, ch := c, slot := slotCode c d, dev := 1, write := true, len := 1, offset := 0x32,
                        data := if on then 1 else 0 }) s

/-! ### Population (R162, R309–R312) -/

/-- Fields of a DIMM's SPD word: laid out as `PHY_POP`, with the rank capacity in GiB in bits [31:20]. -/
def spdGen (w : Nat) : Nat := w % 4
def spdType (w : Nat) : Nat := w / 4 % 4
def spdRanks (w : Nat) : Nat := w / 64 % 8
def spdWidth (w : Nat) : Nat := w / 512 % 2
def spdStack (w : Nat) : Nat := w / 1024 % 4
def spdRate (w : Nat) : Nat := w / 4096 % 256
def spdGib (w : Nat) : Nat := w / 2 ^ 20 % 4096

/-- Rate codes of a generation (R311). -/
def rateCodes : Nat → List Nat
  | 1 => [16, 19, 21, 24, 27, 29, 32]
  | 2 => [48, 52, 56, 60, 64, 72, 80, 88]
  | 3 => [88, 104, 128]
  | _ => []

/-- The highest listed code that is no higher than `r`, 0 for none. -/
def roundRate (gen r : Nat) : Nat := (rateCodes gen).foldl (fun b x => if x ≤ r then max b x else b) 0

/-- A DIMM is one of the table of R309. -/
def dimmOk (w : Nat) : Bool :=
  match spdGen w with
  | 1 => decide (spdType w ≤ 1) && (spdRanks w == 1 || spdRanks w == 2 || spdRanks w == 4)
  | 2 => spdType w == 0 && (spdRanks w == 1 || spdRanks w == 2 || spdRanks w == 4)
  | 3 => spdType w == 2 && spdWidth w == 0 && (spdRanks w == 1 || spdRanks w == 2) && spdStack w == 0
  | _ => false

/-- The highest code that the table of R309 allows for a number of DIMMs. -/
def tableRate (gen dimms : Nat) : Nat :=
  match gen with
  | 1 => if dimms ≤ 1 then 32 else 29
  | 2 => if dimms ≤ 1 then 88 else 64
  | 3 => if dimms ≤ 1 then 128 else 0
  | _ => 0

/-- The DIMMs of a channel satisfy R309 and R310. -/
def popOk (l : List Nat) : Bool :=
  match l with
  | [] => true
  | w :: _ =>
    l.all dimmOk && l.all (fun x => spdGen x == spdGen w && spdType x == spdType w && spdWidth x == spdWidth w
      && spdStack x == spdStack w) && decide ((l.map spdRanks).sum ≤ 4) && (spdGen w != 3 || l.length == 1)

/-- The SPD words of the DIMMs present on a channel. -/
def spdWords (s : State) (c : Nat) : List Nat :=
  ([0, 1].filter (present s c)).map (fun d => kGet 0 (s.ch c).spd (4 * d))

/-- The sensors of a DIMM by their `SB_XFER.DEV` codes (R341): bits [11:8] of its thermal word (DESIGN CHOICE). -/
def sensorsOf (s : State) (c d : Nat) : List Nat :=
  [0, 2, 3].filter (fun dev => kGet 0 (s.ch c).spd (4 * d + 2) / 2 ^ (8 + dev) % 2 == 1)

/-- The code of a DIMM's ranks (R286): 1 DDR4 x4, 2 DDR4 x8, 3 DDR5 x4, 4 DDR5 x8; MRDIMM ranks use the DDR5 codes. -/
def eccCode (w : Nat) : Nat := (if spdGen w ≤ 1 then 1 else 3) + spdWidth w

/-- `CH_ECC_MODE` reports the code of each rank in use, 0 for none. -/
def eccModes (s : State) (c : Nat) (codes : List Nat) : State :=
  (List.range 4).foldl (fun s r => s.setFld (Fld.chEccModeCode r) (codes.getD r 0) c) s

/-- `PHY_POP` and the rank capacity follow from the SPDs (R310, R312). -/
def setPop (s : State) (c : Nat) : State :=
  let l := spdWords s c
  let w := l.headD 0
  let n := l.length
  let gen := spdGen w
  let max_ := roundRate gen ((l.map spdRate).foldl min (tableRate gen n))
  let s := s.wr (Reg.phyPop.at c) (dw (gen + spdType w * 4 + n * 16 + min 7 (l.map spdRanks).sum * 64 + spdWidth w * 512
    + spdStack w * 1024 + max_ * 4096))
  let gibs := l.map spdGib
  let units := gibs.foldl min (gibs.headD 0) * 262144
  let s := s.modCh (chan c) (fun q => { q with rankUnits := units })
  let s := s.setFlag Fld.chTempStatusNoSensor (([0, 1].filter (present s c)).any (fun d => (sensorsOf s c d).isEmpty)) c
  if popOk l then eccModes s c (l.flatMap (fun x => List.replicate (spdRanks x) (eccCode x)))
  else
    let s := (eccModes s c []).setFlag Fld.phyPopMismatch true c
    (s.setFld Fld.tierGeomRanks 0 c).info Ev.phyPopulation (Src.chan c) (dw (c % 16)) (s.rd (Reg.phyPop.at c))

/-- The channel's `TIER_GEOM` from its population (R162, R164). -/
def setGeom (s : State) (c : Nat) : State :=
  let ranks := s.fld Fld.phyPopRanks c
  let wr := if ranks = 0 then 1 else waysPerRank ranks
  let s := (s.setFld Fld.tierGeomRanks ranks c).setFld Fld.tierGeomSets (s.tagUnit0 c / wr) c
  let gibs := (spdWords s c).map spdGib
  if gibs.all (fun g => g == gibs.headD 0) then s.setFlag Fld.tierGeomTrim false c
  else ((s.setFlag Fld.tierGeomTrim true c).setFlag Fld.tierStatusRankTrim true).info Ev.tierRankTrim (Src.tier) (dw (c % 16))

/-- The temperature limit of DDR5 and MRDIMM channels is the lowest of their SPDs' (R276). -/
def setTempLimit (s : State) (c : Nat) : State :=
  let l := ([0, 1].filter (present s c)).map (fun d => kGet 0 (s.ch c).spd (4 * d + 2) % 128)
  if s.fld Fld.phyPopGen c ≤ 1 || l.isEmpty then s else s.setFld Fld.chTempLimit (l.foldl min (l.headD 0)) c

/-! ### VDDQ (R313, R314) -/

/-- The measured supply lies in its generation's range (R313). -/
def vddqIn (gen mv : Nat) : Bool :=
  match gen with
  | 1 => decide (1140 ≤ mv ∧ mv ≤ 1260)
  | 2 => decide (1045 ≤ mv ∧ mv ≤ 1155)
  | 3 => decide (1045 ≤ mv ∧ mv ≤ 1155)
  | _ => false

def vddqOk (s : State) (c : Nat) : Bool := vddqIn (s.fld Fld.phyPopGen c) (s.fld Fld.phyVddqMv c)

/-! ### Rates and timings (R307, R311, R312) -/

def fspRate (s : State) (c sp : Nat) : Nat := s.fld (Fld.chFspRateRate sp) c

/-- Timing registers loaded from eleven words, their implemented bits only. -/
def putTimings (s : State) (c : Nat) (ws : List Nat) : State :=
  ((timOffs c).zip ws).foldl (fun s x => s.wr x.1 (dw x.2 &&& bufferedMask x.1)) s

/-- The abacus loads a set point's timings (R303): the Last's image; where there is none, the values in force stand, and a
channel that has none computes them from the SPD (R448), whose values the sideband words do not carry: free values, with
the TURN_ fields 2 clocks. -/
def loadTimings (s : State) (c sp : Nat) : State :=
  match timingImage s sp (s.fld Fld.phyPopGen c) with
  | some (_, ws) => putTimings s c ws
  | none =>
    if (timOffs c).any (fun o => s.rd o != 0) then s
    else
      let (l, s) := (timOffs c).foldl (fun (acc : List Nat × State) _ =>
        let (v, s) := acc.2.free 32
        (acc.1 ++ [v.toNat], s)) ([], s)
      let s := putTimings s c l
      (((s.setFld Fld.chTimETurnRr 2 c).setFld Fld.chTimETurnWw 2 c).setFld Fld.chTimETurnRw 2 c).setFld Fld.chTimETurnWr 2 c

/-! ### Spare lanes (R317, R336–R340) -/

/-- Slice and slice lane of a channel lane (R317): DQ and DQS in slices 0 to 4, CA[19:0] in 5, CA[27:20], CS_n, CK and
ALERT_n in 6, CKE, ODT and RESET_n in 7. -/
def sliceOf (lane : Nat) : Nat × Nat :=
  if lane < 80 then (lane / 16, lane % 16)
  else if lane < 100 then ((lane - 80) / 4, 16 + (lane - 80) % 4)
  else if lane < 120 then (5, lane - 100)
  else if lane < 138 then (6, lane - 120)
  else if lane < 146 then (7, lane - 138)
  else if lane < 148 then (6, lane - 128)
  else (7, 8)

def spareWord (s : State) (c k : Nat) : Word := s.rd (Reg.phySpareMap.at c k)
def spareValid (s : State) (c k : Nat) : Bool := Fld.phySpareMapValid.of (spareWord s c k) == 1
def spareBad (s : State) (c k : Nat) : Bool := Fld.phySpareMapBad.of (spareWord s c k) == 1

/-- The spare that serves a slice lane, if one does. -/
def spareOf (s : State) (c slice lane : Nat) : Option Nat :=
  [2 * slice, 2 * slice + 1].find? (fun k => spareValid s c k && Fld.phySpareMapLane.of (spareWord s c k) == lane)

/-- A slice has a good spare left (R340). -/
def spareLeft (s : State) (c slice : Nat) : Option Nat :=
  [2 * slice, 2 * slice + 1].find? (fun k => !spareValid s c k && !spareBad s c k)

/-- The channel's spare inventory is updated (R339, R340). -/
def spareBooks (s : State) (c : Nat) : State :=
  let ks := List.range 16
  let used := (List.range 8).foldl (fun n sl =>
    n + (spareValid s c (2 * sl)).toNat * 4 ^ sl + (spareValid s c (2 * sl + 1)).toNat * 4 ^ sl) 0
  let s := s.setFld Fld.phySpareInvUsed used c
  let s := s.setFld Fld.phySpareInvFree (ks.countP (fun k => !spareValid s c k && !spareBad s c k)) c
  let s := s.setFld Fld.phySpareInvBad (ks.countP (fun k => spareBad s c k)) c
  s.setFlag Fld.phyStatusSpareLow ((List.range 8).any (fun sl => (spareLeft s c sl).isNone)) c

/-- A spare comes behind a slice lane (R336, R339). -/
def putSpare (s : State) (c k lane : Nat) : State :=
  spareBooks (s.wr (Reg.phySpareMap.at c k) (dw (lane % 32 + 32))) c

/-- A lane fails (R337): a spare already behind it is bad; the lowest-numbered free spare of its slice comes in, is logged
and reported. None when no good spare is left. -/
def spareLane (s : State) (c lane : Nat) : Option State :=
  let (slice, sl) := sliceOf lane
  let s := match spareOf s c slice sl with
    | some k => spareBooks (s.wr (Reg.phySpareMap.at c k) 0x40) c
    | none => s
  match spareLeft s c slice with
  | none => none
  | some k =>
    let s := (putSpare s c k sl).count Reg.phyCntSpare 1 c
    let s := s.info Ev.phySpare (Src.chan c) (dw (c % 16 + lane % 256 * 256 + k * 2 ^ 16))
    some (queueLog s LogKind.lane [c, slice, k % 2, sl])

/-- The stored substitutions are applied at start (R339): the OTP record's first, then the log's. -/
def storedSpares (s : State) : State :=
  let otp : List Nat := match otpValid s 4 with
    | none => []
    | some slot =>
      let b := otpSlotBytes s 4 slot
      (List.range (min 125 (leNat ((b.drop 2).take 2)))).map (fun i => leNat ((b.drop (4 + 2 * i)).take 2))
  (otp ++ laneEntries s).foldl (fun s e =>
    if e / 2 ^ 15 % 2 = 0 then s
    else
      let c := e % 16
      let slice := e / 16 % 8
      let lane := e / 256 % 32
      let s := match spareOf s c slice lane with
        | some k => s.wr (Reg.phySpareMap.at c k) 0
        | none => s
      putSpare s c (2 * slice + e / 128 % 2) lane) s

/-- The device that a data or strobe lane belongs to on an x4 rank (R319, R340). -/
def laneDevice (lane : Nat) : Option Nat :=
  if lane < 80 then some (lane / 4) else if lane < 100 then some (lane - 80) else none

/-- A lane without a spare is covered by marking its device in every rank (R340); none where it cannot be. -/
def coverLane (s : State) (c lane : Nat) : Option State :=
  match laneDevice lane with
  | none => none
  | some dev =>
    let ranks := List.range (s.fld Fld.phyPopRanks c)
    let has (r : Nat) : Bool := s.fld (Fld.chMarkValid r) c == 1
    let same (r : Nat) : Bool := has r && s.fld (Fld.chMarkDev r) c == dev
    if s.fld Fld.phyPopWidth c ≠ 0 || ranks.any (fun r => has r && !same r) then none
    else some ((ranks.filter (fun r => !has r)).foldl (fun s r => markDevice s c r dev 3) s)

/-! ### Training (R349–R364) -/

/-- `TRN_STATUS` follows the training (R386). -/
def showTraining (s : State) (c phase : Nat) (gather : Bool) (sp : Nat) : State :=
  ((s.setFld Fld.trnStatusPhase phase c).setFlag Fld.trnStatusGather gather c).setFld Fld.trnStatusSetpoint sp c

/-- The seed source of a training (R350). -/
def seedSource (s : State) (c sp : Nat) : Nat :=
  if s.flag Fld.trnCtlDefaults c then 3
  else if getBits (s.rd (Reg.trimValid.at c)) sp 1 = 1 then 0
  else if logSeeds s c sp then 1
  else if lastSeeds s sp (s.fld Fld.phyPopGen c) then 2
  else 3

/-- A phase has an entry for the channel's population (R353). -/
def phaseApplies (s : State) (c p : Nat) : Bool :=
  if p = 3 then decide (2 ≤ s.fld Fld.phyPopGen c)
  else if p = 6 then s.fld Fld.phyPopType c != 0
  else true

/-- The next phase of a training after `p`. -/
def nextPhase (s : State) (c p : Nat) : Nat :=
  ((List.range 12).find? (fun x => decide (p < x) && phaseApplies s c x)).getD 12

/-- Data is gathered in phases 2 to 10 (R362). -/
def gathers (p : Nat) : Bool := decide (2 ≤ p ∧ p ≤ 10)

/-- A training begins at phase 1 of a set point (R350, R353): `TRN_CTL` applies. -/
def startTraining (s : State) (c sp : Nat) : State :=
  let s := if unitMayApply s then applyReg s (Reg.trnCtl.at c) else s
  let s := s.setFld Fld.trnStatusSource (seedSource s c sp) c
  let s := showTraining s c 1 false sp
  s.modCh (chan c) (fun q => { q with trn := .running 1 sp, trnFrom := s.us, trnRetries := 0, trnTarget := none })

/-! ### Staged TSEQ images (R384, R511) -/

/-- `IMG_STATUS` follows the images that wait for their switch (R516). -/
def imgBooks (s : State) : State :=
  let b := s.pseqStaged.isSome || !s.tseqStaged.isEmpty
  (s.setFlag Fld.imgStatusStaged b).setFlag Fld.imgStatusBusy b

/-- A staged TSEQ image takes over a channel: a training under way restarts at phase 1. -/
def switchTseq (s : State) (c : Nat) : State :=
  match kFind s.tseqStaged c with
  | none => s
  | some w =>
    let s : State := { s with tseqStaged := kErase s.tseqStaged c }
    let s := (s.setFld Fld.imgTseqVerVersion (w % 2 ^ 16) c).setFld Fld.imgTseqVerIfrev (w / 2 ^ 16 % 256) c
    let s := s.setFlag Fld.imgTseqVerPending false c
    let s := s.setFld Fld.spareInvImgRomTseq ((s.fld Fld.spareInvImgRomTseq) &&& (0xFFFF ^^^ 2 ^ (c % 16)))
    let s := s.count Reg.svcCntImgSwitch
    let s := s.info Ev.imageSwitch Src.pseq (dw (1 + w % 2 ^ 16 * 2 ^ 16)) (dw (2 ^ (c % 16)))
    let s := imgBooks s
    match (s.ch c).trn with
    | .running _ sp => if (s.ch c).st = .retrain then startTraining s c sp else s
    | _ => s

/-- The set point that TRAIN or RETRAIN trains at, with its rate settled (R312, R488). -/
def trainPoint (s : State) (c : Nat) : Nat × State :=
  let gen := s.fld Fld.phyPopGen c
  let max_ := s.fld Fld.phyPopMaxrate c
  let cur := s.fld Fld.chFreqCurrent c
  let rate := fspRate s c cur
  if s.mode != .train && rate != 0 && decide (rate ≤ max_) then (cur, s)
  else
    let want := fspRate s c 0
    let r := roundRate gen (if want = 0 then max_ else min want max_)
    (0, (s.setFld (Fld.chFspRateRate 0) r c).setFld Fld.chFreqCurrent 0 c)

/-- The serial number that the journal holds for a DIMM, or will hold once its queue is written. -/
def jrSerialNow (s : State) (c d : Nat) : Nat :=
  match (s.flash.log.filter (fun r => r.kind == LogKind.journal && r.body.take 3 == [Jr.module, c, d])).getLast? with
  | some r => r.body.getD 3 0
  | none => jrSerial s c d

/-- The ranks of a DIMM (R310). -/
def dimmRanks (s : State) (c d : Nat) : List Nat :=
  let per := if s.fld Fld.phyPopDimms c = 0 then 1 else s.fld Fld.phyPopRanks c / s.fld Fld.phyPopDimms c
  (List.range per).map (fun r => d * per + r)

/-- A module takes the place of another (R486): the old one's marks and repair records go. -/
def newModule (s : State) (c d serial : Nat) : State :=
  let s := queueLog s LogKind.journal [Jr.module, c, d, serial]
  (dimmRanks s c d).foldl (fun s r =>
    let s := (s.setFld (Fld.chMarkDev r) 0 c).setFld (Fld.chMarkValid r) 0 c
    let s := queueLog s LogKind.journal [Jr.dropped, c, r]
    s.modCh (chan c) (fun q => { q with
      softRows := q.softRows.filter (fun l => l.rank != r), hardRows := q.hardRows.filter (fun l => l.rank != r) })) s

/-- Before phase 2 of a training: the journal's marks are applied, and its soft repairs reissued once the DIMMs have been
reset (R488, R501), for the modules whose serial numbers it holds; a module it does not know is entered in it. With the
ROM PSEQ image no soft repair is made (R446). -/
def applyJournal (s : State) (c : Nat) : State :=
  let s := ([0, 1].filter (present s c)).foldl (fun s d =>
    let serial := kGet 0 (s.ch c).serial d
    if serial = jrSerialNow s c d then s else newModule s c d serial) s
  let known := (([0, 1].filter (fun d => present s c d && kGet 0 (s.ch c).serial d == jrSerial s c d)).map (dimmRanks s c)).flatten
  let touched (r : Nat) : Bool := s.flash.log.any (fun x => x.kind == LogKind.journal && (x.body.take 3 == [Jr.unmark, c, r]
    || x.body.take 3 == [Jr.dropped, c, r]))
  let s := (known.filter (fun r => !touched r)).foldl (fun s r =>
    let w := logCell s 6 (jrCell c (5 + r))
    if w = 0 then s else (s.setFld (Fld.chMarkDev r) (w - 1) c).setFld (Fld.chMarkValid r) 1 c) s
  if s.flag Fld.spareInvImgRomPseq || !((s.ch c).wasReset || s.mode == .train) then s
  else
    let rows := ((jrRows s c).filter (fun r => r.2.1 == 1 && known.contains r.2.2.rank)).map (fun r => r.2.2)
    s.modCh (chan c) (fun q => { q with softRows := rows, wasReset := false })

/-- The PHY is ready, so the training itself begins (R314, R337, R345): the generator is locked, the drivers are on, and
the modules are out of self-refresh. -/
def beginTraining (s : State) (c : Nat) : State :=
  let (sp, s) := trainPoint s c
  let s := loadTimings (setTempLimit (applyJournal s c) c) c sp
  let s := ((s.setFlag Fld.phyStatusLocked true c).setFlag Fld.phyStatusDrvOn true c).setFlag Fld.phyStatusVddqOk true c
  let s := exited (s.modCh (chan c) (fun q => { q with powered := true, book := [], srRanks := [] })) c
  startTraining s c sp

/-- The preparation of a training ends once the SPDs are read, the power is good and VDDQ is in range (R314, R345). -/
def prepTurn (s : State) (c : Nat) : State :=
  if (s.ch c).trn != .prep || sbOpen s c (fun t => t.who == .spd || t.who == .power) then s
  else if s.fld Fld.phyPopGen c = 0 || s.flag Fld.phyPopMismatch c then s
  else if vddqOk s c && s.flag Fld.phyStatusDimmPwr c && s.pins.pwrAck.getLsbD (3 + c) then beginTraining s c
  else s

/-- A training is abandoned or over: `TRN_STATUS` reads 0 in PHASE and GATHER. -/
def endTraining (s : State) (c : Nat) (t : TrnSt) : State :=
  (showTraining s c 0 false (s.fld Fld.trnStatusSetpoint c)).modCh (chan c) (fun q => { q with trn := t, trnTarget := none })

/-- A training fails (R356, R489): EV_TRN_FAIL with the fault, and the channel is left out. -/
def failTraining (s : State) (c sp phase : Nat) (lane : Bool) : State :=
  let s := (endTraining s c .idle).setFlag Fld.trnStatusFailed true c
  let s := (s.event Prio.contained Ev.trnFail (Src.chan c) (dw (c % 16 + sp * 16 + phase * 256)))
  let s := phyFault s c (if lane then 4 else 5)
  let s := if s.flag Fld.chFreqBusy c then freqRefuse s c (s.ch c).freqTo 6 else s
  if (s.ch c).st = .retrain then
    let s := (s.count Reg.chCntRetrainFail 1 c).setFlag Fld.chRetrainCleanRun false c
    let plan := if lane && s.flag Fld.svcPolicyAutoRetireCh then 3 else 0
    setChSt (s.modCh (chan c) (fun q => { q with trained := false, plan := plan })) c .fenced Why.flow
  else s.setFld Fld.tierGeomRanks 0 c

/-- A training fails in its preparation (R356, R488): no phase of it has begun, and the set point is the current one. -/
def failPrep (s : State) (c : Nat) : State := failTraining s c (s.fld Fld.chFreqCurrent c) 0 false

/-- The lines that training places: transmit lines of every lane, receive lines of DQ, DQS and ALERT_n lanes. -/
def trimLines : List (Nat × Bool) :=
  (List.range 149).map (fun l => (l, true)) ++ (List.range 100).map (fun l => (l, false)) ++ [(146, false), (147, false)]

/-- The settings that a training found (R322, R351): free values in the layout of `PHY_LANE_DATA`, end taps held back. -/
def placeTrims (s : State) (c sp : Nat) : State :=
  trimLines.foldl (fun s x =>
    let (v, s) := s.free 32
    s.modCh (chan c) (fun q => { q with trims := kPut q.trims (trimKey sp x.1 x.2) (v &&& 0x7F1FFF) })) s

/-- What the DRAM's own registers report at a training (R281, R284, R496): free values. -/
def readModules (s : State) (c : Nat) : State :=
  (List.range (s.fld Fld.phyPopRanks c)).foldl (fun s r =>
    let (a, s) := s.free 32
    let (b, s) := s.free 16
    let m : RankModes := { rfm := a.getLsbD 0, required := a.getLsbD 1, initial := (a >>> 2).toNat % 2 ^ 10, maximum := b.toNat }
    let s := s.modCh (chan c) (fun q => { q with modes := kPut q.modes r m })
    let (n, s) := (List.range (s.groups c)).foldl (fun (acc : Nat × State) g =>
      let (v, s) := acc.2.free 8
      (acc.1 + v.toNat, s.modCh (chan c) (fun q => { q with pprFree := kPut q.pprFree (r * 64 + g) v.toNat }))) (0, s)
    s.setFld (Fld.chPprFreeFree r) (min n 255) c) s

/-- End taps are released on some line of the channel (R326). -/
def releasedLines (s : State) (c : Nat) : Nat :=
  let sp := s.fld Fld.chFreqCurrent c
  (s.ch c).trims.countP (fun e => e.1 / 512 == sp && getBits e.2 13 2 != 0)

def endtapBooks (s : State) (c : Nat) : State :=
  let n := releasedLines s c
  (s.setFld Fld.phyEndtapReleased n c).setFlag Fld.phyStatusEndtap (n != 0) c

/-- A change of set point has been made (R303 step 8, R363). -/
def freqDone (s : State) (c : Nat) : State :=
  let s := (s.setFlag Fld.chFreqBusy false c).count Reg.chCntFreq 1 c
  let s := s.info Ev.freqDone (Src.chan c) (dw (c % 16 + (s.ch c).freqFrom % 4 * 16 + s.fld Fld.chFreqCurrent c * 64))
  s.modCh (chan c) (fun q => { q with freq := .none, freqTries := 0 })

/-- A training ends well (R351, R356, R357, R489, R521). -/
def finishTraining (s : State) (c sp : Nat) : State :=
  let from_ := (s.ch c).trnFrom
  let s := placeTrims s c sp
  let s := s.setFld Fld.trimValidValid ((s.rd (Reg.trimValid.at c)).toNat % 16 ||| 2 ^ sp) c
  let s := s.setFld Fld.chFreqCurrent sp c
  let s := readModules (endtapBooks s c) c
  let s := (endTraining s c .done).count Reg.trnCntRun 1 c
  let s := s.info Ev.trnDone (Src.chan c) (dw (c % 16 + sp * 16 + s.fld Fld.trnStatusSource c * 256))
    (dw (min (s.us - from_) 0xFFFFFFFF))
  let s := s.modCh (chan c) (fun q => { q with
    phyCause := q.phyCause &&& 0x01#8, raa := [], trackers := [], trackRefs := [], corr := [], passes := [], calTaps := [] })
  let s := if (s.ch c).phyCause = 0 then causeEnds s (42 + c) else s
  let s := if s.flag Fld.chFreqBusy c then freqDone s c else s
  if (s.ch c).st = .retrain then
    let old := (s.ch c).geomOld
    let s := setGeom s c
    let s := if old ≠ 0 && s.sets c ≠ old then s.info Ev.svcGeom (Src.chan c) (dw (c % 16)) (dw (s.sets c)) else s
    let s := s.setFlag Fld.chRetrainCleanRun true c
    queueLog s LogKind.cal [c]
  else setGeom s c

/-- The writes that an immediate fence kept in PLAIN are applied when their channel has trained (R482). -/
def applyKept (s : State) (c : Nat) : State :=
  (keptWrites s c).foldl (fun s e =>
    let v := e.produced.getD (0, false)
    let way := (s.plainPlace e.page).2.2
    let t := s.tag e.ch e.set way
    let b := bit64 e.sector
    let s := putLine s e.ch e.set way e.sector v.1
    let s := s.setTag e.ch e.set way { t with poison := if v.2 then t.poison ||| b else t.poison &&& ~~~b }
    releaseEntry s e) s

/-- A trained channel leaves RETRAIN once its lane-sparing records are written (R339, R468, R479). -/
def leaveRetrain (s : State) (c : Nat) : State :=
  if (s.ch c).st = .retrain && (s.ch c).trn == .done
      && !s.flash.log.any (fun r => r.kind == LogKind.lane && r.body.head? == some c) then
    let s := s.modCh (chan c) (fun q => { q with trn := .idle, trained := true })
    if (s.ch c).unclean then
      let s := s.count Reg.chCntSalvage 1 c
      let s := setFreeze s c false
      let s := setChSt s c .fencing Why.flow
      s.modCh (chan c) (fun q => { q with unclean := false, fenceFrom := s.us, fenceWarned := false, walker := some 0 })
    else setChSt (if s.mode = .plain then applyKept s c else s) c .fenced Why.flow
  else s

/-- A training gives way to a change of set point (R362, R363): its data is discarded, the ranks enter self-refresh and the
generator relocks at the new rate. -/
def abortTraining (s : State) (c target : Nat) : State :=
  match (s.ch c).trn with
  | .running phase sp =>
    let s := s.count Reg.trnCntAbort 1 c
    let s := s.info Ev.trnAbort (Src.chan c) (dw (c % 16 + sp * 16 + target % 4 * 64 + phase * 256))
    let s := endTraining s c .idle
    s.modCh (chan c) (fun q => { q with
      freq := .relocking, freqFrom := sp, freqTo := target % 4, sr := .inside, srWhy := .freq })
  | _ => s

/-- A lane of a training channel failed or is weak (R337, R340): a spare, or its device marked, or the training fails. -/
def laneTrouble (s : State) (c sp phase lane : Nat) : State :=
  match spareLane s c lane with
  | some s => s
  | none => match coverLane s c lane with
    | some s => s
    | none => failTraining s c sp phase true

/-- The eye is below the limit of R371. -/
def eyeWeak (s : State) (c eye : Nat) : Bool :=
  decide (64 * eye < s.fld Fld.calCheckEyeMin c * s.fld Fld.phyTapUiTaps c)

/-- A sweep step of a training ends (R353–R356, R362). -/
def trainStep (s : State) (c : Nat) (r : TrnResult) : State :=
  match (s.ch c).trn with
  | .running phase sp =>
    match (if gathers phase then (s.ch c).trnTarget else none) with
    | some t => abortTraining s c t
    | none =>
      match r with
      | .stepOk => showTraining s c phase (gathers phase) sp
      | .laneFail lane _ => laneTrouble s c sp phase lane
      | .laneWeak lane _ eye => if eyeWeak s c eye then laneTrouble s c sp phase lane else s
      | .phaseFail =>
        let n := (s.ch c).trnRetries + 1
        -- the window around a seed is searched once before the full sweeps (R355)
        let full := if s.fld Fld.trnStatusSource c = 3 then n else n - 1
        if s.fld Fld.trnCtlRetries c ≤ full && (s.fld Fld.trnStatusSource c = 3 || n ≠ 1 || s.fld Fld.trnCtlRetries c = 0) then
          failTraining s c sp phase false
        else s.modCh (chan c) (fun q => { q with trnRetries := n })
      | .phaseOk =>
        let p := nextPhase s c phase
        if p ≤ 11 then
          (showTraining s c p (gathers p) sp).modCh (chan c) (fun q => { q with trn := .running p sp, trnRetries := 0 })
        else match (s.ch c).trnTarget with
          | none => finishTraining s c sp
          | some t =>
            -- phase 11 completes, then the change is applied (R362)
            let s := finishTraining (s.setFlag Fld.chFreqBusy false c) c sp
            let s := s.setFlag Fld.chFreqBusy true c
            (endTraining s c .idle).modCh (chan c) (fun q => { q with
              freq := .relocking, freqFrom := sp, freqTo := t, sr := .inside, srWhy := .freq })
  | _ => s

/-! ### Power of the DIMMs (R345, R484–R486, R488) -/

/-- A channel's DIMMs are powered off (R345, R484, R485): DDR5 and MRDIMM through their PMICs, DDR4 with the channel's
power group. Their content and the trim store are gone. -/
def powerOff (s : State) (c : Nat) : State :=
  let s := if 2 ≤ s.fld Fld.phyPopGen c then pmicPower s c false
    else { s with pins := { s.pins with pwrReq := s.pins.pwrReq &&& ~~~(1#25 <<< (3 + c)) } }
  let s := ((s.setFlag Fld.phyStatusDimmPwr false c).setFlag Fld.phyStatusDrvOn false c).setFld Fld.trimValidValid 0 c
  let s := s.modCh (chan c) (fun q => { q with
    powered := false, trims := [], sr := .active, srWhy := .none, srRanks := [], warmLost := true, wasReset := true, debt := [],
    softRows := [], corr := [], passes := [] })
  -- staged writes kept in PLAIN are released unapplied (R483)
  let s := if s.mode = .plain then (keptWrites s c).foldl releaseEntry s else s
  { s with dram := s.dram.filter (fun e => e.1 / 2 ^ 34 != c) }

/-- A channel's DIMMs are powered on (R345, R488, R698). -/
def powerOn (s : State) (c : Nat) : State :=
  let s : State := { s with pins := { s.pins with pwrReq := s.pins.pwrReq ||| (1#25 <<< (3 + c)) } }
  if 2 ≤ s.fld Fld.phyPopGen c then pmicPower s c true
  else s.setFlag Fld.phyStatusDimmPwr (s.pins.pwrAck.getLsbD (3 + c)) c

/-- The SPDs of a channel have been read: its population follows, and in RETRAIN new modules lose the old ones' records
(R486). -/
def spdDone (s : State) (c : Nat) : State :=
  let s := setPop s c
  if s.mode = .load ∨ s.mode = .enumerate then s
  else
    let s := ([0, 1].filter (present s c)).foldl (fun s d =>
      let serial := kGet 0 (s.ch c).serial d
      if serial = jrSerialNow s c d then s
      else
        let s := newModule s c d serial
        s.info Ev.svcDimmNew (Src.chan c) (dw (c % 16 + d * 16)) (dw serial)) s
    if (s.ch c).trn == .prep && (s.flag Fld.phyPopMismatch c || s.fld Fld.phyPopGen c = 0) then
      failPrep s c
    else if (s.ch c).trn == .prep && !(s.ch c).powered then powerOn s c
    else s

end Sys2Proof.Machine
end

