-- ==== Sys2Proof/Machine/RepairOps.lean ====
section
/-! DEFINITION. Repair in service: the lines of a 4 KiB unit (R164), post-package repair (R496–R500), way retirement
(R201–R203, R504), the commands of a channel's state (R467–R494), and what a committed log record completes. -/

namespace Sys2Proof.Machine

/-! ### The lines of a unit (R164, R294) -/

/-- The lines of unit `i` of a rank, each with its ledger key and its place: a frame's sectors, a tag block's lines, or
lines that belong to nothing. -/
def unitLines (s : State) (c rank i : Nat) : List (LineKey × JobLine) :=
  let ranks := if s.ranks c = 0 then 1 else s.ranks c
  let wr := waysPerRank ranks
  let ways := (List.range 16).countP (fun w => rankOfWay ranks w == rank)
  (List.range 64).map (fun t =>
    let loc := s.unitLoc c rank i t
    let other := lineKeyOf c (2 ^ 23 + i % 2 ^ 23) rank t
    if i < s.tagUnit0 c then
      if decide (i % wr < ways ∧ i / wr < s.sets c) then
        let k := lineKeyOf c (i / wr) (firstWay ranks rank + i % wr) t
        (frameLedgerKey s k, { loc := loc, key := k })
      else (frameLedgerKey s other, { loc := loc, key := other })
    else
      let set := (8 * (i - s.tagUnit0 c) + t / 8) * ranks + rank
      if set < s.sets c then (.loc c (tagAddr set (t % 8)), { loc := loc, key := set })
      else (frameLedgerKey s other, { loc := loc, key := other }))

/-- The units of a DRAM row (R165). -/
def rowUnits (s : State) (c : Nat) (l : Loc) : List Nat :=
  let b := s.banks c
  let m := s.unitsPerRow c
  let j := l.row * b + (l.bank ^^^ (l.row % b))
  (List.range m).map (fun x => j * m + x)

def rowLines (s : State) (c : Nat) (l : Loc) : List (LineKey × JobLine) :=
  ((rowUnits s c l).map (unitLines s c l.rank)).flatten

/-! ### Way retirement (R201–R203, R504) -/

/-- Entries of the retired-ways record in use or asked for (R202). -/
def waysUsed (s : State) : Nat := s.retiredLog.length + s.retiring.length

/-- A retirement is refused (R202). -/
def retireRefuse (s : State) (c set way why : Nat) : State :=
  (s.setFlag Fld.tagStatusRefused true).info Ev.tierRetireRefused Src.tier (formS c set way) (dw why)

/-- A way retirement is asked for (R201, R202): step 1 follows once the set is in the tag cache. -/
def retireWay (s : State) (c set way : Nat) : State :=
  let t := s.tag c set way
  if t.retired || t.retirePend || s.retiring.any (fun r => r.1 == c && r.2.1 == set && r.2.2.1 == way) then
    retireRefuse s c set way 1
  else if (s.ch c).st ≠ .online then retireRefuse s c set way 2
  else if decide (8192 ≤ waysUsed s) || !logOpen s then retireRefuse s c set way 3
  else { s with retiring := s.retiring ++ [(c, set, way, 0)] }

def setRetireStep (s : State) (c set way step : Nat) : State :=
  { s with retiring := s.retiring.map (fun r => if r.1 = c && r.2.1 = set && r.2.2.1 = way then (c, set, way, step) else r) }

/-- The frame of a retiring way has an open offer. -/
def retireOffered (s : State) (c set way : Nat) : Bool :=
  s.media.offers.any (fun o => o.ch == c && o.set == set && o.way == way && o.dirty)

/-- The retirement's clean of the frame's dirty sectors (R201 step 3, R202), under context 0. -/
def retireClean (s : State) (c set way : Nat) : State :=
  if (s.tag c set way).dirty = 0 || retireOffered s c set way then s
  else (startClean s .retire c set way 0 (s.farDeadline (s.fld Fld.arbFarRepair)) false).2

/-- One turn of a retirement: its step 1, further cleans, its step 4, and its record (R201). -/
def retireTurn (s : State) (r : Nat × Nat × Nat × Nat) : State :=
  let (c, set, way, step) := r
  match step with
  | 0 =>
    match wantSet s c set 0 (s.farDeadline (s.fld Fld.arbFarRepair)) with
    | (false, s) => s
    | (true, s) => setRetireStep (s.setTag c set way { s.tag c set way with retirePend := true }) c set way 1
  | 2 =>
    let t := s.tag c set way
    if t.dirty ≠ 0 then retireClean s c set way
    else if retireOffered s c set way || wayBusy s c set way then s
    else
      let keep : Tag := if s.mode = .plain then { poison := t.poison, retired := true } else { retired := true }
      let s := s.setTag c set way keep
      let s : State := { s with pidx := s.pidx.filter (fun k => k != frameKey c set way) }
      setRetireStep s c set way 5
  | 5 =>
    if s.flash.log.any (fun x => x.kind == LogKind.ways && x.body == [c, set, way]) then s
    else queueLog s LogKind.ways [c, set, way]
  | _ => s

def retirePass (s : State) : State := s.retiring.foldl retireTurn s

/-- The retirement's record has been written (R201 step 5). -/
def wayLogged (s : State) (c set way : Nat) : State :=
  let s := s.setFld Fld.tierRetiredWays (s.fld Fld.tierRetiredWays c + 1) c
  let s := s.count Reg.tierCntRetire
  let s : State := { s with
    retiredLog := s.retiredLog ++ [(c, set, way)]
    retiring := s.retiring.filter (fun r => !(r.1 == c && r.2.1 == set && r.2.2.1 == way)) }
  s.info Ev.wayRetired Src.tier (formS c set way) (s.rd (Reg.tierRetired.at c))

/-- The ways whose frames lie in a row (R504). -/
def rowWays (s : State) (c : Nat) (l : Loc) : List (Nat × Nat) :=
  let ranks := s.ranks c
  let wr := waysPerRank ranks
  let ways := (List.range 16).countP (fun w => rankOfWay ranks w == l.rank)
  ((rowUnits s c l).filter (fun i => decide (i < s.tagUnit0 c ∧ i % wr < ways ∧ i / wr < s.sets c))).map (fun i =>
    (i / wr, firstWay ranks l.rank + i % wr))

/-! ### Post-package repair (R496–R500) -/

/-- A repair that is not made (R499), and the policy's answer (R504). -/
def pprNone (s : State) (c : Nat) (l : Loc) (why : Nat) : State :=
  let s := (s.count Reg.chCntPprNone 1 c).info Ev.pprNone (Src.chan c) (formC c l) (dw why)
  if s.flag Fld.svcPolicyAutoRetireWay then (rowWays s c l).foldl (fun s x => retireWay s c x.1 x.2) s else s

/-- The key of a bank group's free resources. -/
def pprGroup (s : State) (c : Nat) (l : Loc) : Nat := l.rank * 64 + l.bank % s.groups c

/-- Soft repairs are made by the running PSEQ image (R446). -/
def softAble (s : State) : Bool := !s.flag Fld.spareInvImgRomPseq

/-- The soft repair of a row begins (R497 step 1, R499), or waits for move buffers. -/
def startPpr (s : State) (c : Nat) (l : Loc) : State :=
  let ls := rowLines s c l
  let drop (s : State) : State := s.modCh (chan c) (fun q => { q with pprWant := q.pprWant.erase l })
  if kGet 0 (s.ch c).pprFree (pprGroup s c l) = 0 then pprNone (drop s) c l 1
  else if 256 < ls.length then pprNone (drop s) c l 2
  else if decide (256 < moveBufs s + ls.length) || decide (1024 < poolCount s .moveRes + ls.length) then s
  else
    let dl := s.farDeadline (s.fld Fld.arbFarRepair)
    let s := ls.foldl (fun s x => addEntry s
      { idx := 0, kind := .move, st := .wait, pool := .moveRes, ctx := 0, port := 0, deadline := dl, key := x.1, ch := c }) s
    (drop s).modCh (chan c) (fun q => { q with ppr := 1, pprLoc := some l })

/-- The access that a repair's move entries make: every line of the row. -/
def pprJob (s : State) (c : Nat) (l : Loc) (write : Bool) : State :=
  let es := s.ledger.filter (fun e => e.kind == .move && e.ch == c)
  let ls := ((rowLines s c l).zip es).map (fun x => { x.1.2 with idx := some x.2.idx })
  let (id, s) := newJob s c .repair write ls 0 (s.farDeadline (s.fld Fld.arbFarRepair)) false
  let s := es.foldl (fun s e => modEntry s e.idx (fun x => { x with st := .run, phase := .dram id, owner := id })) s
  s.modCh (chan c) (fun q => { q with ppr := if write then 5 else 2 })

/-- The channel's states in which a soft repair is made (R497). -/
def pprState (s : State) (c : Nat) : Bool :=
  (s.ch c).st == .online || (s.ch c).st == .fencing || (s.ch c).st == .returning

/-- One turn of a channel's repair. -/
def pprTurn (s : State) (c : Nat) : State :=
  let q := s.ch c
  match q.ppr, q.pprLoc with
  | 0, _ =>
    match q.pprWant with
    | [] => s
    | l :: _ => if softAble s && pprState s c && logOpen s then startPpr s c l else s
  | 1, some l =>
    if (s.ledger.filter (fun e => e.kind == .move && e.ch == c)).all (fun e => (earlier s e).isEmpty) then pprJob s c l false
    else s
  | 4, some l => pprJob s c l true
  | 6, some l =>
    if s.flash.log.any (fun r => r.kind == LogKind.journal && r.body == [Jr.soft, c, l.rank, l.bank, l.row]) then s
    else queueLog s LogKind.journal [Jr.soft, c, l.rank, l.bank, l.row]
  | 7, some l =>
    if s.flash.log.any (fun r => r.kind == LogKind.journal && r.body == [Jr.hard, c, l.rank, l.bank, l.row]) then s
    else queueLog s LogKind.journal [Jr.hard, c, l.rank, l.bank, l.row]
  | _, _ => s

/-- One resource of a row's bank group is used up (R496, R497). -/
def usePpr (s : State) (c : Nat) (l : Loc) : State :=
  let k := pprGroup s c l
  let s := s.modCh (chan c) (fun q => { q with pprFree := kPut q.pprFree k (kGet 0 q.pprFree k - 1) })
  let n := ((List.range (s.groups c)).map (fun g => kGet 0 (s.ch c).pprFree (l.rank * 64 + g))).sum
  s.setFld (Fld.chPprFreeFree l.rank) (min n 255) c

/-- The same row of a rank. -/
def sameRow (a b : Loc) : Bool := a.rank == b.rank && a.bank == b.bank && a.row == b.row

/-- A repair's journal record has been written (R497 step 5, R500). -/
def pprLogged (s : State) (c : Nat) (l : Loc) (hard : Bool) : State :=
  let s := s.info Ev.pprDone (Src.chan c) (formC c l) (dw hard.toNat)
  let s := usePpr (if hard then s.count Reg.chCntPprHard 1 c else s.count Reg.chCntPprSoft 1 c) c l
  s.modCh (chan c) (fun q => { q with
    ppr := 0, pprLoc := none
    rowBook := q.rowBook.filter (fun r => !(r.rank == l.rank && r.bank == l.bank && r.row == l.row))
    softRows := if hard then q.softRows.filter (fun x => !sameRow x l)
                else if q.softRows.any (fun x => sameRow x l) then q.softRows else q.softRows ++ [l]
    hardRows := if hard then q.hardRows ++ [l] else q.hardRows })

/-- The next hard repair that HARDEN asks for in SERVICE (R495, R500). -/
def hardenTurn (s : State) (c : Nat) : State :=
  let q := s.ch c
  if q.st != .service || q.ppr ≠ 0 || q.sr == .entering || !q.powered || !s.flag Fld.svcPolicyHarden || !logOpen s then s
  else match q.softRows with
    | [] => s
    | l :: _ => s.modCh (chan c) (fun q => { q with ppr := 7, pprLoc := some l })

/-! ### Commands of a channel's state (R467–R494) -/

/-- The commands of `CH_STATE`. -/
inductive ChCmd where
  | fence
  | service (off : Bool)
  | retrain | ret | retire | discard
  deriving DecidableEq, Repr

/-- The command word of `CH_STATE` (R516). -/
def ChCmd.word : ChCmd → Word
  | .fence => 0x100
  | .service off => if off then 0x600 else 0x200
  | .retrain => 0x800
  | .ret => 0x1000
  | .retire => 0x2000
  | .discard => 0x4000

/-- The command that a written word makes: exactly one command bit, POWER_OFF only beside SERVICE (R467, R469). -/
def ChCmd.ofWord (w : Word) : Option ChCmd :=
  match getBits w 8 7 with
  | 0x01 => some .fence
  | 0x02 => some (.service false)
  | 0x06 => some (.service true)
  | 0x08 => some .retrain
  | 0x10 => some .ret
  | 0x20 => some .retire
  | 0x40 => some .discard
  | _ => none

/-- Modes in which no command of a channel is taken (R469). -/
def Mode.noChCmd : Mode → Bool
  | .reset => true | .enumerate => true | .load => true | .train => true | .holdup => true | .safe => true | .recover => true
  | _ => false

/-- A transition or repair is in progress on the channel (`CH_STATE.BUSY`). -/
def chBusy (s : State) (c : Nat) : Bool :=
  let q := s.ch c
  q.st == .retrain || q.ppr != 0 || (q.st == .service && q.sr == .entering) || q.fencePend != 0
    || sbOpen s c (fun t => t.who == .power)

/-- A command is refused (R469). -/
def chRefuse (s : State) (c : Nat) (w : Word) : State :=
  let s := (s.setFlag Fld.chStateRefused true c).count Reg.svcCntRefused
  s.info Ev.svcRefused (Src.chan c) (dw (c % 16 + (s.ch c).st.code * 16)) w

/-- The geometry differs from the one in force at the fence (R487). -/
def newGeometry (s : State) (c : Nat) : Bool := (s.ch c).geomOld != 0 && (s.ch c).geomOld != s.sets c

/-- The table of R468 with its conditions, for a command. -/
def chAllowed (s : State) (c : Nat) (cmd : ChCmd) : Bool :=
  let q := s.ch c
  match cmd, q.st with
  | .fence, .online => true
  | .fence, .fencing => true
  | .fence, .returning => true
  | .service off, .fenced => !off || !q.unclean
  | .service _, .retired => true
  | .retrain, .fenced => present s c 0 || present s c 1
  | .retrain, .service => present s c 0 || present s c 1
  | .ret, .fenced => q.trained && !q.unclean && !(s.mode == .plain && newGeometry s c)
  | .ret, .returning => true
  | .retire, .fenced => logOpen s
  | .retire, .service => logOpen s
  | .discard, _ => q.unclean
  | _, _ => false

/-- SERVICE (R484, R489, R494). -/
def enterService (s : State) (c : Nat) (off : Bool) (why : Nat) : State :=
  let was := (s.ch c).st
  let s := setChSt s c .service why
  let s := s.modCh (chan c) (fun q => { q with trained := false })
  if was = .retired then queueLog s LogKind.journal [Jr.unretire, c]
  else if off then powerOff s c
  else if (s.ch c).powered then startSr s c .service
  else s

/-- The window's count of RETRAINs (R492). -/
def countRetrain (s : State) (c : Nat) : State :=
  let n := min (s.fld Fld.chRetrainCount c + 1) 15
  (s.count Reg.chCntRetrain 1 c).setFld Fld.chRetrainCount n c

/-- RETRAIN (R488): the SPDs are read again where the DIMMs were powered off; the training follows once the PHY is
ready. -/
def enterRetrain (s : State) (c : Nat) (why : Nat) : State :=
  let s := countRetrain s c
  let s := setChSt s c .retrain why
  let old := (s.ch c).geomOld
  let sets := s.sets c
  let s := s.modCh (chan c) (fun q => { q with trn := .prep, trnFrom := s.us, geomOld := if old = 0 then sets else old })
  if (s.ch c).powered then prepTurn s c else readSpd s c

/-- RETURN (R490): both FREEZE bits cleared, the sweep from set 0. -/
def enterReturn (s : State) (c : Nat) (why : Nat) : State :=
  let s := setFreeze s c false
  let s := (s.setFld Fld.tierSweepFrontier 0 c).setFlag Fld.tierSweepActive true c
  let s := setChSt s c .returning why
  let s : State := { s with caches := s.caches.set (chan c) [] }
  let wake := (s.ch c).sr == .inside
  s.modCh (chan c) (fun q => { q with geomOld := 0, sr := if wake then .exiting else q.sr, srRanks := [] })

/-- RETIRE (R493). -/
def enterRetired (s : State) (c : Nat) (why : Nat) : State :=
  let s := queueLog s LogKind.journal [Jr.retire, c]
  let s := if (s.ch c).powered then powerOff s c else s
  let s := setChSt s c .retired why
  s.modCh (chan c) (fun q => { q with trained := false, plan := 0 })

/-- A staged write that DISCARD hands to media (R480). -/
def discardEntry (e : LEntry) : LEntry :=
  { e with bypass := true, fencing := false, through := true, sent := false, taken := false, framed := false, unit := false,
           phase := (match e.slot with | some _ => (if e.full then Phase.fresh else .result) | none => .fresh), st := .staged }

/-- DISCARD (R480): the kept writes go to media, and the channel's tags, units and persist entries are given up. -/
def discardChannel (s : State) (c : Nat) : State :=
  let kept := keptWrites s c
  let s := kept.foldl (fun s e => modEntry s e.idx discardEntry) s
  let tags := s.tags.filterMap (fun (e : Nat × Tag) =>
    if e.1 / 2 ^ 28 = c then (if e.2.retired then some (e.1, ({ retired := true } : Tag)) else none) else some e)
  let s : State := { s with tags := tags, pidx := s.pidx.filter (fun k => k / 2 ^ 28 != c), caches := s.caches.set (chan c) [] }
  let s := resumeCheck s
  let s := s.modCh (chan c) (fun q => { q with unclean := false })
  let s : State := { s with ledger := s.ledger.map (fun e => if e.ch = c && e.unclean then { e with unclean := false, bypass := true } else e) }
  s.info Ev.chDiscard (Src.chan c) (dw (c % 16)) (dw kept.length)

/-- The effect of an accepted command. -/
def chAct (s : State) (c : Nat) (cmd : ChCmd) (why : Nat) : State :=
  match cmd, (s.ch c).st with
  | .fence, .fencing => s
  | .fence, _ => orderlyFence s c why
  | .service off, _ => enterService s c off why
  | .retrain, _ => enterRetrain s c why
  | .ret, .returning => s
  | .ret, _ => enterReturn s c why
  | .retire, _ => enterRetired s c why
  | .discard, _ => discardChannel s c

/-- A firmware command of `CH_STATE` (R467, R469). -/
def chCommand (s : State) (c : Nat) (cmd : ChCmd) : State :=
  if s.modeNow.noChCmd || chBusy s c || !chAllowed s c cmd then chRefuse s c cmd.word
  else chAct ((s.setFlag Fld.chStateRefused false c).modCh (chan c) (fun q => { q with plan := 0 })) c cmd Why.command

/-! ### The repair policy's flow (R492, R495) -/

/-- What the repair policy does next with a channel. -/
def planTurn (s : State) (c : Nat) : State :=
  let q := s.ch c
  if s.modeNow.noChCmd || q.plan = 0 || q.st != .fenced || q.ppr ≠ 0 || q.sr == .entering then s
  else if q.plan = 1 then
    if q.empty || !(present s c 0 || present s c 1) then s
    else if decide (s.fld Fld.svcPolicyRetrainMax ≤ s.fld Fld.chRetrainCount c) then
      let s := s.info Ev.retrainLimit (Src.chan c) (dw (c % 16)) (dw (s.fld Fld.chRetrainCount c))
      s.modCh (chan c) (fun q => { q with plan := if s.flag Fld.svcPolicyAutoRetireCh then 3 else 0 })
    else enterRetrain (s.modCh (chan c) (fun q => { q with plan := 2 })) c Why.policy
  else if q.plan = 2 then
    if q.trained && !q.unclean then
      let s := s.modCh (chan c) (fun q => { q with plan := 0 })
      if s.mode = .plain && newGeometry s c then s else enterReturn s c Why.policy
    else s
  else if logOpen s then enterRetired s c Why.policy
  else s

/-! ### What a committed record completes (R201, R490, R497, R500) -/

/-- The record of an update has been written. -/
def recordDone (s : State) (r : LogRec) : State :=
  match r.kind, r.body with
  | 5, [c, set, way] => wayLogged s c set way
  | 6, [j, c] => if j = Jr.commit && (s.ch c).st == .returning then setChSt s c .online Why.flow else s
  | 6, [j, c, rank, bank, row] =>
    match (s.ch c).pprLoc with
    | some l =>
      if l.rank = rank && l.bank = bank && l.row = row && ((s.ch c).ppr == 6 || (s.ch c).ppr == 7) then
        pprLogged s c l (j == Jr.hard)
      else s
    | none => s
  | _, _ => s

/-- The log writer's turn: the oldest queued update begins. An update that changes nothing is complete as it stands, and on a
board without a flash every one is (DESIGN CHOICE). -/
def logPass (s : State) : State :=
  if s.flash.part = 0 then s.flash.log.foldl recordDone { s with flash := { s.flash with log := [] } }
  else match s.flash.log with
    | [] => s
    | r :: rest =>
      if logReady s && (runsOf s r).isEmpty then recordDone { s with flash := { s.flash with log := rest } } r
      else logTurn s

/-- A sweep that has finished ends the channel's return once the journal has its commit (R490). -/
def returnTurn (s : State) (c : Nat) : State :=
  if (s.ch c).st != .returning || s.flag Fld.tierSweepActive c then s
  else if s.flash.log.any (fun r => r.kind == LogKind.journal && r.body == [Jr.commit, c]) then s
  else queueLog s LogKind.journal [Jr.commit, c]

end Sys2Proof.Machine
end

