-- ==== Sys2Proof/Machine/SramOps.lean ====
section
/-! DEFINITION. The SRAM arrays' repairs: spare rows and columns (R560), spare groups and banks (R505–R507), and the
stored repairs that a start applies (R339, R560). -/

namespace Sys2Proof.Machine

/-- The array of a physical group (R548), 15 for a spare group. A group that several arrays share is named by the first. -/
def groupArray (g : Nat) : Nat :=
  if g < 40 then 0 else if g < 56 then 1 else if g < 73 then 2 else if g < 78 then 3 else if g < 95 then 4
  else if g < 99 then 5 else if g < 103 then 6 else if g < 119 then 8 else if g < 120 then 9 else if g < 121 then 6
  else if g < 122 then 10 else 15

/-- The first group of an array. -/
def arrayFirst : Nat → Nat
  | 0 => 0 | 1 => 40 | 2 => 56 | 3 => 73 | 4 => 78 | 5 => 95 | 6 => 99 | 7 => 120 | 8 => 103 | 9 => 119
  | 10 => 121 | 11 => 121 | 12 => 121 | 13 => 121 | _ => 122

/-- The spare bank of a group's array, if it has one: 72 for the ledger entries, 94 for staging (R506). -/
def spareBank (g : Nat) : Option Nat :=
  if decide (56 ≤ g ∧ g < 72) then some 72 else if decide (78 ≤ g ∧ g < 94) then some 94 else none

/-- A spare group or bank serves a group, or is on its way to. -/
def spareBusy (s : State) (n : Nat) : Bool :=
  s.sram.replaced.any (fun e => e.2 == n) || s.sram.copying.any (fun x => x.2 == n) || s.sram.waiting.any (fun x => x.2 == n)
    || (s.sram.marchStep != 0 && s.sram.marchSpare == n)

/-- A spare that can replace a group: its array's spare bank, else a spare group (R505, R506). -/
def freeSpare (s : State) (g : Nat) : Option Nat :=
  match spareBank g with
  | some b => if spareBusy s b then none else some b
  | none => if decide (122 ≤ g) then none else [122, 123, 124, 125, 126, 127].find? (fun n => !spareBusy s n)

/-- A free spare group, for a preserving march test (R559). -/
def freeGroup (s : State) : Option Nat := [122, 123, 124, 125, 126, 127].find? (fun n => !spareBusy s n)

/-- `SPARE_INV_SRAM` follows the repairs in force (R516). -/
def sramBooks (s : State) : State :=
  let used := s.sram.replaced.countP (fun e => decide (122 ≤ e.2))
  let s := (s.setFld Fld.spareInvSramGroupsFree (6 - used)).setFld Fld.spareInvSramGroupsUsed used
  let s := s.setFlag Fld.spareInvSramBankLedger (s.sram.replaced.any (fun e => e.2 == 72))
  let s := s.setFlag Fld.spareInvSramBankStaging (s.sram.replaced.any (fun e => e.2 == 94))
  s.setFld Fld.spareInvSramRowcol (min s.sram.fixes.length 0xFFFF)

/-- The word of a replacement in the repair record (R603). -/
def groupEntry (g spare : Nat) : Nat :=
  g % 128 + (if decide (122 ≤ spare) then 2 else 3) * 4096 + spare % 1024 * 2 ^ 16 + 2 ^ 31

/-- Spare rows, and spare column groups, of a macro in use (R549). -/
def macroUse (s : State) (g m : Nat) (row : Bool) : Nat :=
  s.sram.fixes.countP (fun f => f.group == g && f.mac == m && f.row == row)
def macroRoom (s : State) (g m : Nat) (row : Bool) : Bool := decide (macroUse s g m row < (if row then 4 else 2))

/-- A spare row or column group is brought in (R560). -/
def addFix (s : State) (f : SramFix) : State :=
  let s : State := { s with sram := { s.sram with fixes := s.sram.fixes ++ [f] } }
  let s := sramBooks (s.count Reg.sramCntRepair)
  let d0 := dw (f.group % 128 + f.mac % 32 * 128 + (if f.row then 0 else 4096))
  let s := s.eventOf Ev.sramRepair Src.sram 80 d0 (dw (f.index % 1024))
  queueLog s LogKind.sram [sramEntry f]

/-- The power group of the spare banks and groups (R697). -/
def askSpares (s : State) : State := { s with pins := { s.pins with pwrReq := s.pins.pwrReq ||| (1#25 <<< 24) } }

/-- The replacement of a group is under way: its spare's power comes first (R505 step 1), one copy at a time. -/
def copyTurn (s : State) : State :=
  match s.sram.copying, s.sram.waiting with
  | none, x :: rest =>
    if s.pins.pwrAck.getLsbD 24 && s.sram.marchStep = 0 then
      { s with sram := { s.sram with copying := some x, waiting := rest } }.setFlag Fld.sramStatusCopying true
    else s
  | _, _ => s

/-- A group is beyond in-macro repair (R505, R507, R560): its fault source, and its replacement where the policy allows and
a spare is free. -/
def replaceGroup (s : State) (g : Nat) : State :=
  let s : State := { s with sram := { s.sram with failed := g :: s.sram.failed.erase g } }
  if !s.flag Fld.svcPolicyAutoGroup || (kFind s.sram.replaced g).isSome || s.sram.copying.any (fun x => x.1 == g)
      || s.sram.waiting.any (fun x => x.1 == g) then s
  else match freeSpare s g with
    | none => s.info Ev.sramNoSpare Src.sram (dw (g % 128))
    | some n => copyTurn (askSpares { s with sram := { s.sram with waiting := s.sram.waiting ++ [(g, n)] } })

/-- The old group's domain is released, and the record written (R505 step 4). Source 81 holds while some group is beyond
repair and in service. -/
def groupReplaced (s : State) (g n : Nat) : State :=
  let s : State := { s with sram := { s.sram with
    replaced := kPut s.sram.replaced g n, failed := s.sram.failed.erase g, cols := s.sram.cols.filter (fun x => x.1 != g) } }
  let s := (sramBooks s).count Reg.svcCntGroup
  let s := s.info Ev.sramGroup Src.sram (dw (g % 128 + n % 128 * 256 + (if decide (122 ≤ n) then 0 else 2 ^ 16)))
  let s := queueLog s LogKind.sram [groupEntry g n]
  if s.sram.failed.isEmpty then causeEnds s 81 else s

/-- A group fails its test (R560): fault source 81, and its replacement. -/
def groupFails (s : State) (g : Nat) : State := replaceGroup (s.report 81 (some g)) g

/-- A failing row or column group is repaired, or the group is beyond in-macro repair (R560). The answer says whether it
was repaired. -/
def repairCells (s : State) (g m : Nat) (row : Bool) (index : Nat) : Bool × State :=
  if macroRoom s g m row then (true, addFix s { group := g, mac := m, row := row, index := index })
  else (false, groupFails s g)

/-- The stored repairs, applied at step 5 of a start: those of the OTP record first, then the log's (R560). -/
def storedRepairs (s : State) : State :=
  let otp : List Nat := match otpValid s 3 with
    | none => []
    | some slot =>
      let b := otpSlotBytes s 3 slot
      (List.range (min 126 (leNat ((b.drop 2).take 2)))).map (fun i => leNat ((b.drop (4 + 4 * i)).take 4))
  let log := (kRange s.flash.cells (4 * 2 ^ 16) 2048).map (fun e => e.2)
  let all := (otp ++ log).filter (fun w => w / 2 ^ 31 % 2 == 1)
  let fixes := all.foldl (fun (l : List SramFix) w => match sramOfEntry w with
    | some f => if l.contains f then l else l ++ [f]
    | none => l) []
  let repl := all.foldl (fun (m : KMap Nat) w =>
    if decide (2 ≤ w / 4096 % 4) then kPut m (w % 128) (w / 2 ^ 16 % 1024) else m) []
  let s : State := { s with sram := { s.sram with fixes := fixes, replaced := repl } }
  sramBooks (if repl.isEmpty then s else askSpares s)

end Sys2Proof.Machine
end

