-- ==== Sys2Proof/Machine/StartOps.lean ====
section
/-! DEFINITION. The start sequence (R426–R432, R442–R451): its steps as far as they follow from what the block holds, and
the clock's single ticks. -/

namespace Sys2Proof.Machine

/-! ### Single ticks (R397) -/

/-- The clock runs: REFCLK has locked once since the reset (R427). -/
def clockRuns (s : State) : Bool := s.start != .off && s.start != .refclk

/-- One tick of the time base, and of the uptime behind it (R397). The tick that makes an epoch boundary belongs to the
boundary's own command. -/
def idleTick (s : State) : State :=
  if !clockRuns s || s.timeBase.toNat % 1024 == 1023 then s
  else
    let us := decide (399 ≤ s.tickFrac)
    { s with timeBase := s.timeBase + 1, tickFrac := if us then 0 else s.tickFrac + 1,
             uptime := if us then s.uptime + 1 else s.uptime }

/-! ### Steps 1 to 7 -/

/-- Power groups of step 2 and of step 5 (R697). -/
def groupsUp (s : State) (l : List Nat) : Bool := l.all (fun g => s.pins.pwrAck.getLsbD g)
def stepTwoGroups : List Nat := [0, 1, 2]
def stepFiveGroups (s : State) : List Nat :=
  (List.range 21).map (fun n => n + 3) ++ (if s.pins.pwrReq.getLsbD 24 then [24] else [])

/-- The fallback address (R441). -/
def fallbackAddr (s : State) : State :=
  let pref := (otpValid s 1).isSome
  let s := (s.setFld Fld.chainStatusAddr (if pref then otpByte s 1 1 % 64 else 0)).setFld Fld.chainStatusSource (if pref then 2 else 3)
  let s := s.setFlag Fld.chainStatusValid true
  s.info Ev.chainAddr Src.chain (dw (s.fld Fld.chainStatusAddr + s.fld Fld.chainStatusSource * 64))

/-- LOAD begins: the Last is read, and the SPD of every slot (steps 8 and 9). -/
def beginLoad (s : State) : State :=
  let s := enterMode { s with start := .load } .load
  (List.range 16).foldl readSpd s

/-- RESET ends (step 7): HOLDUP where the hold-up is asked for, ENUMERATE otherwise, which a warm start leaves at once
(R441, R455). -/
def endReset (s : State) : State :=
  if s.pins.holdupReq then beginHoldup { s with start := .off }
  else
    let s := enterMode { s with start := .enumerate } .enumerate
    if s.warm then beginLoad s else s

/-! ### Step 12: register initialisation, held writes, TRAIN -/

/-- Everything that waits for the boundary of step 12 takes effect (R430). -/
def stepTwelve (s : State) : State :=
  if s.holding then s
  else
    let s : State := { s with holdRelease := false }
    let s := applyLimits s
    let s := (List.range 16).foldl (fun s c => applyTimings s c) s
    let was := s.flag Fld.mpCtlEnable
    let s := applyAll s (fun o => !mapOffs.contains o && !seedOffs.contains o)
    -- a port that the boundary disables or enables acts as at its own boundary (R256)
    applyContexts (enableChange s (s.flag Fld.mpCtlEnable) was)

/-- TRAIN's preparation of one channel (R431, R432, steps 13 and 14). -/
def prepChannel (s : State) (c : Nat) : State :=
  let none_ := (spdWords s c).isEmpty
  let s := s.modCh (chan c) (fun q => { q with empty := none_ })
  if none_ then s
  else if s.flag Fld.phyPopMismatch c then s.setFld Fld.tierGeomRanks 0 c
  else
    let s := s.setFld Fld.chFreqCurrent 0 c
    let s := s.modCh (chan c) (fun q => { q with trn := .prep, trnFrom := s.us })
    if (s.ch c).sr == .inside then s.setFlag Fld.phyStatusDimmPwr true c else powerOn s c

/-- TRAIN is entered (steps 13 and 14): the stored lane substitutions come first (R339). -/
def beginTrain (s : State) : State :=
  let s := enterMode { s with start := .train } .train
  (List.range 16).foldl prepChannel (storedSpares s)

/-- A channel after TRAIN takes the state that the log gives it, its arbiters frozen unless it is ONLINE (R466); one with a DIMM that was not trained reports its contained
fault (R356, R432). -/
def stateAfterTrain (s : State) (c : Nat) : State :=
  let done := (s.ch c).trn == .done
  let st : ChSt := if jrRetired s c then .retired else if done && !jrOpen s c then .online else .fenced
  let s := setFreeze (setChSt s c st Why.flow) c (st != .online)
  let s := s.modCh (chan c) (fun q => { q with trn := .idle, trained := done && st == .online || done && st == .fenced })
  if done || st == .retired || (s.ch c).empty || (s.ch c).phyCause != 0 then s else phyFault s c 5

/-- Every populated channel has finished or failed its training (R428). -/
def trainingOver (s : State) : Bool :=
  (List.range 16).all (fun c => match (s.ch c).trn with | .prep => false | .running _ _ => false | _ => true)

/-- The end of TRAIN's trainings: one calibration summary for all, and the channels' states (R428, R432). -/
def closeTraining (s : State) : State :=
  let done := (List.range 16).filter (fun c => (s.ch c).trn == .done)
  let s := s.setFld Fld.blkStatusTrained ((done.map (fun c => 2 ^ c)).sum)
  let s := if done.isEmpty then s else queueLog s LogKind.cal done
  let s := (List.range 16).foldl stateAfterTrain s
  { s with start := .enter, mpWaits := 0 }

/-! ### Step 17: the start mode (R451) -/

/-- The sweep of a channel begins at set 0 (R174). -/
def startSweep (s : State) (c : Nat) : State :=
  (s.setFld Fld.tierSweepFrontier 0 c).setFlag Fld.tierSweepActive true c

/-- Every ONLINE channel is swept, its tag-cache share first emptied (R174, R491). A FENCING channel's sweep stops where it
starts: no set of it lies below its frontier any more. -/
def sweepAll (s : State) : State :=
  (List.range 16).foldl (fun s c =>
    match (s.ch c).st with
    | .online => startSweep { s with caches := s.caches.set (chan c) [] } c
    | .fencing => s.setFld Fld.tierSweepFrontier 0 c
    | _ => s) s

/-- The mode that a start enters: a TIERED start without a trained channel enters BYPASS (R451). -/
def startMode (s : State) : Mode :=
  let m := (Mode.ofCode (s.fld Fld.blkStartMode)).getD .plain
  if m == .tiered && s.fld Fld.blkStatusTrained == 0 then .bypass else m

/-- The start mode is entered at an epoch boundary (R160, R161, R426 step 17), unless a tiered start waits for the media
port. -/
def enterStart (s : State) : State :=
  let m := startMode s
  if (m == .tiered || m == .bypass) && s.media.st != .up then
    { s with start := .waitMp }.setFlag Fld.blkStatusMpWait true
  else
    let given := mapOffs.any (fun o => (kFind s.pend o).isSome)
    let ok := given && mapOk s
    let s := applyMap s true
    let s := if ok then s else buildMap s
    let s := s.setFlag Fld.blkStatusMpWait false
    let s := s.wr Reg.tierPlainPages.at (dw (64 * s.plainQ))
    let s := if m == .bypass && s.fld Fld.blkStartMode == 5 then s.info Ev.tierNone Src.block else s
    let s : State := { s with start := .running }
    let s := s.wr Reg.blkReady.at (dw (min s.us 0xFFFFFFFF))
    -- in PLAIN a warm start keeps the metadata of the channels that kept their contents (R206)
    let s := if m == .plain then
        (List.range 16).foldl (fun s c => if (s.ch c).st == .online && (!s.warm || (s.ch c).warmLost) then startSweep s c else s) s
      else sweepAll s
    let s := enterMode s m
    s.info Ev.startDone Src.block (s.rd Reg.blkStatus.at) (s.rd Reg.blkReady.at)

/-! ### The end of RECOVER (R540, R544) -/

/-- RECOVER still completes what the ledger kept (R139): every entry, but those of a channel out of service and the offers
that media has deferred. -/
def keptOpen (s : State) : Bool :=
  s.ledger.any (fun e =>
    let c := match e.key with | .loc n _ => n | _ => e.ch
    (e.bypass || channelServes s c)
      && !(e.pool == .offerRes && s.media.offers.any (fun o => o.id == e.owner && o.st == .deferred)))

/-- Step 7 of R544: the mode in which SAFE was entered, SAFE_n released, the ports through RESYNC, EV_RECOVER and the
episode's record (R54, R457, R540). A start's mode begins again; a hold-up asked for meanwhile follows at once (R458). -/
def recoverEnd (s : State) : State :=
  let m := s.resume
  let s : State := { s with mode := .recover, flt := { s.flt with finishing := false }, pins := { s.pins with safeN := true } }
  let from_ := (s.rd Reg.fltEpStartLo.at).toNat + (s.rd Reg.fltEpStartHi.at).toNat * 2 ^ 32
  let len := min (s.us - from_) 0xFFFFFFFF
  let s := s.wr Reg.fltEpLen.at (dw len)
  let s := match m with
    | .enumerate =>
      let s := enterMode { s with start := .enumerate } .enumerate
      if s.warm then beginLoad s else s
    | .load => beginLoad s
    | .train => beginTrain s
    | m => enterMode s m
  let s := (List.range 8).foldl (fun s p =>
    if s.ports[portOf p].st = .closed then s else resyncPort s (portOf p) 3) s
  let s := s.info Ev.recover Src.fault (dw len) (dw s.flt.merged)
  let s := queueLog s LogKind.recovery [from_, m.code, len, s.flt.merged]
  if s.pins.holdupReq then beginHoldup s else s

/-- RECOVER ends once the kept entries have been completed (R544 step 6); a warm reset that quiesces ends it otherwise. -/
def recoverTurn (s : State) : State := if s.flt.finishing && !s.warmFlush && !keptOpen s then recoverEnd s else s

/-! ### The turns of a start -/

/-- The start goes on as far as what it waits for has come. -/
def startTurn (s : State) : State :=
  match s.start with
  | .power => if groupsUp s stepTwoGroups then { s with start := .otp } else s
  | .last => if groupsUp s (stepFiveGroups s) && s.sram.march.isNone && s.sram.waiting.isEmpty && s.sram.copying.isNone then endReset s
             else s
  | .train => if trainingOver s then closeTraining s else s
  | _ => s

end Sys2Proof.Machine
end

