-- ==== Sys2Proof/Machine/Settle.lean ====
section
/-! DEFINITION. What follows from a command without another one: the turns of the ledger, the directory, the media port,
the fences, the repairs, the flash log and the start, and the fault collector's reactions. A command's own effect comes
first, then every one of these as far as it can go. -/

namespace Sys2Proof.Machine

/-- The ledger, the directory and the frames work: in the serving modes and TEST, and in a hold-up from PLAIN, whose
requests finish in the frames (R456). -/
def ledgerRuns (s : State) : Bool :=
  match s.mode with
  | .plain => true | .tiered => true | .drain => true | .bypass => true | .test => true
  | .holdup => s.prev == .plain
  | _ => false

/-- One turn of every entry, allocation and fill, and the cleans that walkers have left behind. -/
def ledgerPass (s : State) : State :=
  let s := (s.ledger.map (fun e => e.idx)).foldl turnEntry s
  let s := (s.allocs.map (fun a => a.id)).foldl turnAlloc s
  let s := (s.media.fills.map (fun f => f.id)).foldl turnFill s
  startFetches (lateCleans s)

/-- Write-throughs owed in a hold-up leave with the flush (R249). -/
def throughPass (s : State) : State :=
  (s.ledger.filter (fun e => e.through && !e.sent && e.judged && e.produced.isSome)).foldl (fun s e =>
    match entry? s e.idx with
    | some e => if e.sent then s else queueThrough s e
    | none => s) s

/-- A FENCED channel that is not training switches to its staged image at once (R511). -/
def imageTurn (s : State) (c : Nat) : State :=
  if (s.ch c).st = .fenced && s.mode != .train then switchTseq s c else s

/-- What the channels' own flows can do. -/
def channelPass (s : State) : State :=
  (List.range 16).foldl (fun s c =>
    planTurn (hardenTurn (pprTurn (returnTurn (leaveRetrain (prepTurn (imageTurn (pendTurn (fenceTurn s c) c) c) c) c) c) c)
      c) c) s

/-- The turns that the mode in force allows, once. -/
def turn (s : State) : State :=
  match s.mode with
  | .reset => startTurn s
  | .safe => quiesceTurn (logPass s)
  | .recover => quiesceTurn (logPass s)
  | .holdup =>
    let s := if ledgerRuns s then ledgerPass s else throughPass s
    quiesceTurn (holdupTurn (logPass s))
  | _ =>
    let s := if ledgerRuns s then ledgerPass s else s
    let s := drainCheck (mediaPump s)
    let s := retirePass (channelPass s)
    recoverTurn (quiesceTurn (startTurn (copyTurn (logPass s))))

/-- The state once everything that follows by itself has happened: three rounds of turns, each with the collector's
reactions. -/
def settle (s : State) : State :=
  collectAll (turn (collectAll (turn (collectAll (turn (collectAll s))))))

end Sys2Proof.Machine
end

