-- ==== Sys2Proof/Machine/CalOps.lean ====
section
/-! DEFINITION. Running calibration (R365–R384): passes, acceptance, pending corrections and their boundaries, end taps
(R325, R326), and the calibration gate at which a staged TSEQ image takes over (R384, R511). -/

namespace Sys2Proof.Machine

/-! ### Settings -/

/-- Kinds that correct the same settings: impedance codes, receive lines, transmit lines (R365). -/
def calLine (kind : Nat) : Nat := if kind ≤ 1 then kind else if kind ≤ 3 then 2 else 3

/-- Lane numbers under which the two impedance codes stand among the pending corrections. -/
def zqPu : Nat := 254
def zqPd : Nat := 255

/-- The subchannel whose data bus a lane serves (R317, R319); the impedance codes go with the first. -/
def laneSub (s : State) (c lane : Nat) : Nat :=
  if s.subs c = 1 ∨ lane < 40 ∨ (80 ≤ lane ∧ lane < 90) ∨ zqPu ≤ lane then 0 else 1

/-- The present value of a setting. -/
def calPresent (s : State) (c kind lane : Nat) : Int :=
  if kind = 1 then (if lane = zqPu then s.fld Fld.phyZqPu c else s.fld Fld.phyZqPd c : Nat)
  else (Fld.phyLaneDataFine.of (kGet 0 (s.ch c).trims (trimKey (s.fld Fld.chFreqCurrent c) lane (calLine kind == 3))) : Nat)

/-- The pending correction of a setting, if it has one. -/
def calPending (s : State) (c kind lane : Nat) : Option Corr :=
  (s.ch c).corr.find? (fun x => calLine x.kind == calLine kind && x.lane == lane)

/-- The target in force of a setting (R372). -/
def calTarget (s : State) (c kind lane : Nat) : Int :=
  calPresent s c kind lane + ((calPending s c kind lane).map (fun x => x.delta)).getD 0

/-- `CAL_STATUS` follows the pending corrections (R386). -/
def calBooks (s : State) (c : Nat) : State :=
  let m := (s.ch c).corr.foldl (fun m x => max m x.delta.natAbs) 0
  (s.setFlag Fld.calStatusPending (m != 0) c).setFld Fld.calStatusMaxPend (min m 127) c

/-! ### End taps (R325, R326) -/

/-- A line's fine setting moves; end taps on a side that it nears are released. -/
def moveFine (s : State) (c lane : Nat) (tx : Bool) (v : Int) : State :=
  let key := trimKey (s.fld Fld.chFreqCurrent c) lane tx
  let guard : Int := s.fld Fld.phyEndtapGuard c
  let w := kGet 0 (s.ch c).trims key
  let hi := decide (503 - guard < v) && getBits w 14 1 == 0
  let lo := decide (v < 8 + guard) && getBits w 13 1 == 0
  let w := putBits (if hi then putBits w 14 1 1 else w) 4 9 v.toNat
  let w := if lo then putBits w 13 1 1 else w
  let s := s.modCh (chan c) (fun q => { q with trims := kPut q.trims key w })
  let ev (s : State) (high : Bool) : State :=
    (s.count Reg.phyCntEndtap 1 c).info Ev.phyEndtap (Src.chan c)
      (dw (c % 16 + lane % 256 * 256 + tx.toNat * 2 ^ 16 + high.toNat * 2 ^ 17))
  let was := releasedLines s c != 0 && !(hi || lo)
  let s := if lo then ev s false else s
  let s := if hi then ev s true else s
  let s := if !was && (hi || lo) && s.fld Fld.phyEndtapReleased c = 0 then
      s.modCh (chan c) (fun q => { q with endtapFrom := s.us })
    else s
  endtapBooks s c

/-- A setting takes a value. -/
def putSetting (s : State) (c kind lane : Nat) (v : Int) : State :=
  if kind = 1 then
    (if lane = zqPu then s.setFld Fld.phyZqPu v.toNat c else s.setFld Fld.phyZqPd v.toNat c)
  else moveFine s c lane (calLine kind == 3) v

/-! ### Corrections at boundaries (R378–R383) -/

/-- The step that a pending correction makes with at most `n` units. -/
def calStep (delta : Int) (n : Nat) : Int := max (-(n : Int)) (min (n : Int) delta)

/-- Each pending setting that satisfies `p` moves by at most `n` units; the units moved and the state. -/
def moveCorrs (s : State) (c : Nat) (p : Corr → Bool) (n : Nat) : Nat × State :=
  let xs := (s.ch c).corr
  let units := ((xs.filter p).map (fun x => (calStep x.delta n).natAbs)).sum
  let s := (xs.filter p).foldl (fun s x =>
    putSetting s c x.kind x.lane (calPresent s c x.kind x.lane + calStep x.delta n)) s
  let left := (xs.map (fun x => if p x then { x with delta := x.delta - calStep x.delta n } else x)).filter (fun x => x.delta != 0)
  (units, calBooks (s.modCh (chan c) (fun q => { q with corr := left })) c)

/-- A slot or idle boundary of a subchannel (R380). -/
def calBoundary (s : State) (c sub : Nat) : State :=
  let (u, s) := moveCorrs s c (fun x => laneSub s c x.lane == sub) (s.fld Fld.calGateTapsPerGap c)
  s.count Reg.calCntTaps u c

/-- Self-refresh applies every pending correction in full (R380). -/
def calInSr (s : State) (c : Nat) : State :=
  if (s.ch c).corr.isEmpty then s
  else
    let (u, s) := moveCorrs s c (fun _ => true) 1023
    s.count Reg.calCntTaps u c

/-- A write probe of the channel is pending: a pass of kind 5 is open. -/
def probeOpen (s : State) (c : Nat) : Bool := (s.ch c).passes.any (fun p => p.kind == 5)

/-- The calibration slot at an all-bank refresh of a rank on a subchannel (R379). -/
def calSlot (s : State) (c sub : Nat) : State :=
  let due := (s.ch c).corr.any (fun x => laneSub s c x.lane == sub) || probeOpen s c
  if !due || !s.flag Fld.calGateRefSlot c then s
  else
    let n := min (s.fld Fld.calGateSlot c) (s.fld Fld.chTimFTrfc c)
    let s := loadRod (s.count Reg.calCntSlot 1 c) c Rod.bus sub (s.ch c).clk n
    calBoundary s c sub

/-- The fallback (R382): every pending correction is applied in one step. -/
def calFallbackNow (s : State) (c : Nat) : State :=
  let m := (s.ch c).corr.foldl (fun m x => max m x.delta.natAbs) 0
  let (_, s) := moveCorrs s c (fun _ => true) 1023
  (s.count Reg.calCntFallback 1 c).info Ev.calFallback (Src.chan c) (dw (c % 16)) (dw m)

/-- A software word of `PHY_ZQ` is installed at a correction boundary, and hardware continues from it (R331, R611). -/
def zqInstall (s : State) (c : Nat) : State :=
  if (kFind s.pend (Reg.phyZq.at c)).isNone || !unitMayApply s then s
  else
    let s := applyReg s (Reg.phyZq.at c)
    calBooks (s.modCh (chan c) (fun q => { q with corr := q.corr.filter (fun x => x.kind != 1) })) c

/-! ### Passes (R371–R377) -/

/-- The states in which running calibration runs. -/
def calRuns (s : State) (c : Nat) : Bool :=
  phyTrained s c
    && (match (s.ch c).st with | .online => true | .fencing => true | .fenced => true | .returning => true | _ => false)
    && (match s.mode with
        | .plain => true | .tiered => true | .drain => true | .bypass => true | .test => true | _ => false)

/-- What a pass kept of its input state (R373): the lower code where several apply. -/
def markPasses (s : State) (c why : Nat) : State :=
  s.modCh (chan c) (fun q => { q with
    passes := q.passes.map (fun p => { p with why := if p.why = 0 then why else min p.why why }) })

/-- The input state at this moment marks the open passes: self-refresh (R371). -/
def markSr (s : State) (c : Nat) : State := if (s.ch c).sr == .active then s else markPasses s c 5

/-- An acceptance (R375, R378, R381): the targets of the settings covered, as pending corrections. -/
def calAccept (s : State) (c kind : Nat) (res : List (Nat × Nat × Int)) : State :=
  let s := s.count Reg.calCnt 1 c
  let s := (s.setFld Fld.calLastLoUs (s.us % 2 ^ 32) c).setFld Fld.calLastHiUs (s.us / 2 ^ 32 % 2 ^ 16) c
  let s := s.setFld Fld.calStatusConsec 0 c
  let s := res.foldl (fun s r =>
    let d := r.2.2 - calPresent s c kind r.1
    let keep := (s.ch c).corr.filter (fun x => !(calLine x.kind == calLine kind && x.lane == r.1))
    let x : Corr := { kind := kind, lane := r.1, rank := r.2.1, delta := d, since := s.us }
    s.modCh (chan c) (fun q => { q with corr := if d = 0 then keep else keep ++ [x] })) s
  let s := if kind = 2 ∨ kind = 3 ∨ kind = 5 then
      s.modCh (chan c) (fun q => { q with calTaps := kPut q.calTaps kind (s.fld Fld.phyTapUiTaps c) })
    else s
  calBooks s c

/-- A rejection (R374–R376): nothing changes but its records; the third in a row is the channel's fault. -/
def calReject (s : State) (c kind reason lane rank : Nat) (old new : Int) : State :=
  let s := s.count Reg.calCntFail 1 c
  let info := reason % 16 + kind % 16 * 16 + lane % 256 * 256 + rank % 4 * 2 ^ 16
  let s := s.wr (Reg.calFailInfo.at c) (dw info)
  let s := s.info Ev.calReject (Src.chan c) (dw (info + c % 16 * 2 ^ 18)) (dw (old.toNat % 2 ^ 16 + new.toNat % 2 ^ 16 * 2 ^ 16))
  let n := s.fld Fld.calStatusConsec c + 1
  if n < 3 then s.setFld Fld.calStatusConsec n c
  else
    let s := s.setFld Fld.calStatusConsec 0 c
    let s := s.event Prio.contained Ev.calFault (Src.chan c) (dw (c % 16))
    faultFence (phyFault s c 6) c true

/-- The first check of R371 that a result of kinds 2 to 5 fails, with the limits the pass started with; 0 for none. -/
def calCheckRes (s : State) (c : Nat) (p : CalPass) (r : CalRes) : Nat :=
  let plaus := Fld.calCheckPlaus.of p.check
  let eye := Fld.calCheckEyeMin.of p.check
  if plaus < (r.value - calTarget s c p.kind r.lane).natAbs then 1
  else if r.value < 0 ∨ 511 < r.value then 2
  else if p.kind ≠ 4 ∧ 64 * r.eye < eye * s.fld Fld.phyTapUiTaps c then 3
  else if r.bad ∧ p.kind ≠ 4 then 4
  else if p.why ≠ 0 then p.why
  else if r.bad then 8
  else 0

/-- A lane found weak on an ONLINE channel (R338, R495). -/
def laneWeakOnline (s : State) (c lane : Nat) (tx : Bool) (eye : Nat) : State :=
  if (s.ch c).st = .online then
    let s := s.count Reg.phyCntLaneWeak 1 c
    let s := s.info Ev.phyLaneWeak (Src.chan c) (dw (c % 16 + lane % 256 * 256 + tx.toNat * 2 ^ 16)) (dw eye)
    if s.flag Fld.svcPolicyRetrainWeak then
      orderlyFence (s.modCh (chan c) (fun q => { q with plan := 1 })) c Why.policy
    else s
  else s

/-- The first decision-feedback tap moves by at most one step with an accepted pass of kind 2 (R365); which step the
measurement asks for is open: a free value. -/
def dfeStep (s : State) (c : Nat) : State :=
  if !s.flag Fld.phyEqDfeEn c then s
  else
    let (v, s) := s.free 8
    let cur := s.fld Fld.phyEqDfe1 c
    let next := (cur + 64 + v.toNat % 3 - 1) % 64
    -- a step out of the signed range is not taken
    if (cur = 31 ∧ next = 32) ∨ (cur = 32 ∧ next = 31) then s else s.setFld Fld.phyEqDfe1 next c

end Sys2Proof.Machine
end

