-- ==== Sys2Proof/Machine/Channels.lean ====
section
/-! DEFINITION. The commands of a channel's controller and PHY: arbiters and issue (R80–R91, R257–R264), refresh
(R270–R274), temperature (R275–R277), page closing (R267, R268), frequency changes (R302–R305, R358–R364), the PHY's
monitors (R313–R315, R324, R331–R335, R474) and its sideband (R341–R346). -/

namespace Sys2Proof.Machine

/-! ### Arbiters and issue -/

/-- The freeze of a channel's command arbiter (R90). -/
def opFreeze (s : State) (c : Nat) (v : Bool) : State :=
  if s.mode = .reset then s else s.setFlag Fld.chArbCtlFreeze v c

/-- The freeze of a channel's data-bus arbiter (R90, R91): grants decided and not begun are withdrawn, each a dead slot
(R89). -/
def opFreezeData (s : State) (c : Nat) (v : Bool) : State :=
  if s.mode = .reset then s
  else
    let s := s.setFlag Fld.chArbCtlFreezeData v c
    if v then
      (s.count Reg.chCntDead (s.ch c).busNext.length c).modCh (chan c) (fun q => { q with busNext := [] })
    else s

/-- A command issues (R260, R261). A REF to a rank makes its calibration slots and installs a waiting impedance word;
self-refresh applies every correction and marks the open passes (R371, R379, R380). -/
def opIssue (s : State) (c sub clocks : Nat) : State :=
  let next := issuable (noteHolds (s.modCh (chan c) (fun q => { q with clk := q.clk + clocks })) c) c sub []
    ((s.ch c).queue)
  let was := (s.ch c).sr
  let s := issueTurn s c sub clocks
  let s := match next with
    | some x => if x.cmd == .ref && s.logicalOf c x.loc.bank == 0 then calSlot (zqInstall s c) c sub else s
    | none => s
  let s := markSr s c
  if was != .inside && (s.ch c).sr == .inside then channelBoundary (calInSr (zqInstall s c) c) c else s

/-- 64 DRAM clocks without candidate, grant or transfer: a channel boundary (R615). -/
def opIdleBoundary (s : State) (c : Nat) : State :=
  if s.mode = .reset || !(s.ch c).jobs.isEmpty || !(s.ch c).queue.isEmpty then s else channelBoundary s c

/-- A bank's idle timer expires (R267, R268): the bank is precharged in a slot that no eligible candidate wants, unless a
candidate wants its row. -/
def opPageIdle (s : State) (c sub rank bank : Nat) : State :=
  let l : Loc := { sub := sub, rank := rank, bank := bank, row := 0, col := 0 }
  let key := bankKey l
  let row := kGet 0 (s.ch c).book key
  let wanted := (s.ch c).jobs.any (fun j => j.lines.any (fun x =>
    x.step == 0 && bankKey x.loc == key && x.loc.row + 1 == row))
  if row = 0 || wanted || cmdFrozen s c || (candsOf s c sub).any (eligibleCmd s c) then s
  else match grantPre s c l with
    | some s => s.count Reg.chCntIdlePre 1 c
    | none => s

/-! ### Refresh and temperature -/

/-- The hottest reading of a channel. -/
def hottest (s : State) (c : Nat) : Option Int :=
  match (s.ch c).temps.map (fun e => e.2) with
  | [] => none
  | t :: ts => some (ts.foldl max t)

/-- A sensor of the channel has failed two reads in a row (R277). -/
def sensorFailed (s : State) (c : Nat) : Bool := (s.ch c).sensorFails.any (fun e => decide (2 ≤ e.2))

/-- The channel has a sensor that is polled. -/
def polled (s : State) (c : Nat) : Bool :=
  s.fld Fld.chTempPoll c != 0 && ([0, 1].filter (present s c)).any (fun d => !(sensorsOf s c d).isEmpty)

/-- The refresh rate is decided at an interval (R275, R277). -/
def refreshRate (s : State) (c : Nat) : State :=
  let was := (s.ch c).doubled
  let limit : Int := s.fld Fld.chTempLimit c
  let low : Int := limit - s.fld Fld.chTempHyst c
  let hot := match hottest s c with
    | none => was
    | some t => if limit < t then true else if t ≤ low then false else was
  let now := s.flag Fld.chRefRate c || (polled s c && (sensorFailed s c || hot))
  let s := s.modCh (chan c) (fun q => { q with doubled := now })
  if now && !was then
    (s.count Reg.chCntTemp2x 1 c).info Ev.temp2x (Src.chan c) (dw (c % 16)) (dw ((hottest s c).getD 0 % 256).toNat)
  else s

/-- A refresh interval ends (R270–R272). -/
def opRefreshInterval (s : State) (c : Nat) : State :=
  if !refreshes s c then s
  else
    let s := refreshRate s c
    let s := (debtKeys s c).foldl (fun s k =>
      let s := setDebt s c k (debtOf s c k + 1)
      if s.fld Fld.chRefPostpone c < debtOf s c k then askRefresh s c k true
      else if unitIdle s c k then askRefresh s c k false
      else s.count Reg.chCntRefPostponed 1 c) s
    s.modCh (chan c) (fun q => { q with alerts := 0 })

/-- A unit in debt has been idle long enough (R271, R272). -/
def opRefreshIdle (s : State) (c rank bank : Nat) : State :=
  let k := if sameBank s c then rank * 64 + 1 + s.indexOf c bank else rank * 64
  if refreshes s c && (debtKeys s c).contains k && !unitWanted s c k && debtOf s c k != 0 then askRefresh s c k false else s

/-- The sensors of the channel's DIMMs are read over the sideband (R275); a read that already waits is not repeated
(R343). -/
def opTempPoll (s : State) (c : Nat) : State :=
  if s.mode = .reset || s.fld Fld.chTempPoll c = 0 then s
  else ([0, 1].filter (present s c)).foldl (fun s d => (sensorsOf s c d).foldl (fun s dev =>
    if sbOpen s c (fun t => t.who == .temp && t.slot == slotCode c d && t.dev == dev) then s
    else sbQueue s (c / 4) { who := .temp, ch := c, slot := slotCode c d, dev := dev, write := false, len := 2, offset := 0x31 })
    s) s

/-! ### Frequency changes (R302–R305, R358–R364) -/

/-- The channel trains now, in TRAIN or in RETRAIN. -/
def trainingNow (s : State) (c : Nat) : Bool := match (s.ch c).trn with | .running _ _ => true | _ => false

/-- A training gave way to a change of set point, whose relock is under way (R363). -/
def trainRelock (s : State) (c : Nat) : Bool :=
  ((s.ch c).st == .retrain || s.mode == .train) && (s.ch c).trn == .idle && (s.ch c).freq == .relocking

/-- The reason for which a change to a set point is refused, if one holds (R302). -/
def freqRefusal (s : State) (c t : Nat) : Option Nat :=
  let gen := s.fld Fld.phyPopGen c
  let rate := fspRate s c t
  if rate = 0 || !(rateCodes gen).contains rate then some 1
  else if s.fld Fld.phyPopMaxrate c < rate then some 2
  else if (timingImage s t gen).isNone then some 3
  else if s.mode = .safe || s.modeNow = .recover then some 7
  else if trainingNow s c || trainRelock s c then none
  else if s.mode = .holdup || !(s.ch c).powered || (s.mode = .train && (s.ch c).trn != .done) then some 4
  else match (s.ch c).st with
    | .online => none
    | .fenced => none
    | _ => some 4

/-- A write of `CH_FREQ.TARGET` (R302, R305, R362, R364). A refused write leaves a change under way as it is. -/
def opFreqChange (s : State) (c t : Nat) : State :=
  if s.mode = .reset then s
  else
    let s := s.setFld Fld.chFreqTarget t c
    match freqRefusal s c t with
    | some code =>
      (s.setFlag Fld.chFreqRefused true c).info Ev.freqRefused (Src.chan c) (dw (c % 16 + t % 4 * 16 + code * 256))
    | none =>
      let accept (s : State) : State := (s.setFlag Fld.chFreqBusy true c).setFlag Fld.chFreqRefused false c
      match (s.ch c).trn with
      | .running phase sp =>
        if t = sp then s.modCh (chan c) (fun q => { q with trnTarget := none })
        else if gathers phase || phase = 11 then
          (accept s).modCh (chan c) (fun q => { q with trnTarget := some t, freqTo := t })
        else abortTraining (accept s) c t
      | _ =>
        match (s.ch c).freq with
        | .none => (accept s).modCh (chan c) (fun q => { q with
            freq := .waitIdle, freqTries := 0, freqFrom := s.fld Fld.chFreqCurrent c, freqTo := t, freqNext := none })
        | .waitIdle | .entering | .minWait => (accept s).modCh (chan c) (fun q => { q with freqTo := t })
        | _ => (accept s).modCh (chan c) (fun q => { q with freqNext := some t })

/-- The channel has been idle long enough for step 3 of R303; a FENCED one goes on at once. -/
def opFreqIdle (s : State) (c : Nat) : State :=
  let q := s.ch c
  let idle := q.jobs.isEmpty && q.queue.isEmpty
  if q.freq == .waitIdle && q.sr == .active && (q.st == .fenced || idle) then
    let s := s.modCh (chan c) (fun q => { q with freq := .entering })
    markSr (startSr s c .freq) c
  else s

/-- The end of TSR_MIN (R304): relock, or exit for a host-caused candidate. -/
def opFreqDecision (s : State) (c : Nat) : State :=
  let q := s.ch c
  if q.freq != .minWait || q.sr != .inside then s
  else if q.jobs.any (fun j => !j.background) then
    freqRetry (s.modCh (chan c) (fun q => { q with sr := .exiting, srRanks := [] })) c
  else (s.setFlag Fld.phyStatusLocked false c).modCh (chan c) (fun q => { q with freq := .relocking })

/-- The PHY is locked at the new rate (R303 step 5, R363): the abacus loads the set point's timings, CURRENT is updated and
self-refresh exit begins. A training that gave way restarts, and takes a TARGET written meanwhile as one written in its
phase 1. -/
def opFreqLocked (s : State) (c : Nat) : State :=
  let q := s.ch c
  if q.freq != .relocking then s
  else
    let train := trainRelock s c
    let s := s.setFlag Fld.phyStatusLocked true c
    let s := (loadTimings s c q.freqTo).setFld Fld.chFreqCurrent q.freqTo c
    if train then
      let s := exited (s.modCh (chan c) (fun q => { q with freq := .none, freqNext := none, book := [] })) c
      let s := startTraining s c q.freqTo
      match q.freqNext with
      | some t => if t = q.freqTo then s else abortTraining s c t
      | none => s
    else s.modCh (chan c) (fun q => { q with freq := .exiting, sr := .exiting, srRanks := [] })

/-- The seeded centring of a change ends (R303 steps 7 and 8, R358–R360). The settings that it found are free values. A
rejected one brings the channel back to its old set point through another self-refresh. -/
def opCentring (s : State) (c : Nat) (ok : Bool) : State :=
  let q := s.ch c
  if q.freq != .centring then s
  else
    let s := if ok then
        let s := placeTrims s c q.freqTo
        let s := s.setFld Fld.trimValidValid (s.fld Fld.trimValidValid c ||| 2 ^ (q.freqTo % 4)) c
        freqDone (endtapBooks s c) c
      else
        let s := s.count Reg.chCntSrEntry (rankPlaces s c).length c
        let s := (loadTimings s c q.freqFrom).setFld Fld.chFreqCurrent q.freqFrom c
        let s := exited s c
        let s := s.setFld Fld.trimValidValid (s.fld Fld.trimValidValid c &&& (15 ^^^ 2 ^ (q.freqTo % 4))) c
        freqRefuse (endtapBooks s c) c q.freqTo 6
    match q.freqNext with
    | some t => opFreqChange (s.modCh (chan c) (fun q => { q with freqNext := none })) c t
    | none => s

/-! ### The PHY's monitors -/

/-- The VDDQ monitor's reading of an epoch (R313, R315, R521). -/
def opVddq (s : State) (c mv : Nat) : State :=
  if s.mode = .reset then s
  else
    let s := s.setFld Fld.phyVddqMv mv c
    let ok := vddqOk s c
    let s := s.setFlag Fld.phyStatusVddqOk ok c
    if ok then
      let s := s.modCh (chan c) (fun q => { q with vddqBad := 0, phyCause := q.phyCause &&& 0xFE#8 })
      if (s.ch c).phyCause = 0 then causeEnds s (42 + c) else s
    else
      let s := markPasses (s.modCh (chan c) (fun q => { q with vddqBad := q.vddqBad + 1 })) c 6
      if decide (2 ≤ (s.ch c).vddqBad) && !(s.ch c).phyCause.getLsbD 0 && phyTrained s c then
        let s := s.count Reg.phyCntVddq 1 c
        let s := s.event Prio.contained Ev.phyVddq (Src.chan c) (dw (c % 16)) (dw mv)
        faultFence (phyFault s c 0) c false
      else s

/-- The wait for VDDQ has expired. VDDQ out of range leaves the channel untrained (R314); in RETRAIN, or where the DIMMs'
power is not good, the training fails (R488, R489). -/
def opVddqWait (s : State) (c : Nat) : State :=
  if (s.ch c).trn != .prep || s.fld Fld.phyPopGen c = 0 then s
  else if vddqOk s c then
    if s.flag Fld.phyStatusDimmPwr c && s.pins.pwrAck.getLsbD (3 + c) then s else failPrep s c
  else
    let s := s.setFlag Fld.phyPopVddqBad true c
    let s := s.info Ev.phyVddq (Src.chan c) (dw (c % 16)) (dw (s.fld Fld.phyVddqMv c))
    if (s.ch c).st = .retrain then failPrep s c else (endTraining s c .idle).setFld Fld.tierGeomRanks 0 c

/-- Taps in one unit interval, rounded: tap size in 1/64 ps, rate code in 100 MT/s (R324). -/
def uiTaps (rate size : Nat) : Nat := if rate * size = 0 then 0 else min 511 ((640000 + rate * size / 2) / (rate * size))

/-- A pass of a kind starts, with the limits in force (R365, R386). -/
def startPass (s : State) (c kind : Nat) : State :=
  let p : CalPass := { kind := kind, check := s.rd (Reg.calCheck.at c) }
  let s := s.modCh (chan c) (fun q => { q with passes := q.passes.filter (fun x => x.kind != kind) ++ [p] })
  let s := if kind = 1 then s else markSr s c
  if !vddqOk s c then markPasses s c 6 else s

/-- Kinds 4 and 5 do not run with the ROM TSEQ image, kind 4 not on DDR4 (R365, R446). -/
def kindRuns (s : State) (c kind : Nat) : Bool :=
  (kind < 4 || s.fld Fld.spareInvImgRomTseq / 2 ^ (c % 16) % 2 == 0) && (kind != 4 || decide (2 ≤ s.fld Fld.phyPopGen c))

/-- The replica line's measurement, kind 0 (R324, R370, R371). A first measurement has no old size to compare with. -/
def opTapSize (s : State) (c size : Nat) : State :=
  if s.mode = .reset || s.mode = .safe || s.modeNow = .recover || s.mode = .holdup || s.fld Fld.phyPopGen c = 0 then s
  else
    let old := s.fld Fld.phyTapSize c
    let why : Nat := if old ≠ 0 ∧ old * 3 < (size - old + (old - size)) * 100 then 1
      else if size * 10 < 512 ∨ 192 < size then 2
      else if !vddqOk s c then 6
      else if !s.flag Fld.phyStatusLocked c && phyTrained s c then 7
      else 0
    if why ≠ 0 then switchTseq (calReject s c 0 why 0 0 old size) c
    else
      let taps := uiTaps (fspRate s c (s.fld Fld.chFreqCurrent c)) size
      let s := (s.setFld Fld.phyTapSize size c).setFld Fld.phyTapUiTaps taps c
      let s := switchTseq (calAccept s c 0 []) c
      if !calRuns s c || (s.ch c).freq != .none then s
      else [2, 3, 5].foldl (fun s k =>
        match kFind (s.ch c).calTaps k with
        | some t => if 2 ≤ (t - taps) + (taps - t) && kindRuns s c k && !(s.ch c).passes.any (fun p => p.kind == k)
            then startPass s c k else s
        | none => s) s

/-- The first channel that waits for ZQ_EXT holds it: its pass starts (R332). -/
def zqServe (s : State) : State :=
  match s.zqQ with
  | [] => s
  | c :: _ => if (s.ch c).passes.any (fun p => p.kind == 1) then s else startPass s c 1

/-- A channel's impedance calibration falls due (R331, R332). -/
def opZqDue (s : State) (c : Nat) : State :=
  if s.mode = .reset || s.fld Fld.phyZqCtlPeriod c = 0 || s.fld Fld.phyPopGen c = 0 || s.zqQ.contains c then s
  else zqServe { s with zqQ := s.zqQ ++ [c] }

/-- The impedance codes that a channel starts with when ZQ_EXT is bad: the OTP TRIM record's, or 64 (R333). -/
def otpZq (s : State) (c : Nat) : Nat × Nat :=
  match otpValid s 2 with
  | some _ => (otpByte s 2 (2 + 2 * (c % 16)) % 128, otpByte s 2 (3 + 2 * (c % 16)) % 128)
  | none => (64, 64)

/-- An impedance calibration ends (R331, R333, R371). A channel that is not trained yet takes its codes at once, without
an old target to compare with. -/
def opZqDone (s : State) (c pu pd : Nat) : State :=
  if s.zqQ.head? ≠ some c then s
  else
    let p := ((s.ch c).passes.find? (fun p => p.kind == 1)).getD { kind := 1, check := s.rd (Reg.calCheck.at c) }
    let s := s.modCh (chan c) (fun q => { q with passes := q.passes.filter (fun x => x.kind != 1) })
    let s := zqServe { s with zqQ := s.zqQ.tail }
    let open_ := pu = 0 ∨ pu = 127 ∨ pd = 0 ∨ pd = 127
    let s := if open_ then
        (s.setFlag Fld.phyStatusZqExtBad true c).info Ev.phyZqExt (Src.chan c) (dw (c % 16)) (dw (pu % 128 + pd % 128 * 256))
      else s
    if s.mode = .safe || s.modeNow = .recover then s
    else if !phyTrained s c then
      let (u, d) := if open_ then otpZq s c else (pu, pd)
      let s := (s.setFld Fld.phyZqPu u c).setFld Fld.phyZqPd d c
      if open_ then s else calAccept s c 1 []
    else
      let off (lane : Nat) (v : Nat) : Bool := decide (Fld.calCheckPlausZq.of p.check < ((v : Int) - calTarget s c 1 lane).natAbs)
      let bad : Option (Nat × Nat × Nat) :=
        if off zqPu pu then some (1, zqPu, pu) else if off zqPd pd then some (1, zqPd, pd)
        else if pu = 0 ∨ pu = 127 then some (2, zqPu, pu) else if pd = 0 ∨ pd = 127 then some (2, zqPd, pd)
        else if 6 ≤ p.why then some (p.why, zqPu, pu) else none
      match bad with
      | some (why, lane, v) => switchTseq (calReject s c 1 why 0 0 (calTarget s c 1 lane) v) c
      | none => switchTseq (calAccept s c 1 [(zqPu, 0, (pu : Int)), (zqPd, 0, (pd : Int))]) c

/-- A DIMM signals a parity error on ALERT_n (R335, R474). The commands sent again leave nothing behind in the state. -/
def opAlert (s : State) (c dimm : Nat) : State :=
  if s.mode = .reset || !s.flag Fld.phyStatusDrvOn c || !present s c dimm then s
  else
    let s := (s.count Reg.phyCntAlert 1 c).modCh (chan c) (fun q => { q with alerts := q.alerts + 1 })
    if (s.ch c).alerts < 2 then s
    else
      let s := s.event Prio.contained Ev.phyAlert (Src.chan c) (dw (c % 16 + dimm % 2 * 16)) (dw (s.ch c).alerts)
      faultFence (phyFault s c 1) c false

/-- A DIMM loses power good (R474): its channel's contents are gone. -/
def opPowerLost (s : State) (c dimm : Nat) : State :=
  if s.mode = .reset || !present s c dimm || !s.flag Fld.phyStatusDimmPwr c then s
  else
    let s := faultFence (phyFault s c 3) c false
    let s := s.setFlag Fld.phyStatusDimmPwr false c
    let s := s.modCh (chan c) (fun q => { q with
      powered := false, warmLost := true, wasReset := true, softRows := [], debt := [], sr := .active, srWhy := .none })
    { s with dram := s.dram.filter (fun e => e.1 / 2 ^ 34 != c) }

/-- The clock generator of a serving channel loses lock (R474). -/
def opLockLost (s : State) (c : Nat) : State :=
  if s.mode = .reset || !s.flag Fld.phyStatusLocked c then s
  else
    let s := markPasses (s.setFlag Fld.phyStatusLocked false c) c 7
    if phyTrained s c then faultFence (phyFault s c 2) c false else s

/-! ### The sideband (R341–R346) -/

/-- A firmware transfer is waiting or in progress (`SB_STATUS.BUSY`). -/
def sbBusy (s : State) (q : Nat) : Bool :=
  let u := s.quads[quadId q]
  (u.cur.toList ++ u.wait).any (fun t => t.who == .firmware)

/-- A write of `SB_XFER` (R346). -/
def opSbXfer (s : State) (q : Nat) (w : Word) : State :=
  if s.mode = .reset then s
  else
    let go := Fld.sbXferGo.of w == 1
    let deny (s : State) : State := s.info Ev.sbDenied (Src.quad q) (dw (q % 4)) w
    if go && sbBusy s q then deny s
    else
      let s := s.wr (Reg.sbXfer.at q) (w &&& 0x07FF035F)
      if !go then s
      else
        let slot := Fld.sbXferSlot.of w
        let dev := Fld.sbXferDev.of w
        let write := Fld.sbXferWrite.of w == 1
        let c := 4 * q + slot / 2
        let here := present s c (slot % 2)
        let ddr4 := spdGen (kGet 0 (s.ch c).spd (4 * (slot % 2))) == 1
        if write && !(dev == 1 && s.flag Fld.sbCtlWrEn q && (s.ch c).st == .service) then
          deny (s.setFlag Fld.sbStatusErr true q)
        else if here && ddr4 && (dev == 1 || dev == 3) then s.setFlag Fld.sbStatusErr true q
        else
          let s := (s.setFlag Fld.sbStatusErr false q).setFlag Fld.sbStatusBusy true q
          sbQueue s q { who := .firmware, ch := c, slot := slot, dev := dev, write := write, len := Fld.sbXferLen.of w + 1
                        offset := Fld.sbXferOffset.of w, data := s.rd (Reg.sbData.at q) }

/-- `SB_STATUS.MODE` once the SPDs of a quad have been read (R342). -/
def sbMode (s : State) (q : Nat) : State :=
  let slots := (List.range 8).filter (fun k => present s (4 * q + k / 2) (k % 2))
  s.setFlag Fld.sbStatusMode (s.flag Fld.sbCtlI3cEn q && !slots.isEmpty && slots.all (fun k =>
    decide (2 ≤ spdGen (kGet 0 (s.ch (4 * q + k / 2)).spd (4 * (k % 2)))))) q

/-- The next step of the SPD reads: with the last of a channel its population follows (R310). -/
def sbSpdNext (s : State) (q c : Nat) : State :=
  if sbOpen s c (fun t => t.who == .spd) then s
  else
    let s := spdDone s c
    if (List.range 4).any (fun k => sbOpen s (4 * q + k) (fun t => t.who == .spd)) then s else sbMode s q

/-- The temperature status of a channel (R275, R277). -/
def tempBooks (s : State) (c : Nat) : State :=
  let s := s.setFld Fld.chTempStatusTemp ((hottest s c).getD 0 % 256).toNat c
  s.setFlag Fld.chTempStatusSensorFail (sensorFailed s c) c

/-- What the answer of a transaction changes. -/
def sbAnswer (s : State) (q : Nat) (t : SbTxn) (data : Word) : State :=
  let d := t.slot % 2
  match t.who with
  | .spd =>
    let s := s.modCh (chan t.ch) (fun c => { c with
      spd := kSet 0 c.spd (4 * d + t.offset) data.toNat
      serial := if t.offset = 1 then kSet 0 c.serial d data.toNat else c.serial })
    let s := if t.offset = 0 then
        s.setFld Fld.sbStatusPresent (s.fld Fld.sbStatusPresent q ||| 2 ^ t.slot) q
      else s
    sbSpdNext s q t.ch
  | .power =>
    if t.data = 1 && !sbOpen s t.ch (fun x => x.who == .power) then s.setFlag Fld.phyStatusDimmPwr true t.ch else s
  | .temp =>
    let s := s.modCh (chan t.ch) (fun c => { c with
      temps := kPut c.temps (4 * d + t.dev) (data.setWidth 8).toInt
      sensorFails := kErase c.sensorFails (4 * d + t.dev) })
    tempBooks s t.ch
  | .firmware =>
    let s := (s.setFlag Fld.sbStatusBusy false q).setFlag Fld.sbStatusErr false q
    if t.write then s else s.wr (Reg.sbData.at q) (dw (data.toNat % 2 ^ (8 * t.len)))

/-- A sideband transaction completes (R343); a bus that answers is free again (R344, R524). -/
def opSbDone (s : State) (q : Nat) (data : Word) : State :=
  match s.quads[quadId q].cur with
  | none => s
  | some t =>
    let s := s.modQuad q (fun u => { u with cur := none, tries := 0, stuck := false })
    sbNext (causeEnds (sbAnswer s q t data) (58 + q % 4)) q

/-- What a failed transaction changes (R277, R344). A slot whose SPD does not answer holds no DIMM. -/
def sbFailure (s : State) (q : Nat) (t : SbTxn) : State :=
  let d := t.slot % 2
  match t.who with
  | .spd =>
    let s := s.modCh (chan t.ch) (fun c => { c with
      spd := kErase c.spd (4 * d + t.offset), serial := if t.offset = 1 then kErase c.serial d else c.serial })
    let s := if t.offset = 0 then
        s.setFld Fld.sbStatusPresent (s.fld Fld.sbStatusPresent q &&& (255 ^^^ 2 ^ t.slot)) q
      else s
    sbSpdNext s q t.ch
  | .power => s
  | .temp =>
    let k := 4 * d + t.dev
    let n := kGet 0 (s.ch t.ch).sensorFails k + 1
    let s := s.modCh (chan t.ch) (fun c => { c with sensorFails := kPut c.sensorFails k n })
    let s := if n = 2 then
        s.info Ev.tempSensor (Src.chan t.ch) (dw (t.ch % 16 + t.slot * 16 + t.dev * 128))
      else s
    tempBooks s t.ch
  | .firmware => (s.setFlag Fld.sbStatusBusy false q).setFlag Fld.sbStatusErr true q

/-- SDA is held low on an idle bus, after nine clocks and a stop condition too (R344). -/
def sbStuck (s : State) (q : Nat) : State :=
  if s.quads[quadId q].stuck then s
  else
    let s := s.modQuad q (fun u => { u with stuck := true })
    ((s.setFlag Fld.sbStatusStuck true q).count Reg.sbCntStuck 1 q).eventOf Ev.sbStuck (Src.quad q) (58 + q % 4) (dw (q % 4))

/-- A transaction is not acknowledged or does not finish (R344): two retries, then it fails. -/
def opSbTimeout (s : State) (q : Nat) (nack held : Bool) : State :=
  match s.quads[quadId q].cur with
  | none => s
  | some t =>
    let n := s.quads[quadId q].tries + 1
    let s := if held then sbStuck s q else s
    if n < 3 then s.modQuad q (fun u => { u with tries := n })
    else
      let s := s.modQuad q (fun u => { u with cur := none, tries := 0 })
      let s := if nack then s.count Reg.sbCntNack 1 q else s.count Reg.sbCntTimeout 1 q
      sbNext (sbFailure s q t) q

/-! ### The commands -/

/-- DRAM_READ_RETURN (R289). -/
def execDramReadReturn (ch : ChanId) (job line : Nat) (out : EccOut) (s : State) : Host.Outcome State Fault Refusal :=
  .next (settle (readReturn s ch job line out))

/-- FRAME_WRITE_DONE (R43). -/
def execFrameWriteDone (ch : ChanId) (job : Nat) (s : State) : Host.Outcome State Fault Refusal :=
  .next (settle (writeEnd s ch job))

/-- CMD_ARB_GRANT (R81). -/
def execCmdArbGrant (ch : ChanId) (s : State) : Host.Outcome State Fault Refusal := .next (settle (cmdGrant s ch))

/-- DATA_BUS_ARBITRATE (R83). -/
def execDataBusArbitrate (ch : ChanId) (sub : Fin 2) (s : State) : Host.Outcome State Fault Refusal :=
  .next (settle (busArbitrate s ch sub))

/-- COMMAND_ISSUE (R260). -/
def execCommandIssue (ch : ChanId) (sub : Fin 2) (clocks : Nat) (s : State) : Host.Outcome State Fault Refusal :=
  .next (settle (opIssue s ch sub clocks))

/-- CH_ARB_FREEZE (R90). -/
def execChArbFreeze (ch : ChanId) (v : Bool) (s : State) : Host.Outcome State Fault Refusal :=
  .next (settle (opFreeze s ch v))

/-- CH_ARB_FREEZE_DATA (R91). -/
def execChArbFreezeData (ch : ChanId) (v : Bool) (s : State) : Host.Outcome State Fault Refusal :=
  .next (settle (opFreezeData s ch v))

/-- REFRESH_INTERVAL (R270). -/
def execRefreshInterval (ch : ChanId) (s : State) : Host.Outcome State Fault Refusal :=
  .next (settle (opRefreshInterval s ch))

/-- REFRESH_IDLE_CATCHUP (R271). -/
def execRefreshIdleCatchup (ch : ChanId) (rank : Fin 4) (bank : Fin 64) (s : State) : Host.Outcome State Fault Refusal :=
  .next (settle (opRefreshIdle s ch rank bank))

/-- PAGE_IDLE_TIMEOUT (R267). -/
def execPageIdleTimeout (ch : ChanId) (sub : Fin 2) (rank : Fin 4) (bank : Fin 256) (s : State) :
    Host.Outcome State Fault Refusal :=
  .next (settle (opPageIdle s ch sub rank bank))

/-- TEMP_POLL (R275). -/
def execTempPoll (ch : ChanId) (s : State) : Host.Outcome State Fault Refusal := .next (settle (opTempPoll s ch))

/-- CH_FREQ_CHANGE (R302). -/
def execChFreqChange (ch : ChanId) (target : BitVec 2) (s : State) : Host.Outcome State Fault Refusal :=
  .next (settle (opFreqChange s ch target.toNat))

/-- FREQ_CHANGE_IDLE (R303). -/
def execFreqChangeIdle (ch : ChanId) (s : State) : Host.Outcome State Fault Refusal := .next (settle (opFreqIdle s ch))

/-- FREQ_RELOCK_DECISION (R304). -/
def execFreqRelockDecision (ch : ChanId) (s : State) : Host.Outcome State Fault Refusal :=
  .next (settle (opFreqDecision s ch))

/-- FREQ_PHY_LOCKED (R303). -/
def execFreqPhyLocked (ch : ChanId) (s : State) : Host.Outcome State Fault Refusal := .next (settle (opFreqLocked s ch))

/-- SEEDED_CENTRING_DONE (R358). -/
def execSeededCentringDone (ch : ChanId) (ok : Bool) (s : State) : Host.Outcome State Fault Refusal :=
  .next (settle (opCentring s ch ok))

/-- VDDQ_MONITOR (R315). -/
def execVddqMonitor (ch : ChanId) (mv : BitVec 12) (s : State) : Host.Outcome State Fault Refusal :=
  .next (settle (opVddq s ch mv.toNat))

/-- VDDQ_WAIT_EXPIRED (R314). -/
def execVddqWaitExpired (ch : ChanId) (s : State) : Host.Outcome State Fault Refusal := .next (settle (opVddqWait s ch))

/-- TAP_SIZE_MEASURE (R324). -/
def execTapSizeMeasure (ch : ChanId) (size : BitVec 16) (s : State) : Host.Outcome State Fault Refusal :=
  .next (settle (opTapSize s ch size.toNat))

/-- ZQ_CAL_DUE (R331). -/
def execZqCalDue (ch : ChanId) (s : State) : Host.Outcome State Fault Refusal := .next (settle (opZqDue s ch))

/-- ZQ_CAL_DONE (R331). -/
def execZqCalDone (ch : ChanId) (pu pd : BitVec 7) (s : State) : Host.Outcome State Fault Refusal :=
  .next (settle (opZqDone s ch pu.toNat pd.toNat))

/-- ALERT_N_PARITY (R335). -/
def execAlertNParity (ch : ChanId) (dimm : Fin 2) (s : State) : Host.Outcome State Fault Refusal :=
  .next (settle (opAlert s ch dimm))

/-- DIMM_POWER_GOOD_LOST (R474). -/
def execDimmPowerGoodLost (ch : ChanId) (dimm : Fin 2) (s : State) : Host.Outcome State Fault Refusal :=
  .next (settle (opPowerLost s ch dimm))

/-- CLOCK_LOCK_LOST (R474). -/
def execClockLockLost (ch : ChanId) (s : State) : Host.Outcome State Fault Refusal := .next (settle (opLockLost s ch))

/-- SB_XFER (R346). -/
def execSbXfer (q : QuadId) (w : Word) (s : State) : Host.Outcome State Fault Refusal := .next (settle (opSbXfer s q w))

/-- SB_TRANSACTION_DONE (R343). -/
def execSbTransactionDone (q : QuadId) (data : Word) (s : State) : Host.Outcome State Fault Refusal :=
  .next (settle (opSbDone s q data))

/-- SB_TRANSACTION_TIMEOUT (R344). -/
def execSbTransactionTimeout (q : QuadId) (nack held : Bool) (s : State) : Host.Outcome State Fault Refusal :=
  .next (settle (opSbTimeout s q nack held))

/-- CHANNEL_BOUNDARY_IDLE (R615). -/
def execChannelBoundaryIdle (ch : ChanId) (s : State) : Host.Outcome State Fault Refusal :=
  .next (settle (opIdleBoundary s ch))

end Sys2Proof.Machine
end

