-- ==== Sys2Proof/Machine/Contexts.lean ====
section
/-! DEFINITION. The commands of the context window (R66–R70, R102) and of the throttle (R95, R96). -/

namespace Sys2Proof.Machine

/-- Eyelet mode is in force (R628). -/
def eyeletMode (s : State) : Bool := s.flag Fld.lastStatusWide

/-- The selected context. -/
def selCtx (s : State) : Nat := s.fld Fld.ctxSelContext

/-- A write of `CTX_SEL` (R68, R69): the window shows the context's applied entry; in eyelet mode its counters are
captured. -/
def opCtxSel (s : State) (w : Word) : State :=
  if s.mode = .reset then s
  else
    let n := w.toNat % 4096
    let c := s.ctx n
    let s := s.setFld Fld.ctxSelContext n
    let s := ((s.wr Reg.ctxCfg.at c.cfg).wr Reg.ctxBudget.at c.budget).wr Reg.ctxThr.at (dw c.step)
    let eye := eyeletMode s
    let s := s.setFlag Fld.ctxStatusCaptured (!eye)
    { s with ctxWin := { thrWritten := false, captured := if eye then c.counters else [] } }

/-- The capture of an eyelet-mode window ends (R69). -/
def opCtxCaptured (s : State) : State :=
  if s.mode = .reset || !eyeletMode s || s.ctxWin.captured.isEmpty then s else s.setFlag Fld.ctxStatusCaptured true

/-- `CTX_CMD.WRITE` (R62, R70): the window's words become the selected context's pending copy. -/
def opCtxWrite (s : State) : State :=
  if s.mode = .reset then s
  else
    let n := selCtx s
    if n = 0 then s.reject Reg.ctxCmd.at 1
    else
      let stp := if s.ctxWin.thrWritten then some (s.fld Fld.ctxThrStep) else none
      let cfg := s.rd Reg.ctxCfg.at
      let bud := s.rd Reg.ctxBudget.at
      s.modCtx n (fun c => { c with pend := some (cfg, bud, stp) })

/-- `CTX_CMD.CLEAR_CNT` (R102): the selected context's live counters. -/
def clearCtx (c : Ctx) : Ctx :=
  { c with cntReq := 0, cntMiss := 0, cntLineRd := 0, cntLineWr := 0, cntAlert := 0, cntHeld := 0, cntDenied := 0, cntPAsT := 0 }

def opCtxClear (s : State) : State := if s.mode = .reset then s else s.modCtx (selCtx s) clearCtx

/-- The time of the next token of a context at step `t` (R95). -/
def nextToken (s : State) (t : Nat) : Tick := s.timeBase + BitVec.ofNat 24 (s.fld Fld.thrCtlInterval * 2 ^ (t - 1))

/-- A token interval of a throttled context ends (R95). -/
def opToken (s : State) (n : Nat) : State :=
  let c := s.ctx n
  if s.mode = .reset || c.step = 0 || n = 0 then s
  else
    let d := s.fld Fld.thrCtlDepth
    let at_ := nextToken s c.step
    s.modCtx n (fun c => { c with tokens := min (c.tokens + 1) (max d c.tokens), refillAt := some at_ })

/-- A throttle window ends (R96): the step of a context that no alert named falls by one; at step 0 the bucket is
inactive (R95). -/
def windowEnd (c : Ctx) : Ctx :=
  if c.named then { c with named := false }
  else if c.step = 0 then c
  else if c.step = 1 then { c with step := 0, tokens := 0, refillAt := none }
  else { c with step := c.step - 1 }

def opWindowEnd (s : State) : State :=
  if s.mode = .reset then s
  else { s with ctxs := (s.ctxs.map (fun e => (e.1, windowEnd e.2))).filter (fun e => e.2 != {}) }

/-! ### The commands -/

/-- CTX_SEL_WRITE (R68). -/
def execCtxSelWrite (w : Word) (s : State) : Host.Outcome State Fault Refusal := .next (settle (opCtxSel s w))

/-- CTX_CAPTURE_DONE (R69). -/
def execCtxCaptureDone (s : State) : Host.Outcome State Fault Refusal := .next (settle (opCtxCaptured s))

/-- CTX_CMD_WRITE (R70). -/
def execCtxCmdWrite (s : State) : Host.Outcome State Fault Refusal := .next (settle (opCtxWrite s))

/-- CTX_CLEAR_CNT (R102). -/
def execCtxClearCnt (s : State) : Host.Outcome State Fault Refusal := .next (settle (opCtxClear s))

/-- THROTTLE_TOKEN_REFILL (R95). -/
def execThrottleTokenRefill (ctx : BitVec 12) (s : State) : Host.Outcome State Fault Refusal :=
  .next (settle (opToken s ctx.toNat))

/-- THROTTLE_WINDOW_END (R96). -/
def execThrottleWindowEnd (s : State) : Host.Outcome State Fault Refusal := .next (settle (opWindowEnd s))

end Sys2Proof.Machine
end

