-- ==== Sys2Proof/Machine/Flash.lean ====
section
/-! DEFINITION. The Last flash and the OTP records in service: raw operations (R602, R610), failed operations (R576), the
log's commits and timers (R591, R595), and OTP burns (R605–R608). -/

namespace Sys2Proof.Machine

/-! ### Raw operations (R602) -/

/-- The four bytes of a word, lowest first. -/
def wordBytes (w : Word) : List (BitVec 8) := leBytes 4 w.toNat

/-- The first `n` bytes of `LF_BUF` (R610). -/
def lfBufBytes (s : State) (n : Nat) : List (BitVec 8) :=
  (((List.range 64).map (fun i => wordBytes (s.rd (Reg.lfBuf.at i)))).flatten).take n

/-- Bytes loaded into `LF_BUF` from byte 0; the bytes behind them stand. -/
def loadLfBuf (s : State) (l : List (BitVec 8)) : State :=
  let all := l ++ (lfBufBytes s 256).drop l.length
  (List.range ((l.length + 3) / 4)).foldl (fun s i => s.wr (Reg.lfBuf.at i) (dw (leNat ((all.drop (4 * i)).take 4)))) s

/-- A raw operation is refused (R602). -/
def lfRefuse (s : State) (w : Word) : State :=
  (s.setFlag Fld.lfStatusRefused true).info Ev.lfRefused Src.flash (s.rd Reg.lfAddr.at) w

/-- The Last copy that `BLK_STATUS.LAST` does not name: A or B, and either where it names none (R602). An address lies
wholly inside it. -/
def inOtherCopy (s : State) (a n : Nat) : Bool :=
  let size := flashSize s / 4
  let inside (b : Bool) : Bool := decide (copyAt s b ≤ a ∧ a + n ≤ copyAt s b + size)
  (s.fld Fld.blkStatusLast != 1 && inside false) || (s.fld Fld.blkStatusLast != 2 && inside true)

/-- A raw program or erase is permitted (R602). -/
def rawMayWrite (s : State) (op a n : Nat) : Bool :=
  s.flag Fld.lfCtlWrEn && inOtherCopy s a n && s.mode != .holdup
    && (if op = 1 then decide (a % 256 + n ≤ 256) else decide (a % 4096 = 0))

/-- A write of `LF_XFER` with GO (R602, R610). One raw operation is in progress or waiting at a time. -/
def opLfXfer (s : State) (w : Word) (op : Nat) : State :=
  if s.mode = .reset then s
  else
    let n := Fld.lfXferLen.of w + 1
    let s := (s.setFld Fld.lfXferOp op).setFld Fld.lfXferLen (n - 1)
    let a := (s.rd Reg.lfAddr.at).toNat
    let busy := match s.flash.op with | none => false | some .log => false | _ => true
    let len := if op = 2 then 4096 else n
    if op = 3 || busy || !s.flag Fld.lfInfoFound || s.inError 83 || (op != 0 && !rawMayWrite s op a len) then lfRefuse s w
    else
      let f : FlashOp := if op = 0 then .rawRead a n else if op = 1 then .rawProgram a (lfBufBytes s n) else .rawErase a
      let s := ((s.setFlag Fld.lfStatusRefused false).setFlag Fld.lfStatusErr false).setFlag Fld.lfStatusBusy true
      { s with flash := { s.flash with op := some f } }

/-! ### The end of an operation (R576) -/

/-- Three consecutive failures stop the interface (R576, R601): no update is written, and what was queued is dropped. -/
def stopFlash (s : State) : State :=
  let s : State := { s with flash := { s.flash with log := [], writing := false, update := none, op := none } }
  ((s.setFlag Fld.lfStatusStopped true).setFlag Fld.lfStatusLogBusy false).setFlag Fld.lfStatusBusy false

/-- An operation failed or timed out (R576). -/
def flashFail (s : State) (a op : Nat) (late : Bool) : State :=
  let n := s.flash.failRun + 1
  let s : State := (s.count Reg.flCntErr)
  let s : State := { s with flash := { s.flash with failRun := n } }
  let d0 := dw a
  let d1 := dw (op + (if late then 4 else 0))
  if n < 3 then s.event Prio.contained Ev.lfErr Src.flash d0 d1
  else stopFlash (s.eventOf Ev.lfErr Src.flash 83 d0 d1)

/-- Bytes that a failed program or erase leaves open: free values, within the bits that the operation could move. -/
def spoilBytes (s : State) (a : Nat) (f : BitVec 8 → BitVec 8 → Nat → BitVec 8) : Nat → State
  | 0 => s
  | n + 1 =>
    let s := spoilBytes s a f n
    let (v, s) := s.free 8
    { s with flash := { s.flash with bytes := kSet 0xFF s.flash.bytes (a + n) (f (flashByte s (a + n)) v n) } }

/-- The raw operation in progress ends. -/
def rawEnd (s : State) (ok late : Bool) : State :=
  let fin (s : State) : State := { s with flash := { s.flash with op := none } }.setFlag Fld.lfStatusBusy false
  match s.flash.op with
  | some (.rawRead a n) =>
    if ok then (let s := loadLfBuf (fin s) (flashBytes s a n); { s with flash := { s.flash with failRun := 0 } })
    else flashFail ((fin s).setFlag Fld.lfStatusErr true) a 0 late
  | some (.rawProgram a l) =>
    if ok then (let s := programAt (fin s) a l; { s with flash := { s.flash with failRun := 0 } })
    else
      let s := spoilBytes (fin s) a (fun old v i => old &&& (l.getD i 0xFF ||| v)) l.length
      flashFail (s.setFlag Fld.lfStatusErr true) a 1 late
  | some (.rawErase a) =>
    if ok then (let s := eraseAt (fin s) a 4096; { s with flash := { s.flash with failRun := 0 } })
    else
      let s := spoilBytes (fin s) a (fun old v _ => old ||| v) 4096
      flashFail (s.setFlag Fld.lfStatusErr true) a 2 late
  | _ => s

/-- A flash operation ends well or badly (R576). While an update holds the flash the operation is one of its own, and the
update goes on; its COMMIT has a command of its own. -/
def opFlashDone (s : State) (ok : Bool) : State :=
  if s.flash.writing then
    if ok then { s with flash := { s.flash with failRun := 0 } }
    else flashFail s ((s.flash.update.map (fun u => u.commitAt)).getD 0) 1 false
  else rawEnd s ok false

/-- An operation has timed out (R576): program and erase operations have a time limit. -/
def opFlashTimeout (s : State) : State :=
  if s.flash.writing then flashFail s ((s.flash.update.map (fun u => u.commitAt)).getD 0) 1 true
  else match s.flash.op with
    | some (.rawRead _ _) => s
    | _ => rawEnd s false true

/-! ### The Last's headers (R582, R610) -/

/-- Both headers are read: the sequences and the copies' validity. -/
def readHeaders (s : State) : State :=
  let found := s.flag Fld.lfInfoFound
  let seq (b : Bool) : Nat := if found then flashWord s (copyAt s b + 12) else 0
  let s := (s.setFld Fld.lastSeqASeq (seq false)).setFld Fld.lastSeqBSeq (seq true)
  (s.setFlag Fld.lastStatusValidA (found && (lastCopy s false).isSome)).setFlag Fld.lastStatusValidB
    (found && (lastCopy s true).isSome)

/-- `LF_CTL.RESCAN` (R582). -/
def opRescan (s : State) : State := if s.mode = .reset || s.inError 83 then s else readHeaders s

/-! ### The log -/

/-- The COMMIT of the update in progress (R595), and what it completes. -/
def opCommit (s : State) : State :=
  match s.flash.update, s.flash.log with
  | some _, r :: _ => recordDone (commitUpdate s) r
  | some _, [] => commitUpdate s
  | none, _ => s

/-- The lifetime record as its latest queued update leaves it (R591). -/
def lifeCells (s : State) : List Nat :=
  match (s.flash.log.filter (fun r => r.kind == LogKind.lifetime)).getLast? with
  | some r => r.body
  | none => (List.range 63).map (logCell s 1)

/-- A counter of the lifetime record, and what it has gained since: uptime in seconds, and lines in units of 4,096
(R591). -/
def lifeOld (cells : List Nat) (j : Nat) : Nat := cells.getD (2 * j + 1) 0 + cells.getD (2 * j + 2) 0 * 2 ^ 32
def lifeGain (s : State) (j : Nat) : Nat :=
  let g := kGet 0 s.life j
  if j = 2 then g + (s.us - s.lifeAt) / 1000000 else if 11 ≤ j then g / 4096 else g

/-- The lifetime record is queued with the march selection `march` (R429, R591). -/
def queueLife (s : State) (march : Nat) : State :=
  if !logOpen s then s
  else
    let old := lifeCells s
    let body := (old.getD 0 0 / 2 * 2 + march % 2) :: ((List.range 31).map (fun j =>
      let v := (lifeOld old j + lifeGain s j) % 2 ^ 64
      [v % 2 ^ 32, v / 2 ^ 32])).flatten
    let s := queueLog s LogKind.lifetime body
    { s with
      life := s.life.filterMap (fun e => if 11 ≤ e.1 ∧ e.2 % 4096 ≠ 0 then some (e.1, e.2 % 4096) else none)
      lifeAt := s.lifeAt + (s.us - s.lifeAt) / 1000000 * 1000000 }

/-- 24 hours of uptime have passed (R591). -/
def opLifeTimer (s : State) : State := if clockRuns s then queueLife s ((lifeCells s).getD 0 0) else s

/-- Channels whose calibration summary is due (R386, R446, R591). -/
def summaryDue (s : State) : List Nat :=
  (List.range 16).filter (fun c => s.fld Fld.trimValidValid c != 0 && s.fld Fld.calPeriodLog c != 0
    && s.fld Fld.spareInvImgRomTseq / 2 ^ c % 2 == 0)

/-- The hours of `CAL_PERIOD.LOG` have passed (R591). -/
def opCalSummary (s : State) : State :=
  if (summaryDue s).isEmpty || s.mode = .reset then s else queueLog s LogKind.cal (summaryDue s)

/-! ### OTP burns (R605–R608) -/

/-- Present repairs in OTP entry form (R603, R605). -/
def sramEntries (s : State) : List Nat :=
  s.sram.fixes.map sramEntry ++ s.sram.replaced.map (fun e => groupEntry e.1 e.2)

/-- Present lane substitutions in OTP entry form (R603, R605). -/
def laneSubs (s : State) : List Nat :=
  ((List.range 16).map (fun c => ((List.range 16).filter (fun k => spareValid s c k)).map (fun k =>
    laneEntry c (k / 2) (k % 2) (Fld.phySpareMapLane.of (spareWord s c k))))).flatten

/-- The content of a record between its mark and its check code: from the buffer, or for the two repair records the
block's own (R605). -/
def burnContent (s : State) (k : Nat) : List (BitVec 8) :=
  if k = 3 then
    let es := (sramEntries s).take 126
    (0 : BitVec 8) :: leBytes 2 es.length ++ (es.map (leBytes 4)).flatten
  else if k = 4 then
    let es := (laneSubs s).take 125
    (0 : BitVec 8) :: leBytes 2 es.length ++ (es.map (leBytes 2)).flatten
  else (((List.range 128).map (fun i => wordBytes (s.rd (Reg.otpBuf.at i)))).flatten).drop 1

/-- A whole slot: mark, content, check code (R604). -/
def slotBytes (n : Nat) (content : List (BitVec 8)) : List (BitVec 8) :=
  let body := (0xA5 : BitVec 8) :: ((content ++ List.replicate n 0).take (n - 3))
  body ++ leBytes 2 (crc16 0xFFFF body).toNat

/-- A burn is refused (R605, R607): 1 locked, 2 no slot, 3 busy, 4 mode. -/
def otpRefuse (s : State) (k why : Nat) : State :=
  let s := (s.setFlag Fld.otpStatusRefused true).info Ev.otpRefused Src.flash (dw (k % 8)) (dw why)
  if why = 2 then s.info Ev.otpFull Src.flash (dw (k % 8)) else s

/-- A burn of a record begins (R605). -/
def startBurn (s : State) (k : Nat) : State :=
  if s.modeNow.noChCmd then otpRefuse s k 4
  else if s.flash.burn.isSome then otpRefuse s k 3
  else if 7 ≤ k ∨ otpFree s k = 0 then otpRefuse s k 2
  else if otpLocked s k then otpRefuse s k 1
  else
    let s := ((s.setFlag Fld.otpStatusRefused false).setFlag Fld.otpStatusFail false).setFlag Fld.otpStatusBusy true
    { s with flash := { s.flash with burn := some (k, 4 - otpFree s k, slotBytes (otpPlace k).2 (burnContent s k)) } }

/-- `OTP_CTL.BURN` (R605). -/
def opOtpBurn (s : State) (w : Word) : State :=
  if s.mode = .reset then s else startBurn (s.setFld Fld.otpCtlRecord (Fld.otpCtlRecord.of w)) (Fld.otpCtlRecord.of w)

/-- The OTP with bytes burned from an address on: a burn sets bits and clears none. -/
def burnBytes (m : KMap (BitVec 8)) (a : Nat) (l : List (BitVec 8)) : KMap (BitVec 8) :=
  ((List.range l.length).zip l).foldl (fun m x => kSet 0 m (a + x.1) (kGet 0 m (a + x.1) ||| x.2)) m

/-- The burn ends with its read-back (R605, R606). A new generation takes effect at the next start. -/
def opBurnDone (s : State) (ok : Bool) : State :=
  match s.flash.burn with
  | none => s
  | some (k, slot, l) =>
    let s := (s.count Reg.otpCntBurn).setFlag Fld.otpStatusBusy false
    let s : State := { s with flash := { s.flash with burn := none } }
    if ok then
      let at_ := (otpPlace k).1 + slot * (otpPlace k).2
      { s with flash := { s.flash with otp := burnBytes s.flash.otp at_ l } }
    else
      let s : State := { s with flash := { s.flash with otpSpoiled := s.flash.otpSpoiled ++ [(k, slot)] } }
      (s.setFlag Fld.otpStatusFail true).info Ev.otpBurnFail Src.flash (dw (k % 8 + slot % 4 * 16))

/-! ### Meanings -/

/-- LF_XFER_READ (R602) -/
def execLfXferRead (w : Word) (s : State) : Host.Outcome State Fault Refusal := .next (settle (opLfXfer s w 0))

/-- LF_XFER_PROGRAM (R602) -/
def execLfXferProgram (w : Word) (s : State) : Host.Outcome State Fault Refusal := .next (settle (opLfXfer s w 1))

/-- LF_XFER_ERASE (R602) -/
def execLfXferErase (w : Word) (s : State) : Host.Outcome State Fault Refusal := .next (settle (opLfXfer s w 2))

/-- LF_XFER_OP3 (R610) -/
def execLfXferOp3 (w : Word) (s : State) : Host.Outcome State Fault Refusal := .next (settle (opLfXfer s w 3))

/-- FLASH_OP_DONE (R576) -/
def execFlashOpDone (ok : Bool) (s : State) : Host.Outcome State Fault Refusal := .next (settle (opFlashDone s ok))

/-- FLASH_OP_TIMEOUT (R576) -/
def execFlashOpTimeout (s : State) : Host.Outcome State Fault Refusal := .next (settle (opFlashTimeout s))

/-- LF_RESCAN (R582) -/
def execLfRescan (s : State) : Host.Outcome State Fault Refusal := .next (settle (opRescan s))

/-- LOG_UPDATE_COMMIT (R595) -/
def execLogUpdateCommit (s : State) : Host.Outcome State Fault Refusal := .next (settle (opCommit s))

/-- LIFETIME_LOG_TIMER (R591) -/
def execLifetimeLogTimer (s : State) : Host.Outcome State Fault Refusal := .next (settle (opLifeTimer s))

/-- CAL_SUMMARY_TIMER (R591) -/
def execCalSummaryTimer (s : State) : Host.Outcome State Fault Refusal := .next (settle (opCalSummary s))

/-- OTP_BURN (R605) -/
def execOtpBurn (w : Word) (s : State) : Host.Outcome State Fault Refusal := .next (settle (opOtpBurn s w))

/-- OTP_BURN_DONE (R606) -/
def execOtpBurnDone (ok : Bool) (s : State) : Host.Outcome State Fault Refusal := .next (settle (opBurnDone s ok))

end Sys2Proof.Machine
end

