-- ==== Sys2Proof/Machine/Service.lean ====
section
/-! DEFINITION. In-service repair: the commands of a channel's state (R467–R494), marks and post-package repair (R497–
R502), the policy's timers (R473, R492, R495), images loaded in service (R509–R513) and the burns of R508. -/

namespace Sys2Proof.Machine

/-! ### Commands of a channel (R467–R469) -/

/-- A command bit of `CH_STATE` is written (R467). RESET takes no register access (R430). -/
def opCh (s : State) (c : Nat) (cmd : ChCmd) : State := if s.mode = .reset then s else chCommand s c cmd

/-- A fence has stayed in FENCING for `SVC_POLICY.FENCE_WARN` seconds (R473): warned of once. -/
def opFenceSlow (s : State) (c : Nat) : State :=
  if (s.ch c).st = .fencing && !(s.ch c).fenceWarned && s.fld Fld.svcPolicyFenceWarn != 0 then
    let n := ((s.tags.filter (fun e => e.1 / 2 ^ 28 == c)).map (fun e => popcount e.2.dirty)).sum
    (s.modCh (chan c) (fun q => { q with fenceWarned := true })).info Ev.fenceSlow (Src.chan c) (dw (c % 16)) (dw n)
  else s

/-- A window of 24 hours ends (R492). -/
def opRetrainWindow (s : State) (c : Nat) : State :=
  if s.mode = .reset then s
  else (s.setFld Fld.chRetrainCount 0 c).modCh (chan c) (fun q => { q with retrainFrom := s.us })

/-- End taps have stayed released for 24 hours (R495). -/
def opEndtapTimer (s : State) (c : Nat) : State :=
  if s.modeNow.noChCmd || (s.ch c).st != .online || !s.flag Fld.svcPolicyRetrainEndtap || s.fld Fld.phyEndtapReleased c = 0 then s
  else orderlyFence (s.modCh (chan c) (fun q => { q with plan := 1 })) c Why.policy

/-! ### Marks and repairs (`CH_SVC`, R497–R502) -/

/-- The fields of `CH_SVC` that a write leaves (R516). -/
def putSvc (s : State) (c : Nat) (w : Word) : State :=
  (s.setFld Fld.chSvcDev (Fld.chSvcDev.of w) c).setFld Fld.chSvcRank (Fld.chSvcRank.of w) c

/-- A command of `CH_SVC` is open to refusal as one of `CH_STATE` is (R469), and where the record it needs cannot be
written (R520 source 83). -/
def svcOpen (s : State) (c : Nat) : Bool := !s.modeNow.noChCmd && !chBusy s c && logOpen s

/-- The accepted command clears REFUSED (R469). -/
def svcAccept (s : State) (c : Nat) : State := s.setFlag Fld.chStateRefused false c

/-- `CH_SVC.MARK` (R293, R501). -/
def opMark (s : State) (c : Nat) (w : Word) : State :=
  if s.mode = .reset then s
  else
    let s := putSvc s c w
    let r := Fld.chSvcRank.of w
    if svcOpen s c && mayMark s c r then markDevice (svcAccept s c) c r (Fld.chSvcDev.of w) 1 else chRefuse s c w

/-- `CH_SVC.UNMARK` (R502): only while the channel is FENCED or in SERVICE. A rank without a mark has nothing to give
up. -/
def opUnmark (s : State) (c : Nat) (w : Word) : State :=
  if s.mode = .reset then s
  else
    let s := putSvc s c w
    let r := Fld.chSvcRank.of w
    if svcOpen s c && ((s.ch c).st == .fenced || (s.ch c).st == .service) then
      let s := svcAccept s c
      if s.fld (Fld.chMarkValid r) c = 0 then s
      else queueLog ((s.setFld (Fld.chMarkDev r) 0 c).setFld (Fld.chMarkValid r) 0 c) LogKind.journal [Jr.unmark, c, r]
    else chRefuse s c w

/-- The row that `CH_SVC_ROW` names (R500, R516). -/
def svcRow (s : State) (c : Nat) : Loc :=
  { sub := 0, rank := s.fld Fld.chSvcRowRank c, bank := s.fld Fld.chSvcRowBank c, row := s.fld Fld.chSvcRowRow c, col := 0 }

/-- `CH_SVC.PPR_SOFT` (R446, R497, R500): the row goes before those the policy wants. -/
def opPprSoft (s : State) (c : Nat) (w : Word) : State :=
  if s.mode = .reset then s
  else
    let s := putSvc s c w
    let l := svcRow s c
    if svcOpen s c && softAble s && pprState s c then
      (svcAccept s c).modCh (chan c) (fun q => { q with pprWant := l :: q.pprWant.erase l })
    else chRefuse s c w

/-- `CH_SVC.PPR_HARD` (R500): only in SERVICE, with the DIMMs powered. -/
def opPprHard (s : State) (c : Nat) (w : Word) : State :=
  if s.mode = .reset then s
  else
    let s := putSvc s c w
    let l := svcRow s c
    if svcOpen s c && (s.ch c).st == .service && (s.ch c).powered then
      let s := svcAccept s c
      if kGet 0 (s.ch c).pprFree (pprGroup s c l) = 0 then
        (s.count Reg.chCntPprNone 1 c).info Ev.pprNone (Src.chan c) (formC c l) 1
      else s.modCh (chan c) (fun q => { q with ppr := 7, pprLoc := some l })
    else chRefuse s c w

/-! ### Images (R444, R509–R513) -/

/-- The image of a type in a copy's records with its version and interface revision, or the code of R445 that excludes it.
`want`: the interface revision it must have. -/
def imageOf (s : State) (l : List LastRec) (typ : Nat) (want : Option Nat) : (Nat × Nat) ⊕ Nat :=
  match lastFind s l typ 0 with
  | none => .inr 1
  | some r =>
    let (v, rev, hw, mp) := imageHead s r
    let h := Config.hwRev.toNat
    let m := s.fld Fld.mpIfrevIfrev
    if h < hw.1 ∨ hw.2 < h then .inr 2
    else if want.any (fun x => x != rev) then .inr 3
    else if m < mp.1 ∨ mp.2 < m then .inr 4
    else .inl (v, rev)

/-- A load of an image is refused (R512). -/
def imgRefuse (s : State) (w : Word) (code : Nat) : State :=
  (((s.count Reg.svcCntImgRefused).setFlag Fld.imgStatusRefused true).setFld Fld.imgStatusCode code).info Ev.imageRefused Src.pseq (dw code) w

/-- A load is accepted: the record of an earlier refusal goes. -/
def imgAccept (s : State) : State := (s.setFlag Fld.imgStatusRefused false).setFld Fld.imgStatusCode 0

/-- The interface revision that every running TSEQ image has, if they agree. -/
def tseqRev (s : State) : Option Nat :=
  let r := s.fld Fld.imgTseqVerIfrev 0
  if (List.range 16).all (fun c => s.fld Fld.imgTseqVerIfrev c == r) then some r else none

/-- The fields of `IMG_CTL` that a write leaves (R516). -/
def putImg (s : State) (w : Word) : State :=
  (s.setFld Fld.imgCtlCopy (Fld.imgCtlCopy.of w)).setFld Fld.imgCtlChannels (Fld.imgCtlChannels.of w)

/-- The records of the Last copy that an `IMG_CTL` word names. -/
def imgRecords (s : State) (w : Word) : List LastRec := (lastCopy s (Fld.imgCtlCopy.of w == 1)).getD []

/-- `IMG_CTL.PSEQ` (R509, R510): the image waits for the next epoch boundary. A later load takes its place. -/
def opImgPseq (s : State) (w : Word) : State :=
  if s.mode = .reset then s
  else
    let s := putImg s w
    match tseqRev s with
    | none => imgRefuse s w 3
    | some r =>
      match imageOf s (imgRecords s w) 0x11 (some r) with
      | .inr code => imgRefuse s w code
      | .inl im => imgBooks { imgAccept s with pseqStaged := some im }

/-- One channel's standby store takes a TSEQ image (R511): a FENCED channel that is not training switches at once. -/
def stageTseq (v rev : Nat) (s : State) (c : Nat) : State :=
  let s : State := { s with tseqStaged := kPut s.tseqStaged c (v + rev * 2 ^ 16) }
  let s := s.setFlag Fld.imgTseqVerPending true c
  if (s.ch c).st = .fenced && s.mode != .train then switchTseq s c else s

/-- `IMG_CTL.TSEQ` (R509, R511). -/
def opImgTseq (s : State) (w : Word) : State :=
  if s.mode = .reset then s
  else
    let s := putImg s w
    match imageOf s (imgRecords s w) 0x10 (some (s.fld Fld.imgPseqVerIfrev)) with
    | .inr code => imgRefuse s w code
    | .inl (v, rev) =>
      let cs := (List.range 16).filter (fun c => (Fld.imgCtlChannels.of w) / 2 ^ c % 2 == 1)
      imgBooks (cs.foldl (stageTseq v rev) (imgAccept s))

/-- `SVC_OTP` (R508). -/
def opSvcBurn (s : State) (k : Nat) : State := if s.mode = .reset then s else startBurn s k

/-! ### Meanings -/

/-- CH_FENCE (R471) -/
def execChFence (ch : ChanId) (s : State) : Host.Outcome State Fault Refusal := .next (settle (opCh s ch.val .fence))

/-- FENCE_SLOW_WARN (R473) -/
def execFenceSlowWarn (ch : ChanId) (s : State) : Host.Outcome State Fault Refusal := .next (settle (opFenceSlow s ch.val))

/-- CH_SERVICE (R484) -/
def execChService (ch : ChanId) (s : State) : Host.Outcome State Fault Refusal :=
  .next (settle (opCh s ch.val (.service false)))

/-- CH_SERVICE_POWER_OFF (R484) -/
def execChServicePowerOff (ch : ChanId) (s : State) : Host.Outcome State Fault Refusal :=
  .next (settle (opCh s ch.val (.service true)))

/-- CH_RETRAIN (R488) -/
def execChRetrain (ch : ChanId) (s : State) : Host.Outcome State Fault Refusal := .next (settle (opCh s ch.val .retrain))

/-- CH_RETURN (R490) -/
def execChReturn (ch : ChanId) (s : State) : Host.Outcome State Fault Refusal := .next (settle (opCh s ch.val .ret))

/-- CH_RETIRE (R493) -/
def execChRetire (ch : ChanId) (s : State) : Host.Outcome State Fault Refusal := .next (settle (opCh s ch.val .retire))

/-- CH_DISCARD (R480) -/
def execChDiscard (ch : ChanId) (s : State) : Host.Outcome State Fault Refusal := .next (settle (opCh s ch.val .discard))

/-- RETRAIN_WINDOW_END (R492) -/
def execRetrainWindowEnd (ch : ChanId) (s : State) : Host.Outcome State Fault Refusal :=
  .next (settle (opRetrainWindow s ch.val))

/-- CH_MARK (R501) -/
def execChMark (ch : ChanId) (w : Word) (s : State) : Host.Outcome State Fault Refusal := .next (settle (opMark s ch.val w))

/-- CH_UNMARK (R502) -/
def execChUnmark (ch : ChanId) (w : Word) (s : State) : Host.Outcome State Fault Refusal :=
  .next (settle (opUnmark s ch.val w))

/-- CH_PPR_SOFT (R497) -/
def execChPprSoft (ch : ChanId) (w : Word) (s : State) : Host.Outcome State Fault Refusal :=
  .next (settle (opPprSoft s ch.val w))

/-- CH_PPR_HARD (R500) -/
def execChPprHard (ch : ChanId) (w : Word) (s : State) : Host.Outcome State Fault Refusal :=
  .next (settle (opPprHard s ch.val w))

/-- ENDTAP_RETRAIN_TIMER (R495) -/
def execEndtapRetrainTimer (ch : ChanId) (s : State) : Host.Outcome State Fault Refusal :=
  .next (settle (opEndtapTimer s ch.val))

/-- IMG_LOAD_PSEQ (R510) -/
def execImgLoadPseq (w : Word) (s : State) : Host.Outcome State Fault Refusal := .next (settle (opImgPseq s w))

/-- IMG_LOAD_TSEQ (R511) -/
def execImgLoadTseq (w : Word) (s : State) : Host.Outcome State Fault Refusal := .next (settle (opImgTseq s w))

/-- BURN_SRAM (R508) -/
def execBurnSram (s : State) : Host.Outcome State Fault Refusal := .next (settle (opSvcBurn s 3))

/-- BURN_LANE (R508) -/
def execBurnLane (s : State) : Host.Outcome State Fault Refusal := .next (settle (opSvcBurn s 4))

end Sys2Proof.Machine
end

