-- ==== Sys2Proof/Machine/Sram.lean ====
section
/-! DEFINITION. The SRAM test engines: background test (R561–R569), march tests (R557–R560) and group copies (R505). -/

namespace Sys2Proof.Machine

/-! ### Regions (R548, R561) -/

/-- Regions of an array, and of one of its groups. -/
def arrayRegions : Nat → Nat
  | 0 => 10240 | 1 => 4096 | 2 => 2560 | 3 => 1120 | 4 => 2176 | _ => 0
def groupRegions : Nat → Nat
  | 0 => 256 | 1 => 256 | 2 => 160 | 3 => 224 | _ => 136

/-- The number of an array's first region in the order of R561, and of all regions. -/
def firstRegion (a : Nat) : Nat := ((List.range a).map arrayRegions).sum
def allRegions : Nat := firstRegion 5

/-- The array and region index of a region's number. -/
def regionOf (n : Nat) : Nat × Nat :=
  let a := ((List.range 5).find? (fun a => decide (n < firstRegion (a + 1)))).getD 4
  (a, n - firstRegion a)

/-- The number of the region in `SRAM_BGT_POS`. -/
def regionNow (s : State) : Nat := firstRegion (s.fld Fld.sramBgtPosArray) + s.fld Fld.sramBgtPosRegion

/-- The physical group of a region, before any replacement. -/
def regionGroup (n : Nat) : Nat :=
  let (a, i) := regionOf n
  arrayFirst a + i / groupRegions a

/-- The group is being replaced or march-tested, so its regions are skipped (R568). -/
def groupHeld (s : State) (g : Nat) : Bool :=
  s.sram.copying.any (fun x => x.1 == g) || s.sram.march.any (fun x => x.1 == g)

/-- The first region from `n` on whose group is not held: groups are passed whole. -/
def freeRegion (s : State) : Nat → Nat → Nat
  | 0, n => n
  | fuel + 1, n =>
    if n < allRegions && groupHeld s (regionGroup n) then
      let (a, i) := regionOf n
      freeRegion s fuel (firstRegion a + (i / groupRegions a + 1) * groupRegions a)
    else n

/-! ### The background test's phases (R562, R563) -/

/-- The phase in progress, and what shows of it. -/
def bgtPhase (s : State) (p : Nat) : State :=
  ((s.setFld Fld.sramBgtPosPhase p).setFlag Fld.sramStatusBgtActive (p != 0)).setFlag Fld.sramStatusBorrowed (p == 3 || p == 4)

def bgtIs (s : State) (p : Nat) : Bool := s.fld Fld.sramBgtPosPhase == p

/-- The engine begins a region. -/
def beginRegion (s : State) (n : Nat) : State :=
  let (a, i) := regionOf n
  let s := (s.setFld Fld.sramBgtPosArray a).setFld Fld.sramBgtPosRegion i
  bgtPhase { s with sram := { s.sram with abandoned := false } } 1

/-- A pass that has no region left ends (R561, R566). -/
def passEnds (s : State) : State :=
  if decide (allRegions ≤ freeRegion s 128 s.sram.bgtNext) && s.sram.retry.isEmpty && bgtIs s 0 then
    { s.count Reg.sramCntBgtPass with sram := { s.sram with bgtNext := 0 } }
  else s

/-- The modes in which the engine starts a region (R561). -/
def bgtRuns (s : State) : Bool :=
  s.flag Fld.sramBgtCtlEnable && bgtIs s 0
    && (match s.modeNow with
        | .plain => true | .tiered => true | .drain => true | .bypass => true | .test => true | _ => false)

/-- The next region to be retried: ascending from the latest region, then from the lowest (R566). -/
def retryNext (s : State) : Option Nat :=
  let ks := s.sram.retry.map (fun e => e.1)
  match ks.find? (fun k => decide (regionNow s < k)) with
  | some k => some k
  | none => ks.head?

/-- The interval has expired and the next region starts draining (R561): of an array asked for at once (R519), of the
pass, then of those to be retried. -/
def opRegionStart (s : State) : State :=
  if !bgtRuns s then s
  else match s.sram.urgent with
    | a :: rest =>
      let n := freeRegion s 128 (max s.sram.urgentNext (firstRegion a))
      if n < firstRegion (a + 1) then beginRegion { s with sram := { s.sram with urgentNext := n + 1 } } n
      else { s with sram := { s.sram with urgent := rest, urgentNext := 0 } }
    | [] =>
      let n := freeRegion s 128 s.sram.bgtNext
      if n < allRegions then beginRegion { s with sram := { s.sram with bgtNext := n + 1 } } n
      else match retryNext s with
        | some k => beginRegion { s with sram := { s.sram with bgtNext := allRegions } } k
        | none => passEnds s

/-- The channel that takes the next DRAM copy: successive ONLINE channels (R564). -/
def saveChannel (s : State) : Option Nat :=
  ((List.range 16).map (fun i => (s.sram.saveCh + 1 + i) % 16)).find? (fun c => (s.ch c).st == .online)

/-- The DRAM copy of the region: 64 lines of the save unit, the second-last unit of rank 0, under 64 move reserve
entries (R564). -/
def saveToDram (s : State) : State :=
  match saveChannel s with
  | none => s
  | some c =>
    if !s.flag Fld.sramBgtCtlDramCopy || decide (1024 < poolCount s .moveRes + 64) then s
    else
      let unit := (s.ch c).rankUnits - 2
      let ls : List JobLine := (List.range 64).map (fun t =>
        { loc := s.unitLoc c 0 unit t, key := lineKeyOf c (2 ^ 23 + unit % 2 ^ 23) 0 t })
      let dl := s.farDeadline (s.fld Fld.arbFarTest)
      let (id, s) := newJob s c .bgt true ls 0 dl false
      let s := ls.foldl (fun s x => addEntry s
        { idx := 0, kind := .bgt, st := .run, pool := .moveRes, ctx := 0, port := 0, deadline := dl,
          key := .loc c (2 ^ 28 + unit * 64 + x.key % 64), ch := c, owner := id }) s
      { s with sram := { s.sram with saveCh := c, saveJob := some (c, id), saveDone := false } }

/-- The region has drained: SAVE (R562, R563). -/
def opRegionDrained (s : State) : State :=
  if bgtIs s 1 then
    saveToDram (bgtPhase { s with sram := { s.sram with saveJob := none, saveDone := false } } 2)
  else s

/-- A region was skipped or abandoned once more (R566). -/
def missRegion (s : State) : State :=
  let n := regionNow s
  let k := kGet 0 s.sram.retry n + 1
  if k < s.fld Fld.sramBgtCtlAbandonMax then { s with sram := { s.sram with retry := kPut s.sram.retry n k } }
  else
    let s : State := { s with sram := { s.sram with retry := kErase s.sram.retry n } }
    (s.count Reg.sramCntBgtSkip).info Ev.sramBgtSkip Src.sram
      (dw (s.fld Fld.sramBgtPosArray + s.fld Fld.sramBgtPosRegion * 16))

/-- The region has not drained in time (R562, R566). -/
def opDrainTimeout (s : State) : State := if bgtIs s 1 then passEnds (missRegion (bgtPhase s 0)) else s

/-- The region is saved, so it is borrowed and tested (R563). -/
def opSaveDone (s : State) : State := if bgtIs s 2 then bgtPhase s 3 else s

/-- A failing column group that a background test finds (R567): left for the group's next march test, unless the macro
already has another. -/
def foundColumn (s : State) (g m index : Nat) : State :=
  if s.sram.cols.any (fun x => x == (g, m, index)) then s
  else
    let s : State := { s with sram := { s.sram with cols := s.sram.cols ++ [(g, m, index)] } }
    if 2 ≤ s.sram.cols.countP (fun x => x.1 == g && x.2.1 == m) then groupFails s g else s

/-- What a test found in a group (R560, R567). `bg`: a background test, which leaves column groups alone. -/
def applyMarch (s : State) (g : Nat) (bg : Bool) (r : MarchRes) : State :=
  match r with
  | .pass => s
  | .repaired m row i => if bg && !row then foundColumn s g m i else (repairCells s g m row i).2
  | .fail => groupFails s g

/-- The group whose cells the region in progress has: its spare's, once one serves it. -/
def cellsOf (s : State) (g : Nat) : Nat := (kFind s.sram.replaced g).getD g

/-- The region's march test ends (R563). -/
def opTestDone (s : State) (r : MarchRes) : State :=
  if bgtIs s 3 then bgtPhase (applyMarch s (cellsOf s (regionGroup (regionNow s))) true r) 4 else s

/-- The region is restored and released (R563). -/
def opRestoreDone (s : State) : State :=
  if bgtIs s 4 then
    let s := bgtPhase s 0
    let s := if s.sram.abandoned then missRegion s
      else { s.count Reg.sramCntBgtRegion with sram := { s.sram with retry := kErase s.sram.retry (regionNow s) } }
    passEnds s
  else s

/-- An access to the borrowed region is redirected (R565): the first one during TEST abandons the test. -/
def opRedirect (s : State) : State :=
  if bgtIs s 3 then bgtAbandon (s.count Reg.sramCntRedirect)
  else if bgtIs s 4 then s.count Reg.sramCntRedirect
  else s

/-! ### March tests (R557–R560) -/

/-- A march test of a group in a mode is accepted (R559): destroying, for a spare group that serves nothing and for a
replaced group; preserving, for a group in service. -/
def marchMode (s : State) (g : Nat) (keep : Bool) : Bool :=
  let spare := decide (122 ≤ g) || g == 72 || g == 94
  if keep then (if spare then spareBusy s g else (kFind s.sram.replaced g).isNone)
  else (decide (122 ≤ g) && !spareBusy s g) || (kFind s.sram.replaced g).isSome

/-- A request is refused (R559): 1 mode, 2 no spare group, 3 busy, 4 block mode. -/
def marchRefuse (s : State) (g why : Nat) : State :=
  (s.setFlag Fld.sramMtStatusRefused true).info Ev.sramMtRefused Src.sram (dw (g % 128)) (dw why)

/-- The march test of a group starts. -/
def startMarch (s : State) (g : Nat) (keep : Bool) : State :=
  let s := if !bgtIs s 0 && regionGroup (regionNow s) == g then bgtAbandon s else s
  let s := ((s.setFlag Fld.sramMtStatusRefused false).setFlag Fld.sramMtStatusBusy true).setFlag Fld.sramStatusMtBusy true
  let s := ((s.setFlag Fld.sramMtStatusPass false).setFlag Fld.sramMtStatusFail false).setFlag Fld.sramMtStatusRepaired false
  let s : State := { s.count Reg.sramCntMtRun with sram := { s.sram with march := some (g, keep) } }
  match keep, freeGroup s with
  | true, some n =>
    askSpares ({ s with sram := { s.sram with marchSpare := n, marchStep := 1 } }.setFlag Fld.sramStatusCopying true)
  | _, _ => if 122 ≤ g then askSpares s else s

/-- `SRAM_MT_CTL.GO` (R559). -/
def opMarch (s : State) (w : Word) : State :=
  let g := Fld.sramMtCtlGroup.of w
  let keep := Fld.sramMtCtlPreserve.of w == 1
  if s.mode = .reset then s
  else
    let s := (s.setFld Fld.sramMtCtlGroup g).setFlag Fld.sramMtCtlPreserve keep
    if s.mode = .holdup || s.mode = .safe || s.modeNow = .recover then marchRefuse s g 4
    else if s.sram.march.isSome || s.sram.copying.isSome || !s.sram.waiting.isEmpty then marchRefuse s g 3
    else if !marchMode s g keep then marchRefuse s g 1
    else if keep && (freeGroup s).isNone then marchRefuse s g 2
    else startMarch s g keep

/-- The result of a march test on request (R560). A preserving test is copied back before its spare is released. -/
def marchResult (s : State) (g : Nat) (keep : Bool) (r : MarchRes) : State :=
  let s : State := { s with sram := { s.sram with cols := s.sram.cols.filter (fun x => x.1 != g)
                                                  march := if keep then s.sram.march else none
                                                  marchStep := if keep then 3 else 0 } }
  let failed := s.sram.failed.contains g
  let s := applyMarch s g false r
  let bad := !failed && s.sram.failed.contains g || r == .fail
  let s := (s.setFlag Fld.sramMtStatusPass (r == .pass)).setFlag Fld.sramMtStatusFail bad
  let s := s.setFlag Fld.sramMtStatusRepaired (r != .pass && !bad)
  let s := ((s.setFlag Fld.sramMtStatusBusy false).setFlag Fld.sramStatusMtBusy false).setFlag Fld.sramStatusCopying keep
  s.info Ev.sramMtDone Src.sram (dw (g % 128)) (s.rd Reg.sramMtStatus.at)

/-- The march of step 6 goes on with the next group, ascending (R558): a group beyond its spares is mapped to a spare
group at once, without a copy. -/
def marchNext (s : State) (g : Nat) (r : MarchRes) : State :=
  let s : State := match r with
    | .pass => s
    | .repaired m row i =>
      if macroRoom s g m row then addFix s { group := g, mac := m, row := row, index := i }
      else (match freeSpare s g with
            | some n => askSpares (groupReplaced (collectAll (s.report 81 (some g))) g n)
            | none => groupFails s g)
    | .fail =>
      match freeSpare s g with
      | some n => askSpares (groupReplaced (collectAll (s.report 81 (some g))) g n)
      | none => groupFails s g
  let go := decide (g < 127)
  let s : State := { s with sram := { s.sram with march := if go then some (g + 1, false) else none, atStart := go } }
  s.setFlag Fld.sramStatusMtBusy go

/-- A march test ends (R558, R560). -/
def opMarchDone (s : State) (r : MarchRes) : State :=
  match s.sram.march with
  | none => s
  | some (g, keep) =>
    if s.sram.atStart then marchNext s g r
    else if keep && s.sram.marchStep ≠ 2 then s
    else marchResult s g keep r

/-- A group copy ends (R505, R559). -/
def opCopyDone (s : State) : State :=
  match s.sram.march, s.sram.marchStep with
  | some _, 1 => { s with sram := { s.sram with marchStep := 2 } }.setFlag Fld.sramStatusCopying false
  | some _, 3 => { s with sram := { s.sram with march := none, marchStep := 0 } }.setFlag Fld.sramStatusCopying false
  | _, _ =>
    match s.sram.copying with
    | some (g, n) =>
      let s : State := { s with sram := { s.sram with copying := none } }
      groupReplaced (s.setFlag Fld.sramStatusCopying false) g n
    | none => s

/-! ### Meanings -/

/-- BGT_REGION_START (R561) -/
def execBgtRegionStart (s : State) : Host.Outcome State Fault Refusal := .next (settle (opRegionStart s))

/-- BGT_REGION_DRAINED (R562) -/
def execBgtRegionDrained (s : State) : Host.Outcome State Fault Refusal := .next (settle (opRegionDrained s))

/-- BGT_DRAIN_TIMEOUT (R562) -/
def execBgtDrainTimeout (s : State) : Host.Outcome State Fault Refusal := .next (settle (opDrainTimeout s))

/-- BGT_SAVE_DONE (R563) -/
def execBgtSaveDone (s : State) : Host.Outcome State Fault Refusal := .next (settle (opSaveDone s))

/-- BGT_TEST_DONE (R563) -/
def execBgtTestDone (r : MarchRes) (s : State) : Host.Outcome State Fault Refusal := .next (settle (opTestDone s r))

/-- BGT_RESTORE_DONE (R563) -/
def execBgtRestoreDone (s : State) : Host.Outcome State Fault Refusal := .next (settle (opRestoreDone s))

/-- BGT_REDIRECT (R565) -/
def execBgtRedirect (s : State) : Host.Outcome State Fault Refusal := .next (settle (opRedirect s))

/-- SRAM_MARCH_TEST (R559) -/
def execSramMarchTest (w : Word) (s : State) : Host.Outcome State Fault Refusal := .next (settle (opMarch s w))

/-- SRAM_MARCH_DONE (R560) -/
def execSramMarchDone (r : MarchRes) (s : State) : Host.Outcome State Fault Refusal := .next (settle (opMarchDone s r))

/-- SRAM_GROUP_COPY_DONE (R505) -/
def execSramGroupCopyDone (s : State) : Host.Outcome State Fault Refusal := .next (settle (opCopyDone s))

end Sys2Proof.Machine
end

