-- ==== Sys2Proof/Machine/Faults.lean ====
section
/-! DEFINITION. Fault collection: errors and breaks of the sources' pairs and the units' own reactions (R517–R532, R702),
forced errors (R530), the safe state by software (R534), the quiet period and RECOVER (R541–R545). -/

namespace Sys2Proof.Machine

/-! ### The units' reactions (R519, R520) -/

/-- The array whose corrected words a source reports (R548, R550). -/
def ceArray : Nat → Option Nat
  | 64 => some 2 | 68 => some 0 | 69 => some 1 | 71 => some 7 | 73 => some 5 | 76 => some 9 | 78 => some 8 | _ => none

/-- The array whose uncorrectable words a source reports (R548, R550). -/
def ueArray : Nat → Option Nat
  | 65 => some 2 | 66 => some 2 | 67 => some 4 | 70 => some 1 | 72 => some 7 | 74 => some 5 | 75 => some 12 | 77 => some 9
  | 79 => some 8 | _ => none

/-- The per-array counters of a real word error (R550). -/
def countWord (s : State) (src : Nat) : State :=
  let s := match ceArray src with | some a => s.count Reg.sramCntCe 1 a | none => s
  match ueArray src with | some a => s.count Reg.sramCntUe 1 a | none => s

/-- A line in the ledger is poisoned in its data slot, or in its staging line (R520 sources 65 and 67). -/
def poisonSlot (s : State) (line : Nat) : State :=
  { s with ledger := s.ledger.map (fun e => if e.key = .host line then { e with slot := e.slot.map (fun x => (x.1, true)) } else e) }
def poisonStaged (s : State) (line : Nat) : State :=
  { s with ledger := s.ledger.map (fun e => if e.key = .host line then { e with stg := e.stg.map (fun x => (x.1, true)) } else e) }

/-- A line in a frame buffer is poisoned (R520 source 70): a fill installs it so, an offer carries it in its PMAP. -/
def poisonBuffer (s : State) (line : Nat) : State :=
  let b := bit64 (line % 64)
  { s with media := { s.media with
      fills := s.media.fills.map (fun f => if f.page = line / 64 && f.landed &&& b != 0 then { f with bad := f.bad ||| b } else f)
      offers := s.media.offers.map (fun o => if o.page = line / 64 && o.smap &&& b != 0 then { o with pmap := o.pmap ||| b } else o) } }

/-- The persist index is rebuilt from the tags with PERSIST set (R520 source 74). -/
def rebuildIndex (s : State) : State :=
  { s with pidx := (s.tags.filter (fun e => e.2.persist)).map (fun e => e.1) }

/-- What an error does to the word, line, set or channel that it names (R520). -/
def namedReact (s : State) (src n : Nat) : State :=
  if src = 62 then loseTag s (n / 2 ^ 28) (n / 16 % 2 ^ 24) (n % 16)
  else if src = 65 then poisonSlot s n
  else if src = 67 then poisonStaged s n
  else if src = 70 then poisonBuffer s n
  else if src = 72 then (if n = 0 ∨ 4096 ≤ n then s else s.modCtx n (fun c => { c with dead := true }))
  else if src = 74 then rebuildIndex s
  else if src = 75 then
    { s with evq := { s.evq with items := s.evq.items.modify (n / 4) (fun i => { i with bad := i.bad ||| (1#4 <<< (n % 4)) }) } }
  else if src = 79 then faultFence s (n % 16) false
  else if src = 81 then (if n < 128 then replaceGroup s n else s)
  else s

/-- The arrays under background test whose contained errors start it when they name no word (R519). -/
def urgentArray : Nat → Option Nat
  | 62 => some 0 | 65 => some 2 | 67 => some 4 | 70 => some 1 | _ => none

/-- What a contained error does that names no request, line, set or word (R519, R521, R702). -/
def unnamedReact (s : State) (src : Nat) : State :=
  if src < 8 then
    if s.mode = .reset || s.mode = .safe || s.modeNow = .recover then s else resyncPort s (portOf src) 4
  else if src = 9 then (if s.mode = .reset || s.media.st = .stopped then s else startResync s)
  else if 26 ≤ src && src < 42 then faultFence s (src - 26) true
  else if 42 ≤ src && src < 58 then faultFence s (src - 42) false
  else if src = 74 then rebuildIndex s
  else match urgentArray src with
    | some a => if s.sram.urgent.contains a then s else { s with sram := { s.sram with urgent := s.sram.urgent ++ [a] } }
    | none => s

/-! ### Pairs (R517, R522, R524) -/

/-- The pair of a source is driven into error (R517). What names a word happens for every error; the rest at the pair's
transition into error (R531, R702). `named`: a frame for source 62, a host line for 65, 67 and 70, a context for 72, a word
of the event queue for 75, a channel for 79, a macro group for 81. -/
def opPairError (s : State) (src : Nat) (named : Option Nat) : State :=
  if s.mode = .reset && pairsHeld s then s
  else
    let s := countWord s src
    let s := match named with
      | some n => namedReact s src n
      | none => if s.inError src then s else unnamedReact s src
    (if src = 83 && !s.inError 83 then stopFlash s else s).report src named

/-- A pair breaks (R522). -/
def opPairBroken (s : State) (src : Nat) : State :=
  if s.mode = .reset && pairsHeld s then s
  else breakPair (if s.inError src then s else unnamedReact s src) src

/-- A cause that the unit still holds (R520, R521). -/
def causeHolds (s : State) (src : Nat) : Bool :=
  if 26 ≤ src && src < 42 then !(s.ch (src - 26)).ueRaised.isEmpty
  else if 42 ≤ src && src < 58 then (s.ch (src - 42)).phyCause != 0
  else if 58 ≤ src && src < 62 then s.quads[quadId (src - 58)].stuck
  else if src = 63 then s.inError 63 && decide (64 ≤ (s.lost.filter (fun l => l.isSome)).length)
  else if src = 81 then !s.sram.failed.isEmpty
  else if src = 83 then s.flag Fld.lfStatusStopped
  else if src = 84 then s.flag Fld.refclkStatusHoldover
  else if src = 86 then decide (s.fld Fld.coreVddMv ≠ 0 ∧ (s.fld Fld.coreVddMv < 700 ∨ 900 < s.fld Fld.coreVddMv))
  else if src = 87 then decide (105 < (BitVec.ofNat 8 (s.fld Fld.coreTempTj)).toInt)
  else if src = 88 then decide (115 < (BitVec.ofNat 8 (s.fld Fld.coreTempTj)).toInt)
  else if src = 95 then s.flt.broken != 0
  else false

/-- The pair of a source returns to (0,1) where no cause and no force holds it (R524, R531). -/
def pairEnds (s : State) (src : Nat) : State := if causeHolds s src then s else causeEnds s src

/-- The pair of a source reads no error again, its break mended (R524). Fault source 95 follows the breaks; a
sideband's pair returns when its bus is released (R344). The full
lost-set list holds its source until a reset (R178). -/
def opPairClear (s : State) (src : Nat) : State :=
  let was := s.flt.broken != 0
  let s := if 58 ≤ src && src < 62 then s.modQuad (src - 58) (fun u => { u with stuck := false }) else s
  let s := if src = 63 then s else pairEnds { s with flt := { s.flt with broken := s.flt.broken &&& ~~~(1#96 <<< src) } } src
  if was && s.flt.broken = 0 then causeEnds s 95 else s

/-! ### Forces (R530, R531) and the safe state by software (R534) -/

/-- Force bits that have begun or ended to act take effect on their pairs. -/
def forcesFollow (was : List Nat) (s : State) : State :=
  (List.range 96).foldl (fun s src =>
    if forceActs s src && !was.contains src then
      if s.inError src then s else collectOne (unnamedReact s src) src
    else if !forceActs s src && was.contains src then pairEnds s src
    else s) s

/-- The force bits that act. -/
def acting (s : State) : List Nat := (List.range 96).filter (forceActs s)

/-- A write of a force register (R530): a bit of a fatal source is not set while FATAL_ARM is 0. -/
def opForceWrite (s : State) (i : Nat) (w : Word) : State :=
  if s.mode = .reset then s
  else
    let was := acting s
    let old := s.rd (Reg.fltForce.at i)
    let keep := (List.range 32).foldl (fun (m : Word) j =>
      if faultClass (32 * i + j) == .fatal && !s.flag Fld.fltCtlFatalArm then m ||| (1#32 <<< j) else m) 0
    forcesFollow was (s.wr (Reg.fltForce.at i) ((w &&& ~~~keep) ||| (w &&& old &&& keep)))

/-- A write of `FLT_CTL.FATAL_ARM` (R530). -/
def opFatalArm (s : State) (v : Bool) : State :=
  if s.mode = .reset then s else forcesFollow (acting s) (s.setFlag Fld.fltCtlFatalArm v)

/-- A write of 1 to `FLT_CTL.SAFE` (R534). -/
def opSoftSafe (s : State) : State := if s.mode = .reset then s else s.report 94

/-- An island finds its pair of the safe-state net broken (R536): islands 0 to 15 are the channels'. -/
def opNetBroken (s : State) (island : Nat) : State :=
  if s.mode = .reset && pairsHeld s then s
  else
    let s := s.report 95
    if island < 16 then (if s.inError (42 + island) then s else unnamedReact s (42 + island)).report (42 + island) else s

/-! ### The quiet period (R526, R541–R543) -/

/-- Both sequencers take their ROM images (R445, R526). -/
def romImages (s : State) : State :=
  let v := Config.romVersion.toNat
  let r := Config.romIfRev.toNat
  let s := ((s.setFld Fld.imgPseqVerVersion v).setFld Fld.imgPseqVerIfrev r).setFlag Fld.spareInvImgRomPseq true
  let s := (List.range 16).foldl (fun s c => (s.setFld Fld.imgTseqVerVersion v c).setFld Fld.imgTseqVerIfrev r c) s
  s.setFld Fld.spareInvImgRomTseq 0xFFFF

/-- The second detail word of EV_IMAGE_MISMATCH. -/
def mismatchWord (s : State) (tseq pseq : Nat) : Word := dw (tseq % 256 + pseq % 256 * 256 + s.fld Fld.mpIfrevIfrev * 2 ^ 16)

/-- RECOVER loads the PSEQ image again after its code SRAM failed (R526). -/
def reloadPseq (s : State) : State :=
  let want := tseqRev s
  match (if s.fld Fld.blkStatusLast = 0 || want.isNone then .inr 1 else imageOf s (chosenLast s) 0x11 want) with
  | .inl (v, r) =>
    ((s.setFld Fld.imgPseqVerVersion v).setFld Fld.imgPseqVerIfrev r).setFlag Fld.spareInvImgRomPseq false
  | .inr (_ : Nat) =>
    let d1 := mismatchWord s (s.fld Fld.imgTseqVerIfrev 0) (s.fld Fld.imgPseqVerIfrev)
    ((romImages s).setFlag Fld.blkStatusImageFallback true).info Ev.imageMismatch Src.pseq 1 d1

/-- Episode starts within the window, the present one included (R543). -/
def episodesIn (s : State) : Nat :=
  (s.flt.episodes.filter (fun t => decide (s.us ≤ t + s.fld Fld.fltRlimitWindow * 1000000))).length

/-- The quiet timer has run for `FLT_QUIET.TIME` (R541): RECOVER, or SAFE held until a reset (R457, R543). Media's
resynchronisation begins beside the relock (R544 step 5). -/
def opQuiet (s : State) : State :=
  if !quietRuns s || s.warmFlush then s
  else
    let n := episodesIn s
    let past := decide (s.fld Fld.fltRlimitLimit < n)
    if s.flt.fromHoldup || past then
      let s := (s.setFlag Fld.fltEpisodeHeldHoldup s.flt.fromHoldup).setFlag Fld.fltEpisodeHeldLimit past
      { s with held := true }.info Ev.fltHeld Src.fault (dw (past.toNat + 2 * s.flt.fromHoldup.toNat)) (dw n)
    else
      let s := setMode s .recover
      let s := if s.flt.reloadPseq then reloadPseq s else s
      let s : State := { s with flt := { s.flt with reloadPseq := false }, media := { s.media with st := .down } }
      if s.flag Fld.mpCtlEnable then startResync s else s

/-! ### RECOVER (R539–R545) -/

/-- A channel is relocked: its ranks leave self-refresh and its trim set is centred (R305, R359, R361, R544). -/
def relock (ok : BitVec 16) (s : State) (c : Nat) : State :=
  let q := s.ch c
  let changing := q.freq != .none
  let s := if changing then
      let s := freqRefuse s c q.freqTo 7
      s.modCh (chan c) (fun q => { q with freqNext := none })
    else s
  let s := if q.noRelock || q.sr == .active || !(q.srWhy == .safe || changing) then s
    else
      let s := exited s c
      if ok.getLsbD c then endtapBooks (placeTrims s c (s.fld Fld.chFreqCurrent c)) c
      else faultFence (phyFault s c 7) c false
  s.modCh (chan c) (fun q => { q with noRelock := false })

/-- RETRAIN gives up in SAFE (R470): the channel is FENCED and untrained. -/
def retrainStopped (s : State) (c : Nat) : State :=
  if (s.ch c).st = .retrain then
    (setChSt s c .fenced Why.flow).modCh (chan c) (fun q => { q with trained := false, trn := .idle })
  else s

/-- A kept entry cannot be completed (R140): its sector is poisoned in its frame, and the entry leaves the ledger. -/
def loseEntry (s : State) (idx : Nat) : State :=
  match entry? s idx with
  | none => s
  | some e =>
    let (d0, d1) := formL e.key
    let s := s.eventOf Ev.ldgLost Src.ledger 65 d0 d1
    let s := releaseEntry s e
    match e.key with
    | .host _ =>
      let b := bit64 e.sector
      if s.resume = .plain then
        let (c, set, way) := s.plainPlace e.page
        s.setTag c set way { s.tag c set way with poison := (s.tag c set way).poison ||| b }
      else match findWay s e.ch e.set e.page with
        | some way =>
          let t := s.tag e.ch e.set way
          s.setTag e.ch e.set way { t with valid := t.valid ||| b, dirty := t.dirty ||| b, poison := t.poison ||| b }
        | none => s
    | _ => s

/-- The modes in which the ledger has something to complete. -/
def keepsLedger : Mode → Bool
  | .plain | .tiered | .drain | .bypass | .test => true
  | _ => false

/-- The relock is over (R544 steps 2 to 4); the arbiters restart (R84), and what the ledger kept is completed before RECOVER
ends. -/
def opRelockDone (s : State) (ok : BitVec 16) (lost : List Nat) : State :=
  if s.mode != .recover || s.warmFlush then s
  else
    let s := (List.range 16).foldl (relock ok) s
    let s := (List.range 16).foldl retrainStopped s
    let s := lost.foldl loseEntry s
    let s : State := { s with
      chs := s.chs.map (fun q => { q with cmdPtr := 1, busPtr := 1, busNext := [] })
      ingressPtr := 1
      media := { s.media with ptr := 1 } }
    if keepsLedger s.resume then { s with mode := s.resume, flt := { s.flt with finishing := true } } else recoverEnd s

/-! ### Meanings -/

/-- FAULT_PAIR_ERROR (R517) -/
def execFaultPairError (src : Fin 96) (named : Option Nat) (s : State) : Host.Outcome State Fault Refusal :=
  .next (settle (opPairError s src.val named))

/-- FAULT_PAIR_BROKEN (R522) -/
def execFaultPairBroken (src : Fin 96) (s : State) : Host.Outcome State Fault Refusal :=
  .next (settle (opPairBroken s src.val))

/-- FAULT_PAIR_CLEAR (R527) -/
def execFaultPairClear (src : Fin 96) (s : State) : Host.Outcome State Fault Refusal :=
  .next (settle (opPairClear s src.val))

/-- FLT_FORCE_WRITE (R530) -/
def execFltForceWrite (i : Fin 3) (w : Word) (s : State) : Host.Outcome State Fault Refusal :=
  .next (settle (opForceWrite s i.val w))

/-- FLT_FATAL_ARM (R530) -/
def execFltFatalArm (v : Bool) (s : State) : Host.Outcome State Fault Refusal := .next (settle (opFatalArm s v))

/-- SOFTWARE_SAFE (R534) -/
def execSoftwareSafe (s : State) : Host.Outcome State Fault Refusal := .next (settle (opSoftSafe s))

/-- QUIET_PERIOD_END (R541) -/
def execQuietPeriodEnd (s : State) : Host.Outcome State Fault Refusal := .next (settle (opQuiet s))

/-- RECOVER_RELOCK_DONE (R544) -/
def execRecoverRelockDone (ok : BitVec 16) (lost : List Nat) (s : State) : Host.Outcome State Fault Refusal :=
  .next (settle (opRelockDone s ok lost))

/-- SAFE_NET_BROKEN (R536) -/
def execSafeNetBroken (island : Fin 26) (s : State) : Host.Outcome State Fault Refusal :=
  .next (settle (opNetBroken s island.val))

end Sys2Proof.Machine
end

