-- ==== Sys2Proof/Machine/Ports.lean ====
section
/-! DEFINITION. Commands of the Welt ports (R15–R60): request packets, payload lines, end marks and credits. -/

namespace Sys2Proof.Machine

/-- A packet boundary of a port: its buffered registers apply, and its state follows (R51, R52, R56). -/
def portEdge (s : State) (p : PortId) : State := updatePort (portBoundary s p) p

/-- A request packet's header arrives on a port that is out of reset (R31, R40–R42, R49, R56). -/
def opHeader (s : State) (p : PortId) (raw : BitVec 256) : State :=
  if s.mode = .reset then s else takeHeader (portEdge (endPacket s p) p) p raw

/-- A payload line arrives (R24, R43, R47). -/
def opPayload (s : State) (p : PortId) (data : Line) (crc : BitVec 32) : State :=
  if s.mode = .reset then s else takeLine s p data crc

/-- The end mark of the packet in progress (R705), a packet boundary (R56). -/
def opEndMark (s : State) (p : PortId) : State :=
  if s.mode = .reset then s else portEdge (endPacket s p) p

/-- The fabric returns completion credits (R45). Before an advertisement there are none to return. -/
def opCreditReturn (s : State) (p : PortId) (n : Nat) : State :=
  if s.mode = .reset || s.ports[p].adv.isNone then s
  else
    let s := s.modPort p (fun q => { q with cAvail := q.cAvail + n, cOut := q.cOut - n })
    drainTx s.ports[p].txq.length s p

/-- The fabric advertises its completion credits (R45, R46, R675): fewer than 65 leave the port CLOSED, and an
advertisement to a port that is open counts as a credit overrun. -/
def opAdvertise (s : State) (p : PortId) (n : Nat) : State :=
  if s.mode = .reset then s
  else
    match s.ports[p].st with
    | .opened | .quiesce =>
      let (t, o) := match s.ports[p].rx with | some x => (x.tag, x.opcode) | none => (0#16, 0#8)
      overrun s p t o
    | _ =>
      if n < 65 then
        let s := s.setFlag Fld.wpHistCredit true p.val
        s.eventOf Ev.wpCredit (Src.port p.val) p.val (dw p.val) (dw n)
      else
        let s := s.modPort p (fun q => { q with adv := some n, cAvail := n, cOut := 0 })
        updatePort s p

/-- RD (R26): its request packet's header is taken. -/
def execRd (p : PortId) (raw : BitVec 256) (s : State) : Host.Outcome State Fault Refusal :=
  .next (settle (opHeader s p raw))

/-- WR (R26): its request packet's header is taken. -/
def execWr (p : PortId) (raw : BitVec 256) (s : State) : Host.Outcome State Fault Refusal :=
  .next (settle (opHeader s p raw))

/-- WRM (R26): its request packet's header is taken. -/
def execWrm (p : PortId) (raw : BitVec 256) (s : State) : Host.Outcome State Fault Refusal :=
  .next (settle (opHeader s p raw))

/-- ZERO (R26): its request packet's header is taken. -/
def execZero (p : PortId) (raw : BitVec 256) (s : State) : Host.Outcome State Fault Refusal :=
  .next (settle (opHeader s p raw))

/-- FLUSH (R125): its request packet's header is taken. -/
def execFlush (p : PortId) (raw : BitVec 256) (s : State) : Host.Outcome State Fault Refusal :=
  .next (settle (opHeader s p raw))

/-- DROP (R124): its request packet's header is taken. -/
def execDrop (p : PortId) (raw : BitVec 256) (s : State) : Host.Outcome State Fault Refusal :=
  .next (settle (opHeader s p raw))

/-- PREFETCH (R28): its request packet's header is taken. -/
def execPrefetch (p : PortId) (raw : BitVec 256) (s : State) : Host.Outcome State Fault Refusal :=
  .next (settle (opHeader s p raw))

/-- BARRIER (R136): its request packet's header is taken. -/
def execBarrier (p : PortId) (raw : BitVec 256) (s : State) : Host.Outcome State Fault Refusal :=
  .next (settle (opHeader s p raw))

/-- FETCH_ADD (R28): its request packet's header is taken. -/
def execFetchAdd (p : PortId) (raw : BitVec 256) (s : State) : Host.Outcome State Fault Refusal :=
  .next (settle (opHeader s p raw))

/-- SWAP (R28): its request packet's header is taken. -/
def execSwap (p : PortId) (raw : BitVec 256) (s : State) : Host.Outcome State Fault Refusal :=
  .next (settle (opHeader s p raw))

/-- CAS (R28): its request packet's header is taken. -/
def execCas (p : PortId) (raw : BitVec 256) (s : State) : Host.Outcome State Fault Refusal :=
  .next (settle (opHeader s p raw))

/-- HEADER_CHECK_FAIL (R55): a header that fails its check resynchronises the port. -/
def execHeaderCheckFail (p : PortId) (raw : BitVec 256) (s : State) : Host.Outcome State Fault Refusal :=
  .next (settle (if s.mode = .reset then s else headerFail (endPacket s p) p raw))

/-- CREDIT_OVERRUN (R47): a packet sent without credit. -/
def execCreditOverrun (p : PortId) (raw : BitVec 256) (s : State) : Host.Outcome State Fault Refusal :=
  let h := Header.parse raw
  .next (settle (if s.mode = .reset then s else overrun (endPacket s p) p h.tag h.opcode))

/-- PAYLOAD_LINE_RECEIVED (R24). -/
def execPayloadLineReceived (p : PortId) (data : Line) (crc : BitVec 32) (s : State) : Host.Outcome State Fault Refusal :=
  .next (settle (opPayload s p data crc))

/-- PAYLOAD_END_MARK (R705). -/
def execPayloadEndMark (p : PortId) (s : State) : Host.Outcome State Fault Refusal :=
  .next (settle (opEndMark s p))

/-- COMPLETION_CREDIT_RETURN (R45). -/
def execCompletionCreditReturn (p : PortId) (n : Nat) (s : State) : Host.Outcome State Fault Refusal :=
  .next (settle (opCreditReturn s p n))

/-- CREDIT_ADVERTISEMENT (R675). -/
def execCreditAdvertisement (p : PortId) (n : Nat) (s : State) : Host.Outcome State Fault Refusal :=
  .next (settle (opAdvertise s p n))

end Sys2Proof.Machine
end

