-- ==== Sys2Proof/Machine/Ledger.lean ====
section
/-! DEFINITION. Commands of the ledger: admission (R78, R79, R108), overdue operations (R75) and inspection (R152). -/

namespace Sys2Proof.Machine

/-! ### Admission (R78, R79) -/

/-- The ledger kind of a request opcode (R154). -/
def kindOf (op : BitVec 8) : LKind :=
  if op == Op.rd then .rd else if op == Op.wr then .wr else if op == Op.wrm then .wrm else if op == Op.zero then .zero
  else if op == Op.flush then .flush else if op == Op.drop then .drop else if op == Op.prefetch then .prefetch
  else if op == Op.barrier then .barrier else if op == Op.fetchAdd then .fetchAdd else if op == Op.swap then .swap else .cas

/-- A port's request at the ingress stage: its oldest that has neither been admitted nor ended. -/
def portHead (s : State) (p : PortId) : Option Req := s.ports[p].reqs.find? (fun r => !r.admitted && !r.finished)

/-- The ports' heads, in port order. -/
def heads (s : State) : List (PortId × Req) :=
  (List.finRange 8).filterMap (fun p => (portHead s p).map (fun r => (p, r)))

/-- The head to be admitted (R78): one that is being waited for first (R79), then the nearest deadline, ties by rotation
and then by port. -/
def nextHead (s : State) : Option (PortId × Req) :=
  match (heads s).find? (fun x => s.ports[x.1].headHeld) with
  | some x => some x
  | none => (heads s).foldl (fun b x => match b with
      | none => some x
      | some y => if beats s.ingressPtr (x.2.deadline, false, x.2.ctx) (y.2.deadline, false, y.2.ctx) then some x else b) none

/-- Entries that a request takes (R115). -/
def Req.entries (r : Req) : Nat := if r.opcode == Op.barrier || isAtomic r.opcode then 1 else r.len

/-- Line `i` of a request as a new ledger entry. -/
def newEntry (s : State) (p : PortId) (r : Req) (i : Nat) : LEntry :=
  let k := kindOf r.opcode
  let page := r.addr.toNat / 4096
  let bar := k == .barrier
  let (c, set) := if bar then (0, 0) else if s.mode == .plain then ((s.plainPlace page).1, (s.plainPlace page).2.1) else s.place page
  let st := if k == .zero then some ((0 : Line), false) else r.early[i]?
  { idx := 0, kind := k, st := if k == .zero || (st.isSome && k != .cas) then .staged else .wait, pool := .host, ctx := r.ctx,
    port := p.val, deadline := r.deadline, key := if bar then .none else hostKey page (r.first + i), rid := some r.rid,
    no := r.first + i, cls := r.cls, rights := r.rights, ch := c, set := set, operand := r.operand,
    off := r.addr.toNat % 64, bypass := !bar && s.mode != .plain && bypassNow s c set,
    fencing := !bar && s.mode != .plain && (s.ch c).st == .fencing, stg := st, vis := r.ended,
    unclean := !bar && s.mode != .plain && (s.ch c).unclean }

/-- A request to an UNCLEAN channel whose opcode is answered at its admission (R477). -/
def uncleanStop (s : State) (r : Req) : Bool :=
  s.mode != .plain && r.opcode != Op.barrier && r.opcode != Op.rd && r.opcode != Op.prefetch
    && (s.ch (s.place (r.addr.toNat / 4096)).1).unclean

/-- A PREFETCH to an UNCLEAN channel has nothing to fill. -/
def uncleanPrefetch (s : State) (r : Req) : Bool :=
  s.mode != .plain && r.opcode == Op.prefetch && (s.ch (s.place (r.addr.toNat / 4096)).1).unclean

/-- The head has been admitted: its header leaves the buffer, and it is counted (R42, R57, R66). -/
def noteAdmitted (s : State) (p : PortId) (r : Req) : State :=
  let s := s.modPort p (fun q => { q with headHeld := false })
  let s : State := { s with ingressPtr := (r.ctx + 1) % 4096 }
  let (n, s) := s.fresh
  let s := modReq s p r.rid (fun x => { x with admitted := true, adm := n, hdrHeld := false, left := x.entries, early := [] })
  let s := (returnHdr s p).count Reg.wpCntReq 1 p.val
  let s := s.modCtx r.ctx (fun x => { x with cntReq := cntUp x.cntReq })
  s.setFld Fld.wpArrivalTick r.arrival.toNat p.val

/-- The head takes its entries. -/
def admitReq (s : State) (p : PortId) (r : Req) : State :=
  let es := (List.range r.entries).map (newEntry s p r)
  let s := noteAdmitted s p r
  es.foldl (fun s e =>
    let idx := freeIdx s
    let s := addEntry s e
    match entry? s idx with
    | some e => if e.kind.writes || e.kind == .drop then writeArrives s e else s
    | none => s) s

/-- One decision of the ingress stage (R78, R79). -/
def opIngress (s : State) : State :=
  match s.mode with
  | .plain | .tiered | .drain | .bypass =>
    match nextHead s with
    | none => s
    | some (p, r) =>
      if s.mode == .plain && r.opcode != Op.barrier && plainFenced s (r.addr.toNat / 4096) then failReq s p r.rid Status.unavail
      else if uncleanStop s r then failReq (noteAdmitted (returnData s p r.early.length) p r) p r.rid Status.aborted
      else if uncleanPrefetch s r then finishReq (noteAdmitted s p r) p r.rid Op.done Status.ok
      else if r.entries ≤ hostFree s then admitReq s p r
      else if s.ports[p].headHeld then s
      else (s.modPort p (fun q => { q with headHeld := true })).count Reg.ldgCntHeadHold
  | _ => s

/-! ### Overdue operations (R75) -/

/-- The channel of an entry. -/
def LEntry.chan (e : LEntry) : Nat := match e.key with | .loc n _ => n | _ => e.ch

/-- The access belongs to an entry. -/
def jobOf (e : LEntry) (j : Job) : Bool :=
  j.id == e.owner && e.rid.isNone || j.why == .host e.idx || j.why == .offerRead e.owner && e.pool == .offerRes
    || j.why == .fillWrite e.owner && (e.pool == .fillRes || e.pool == .borrow) || j.lines.any (fun l => l.idx == some e.idx)

/-- The entry's operation is a candidate at its channel's arbiters. -/
def atChannel (s : State) (e : LEntry) : Bool :=
  (s.ch e.chan).jobs.any (fun j => jobOf e j && j.lines.any (fun l => l.step == 0))

/-- The entry's operation is a candidate at the media-port arbiter. -/
def atMedia (s : State) (e : LEntry) : Bool :=
  s.media.wts.any (fun w => w.st == .path && w.lines.any (fun l => l.2.2.2 == some e.idx))
    || (e.pool == .offerRes && s.media.offers.any (fun o => o.id == e.owner && o.st == .accepted))

/-- An operation becomes overdue once the time base has passed its deadline by 2^22 ticks (R75). -/
def opOverdue (s : State) (idx : Nat) : State :=
  match entry? s idx with
  | none => s
  | some e =>
    let d := (s.timeBase - e.deadline).toNat
    if e.overdue || !decide (2 ^ 22 ≤ d ∧ d ≤ 2 ^ 23) then s
    else
      let c := e.chan
      let ch := atChannel s e
      let md := !ch && atMedia s e
      let s := modEntry s idx (fun x => { x with overdue := true })
      let s := s.modCh (chan c) (fun q => { q with jobs := q.jobs.map (fun j => if jobOf e j then { j with overdue := true } else j) })
      let m := s.media
      let s : State := { s with media := { m with
        wts := m.wts.map (fun w => if w.lines.any (fun l => l.2.2.2 == some idx) then { w with overdue := true } else w)
        offers := m.offers.map (fun o => if e.pool == .offerRes && o.id == e.owner then { o with overdue := true } else o) } }
      let s := if ch then s.count Reg.chCntOverdue 1 c else if md then s.count Reg.mpCntOverdue else s
      s.info Ev.arbOverdue (if ch then Src.chan c else if md then Src.media else Src.ledger) (dw (e.ctx % 4096)) (dw e.deadline.toNat)

/-! ### Inspection (R152, R153) -/

/-- The line of an entry as the inspection words show it. -/
def lineNo : LineKey → Nat
  | .host l => l
  | .loc c a => c * 2 ^ 36 + a
  | .none => 0

/-- The four words of an entry (R153). -/
def inspWords (s : State) (e : LEntry) : List Nat :=
  let head := match chain s e.key with | x :: _ => x.idx == e.idx | [] => false
  let meta_ := match e.key with | .loc _ _ => true | _ => false
  let next := (later s e).head?
  let line := lineNo e.key
  let inner := match e.pool with | .host => false | _ => true
  [e.st.code + e.kind.code * 8 + e.ctx % 4096 * 256 + e.port % 8 * 2 ^ 20 + head.toNat * 2 ^ 23 + inner.toNat * 2 ^ 24,
   e.deadline.toNat + e.overdue.toNat * 2 ^ 24,
   line % 2 ^ 32,
   line / 2 ^ 32 % 256 + meta_.toNat * 256 + next.isSome.toNat * 512 + (next.map (fun x => x.idx)).getD 0 % 2 ^ 17 * 1024]

/-- A write of `LDG_INSP_SEL` captures the selected entry; a FREE entry shows STATE 0 and undefined words (R152). -/
def opInspSel (s : State) (w : Word) : State :=
  if s.mode = .reset then s
  else
    let s := s.setFld Fld.ldgInspSelEntry (w.toNat % 2 ^ 17)
    let s := s.setFlag Fld.ldgInspStatusValid false
    let (ws, s) : List Nat × State := match entry? s (w.toNat % 2 ^ 17) with
      | some e => (inspWords s e, s)
      | none =>
        let (a, s) := s.free 32
        let (b, s) := s.free 32
        let (c, s) := s.free 32
        let (d, s) := s.free 32
        ([a.toNat / 8 * 8, b.toNat, c.toNat, d.toNat], s)
    (List.range 4).foldl (fun s i => s.wr (Reg.ldgInspData.at i) (dw (ws.getD i 0))) s

/-! ### The commands -/

/-- INGRESS_ADMIT (R78). -/
def execIngressAdmit (s : State) : Host.Outcome State Fault Refusal := .next (settle (opIngress s))

/-- OPERATION_OVERDUE (R75). -/
def execOperationOverdue (idx : Nat) (s : State) : Host.Outcome State Fault Refusal := .next (settle (opOverdue s idx))

/-- LDG_INSP_SEL_WRITE (R152). -/
def execLdgInspSelWrite (w : Word) (s : State) : Host.Outcome State Fault Refusal := .next (settle (opInspSel s w))

/-- LDG_INSP_CAPTURE_DONE (R152). -/
def execLdgInspCaptureDone (s : State) : Host.Outcome State Fault Refusal :=
  .next (settle (if s.mode = .reset then s else s.setFlag Fld.ldgInspStatusValid true))

end Sys2Proof.Machine
end

