-- ==== Sys2Proof/Machine/Media.lean ====
section
/-! DEFINITION. The commands of the media port: the messages of the media engine (R217), its arbiter (R80, R90, R241), its
enable (R256), and the hold-up request (R249, R458). -/

namespace Sys2Proof.Machine

/-- A message of the media engine arrives (R217, R221, R222, R244–R248). While the port waits for RESYNC_ACK nothing else is
looked at; between RESYNC_ACK and CREDIT no offer and no fill is open. -/
def opMedia (s : State) (raw : BitVec 256) (lines : List (Line × BitVec 32)) : State :=
  let m := MediaHdr.parse raw
  if s.mode = .reset || s.media.st == .stopped || (!s.flag Fld.mpCtlEnable && s.mode != .holdup) then s
  else if s.media.awaitAck then
    if (mediaForm m raw [0x8E] lines.length).isNone then takeAck s m else s
  else match mediaForm m raw fillOps lines.length with
    | some code => mediaFault s code m
    | none =>
      let idle := s.media.awaitCredit
      if m.opcode = 0x81 then (if idle then mediaFault s 0x04 m else takeFillData s m lines)
      else if m.opcode = 0x82 then (if idle then strayAnswer s m else takeAccept s m)
      else if m.opcode = 0x83 then (if idle then strayAnswer s m else takeDecline s m)
      else if m.opcode = 0x84 then (if idle then strayAnswer s m else takeDefer s m)
      else if m.opcode = 0x85 then takeCredit s m
      else if m.opcode = 0x8E then takeAck s m
      else startResync s

/-- A received header fails its check (R244 code 0x01). -/
def opMediaCheckFail (s : State) (raw : BitVec 256) : State :=
  if s.mode = .reset || mediaDeaf s then s else mediaFault s 0x01 (MediaHdr.parse raw)

/-- A deferred offer has been deferred beyond `MP_DEFER.WARN` (R238): its warning is raised once. -/
def opDeferLong (s : State) (slot : Nat) : State :=
  match s.media.offers.find? (fun o => o.st == .deferred && o.slot == slot) with
  | none => s
  | some o =>
    if o.warned || s.fld Fld.mpDeferWarn = 0 then s
    else
      let s := (s.count Reg.mpCntDeferLong).setFlag Fld.mpHistDeferLong true
      let s := s.info Ev.mpDeferLong Src.media (formP0 o.page) (dw (o.page / 2 ^ 32 % 4 + offerTag o.slot o.gen * 65536))
      modOffer s o.id (fun o => { o with warned := true })

/-- A write of `MP_CTL.ENABLE` (R256): it applies at the transfer boundary, at once when no transfer is in progress. -/
def opMpEnable (s : State) (v : Bool) : State :=
  if s.mode = .reset then s
  else
    let s := s.putPend Reg.mpCtl.at (dw v.toNat)
    if s.media.xfer.isNone then mediaEdge s else s

/-- An answer of the media engine comes later than 400 ns after HOLDUP_START (R251, R520). -/
def opAnswerLate (s : State) : State :=
  if s.flushing && flushFromTier s then s.report 93 else s

/-- HOLDUP_REQ is acted on in every mode but RESET, SAFE, HOLDUP and RECOVER (R455, R456, R458), and not while a warm
reset quiesces (R421); it stays high. -/
def holdupDue (s : State) : Bool :=
  s.pins.holdupReq && !s.warmFlush &&
    match s.modeNow with
    | .reset => false | .safe => false | .holdup => false | .recover => false
    | _ => true

/-- At HOLDUP_REQ, in every mode, forces and Awl controls end at once (R407, R533), and with a force its pair's error. -/
def holdupEnds (s : State) : State :=
  let was := acting s
  let s := holdupClears s
  (was.filter (fun src => !forceActs s src)).foldl pairEnds s

/-- HOLDUP_REQ goes high (R249, R407, R456, R458, R533). A warm-reset quiesce that reads HOLDUP completes as a hold-up, and the warm
reset is dropped (R421). -/
def opHoldupReq (s : State) : State :=
  let drop := s.warmFlush && s.mode == .holdup && !s.pins.holdupReq
  let s : State := holdupEnds { s with pins := { s.pins with holdupReq := true }, warmFlush := s.warmFlush && !drop }
  if holdupDue s then beginHoldup s else s

/-- The freeze of the media-port arbiter (R90). -/
def opMpFreeze (s : State) (v : Bool) : State :=
  if s.mode = .reset then s else s.setFlag Fld.mpArbCtlFreeze v

/-! ### The commands -/

/-- FILL_DATA (R225). -/
def execFillData (raw : BitVec 256) (lines : List (Line × BitVec 32)) (s : State) : Host.Outcome State Fault Refusal :=
  .next (settle (opMedia s raw lines))

/-- ACCEPT (R231). -/
def execAccept (raw : BitVec 256) (s : State) : Host.Outcome State Fault Refusal := .next (settle (opMedia s raw []))

/-- DECLINE (R233). -/
def execDecline (raw : BitVec 256) (s : State) : Host.Outcome State Fault Refusal := .next (settle (opMedia s raw []))

/-- DEFER (R229). -/
def execDefer (raw : BitVec 256) (s : State) : Host.Outcome State Fault Refusal := .next (settle (opMedia s raw []))

/-- CREDIT (R222). -/
def execCredit (raw : BitVec 256) (s : State) : Host.Outcome State Fault Refusal := .next (settle (opMedia s raw []))

/-- RESYNC_ACK (R245). -/
def execResyncAck (raw : BitVec 256) (s : State) : Host.Outcome State Fault Refusal := .next (settle (opMedia s raw []))

/-- RESYNC from the media engine (R245). -/
def execMpResyncReceived (raw : BitVec 256) (s : State) : Host.Outcome State Fault Refusal :=
  .next (settle (opMedia s raw []))

/-- A media header that fails its check (R244). -/
def execMpHeaderCheckFail (raw : BitVec 256) (s : State) : Host.Outcome State Fault Refusal :=
  .next (settle (opMediaCheckFail s raw))

/-- MP_DEFER_LONG (R238). -/
def execMpDeferLong (slot : Nat) (s : State) : Host.Outcome State Fault Refusal := .next (settle (opDeferLong s slot))

/-- MP_ENABLE_CHANGE (R256). -/
def execMpEnableChange (v : Bool) (s : State) : Host.Outcome State Fault Refusal := .next (settle (opMpEnable s v))

/-- MP_HOLDUP_ANSWER_LATE (R520). -/
def execMpHoldupAnswerLate (s : State) : Host.Outcome State Fault Refusal := .next (settle (opAnswerLate s))

/-- HOLDUP_REQ (R249). -/
def execHoldupReq (s : State) : Host.Outcome State Fault Refusal := .next (settle (opHoldupReq s))

/-- MP_ARB_ARBITRATE (R241). -/
def execMpArbArbitrate (s : State) : Host.Outcome State Fault Refusal := .next (settle (mediaArbitrate s))

/-- MP_ARB_FREEZE (R90). -/
def execMpArbFreeze (v : Bool) (s : State) : Host.Outcome State Fault Refusal := .next (settle (opMpFreeze s v))

end Sys2Proof.Machine
end

