-- ==== Sys2Proof/Machine/Modes.lean ====
section
/-! DEFINITION. Requests for a change of mode (R449–R461): they wait in `BLK_MODE_REQ` for the next epoch boundary, which
accepts or refuses them. -/

namespace Sys2Proof.Machine

/-! ### A request -/

/-- A write of `BLK_MODE_REQ.TARGET` (R455, R459): it waits for its boundary, in the place of an earlier one. RESET takes
no register access (R430). -/
def opModeReq (s : State) (target : Nat) : State :=
  if s.mode = .reset then s
  else (s.setFld Fld.blkModeReqTarget target).setFlag Fld.blkModeReqPending true

/-! ### Its boundary -/

/-- The transitions by request of the table of R455, with their conditions and R453. -/
def modeEdge (s : State) (t : Mode) : Bool :=
  match s.modeNow, t with
  | .plain, .test => true
  | .tiered, .drain => true
  | .drain, .tiered => true
  | .tiered, .bypass => tierClean s
  | .drain, .bypass => tierClean s
  | .tiered, .test => tierClean s
  | .drain, .test => tierClean s
  | .bypass, .tiered => true
  | .bypass, .test => true
  | .test, .plain => s.testFrom == .plain || s.testFrom == .reset
  | .test, .tiered => s.testFrom.tieredLike && s.media.st == .up
  | .test, .bypass => s.testFrom != .plain && s.media.st == .up
  | _, _ => false

/-- The mode in force is the start mode and has been for less than one epoch (R454): the request was made in the epoch
that began with its entry. -/
def startFresh (s : State) : Bool := s.prev == .train && decide (s.epoch ≤ s.modeAt + 1)

/-- DRAIN begins: a walker for each ONLINE and FENCING channel (R191). -/
def beginDrain (s : State) : State :=
  let cs := (List.range 16).filter (fun c => (s.ch c).st == .online || (s.ch c).st == .fencing)
  { s with drain := cs.map (fun c => (c, 0)), drainFrom := s.us / 1000, drainOpen := true }

/-- The accepted change, with what it does beside the mode (R455). -/
def changeMode (s : State) (t : Mode) : State :=
  let old := s.mode
  let s : State := { s with drain := [], drainOpen := false, testFrom := if t = .test then old else s.testFrom }
  let s := enterMode s t
  if t = .drain then beginDrain s
  else if old = .bypass && t = .tiered then sweepAll s
  else s

/-- A request is refused (R461). -/
def refuseMode (s : State) (target : Nat) : State :=
  ((s.setFlag Fld.blkModeReqRefused true).count Reg.blkCntRefused).info Ev.modeRefused Src.block
    (dw (target % 16 + s.modeNow.code * 16))

/-- The pending request reaches its boundary (R455, R459, R461). A request equal to the mode in force is accepted. -/
def modeBoundary (s : State) : State :=
  if !s.flag Fld.blkModeReqPending then s
  else
    let n := s.fld Fld.blkModeReqTarget
    let s := s.setFlag Fld.blkModeReqPending false
    match Mode.ofCode n with
    | none => refuseMode s n
    | some t =>
      if t = s.modeNow then s.setFlag Fld.blkModeReqRefused false
      else if modeEdge s t && !startFresh s then changeMode (s.setFlag Fld.blkModeReqRefused false) t
      else refuseMode s n

/-! ### Meanings -/

/-- MODE_REQ_PLAIN (R455) -/
def execModeReqPlain (s : State) : Host.Outcome State Fault Refusal := .next (settle (opModeReq s Mode.plain.code))

/-- MODE_REQ_TIERED (R455) -/
def execModeReqTiered (s : State) : Host.Outcome State Fault Refusal := .next (settle (opModeReq s Mode.tiered.code))

/-- MODE_REQ_DRAIN (R455) -/
def execModeReqDrain (s : State) : Host.Outcome State Fault Refusal := .next (settle (opModeReq s Mode.drain.code))

/-- MODE_REQ_BYPASS (R455) -/
def execModeReqBypass (s : State) : Host.Outcome State Fault Refusal := .next (settle (opModeReq s Mode.bypass.code))

/-- MODE_REQ_TEST (R455) -/
def execModeReqTest (s : State) : Host.Outcome State Fault Refusal := .next (settle (opModeReq s Mode.test.code))

end Sys2Proof.Machine
end

