-- ==== Sys2Proof/Machine/Tier.lean ====
section
/-! DEFINITION. The commands of the tier: tag captures and way retirement (R201, R207, R208), the lost-set list (R178), the
sweep (R173–R175), the walkers (R191, R471), the cleaner (R199) and patrol scrub (R294–R297). -/

namespace Sys2Proof.Machine

/-! ### The tag window (R167, R168, R201, R207, R208) -/

/-- The entry's 30 bytes before its check code (R167). -/
def tagBody (t : Tag) : Nat :=
  t.valid.toNat + t.dirty.toNat * 2 ^ 64 + t.poison.toNat * 2 ^ 128 + t.page % 2 ^ 34 * 2 ^ 192 + t.live.toNat * 2 ^ 226
    + t.persist.toNat * 2 ^ 227 + t.retired.toNat * 2 ^ 228 + t.retirePend.toNat * 2 ^ 229

/-- TCHK of an entry (R168). -/
def tagCheck (t : Tag) (c set : Nat) : Nat :=
  (crc16 0xFFFF (leBytes 30 (tagBody t) ++ [BitVec.ofNat 8 c] ++ leBytes 3 set)).toNat

/-- The eight words of an entry (R167). -/
def tagWords (t : Tag) (c set : Nat) : List Nat :=
  let v := tagBody t + tagCheck t c set * 2 ^ 240
  (List.range 8).map (fun i => v / 2 ^ (32 * i) % 2 ^ 32)

/-- The entry that `TAG_SEL` names: channel, set, way. -/
def tagSelected (s : State) : Nat × Nat × Nat := (s.fld Fld.tagSelChannel, s.fld Fld.tagSelSet, s.fld Fld.tagSelWay)

/-- `TAG_CMD.READ` (R207, R208). -/
def opTagRead (s : State) : State :=
  if s.mode = .reset then s
  else
    let k := tagSelected s
    if s.sets k.1 ≤ k.2.1 then s.setFlag Fld.tagStatusRefused true
    else
      let s := ((s.setFlag Fld.tagStatusBusy true).setFlag Fld.tagStatusValid false).setFlag Fld.tagStatusErr false
      { s.setFlag Fld.tagStatusRefused false with tagCap := some k }

/-- The capture ends (R168, R176, R207). The words of an entry whose ECC is uncorrectable are free values. -/
def opTagCaptured (s : State) (out : EccOut) : State :=
  match s.tagCap with
  | none => s
  | some (c, set, way) =>
    let t := s.tag c set way
    let inCache := cached s c set
    let s : State := { s with tagCap := none }
    let s := (s.setFlag Fld.tagStatusBusy false).setFlag Fld.tagStatusValid true
    let l := s.tagLoc c set (way / 2)
    let put (s : State) (ws : List Nat) : State :=
      (List.range 8).foldl (fun s i => s.wr (Reg.tagData.at i) (dw (ws.getD i 0))) s
    match out with
    | .clean => put s (tagWords t c set)
    | .corrected dev =>
      let s := (put s (tagWords t c set)).count Reg.tierCntTagCorr
      if inCache then s else noteCe s c l dev
    | .uncorrectable =>
      let (ws, s) := (List.range 8).foldl (fun (acc : List Nat × State) _ =>
        let (v, s) := acc.2.free 32
        (acc.1 ++ [v.toNat], s)) ([], s)
      let s := (put s ws).setFlag Fld.tagStatusErr true
      loseTag (if inCache then s else noteUe s c l true) c set way

/-- `TAG_CMD.RETIRE` (R201, R202, R208). -/
def opTagRetire (s : State) : State :=
  if s.mode = .reset then s
  else
    let k := tagSelected s
    if s.sets k.1 ≤ k.2.1 then s.setFlag Fld.tagStatusRefused true
    else retireWay (s.setFlag Fld.tagStatusRefused false) k.1 k.2.1 k.2.2

/-- No line of a pending way is left in flight (R201 step 2): its clean is offered. -/
def opWayDrained (s : State) (c set way : Nat) : State :=
  if s.retiring.contains (c, set, way, 1) && !wayBusy s c set way then
    retireClean (setRetireStep s c set way 2) c set way
  else s

/-- A write of `TIER_LOST_SEL` (R178). -/
def opLostRelease (s : State) (w : Word) : State :=
  if s.mode = .reset then s
  else
    let i := Fld.tierLostSelIndex.of w
    let s := s.setFld Fld.tierLostSelIndex i
    if Fld.tierLostSelRelease.of w = 1 then { s with lost := s.lost.set i none } else s

/-! ### Sweeps and walkers -/

/-- What the return sweep of PLAIN leaves of a page's poison bits (R206, R483): none after a cold reset. -/
def sweptPoison (s : State) (c set way : Nat) : BitVec 64 :=
  if s.mode != .plain then 0
  else if (s.ch c).st != .returning then (if (s.ch c).warmLost then BitVec.allOnes 64 else 0)
  else
    let hard := (s.ch c).hardRows.any (fun l => (rowWays s c l).contains (set, way))
    if (s.ch c).warmLost || hard then BitVec.allOnes 64 else (s.tag c set way).poison

/-- One granted tag-line write of a sweep (R173–R175, R490). -/
def opSweep (s : State) (c : Nat) : State :=
  let set := s.fld Fld.tierSweepFrontier c
  let runs := match (s.ch c).st with | .online => true | .returning => true | _ => false
  let modeOk := match s.mode with
    | .plain => true | .tiered => true | .drain => true | .bypass => true | .test => true | _ => false
  if !s.flag Fld.tierSweepActive c || !runs || !modeOk then s
  else
    let s := if set < s.sets c then
        (List.range 16).foldl (fun s w =>
          s.setTag c set w { poison := sweptPoison s c set w, retired := s.retiredLog.contains (c, set, w) }) s
      else s
    let s := s.setFld Fld.tierSweepFrontier (min (set + 1) (s.sets c)) c
    if set + 1 < s.sets c then s
    else
      let s := s.setFlag Fld.tierSweepActive false c
      let back := (s.ch c).st == .returning
      s.modCh (chan c) (fun q => { q with hardRows := if back then [] else q.hardRows, warmLost := false })

/-- A walker's visit to a set of which the tags are in the tag cache: cleans are issued, and the answer says whether the
walker may go on (R191, R471). A frame that an open offer still covers in part is waited for. -/
def walkSet (s : State) (why : OfferFor) (c set : Nat) : Bool × State :=
  (List.range 16).foldl (fun (acc : Bool × State) w =>
    let s := acc.2
    if unoffered s c set w = 0 then acc
    else if retireOffered s c set w then (false, s)
    else
      let (ok, s) := startClean s why c set w 0 (s.farDeadline (s.fld Fld.arbFarRepair)) false
      (acc.1 && ok, s)) (true, s)

/-- A walker's step: the set is read, its dirty frames are cleaned, and the walker moves on. `none` for the next set: it
has passed the last one. -/
def walkStep (s : State) (why : OfferFor) (c set last : Nat) : Option Nat × State :=
  if last ≤ set then (none, s)
  else match wantSet s c set 0 (s.farDeadline (s.fld Fld.arbFarRepair)) with
    | (false, s) => (some set, s)
    | (true, s) =>
      match walkSet s why c set with
      | (false, s) => (some set, s)
      | (true, s) => (if set + 1 < last then some (set + 1) else none, s)

/-- The drain walker's step (R191). -/
def opDrainWalk (s : State) (c : Nat) : State :=
  match kFind s.drain c with
  | none => s
  | some set =>
    if s.mode ≠ .drain then s
    else match walkStep s .drain c set (s.sets c) with
      | (none, s) => { s with drain := kErase s.drain c }
      | (some n, s) => { s with drain := kPut s.drain c n }

/-- The fence walker's step (R471, R490): a fence that stopped a sweep covers only the sets below its frontier. -/
def opFenceWalk (s : State) (c : Nat) : State :=
  match (s.ch c).walker with
  | none => s
  | some set =>
    if (s.ch c).st != .fencing || !s.mode.tieredLike then s
    else
      let (n, s) := walkStep s .fence c set (min (s.sets c) (s.fld Fld.tierSweepFrontier c))
      s.modCh (chan c) (fun q => { q with walker := n })

/-- The cleaner (R199). -/
def opCleaner (s : State) : State :=
  let budget := budgetUnits s
  let due := s.modeNow.tieredLike && s.flag Fld.tierCtlCleaner && budget != 0
    && decide (s.fld Fld.dirtyCtlClean * budget ≤ 16 * unitsHeld s)
  let ready (k : Nat) : Bool :=
    let c := k / 2 ^ 28
    !(s.ch c).unclean && unoffered s c (k / 16 % 2 ^ 24) (k % 16) != 0 && !retireOffered s c (k / 16 % 2 ^ 24) (k % 16)
  if !due then s
  else match s.pidx.find? ready with
    | none => s
    | some k =>
      (startClean s .cleaner (k / 2 ^ 28) (k / 16 % 2 ^ 24) (k % 16) 0 (s.farDeadline (s.fld Fld.dirtyCtlFar)) false).2

/-! ### Patrol scrub (R294–R297) -/

/-- Scrub runs on the channel (R297). -/
def scrubRuns (s : State) (c : Nat) : Bool :=
  s.fld Fld.chScrubPeriod c != 0 && phyTrained s c && (s.ch c).sr == .active && (s.ch c).freq == .none
    && (match (s.ch c).st with | .online => true | .fencing => true | .fenced => true | .returning => true | _ => false)
    && (match s.modeNow with | .plain => true | .tiered => true | .drain => true | .bypass => true | .test => true | _ => false)

/-- The next unit is read as one background transfer (R294); its lines that have an entry in the ledger are skipped
(R126). It waits for move reserve entries. -/
def opScrub (s : State) (c : Nat) : State :=
  if !scrubRuns s c || (s.ch c).rankUnits = 0 || s.fld Fld.phyPopRanks c = 0 then s
  else
    let unit := s.fld Fld.chScrubPosUnit c
    let rank := s.fld Fld.chScrubPosRank c
    let ls := (unitLines s c rank unit).filter (fun x => (chain s x.1).isEmpty)
    if 1024 < poolCount s .moveRes + ls.length then s
    else
      let lastUnit := decide ((s.ch c).rankUnits ≤ unit + 1)
      let last := lastUnit && decide (s.fld Fld.phyPopRanks c ≤ rank + 1)
      let s := s.setFld Fld.chScrubPosUnit (if lastUnit then 0 else unit + 1) c
      let s := s.setFld Fld.chScrubPosRank (if last then 0 else if lastUnit then rank + 1 else rank) c
      if ls.isEmpty then (if last then scrubPassEnd s c else s)
      else
        let dl := s.farDeadline (s.fld Fld.arbFarScrub)
        let (is, s) := ls.foldl (fun (acc : List Nat × State) x =>
          let idx := freeIdx acc.2
          (acc.1 ++ [idx], addEntry acc.2
            { idx := 0, kind := .scrub, st := .run, pool := .moveRes, ctx := 0, port := 0, deadline := dl, key := x.1, ch := c }))
          ([], s)
        let js := (ls.zip is).map (fun x => { x.1.2 with idx := some x.2 })
        let (id, s) := newJob s c (.scrub last) false js 0 dl false
        is.foldl (fun s i => modEntry s i (fun e => { e with phase := .dram id, owner := id })) s

/-! ### The commands -/

/-- TAG_READ (R207). -/
def execTagRead (s : State) : Host.Outcome State Fault Refusal := .next (settle (opTagRead s))

/-- TAG_CAPTURE_DONE (R207). -/
def execTagCaptureDone (out : EccOut) (s : State) : Host.Outcome State Fault Refusal := .next (settle (opTagCaptured s out))

/-- TAG_RETIRE (R201). -/
def execTagRetire (s : State) : Host.Outcome State Fault Refusal := .next (settle (opTagRetire s))

/-- WAY_RETIRE_DRAINED (R201). -/
def execWayRetireDrained (ch : ChanId) (set : Nat) (way : Fin 16) (s : State) : Host.Outcome State Fault Refusal :=
  .next (settle (opWayDrained s ch set way))

/-- TIER_LOST_RELEASE (R178). -/
def execTierLostRelease (w : Word) (s : State) : Host.Outcome State Fault Refusal := .next (settle (opLostRelease s w))

/-- TAG_SWEEP_STEP (R175). -/
def execTagSweepStep (ch : ChanId) (s : State) : Host.Outcome State Fault Refusal := .next (settle (opSweep s ch))

/-- DRAIN_WALK_STEP (R191). -/
def execDrainWalkStep (ch : ChanId) (s : State) : Host.Outcome State Fault Refusal := .next (settle (opDrainWalk s ch))

/-- FENCE_WALK_STEP (R471). -/
def execFenceWalkStep (ch : ChanId) (s : State) : Host.Outcome State Fault Refusal := .next (settle (opFenceWalk s ch))

/-- CLEANER_CLEAN (R199). -/
def execCleanerClean (s : State) : Host.Outcome State Fault Refusal := .next (settle (opCleaner s))

/-- SCRUB_UNIT_START (R294). -/
def execScrubUnitStart (ch : ChanId) (s : State) : Host.Outcome State Fault Refusal := .next (settle (opScrub s ch))

end Sys2Proof.Machine
end

