-- ==== Sys2Proof/Machine/Time.lean ====
section
/-! DEFINITION. Time and the clockless core: epoch boundaries (R399), the monitors of speed, temperature and supply (R391–
R393, R662), REFCLK (R400, R401), and the Awl's key and back-pressure (R404–R411). -/

namespace Sys2Proof.Machine

/-! ### The Awl (R404–R411) -/

/-- The Awl's controls that are not at rest. `AWL_BP_SEED` is no control of R406 (DEDUCED: `AWL_STATUS.ACTIVE` resets to 0
beside its reset word 1). -/
def awlInForce (s : State) : List Nat :=
  (s.regs.map (fun e => e.1)).filter (fun o => decide (0x30000 ≤ o ∧ o < 0x31000)
    && o != Reg.awlStatus.at && o != Reg.awlKey.at)

/-- An epoch boundary's part for the Awl (R405, R406): locked, every control goes to rest. -/
def awlBoundary (s : State) : State :=
  let s := if s.awlOpen then s else (awlInForce s).foldl (fun s o => s.wr o (resetWord o)) s
  s.setFlag Fld.awlStatusActive ((awlInForce s).any (fun o => o != Reg.awlBpSeed.at))

/-- The Awl locks (R404, R405): pending writes of its registers are dropped; its controls follow at the next boundary. -/
def awlLock (s : State) : State :=
  { s with awlStep := 0, pend := s.pend.filter (fun e => !decide (0x30000 ≤ e.1 ∧ e.1 < 0x31000)) }.setFlag
    Fld.awlStatusUnlocked false

/-- A write of `AWL_KEY` (R404). -/
def opAwlKey (s : State) (w : Word) : State :=
  let k := Fld.awlKeyKey.of w
  if s.mode = .reset then s
  else if k = 0x5A3C then { s with awlStep := 1 }
  else if k = 0xC3A5 && s.awlStep = 1 then
    ({ s with awlStep := 0 }.setFlag Fld.awlStatusUnlocked true).info Ev.awlUnlock Src.awl
  else awlLock s

/-- A run of slots begins on a back-pressure target (R409): its LFSR advances one step. -/
def opBpRun (s : State) (t : Fin 9) : State := { s with awlLfsr := s.awlLfsr.set t (lfsr16 s.awlLfsr[t]) }

/-! ### Monitors -/

/-- The lowest of the eight speed indexes and its monitor (R392). -/
def slowest (m : EpochMeas) : Nat × Nat :=
  (List.finRange 8).foldl (fun (b : Nat × Nat) k =>
    if m.speed[k].toNat < b.1 then (m.speed[k].toNat, k.val) else b) (m.speed[(0 : Fin 8)].toNat, 0)

/-- The speed monitors (R391–R393). -/
def speedMonitors (s : State) (m : EpochMeas) : State :=
  let s := (List.finRange 8).foldl (fun s k => s.setFld Fld.coreSpeedMonIndex m.speed[k].toNat k.val) s
  let (i, k) := slowest m
  let s := (s.setFld Fld.coreSpeedIndex i).setFld Fld.coreSpeedMonitor k
  if i < s.fld Fld.coreSpeedCtlWarn then
    if s.flag Fld.coreSpeedSlow then s
    else ((s.setFlag Fld.coreSpeedSlow true).count Reg.coreCntSlow).info Ev.coreSlow Src.core (dw (i + k * 256))
  else s.setFlag Fld.coreSpeedSlow false

/-- A level source follows its cause (R524). -/
def levelSource (s : State) (src : Nat) (bad : Bool) : State := if bad then s.report src else causeEnds s src

/-- The core's supply and junction (R520 sources 86 to 88, R662). -/
def coreMonitors (s : State) (m : EpochMeas) : State :=
  let s := (s.setFld Fld.coreTempTj m.tj.toNat).setFld Fld.coreVddMv m.mv.toNat
  let s := levelSource s 86 (decide (m.mv.toNat < 700 ∨ 900 < m.mv.toNat))
  let s := levelSource s 87 (decide (105 < m.tj.toInt))
  levelSource s 88 (decide (115 < m.tj.toInt))

/-! ### Epoch boundaries (R399) -/

/-- The time base and the uptime up to the next boundary (R397). -/
def toBoundary (s : State) : State :=
  let n := 1024 - s.timeBase.toNat % 1024
  { s with
    timeBase := s.timeBase + BitVec.ofNat 24 n
    uptime := s.uptime + BitVec.ofNat 48 ((s.tickFrac + n) / 400)
    tickFrac := (s.tickFrac + n) % 400
    epoch := s.epoch + 1 }

/-- A staged PSEQ image takes over (R510). -/
def switchPseq (s : State) : State :=
  match s.pseqStaged with
  | none => s
  | some (v, r) =>
    let s : State := { s with pseqStaged := none }
    let s := ((s.setFld Fld.imgPseqVerVersion v).setFld Fld.imgPseqVerIfrev r).setFlag Fld.spareInvImgRomPseq false
    imgBooks ((s.count Reg.svcCntImgSwitch).info Ev.imageSwitch Src.pseq (dw (v % 2 ^ 16 * 2 ^ 16)))

/-- The SPD reads of step 9 have ended. -/
def spdsRead (s : State) : Bool := (List.range 16).all (fun c => !sbOpen s c (fun t => t.who == .spd))

/-- The boundary of step 12: what was held takes effect, and the lifetime record is written, with the march selection as it
applies now (R426, R429, R430, R591). -/
def startRecord (s : State) : State :=
  let s := stepTwelve s
  beginTrain (queueLife s (s.fld Fld.blkStartMarch))

/-- What the marker wavefront does to buffered values (R399, R614): at the boundary of step 12 everything that was held
takes effect and LOAD ends (R426, R430). -/
def markerApply (s : State) : State :=
  match s.mode with
  | .enumerate => s
  | .load => if s.start == .boundary && spdsRead s then startRecord s else s
  | _ =>
    let s := epochApply s
    -- a channel with no clocked work has no boundary of its own
    (List.range 16).foldl (fun s c => if refreshes s c then s else zqInstall (channelBoundary s c) c) s

/-- Step 17's boundary (R426, R451). -/
def startBoundary (s : State) : State :=
  match s.start with
  | .enter => enterStart s
  | .waitMp => enterStart s
  | _ => s

/-- An epoch boundary (R399, R614). -/
def opEpoch (s : State) (m : EpochMeas) : State :=
  if !clockRuns s then s
  else
    let s := toBoundary s
    if s.mode = .reset then s
    else
      let s := collectAll (coreMonitors (speedMonitors s m) m)
      awlBoundary (startBoundary (modeBoundary (switchPseq (markerApply s))))

/-! ### REFCLK (R400, R401) -/

/-- REFCLK is missing, or off frequency (R400). There is no holdover before the first lock (R427). -/
def opRefclkLost (s : State) (missing : Bool) : State :=
  if !clockRuns s || s.flag Fld.refclkStatusHoldover then s
  else
    let s := ((s.setFlag Fld.refclkStatusPresent false).setFlag Fld.refclkStatusHoldover true).setFlag Fld.refclkStatusLost true
    (s.count Reg.tbCntRefclk).eventOf Ev.refclkLost Src.core 84 (dw (if missing then 1 else 2))

/-- REFCLK has been back for 1 ms (R401). -/
def opRefclkBack (s : State) : State :=
  if s.flag Fld.refclkStatusHoldover then
    causeEnds ((s.setFlag Fld.refclkStatusPresent true).setFlag Fld.refclkStatusHoldover false) 84
  else s

/-- A stage group held work for 1 ms without a handshake (R520 source 90). Groups 61 to 63 have no stages (R408). -/
def opStageHang (s : State) (g : Nat) : State := if 61 ≤ g then s else s.report 90

/-! ### Meanings -/

/-- EPOCH_BOUNDARY (R399) -/
def execEpochBoundary (m : EpochMeas) (s : State) : Host.Outcome State Fault Refusal := .next (settle (opEpoch s m))

/-- REFCLK_LOST (R400) -/
def execRefclkLost (missing : Bool) (s : State) : Host.Outcome State Fault Refusal := .next (settle (opRefclkLost s missing))

/-- REFCLK_RESTORED (R401) -/
def execRefclkRestored (s : State) : Host.Outcome State Fault Refusal := .next (settle (opRefclkBack s))

/-- AWL_KEY_WRITE (R404) -/
def execAwlKeyWrite (w : Word) (s : State) : Host.Outcome State Fault Refusal := .next (settle (opAwlKey s w))

/-- AWL_BP_RUN (R409) -/
def execAwlBpRun (t : Fin 9) (s : State) : Host.Outcome State Fault Refusal := .next (settle (opBpRun s t))

/-- STAGE_HANG_TIMEOUT (R520) -/
def execStageHangTimeout (g : Fin 64) (s : State) : Host.Outcome State Fault Refusal := .next (settle (opStageHang s g.val))

end Sys2Proof.Machine
end

