-- ==== Sys2Proof/Machine/Views.lean ====
section
/-! DEFINITION. What a register reads (R611, R627–R637): the RS fields that show state kept elsewhere, the pending words of
buffered fields, the Awl's mirrors, and the beam's copies. -/

namespace Sys2Proof.Machine

/-- The word with a field replaced. -/
def Fld.into (f : Fld) (v : Nat) (w : Word) : Word := putBits w f.lo f.w v

/-- The word with a one-bit field replaced. -/
def Fld.intoB (f : Fld) (b : Bool) (w : Word) : Word := f.into b.toNat w

/-! ### Saturation fields (R619) -/

/-- Bit i: the 32-bit counter at `base + 4 i` stands at all ones. -/
def satBits (s : State) (base : Nat) (l : List Nat) : Nat :=
  (l.map (fun i => if s.rd (base + 4 * i) = 0xFFFFFFFF then 2 ^ i else 0)).sum

/-- A counter of two words stands at all ones. -/
def satPair (s : State) (lo : Nat) : Bool := s.rd lo = 0xFFFFFFFF && s.rd (lo + 4) = 0xFFFFFFFF

/-- Saturated counters of a context. -/
def satCtx (l : List Nat) : Nat := ((List.range 8).map (fun i => if l.getD i 0 = 0xFFFFFFFF then 2 ^ i else 0)).sum

/-- The saturation register at an offset of a block-wide group, if one stands there. -/
def satBlock (s : State) (off : Nat) : Option Nat :=
  if off = Reg.blkCntSat.at then some (satBits s Reg.blkCntMode.at (List.range 5))
  else if off = Reg.coreCntSat.at then some (satBits s Reg.coreCntSlow.at (List.range 2))
  else if off = Reg.regCntSat.at then some (satBits s Reg.regCntAccess.at (List.range 2))
  else if off = Reg.evqCntSat.at then some (satBits s Reg.evqCntPush.at (List.range 4))
  else if off = Reg.fltCntSat.at then
    some (satBits s Reg.fltCntCorr.at (List.range 5) + (if s.fld Fld.fltRcountCount = 0xFFFF then 256 else 0))
  else if off = Reg.ldgCntSat.at then some (satBits s Reg.ldgCntHazard.at (List.range 10))
  else if off = Reg.tierCntSat.at then some (satBits s Reg.tierCntHit.at (List.range 13))
  else if off = Reg.mpCntSat.at then
    some (satBits s Reg.mpCntFillReq.at (List.range 15) + (if s.rd Reg.mpCntRange.at = 0xFFFFFFFF then 2 ^ 15 else 0))
  else if off = Reg.mpArbSat.at then some (satBits s Reg.mpCntMiss.at [0, 1, 2, 3, 5])
  else if off = Reg.sramCntSat.at then some (satBits s Reg.sramCntCollide.at (List.range 9))
  else if off = Reg.sramCntSatArr.at then
    some (satBits s (Reg.sramCntCe.at) (List.range 14) + satBits s (Reg.sramCntUe.at) (List.range 14) * 2 ^ 16)
  else if off = Reg.svcCntSat.at then some (satBits s Reg.svcCntRefused.at (List.range 4))
  else if off = Reg.flCntSat.at then some (satBits s Reg.flCntProg.at (List.range 7))
  else if off = Reg.chainCntSat.at then some (satBits s Reg.chainCntFrame.at (List.range 4))
  else none

/-- The saturation register of a port at an offset of its group. -/
def satPort (s : State) (n off : Nat) : Option Nat :=
  if off = Reg.wpCntSat.at n then
    some (satBits s (Reg.wpCntReq.at n) (List.range 7) + (satPair s (Reg.wpCntLineInLo.at n)).toNat * 2 ^ 9
      + (satPair s (Reg.wpCntLineOutLo.at n)).toNat * 2 ^ 10)
  else none

/-- A saturation register of a channel at an offset of its group. -/
def satChan (s : State) (c off : Nat) : Option Nat :=
  if off = Reg.chSvcSat.at c then some (satBits s (Reg.chCntFence.at c) (List.range 7))
  else if off = Reg.chArbSat.at c then some (satBits s (Reg.chCntMiss.at c) (List.range 6))
  else if off = Reg.chSchedSat.at c then
    some (satBits s (Reg.chCntPageConflict.at c) (List.range 20)
      + ((List.range 4).map (fun k => (satPair s (Reg.chCntActLo.at c + 8 * k)).toNat * 2 ^ (24 + k))).sum)
  else if off = Reg.phyCntSat.at c then some (satBits s (Reg.phyCntSpare.at c) (List.range 5))
  else if off = Reg.calCntSat.at c then some (satBits s (Reg.calCnt.at c) (List.range 7))
  else none

/-- The saturation register of a sideband quad. -/
def satQuad (s : State) (off : Nat) : Option Nat :=
  ((List.range 4).find? (fun q => Reg.sbCntSat.at q == off)).map (fun q => satBits s (Reg.sbCntNack.at q) (List.range 3))

/-! ### Identity, time and the event queue -/

/-- The identity and time group (R465, R417). -/
def viewBlock (s : State) (off : Nat) (w : Word) : Word :=
  if off = Reg.blkId.at then Fld.blkIdHwrev.into Config.hwRev.toNat w
  else if off = Reg.blkMode.at then
    Fld.blkModeMode.into s.modeNow.code (Fld.blkModePrev.into s.prev.code (Fld.blkModeWarm.intoB s.warm
      (Fld.blkModeWarmFlush.intoB s.warmFlush (Fld.blkModeHeld.intoB s.held w))))
  else if off = Reg.tbNow.at then s.timeBase.setWidth 32
  else if off = Reg.uptimeLo.at then s.uptime.setWidth 32
  else if off = Reg.uptimeHi.at then (s.uptime >>> 32).setWidth 32
  else w

/-- Some buffered value waits for its boundary (R616). -/
def anyPending (s : State) : Bool := !s.pend.isEmpty || s.ctxs.any (fun e => e.2.pend.isSome)

/-- The configuration and event-queue groups (R651). -/
def viewCfg (s : State) (off : Nat) (w : Word) : Word :=
  if off = Reg.cfgStatus.at then
    Fld.cfgStatusPending.intoB (anyPending s) (Fld.cfgStatusHeld.intoB (s.holding && anyPending s)
      (Fld.cfgStatusClearing.intoB (!s.clears.isEmpty) w))
  else if off = Reg.eyeletStatus.at then
    if Fld.eyeletStatusValid.of w = 1 then w else Fld.eyeletStatusCleared.into 0 (Fld.eyeletStatusWords.into 0 w)
  else if off = Reg.evqCount.at then
    let q := s.evq.items
    Fld.evqCountTotal.into q.length (Fld.evqCountFull.intoB s.evq.full
      (Fld.evqCountPrio.into ((List.range 4).map (fun p => if q.any (fun i => i.prio == p) then 2 ^ p else 0)).sum w))
  else w

/-- The fault collector (R527, R547). -/
def viewFlt (s : State) (off : Nat) (w : Word) : Word :=
  if off = Reg.fltEpisode.at then
    let st := match s.modeNow with | .safe => if s.held then 3 else 1 | .recover => 2 | _ => 0
    Fld.fltEpisodeState.into st (Fld.fltEpisodeQuiet.intoB (s.modeNow == .safe && quietRuns s) w)
  else
    match (List.range 3).find? (fun i => Reg.fltStatus.at i == off || Reg.fltBroken.at i == off) with
    | none => w
    | some i =>
      if off = Reg.fltBroken.at i then s.flt.broken.extractLsb' (32 * i) 32
      else (s.flt.err ||| s.flt.broken).extractLsb' (32 * i) 32

/-! ### Ports, contexts and the ledger -/

/-- A port's group (R57–R60, R662). -/
def viewPort (s : State) (n off : Nat) (w : Word) : Word :=
  let p := portOf n
  let q := s.ports[p]
  if off = Reg.wpState.at n then Fld.wpStateState.into q.st.code w
  else if off = Reg.wpHcred.at n then Fld.wpHcredPort.into q.hPort (Fld.wpHcredFabric.into q.hFab w)
  else if off = Reg.wpDcredHeld.at n then Fld.wpDcredHeldStaged.into q.staged w
  else if off = Reg.wpCcred.at n then Fld.wpCcredAvail.into q.cAvail w
  else if off = Reg.wpOutstanding.at n then Fld.wpOutstandingTags.into q.reqs.length w
  else if off = Reg.wpHead.at n then
    match portHead s p with
    | none => 0
    | some r => Fld.wpHeadTag.into r.tag.toNat (Fld.wpHeadLength.into r.len (Fld.wpHeadValid.into 1
        (Fld.wpHeadHeld.intoB q.headHeld w)))
  else w

/-- The counters that the context window shows (R69): in beam mode the copies of the latest take. -/
def shownCounters (s : State) : List Nat :=
  if eyeletMode s then s.ctxWin.captured else kGet [] s.beamCtx (selCtx s)

/-- The context window (R66–R69, R95). -/
def viewCtx (s : State) (off : Nat) (w : Word) : Word :=
  let c := s.ctx (selCtx s)
  if off = Reg.ctxStatus.at then Fld.ctxStatusPending.intoB c.pend.isSome w
  else if off = Reg.ctxThr.at then
    Fld.ctxThrTokens.into c.tokens (Fld.ctxThrLimited.intoB (c.step != 0 && c.tokens == 0) w)
  else if Reg.ctxCntReq.at ≤ off ∧ off ≤ Reg.ctxCntPAsT.at then
    dw ((shownCounters s).getD ((off - Reg.ctxCntReq.at) / 4) 0)
  else if off = Reg.ctxCntSat.at then dw (satCtx (shownCounters s))
  else w

/-- The ledger and conservation group, live (R147). -/
def viewLdg (s : State) (off : Nat) (w : Word) : Word :=
  if off = Reg.ldgHostFree.at then dw (hostFree s)
  else if off = Reg.ldgHostBorrow.at then dw (poolCount s .borrow)
  else if off = Reg.ldgResFill.at then dw (poolCount s .fillRes)
  else if off = Reg.ldgResOffer.at then dw (poolCount s .offerRes)
  else if off = Reg.ldgResTag.at then dw (poolCount s .tagRes)
  else if off = Reg.ldgResMove.at then dw (poolCount s .moveRes)
  else if off = Reg.consFbufA.at then Fld.consFbufAFill.into (fillBufs s) (Fld.consFbufAOffer.into (offerBufs s) w)
  else if off = Reg.consFbufB.at then
    Fld.consFbufBMove.into (moveBufs s) (Fld.consFbufBFree.into (4096 - fillBufs s - offerBufs s - moveBufs s) w)
  else if off = Reg.consMreq.at then
    Fld.consMreqBlock.into s.media.reqBlock (Fld.consMreqEngine.into s.media.reqEngine w)
  else if off = Reg.consMoffer.at then
    Fld.consMofferBlock.into s.media.offBlock (Fld.consMofferEngine.into s.media.offEngine w)
  else if off = Reg.consDirtyHeld.at then dw (unitsHeld s)
  else if off = Reg.consDirtyFree.at then dw (unitsFree s)
  else
    match (List.finRange 8).find? (fun p =>
        Reg.ldgHostWp.at p.val == off || Reg.consDcred.at p.val == off || Reg.consCcred.at p.val == off) with
    | none => w
    | some p =>
      if off = Reg.ldgHostWp.at p.val then dw (hostHeld s p.val)
      else if off = Reg.consDcred.at p.val then dw s.ports[p].dFab
      else dw s.ports[p].cOut

/-! ### The tier and the media port -/

/-- The tier's group (R178, R210). -/
def viewTier (s : State) (off : Nat) (w : Word) : Word :=
  if off = Reg.tierStatus.at then
    Fld.tierStatusClean.intoB (tierClean s) (Fld.tierStatusSweeping.intoB ((List.range 16).any (fun c => s.flag Fld.tierSweepActive c))
      (Fld.tierStatusLost.intoB (s.lost.any (fun l => l.isSome)) w))
  else if off = Reg.pidxUsed.at then dw s.pidx.length
  else if off = Reg.tierLostData.at then
    match (s.lost.getD (s.fld Fld.tierLostSelIndex) none) with
    | none => 0
    | some l => Fld.tierLostDataSet.into l.set (Fld.tierLostDataChannel.into l.ch (Fld.tierLostDataValid.into 1 0))
  else w

/-- The age in ms of the oldest deferred offer (R662). -/
def deferAge (s : State) : Nat :=
  ((s.media.offers.filter (fun o => o.st == .deferred)).map (fun o => (s.us - o.deferAt) / 1000)).foldl max 0

/-- An offer that waits at the media engine, or whose data is owed. -/
def offerOpen (o : Offer) : Bool :=
  match o.st with | .sent => true | .deferred => true | .accepted => true | _ => false

/-- The media port's group (R249, R256, R662). -/
def viewMp (s : State) (off : Nat) (w : Word) : Word :=
  if off = Reg.mpState.at then Fld.mpStateState.into s.media.st.code w
  else if off = Reg.mpFlushLeft.at then dw s.media.flushLeft
  else if off = Reg.mpOpen.at then
    Fld.mpOpenFills.into (s.media.fills.countP (fun f => f.sent && !f.last))
      (Fld.mpOpenOffers.into (s.media.offers.countP offerOpen + s.media.wts.countP (fun t => t.st != .queued)) w)
  else if off = Reg.mpDeferred.at then
    Fld.mpDeferredOffers.into (s.media.offers.countP (fun o => o.st == .deferred))
      (Fld.mpDeferredAge.into (min (deferAge s) 0xFFFF) w)
  else if off = Reg.mpArbStatus.at then
    Fld.mpArbStatusFrozen.intoB (s.flag Fld.mpArbCtlFreeze && s.media.xfer.isNone) w
  else w

/-! ### Channels -/

/-- Codes of `CH_SR_STATUS.STATE` and `.REASON` (R307). -/
def SrSt.code : SrSt → Nat
  | .active => 0 | .entering => 1 | .inside => 2 | .exiting => 3
def SrWhy.code : SrWhy → Nat
  | .none => 0 | .freq => 1 | .service => 2 | .safe => 3 | .holdup => 4 | .warm => 5

/-- The refresh debt that a rank shows (R272). -/
def shownDebt (s : State) (c r : Nat) : Nat :=
  (((debtKeys s c).filter (fun k => k / 64 == r)).map (fun k => min (debtOf s c k) 15)).foldl max 0

/-- No burst of the channel is on its way. -/
def burstsOver (s : State) (c : Nat) : Bool :=
  (s.ch c).busNext.isEmpty && (s.ch c).jobs.all (fun j => j.lines.all (fun l => l.step == 0 || l.fin))

/-- A channel's group (R104, R307, R348, R516). -/
def viewChan (s : State) (c off : Nat) (w : Word) : Word :=
  let q := s.ch c
  if off = Reg.chState.at c then
    Fld.chStateState.into q.st.code (Fld.chStateEmpty.intoB q.empty (Fld.chStateUnclean.intoB q.unclean
      (Fld.chStateTrained.intoB q.trained (Fld.chStateBusy.intoB (chBusy s c) w))))
  else if off = Reg.chArbStatus.at c then
    Fld.chArbStatusFrozen.intoB (s.flag Fld.chArbCtlFreeze c && q.queue.isEmpty)
      (Fld.chArbStatusDataFrozen.intoB (s.flag Fld.chArbCtlFreezeData c && burstsOver s c) w)
  else if off = Reg.chRefStatus.at c then
    Fld.chRefStatusDebt.into ((List.range 4).map (fun r => shownDebt s c r * 16 ^ r)).sum
      (Fld.chRefStatusDoubled.intoB q.doubled w)
  else if off = Reg.chScrubPos.at c then Fld.chScrubPosActive.intoB (scrubRuns s c) w
  else if off = Reg.chSrStatus.at c then
    Fld.chSrStatusState.into q.sr.code (Fld.chSrStatusReason.into (if q.sr = .active then 0 else q.srWhy.code) w)
  else if off = Reg.phyLaneData.at c then
    let lane := s.fld Fld.phyLaneSelLane c
    let word := kGet 0 q.trims (trimKey (s.fld Fld.chFreqCurrent c) lane (s.flag Fld.phyLaneSelDir c)) &&& 0x7F7FFF
    let k := sliceOf lane
    if 148 < lane then 0 else Fld.phyLaneDataSpared.intoB (spareOf s c k.1 k.2).isSome word
  else w

/-! ### SRAM, service, flash -/

/-- The power group of a macro group's domain (R697). -/
def powerGroupOf (g : Nat) : Nat :=
  if g < 40 then 19 else if g < 56 then 20 else if g = 72 ∨ g = 94 ∨ 122 ≤ g then 24 else if g < 78 then 21
  else if g < 94 then 22 else if g = 119 ∨ g = 121 then 2 else 23

/-- The selected macro group (R571). -/
def groupData (s : State) (g : Nat) : Word :=
  let index := if 122 ≤ g then g - 122 else g - arrayFirst (groupArray g)
  let spare? := kFind s.sram.replaced g
  let serves := (s.sram.replaced.find? (fun e => e.2 == g)).map (fun e => e.1)
  let map := match spare? with | some n => n | none => serves.getD 0
  let fixes (row : Bool) : Nat := min (s.sram.fixes.countP (fun f => f.group == g && f.row == row)) 63
  Fld.sramGroupDataArray.into (groupArray g) (Fld.sramGroupDataIndex.into index
    (Fld.sramGroupDataPowered.intoB (s.pins.pwrAck.getLsbD (powerGroupOf g)) (Fld.sramGroupDataReplaced.intoB spare?.isSome
      (Fld.sramGroupDataMap.into map (Fld.sramGroupDataRows.into (fixes true) (Fld.sramGroupDataCols.into (fixes false) 0))))))

/-- Over the channels, the sum of a count. -/
def sumChs (f : Nat → Nat) : Nat := ((List.range 16).map f).sum

/-- Marked ranks of the eight channels from `c` on (R516). -/
def marksWord (s : State) (c : Nat) : Nat :=
  ((List.range 32).map (fun b => if s.flag (Fld.chMarkValid (b % 4)) (c + b / 4) then 2 ^ b else 0)).sum

/-- The service group (R516, R607). -/
def viewSvc (s : State) (off : Nat) (w : Word) : Word :=
  if off = Reg.spareInvLane.at then
    Fld.spareInvLaneFree.into (sumChs (fun c => s.fld Fld.phySpareInvFree c))
      (Fld.spareInvLaneUsed.into (sumChs (fun c => (List.range 16).countP (fun k => spareValid s c k)))
        (Fld.spareInvLaneBad.into (sumChs (fun c => s.fld Fld.phySpareInvBad c)) w))
  else if off = Reg.spareInvEndtap.at then dw (sumChs (fun c => s.fld Fld.phyEndtapReleased c))
  else if off = Reg.spareInvPpr.at then
    dw (sumChs (fun c => (s.ch c).softRows.length) % 2 ^ 16 + sumChs (fun c => (s.ch c).hardRows.length) % 2 ^ 16 * 2 ^ 16)
  else if off = Reg.spareInvMarkLo.at then dw (marksWord s 0)
  else if off = Reg.spareInvMarkHi.at then dw (marksWord s 8)
  else if off = Reg.spareInvWay.at then
    Fld.spareInvWayRetired.into (waysUsed s) (Fld.spareInvWayLeft.into (8192 - waysUsed s) w)
  else if off = Reg.spareInvOtp.at then dw ((List.range 7).map (fun k => min 3 (otpFree s k) * 4 ^ k)).sum
  else if off = Reg.spareInvCh.at then
    dw (sumChs (fun c => (if (s.ch c).st = .retired then 2 ^ c else 0) + (if (s.ch c).st = .online then 0 else 2 ^ (16 + c))))
  else w

/-- Registers of the remaining groups with fields kept elsewhere. -/
def viewRest (s : State) (off : Nat) (w : Word) : Word :=
  if off = Reg.sramGroupData.at then groupData s (s.fld Fld.sramGroupSelGroup)
  else if off = Reg.logStatus.at then
    Fld.logStatusQueue.into (min (s.flash.log.length - s.flash.writing.toNat) 255) w
  else w

/-- The word with its RS fields as they stand: the saturation registers, and what the unit shows. -/
def liveWord (s : State) (off : Nat) : Word :=
  let w := s.rd off
  if s.mode = .reset then w
  else
    let g := off / 4096
    if 16 ≤ g ∧ g < 32 then
      match satChan s (g - 16) off with | some v => dw v | none => viewChan s (g - 16) off w
    else if g = 4 then
      let n := (off - 0x4000) / 0x200
      match satPort s n off with | some v => dw v | none => viewPort s n off w
    else
      match satBlock s off with
      | some v => dw v
      | none =>
        match g with
        | 0 => viewBlock s off w
        | 1 => viewCfg s off w
        | 2 => viewCfg s off w
        | 3 => viewFlt s off w
        | 6 => viewCtx s off w
        | 8 => viewLdg s off w
        | 9 => viewTier s off w
        | 10 => viewMp s off w
        | 33 => viewSvc s off w
        | 35 => match satQuad s off with | some v => dw v | none => w
        | _ => viewRest s off w

/-! ### Reads -/

/-- The newest value of a buffered register: the pending word of its RB bits over the live word (R611). -/
def newestWord (s : State) (off : Nat) : Word :=
  let w := liveWord s off
  match findReg off, kFind s.pend off with
  | some r, some p => (w &&& ~~~r.rb) ||| (p &&& r.rb)
  | _, _ => w

/-- The Awl register that a mirror shows, with the mirror's field in its own register and the field it shows (R406): the
duties of the ports and of the media port, the issue stretch, and delay step 19. -/
def awlMirror (off : Nat) : Option (Nat × Fld × Fld) :=
  let g := off / 4096
  if off = Reg.mpCtl.at then some (Reg.awlBp.at 8, ⟨Reg.mpCtl, 1, 8⟩, Fld.awlBpDuty)
  else if off = Reg.tierCtl.at then some (Reg.awlDelay.at 19, ⟨Reg.tierCtl, 2, 8⟩, Fld.awlDelaySteps)
  else if g = 4 ∧ off % 0x200 = 0 then some (Reg.awlBp.at ((off - 0x4000) / 0x200), ⟨Reg.wpCtl, 3, 8⟩, Fld.awlBpDuty)
  else if 16 ≤ g ∧ g < 32 ∧ off = Reg.chIssue.at (g - 16) then
    some (Reg.awlStretch.at (g - 16), ⟨Reg.chIssue, 2, 4⟩, Fld.awlStretchClocks)
  else none

/-- A register of the Awl's group that a locked Awl hides (R405). -/
def awlHidden (s : State) (off : Nat) : Bool := off / 4096 == 0x30 && off != Reg.awlStatus.at && (!s.awlOpen || off == Reg.awlKey.at)

/-- The registers whose own offsets read the latest take in beam mode (R149, R632). -/
def beamShown (s : State) (off : Nat) : Bool := !eyeletMode s && decide (Reg.ldgHostFree.at ≤ off ∧ off ≤ Reg.consStatus.at)

/-- What a read of an assigned register returns (R611, R405, R632). -/
def readReg (s : State) (off : Nat) : Word :=
  if awlHidden s off then 0
  else if beamShown s off then kGet 0 s.beam off
  else
    let w := newestWord s off
    match awlMirror off with
    | some (src, f, g) => if s.awlOpen then f.into (g.of (newestWord s src)) w else w
    | none => w

/-! ### The beam's copies (R629, R632) -/

/-- The saturation registers that are not a context's. -/
def satOffs : List Nat :=
  [Reg.blkCntSat.at, Reg.coreCntSat.at, Reg.regCntSat.at, Reg.evqCntSat.at, Reg.fltCntSat.at, Reg.ldgCntSat.at,
   Reg.tierCntSat.at, Reg.mpCntSat.at, Reg.mpArbSat.at, Reg.sramCntSat.at, Reg.sramCntSatArr.at, Reg.svcCntSat.at,
   Reg.flCntSat.at, Reg.chainCntSat.at]
  ++ (List.range 8).map (fun n => Reg.wpCntSat.at n)
  ++ ((List.range 16).map (fun c =>
      [Reg.chSvcSat.at c, Reg.chArbSat.at c, Reg.chSchedSat.at c, Reg.phyCntSat.at c, Reg.calCntSat.at c])).flatten
  ++ (List.range 4).map (fun q => Reg.sbCntSat.at q)

/-- The registers of the conservation books (R147). -/
def bookOffs : List Nat :=
  [Reg.ldgHostFree.at, Reg.ldgHostBorrow.at, Reg.ldgResFill.at, Reg.ldgResOffer.at, Reg.ldgResTag.at, Reg.ldgResMove.at,
   Reg.consFbufA.at, Reg.consFbufB.at, Reg.consMreq.at, Reg.consMoffer.at, Reg.consDirtyHeld.at, Reg.consDirtyFree.at,
   Reg.consStatus.at]
  ++ ((List.range 8).map (fun n => [Reg.ldgHostWp.at n, Reg.consDcred.at n, Reg.consCcred.at n, Reg.wpHcred.at n,
      Reg.wpDcredHeld.at n, Reg.wpCcred.at n])).flatten

/-- The `_LO`/`_HI` pairs that are no counters. -/
def pairOffs : List Nat :=
  [Reg.uptimeLo.at, Reg.uptimeHi.at, Reg.fltEpStartLo.at, Reg.fltEpStartHi.at, Reg.tierHashSeedLo.at,
   Reg.tierHashSeedHi.at, Reg.spareInvMarkLo.at, Reg.spareInvMarkHi.at]
  ++ ((List.range 16).map (fun c => [Reg.calLastLo.at c, Reg.calLastHi.at c])).flatten

/-- The RC and RH bits of the register at an offset. -/
def clearMask (off : Nat) (rc rh : Bool) : Word :=
  match findReg off with
  | none => 0
  | some r => (if rc then r.rc else 0) ||| (if rh then r.rh else 0)

/-- The copies of a take (R629). -/
def beamCopies (s : State) : KMap Word :=
  let fields := s.regs.foldl (fun m e => kSet 0 m e.1 (e.2 &&& clearMask e.1 true true)) []
  (satOffs ++ bookOffs ++ pairOffs).foldl (fun m o => kSet 0 m o (liveWord s o)) fields

/-- The copies of the contexts: eight counters and the tokens (R629). -/
def beamContexts (s : State) : KMap (List Nat) :=
  (s.ctxs.map (fun e => (e.1, e.2.counters ++ [e.2.tokens]))).filter (fun e => e.2.any (fun v => v != 0))

/-- The beam copy of the register at an offset (R632). -/
def beamWord (s : State) (off : Nat) : Word :=
  let c := kGet [] s.beamCtx (selCtx s)
  if off = Reg.ctxThr.at then Fld.ctxThrTokens.into (c.getD 8 0) 0
  else if Reg.ctxCntReq.at ≤ off ∧ off ≤ Reg.ctxCntPAsT.at then dw (c.getD ((off - Reg.ctxCntReq.at) / 4) 0)
  else if off = Reg.ctxCntSat.at then dw (satCtx c)
  else kGet 0 s.beam off

/-! ### The eyelet's items (R634) -/

/-- The address ranges of an item. -/
def eyeletRanges (item : Nat) : Option (List (Nat × Nat)) :=
  match item with
  | 0x00 => some [(0x40, 0x5C), (0x100, 0x15C)]
  | 0x01 => some [(0x1040, 0x105C), (0x2040, 0x205C)]
  | 0x03 => some [(0x3000, 0x309C)]
  | 0x10 => some [(0x8000, 0x809C)]
  | 0x11 => some [(0x80A0, 0x813C)]
  | 0x12 => some [(0x9008, 0x9008), (0x9020, 0x9020), (0x9200, 0x923C)]
  | 0x13 => some [(0xA000, 0xA0C0)]
  | 0x34 => some [(0x23040, 0x2305C)]
  | 0x35 => some [(0x20040, 0x2017C)]
  | 0x36 => some [(0x21100, 0x2113C)]
  | 0x37 => some [(0x22080, 0x2209C)]
  | _ =>
    if 0x08 ≤ item ∧ item < 0x10 then
      let b := 0x4000 + (item - 0x08) * 0x200
      some [(b + 0x04, b + 0x7C)]
    else if 0x20 ≤ item ∧ item < 0x30 then
      let b := 0x10000 + (item - 0x20) * 0x1000
      some [(b + 0x20, b + 0x3C), (b + 0x90, b + 0xBC), (b + 0x200, b + 0x27C), (b + 0x4C0, b + 0x4DC), (b + 0x624, b + 0x67C)]
    else if 0x30 ≤ item ∧ item < 0x34 then
      let b := Reg.sbCtl.at (item - 0x30)
      some [(b + 0x10, b + 0x1C)]
    else none

/-- The registers of an item, ascending. -/
def eyeletOffs (item : Nat) : Option (List Nat) :=
  (eyeletRanges item).map (fun l =>
    ((l.map (fun r => (List.range ((r.2 - r.1) / 4 + 1)).map (fun i => r.1 + 4 * i))).flatten).filter (fun o => (findReg o).isSome))

/-- A word of an eyelet item: the register as it stands. -/
def eyeletWord (s : State) (off : Nat) : Word := newestWord s off

end Sys2Proof.Machine
end

