-- ==== Sys2Proof/Machine/RegOps.lean ====
section
/-! DEFINITION. The register path: clears (R620, R621), takes and captures (R629–R637), the event queue's window (R645–
R647), what a write of each register does, and the checks of an access (R613, R623–R628). -/

namespace Sys2Proof.Machine

/-! ### Clears, takes and captures -/

/-- RC and RH fields of the registers in a scope are cleared; a history bit whose status reads 1 is set again (R527). -/
def clearFields (s : State) (rc rh : Bool) (scope : Nat → Bool) : State :=
  let left := s.regs.map (fun e => if scope e.1 then (e.1, e.2 &&& ~~~clearMask e.1 rc rh) else e)
  let s : State := { s with regs := left.filter (fun e => e.2 != resetWord e.1) }
  (List.range 3).foldl (fun s i =>
    if rh && scope (Reg.fltHist.at i) then
      s.wr (Reg.fltHist.at i) (s.rd (Reg.fltHist.at i) ||| (s.flt.err ||| s.flt.broken).extractLsb' (32 * i) 32)
    else s) s

/-- The counters of every context are cleared. -/
def clearContexts (s : State) : State :=
  { s with ctxs := (s.ctxs.map (fun e => (e.1, clearCtx e.2))).filter (fun e => e.2 != {}) }

/-- The clear that a word of `CLR_CMD` names (R620). -/
def runClear (s : State) (w : Word) : State :=
  let all := Fld.clrCmdAll.of w == 1
  let rc := Fld.clrCmdCnt.of w == 1
  let g := Fld.clrCmdGroup.of w
  let s := clearFields s rc (Fld.clrCmdHist.of w == 1) (fun o => all || o / 4096 == g)
  if rc && (all || g == 6) then clearContexts s else s

/-- The books of R147 that a copy finds out of balance: bit i for row i. Only the pools that State holds on both sides, or
whose size bounds them, can be told; the books of a port that is not OPEN are not judged. -/
def booksOut (s : State) : Nat :=
  let ps := s.ports.toList.filter (fun q => q.st == .opened)
  let hdr := ps.any (fun q => q.hPort + q.hFab != 2048)
  let cmp := ps.any (fun q => some (q.cAvail + q.cOut) != q.adv)
  let host := decide (122880 < poolCount s .host + poolCount s .borrow)
  let res := decide (4096 < poolCount s .fillRes ∨ 2048 < poolCount s .offerRes ∨ 1024 < poolCount s .tagRes
    ∨ 1024 < poolCount s .moveRes)
  let buf := decide (4096 < fillBufs s + offerBufs s + moveBufs s)
  hdr.toNat + cmp.toNat * 8 + host.toNat * 16 + res.toNat * 32 + buf.toNat * 64

/-- A copy of the books is judged (R149): one that does not balance sets IMBALANCE and reports fault source 64. -/
def checkBooks (s : State) : State :=
  if booksOut s = 0 then s
  else (s.setFlag Fld.consStatusImbalance true).eventOf Ev.consImbalance Src.ledger 64 (dw (booksOut s))

/-- The marker of a take launches (R630, R631); the books it copies are judged (R149). -/
def launchTake (s : State) (clear : Bool) : State :=
  let s := checkBooks s
  let s := s.wr Reg.beamTick.at (s.timeBase.setWidth 32)
  let s : State := { s with beam := beamCopies s, beamCtx := beamContexts s, beamClear := clear }
  if clear then clearContexts (clearFields s true true (fun _ => true)) else s

/-- A take that waits behind clears (R633), as the queue of wavefronts holds it: no word of `CLR_CMD` has bit 31. -/
def takeMark (clear : Bool) : Word := if clear then 0xC0000000 else 0x80000000
def isTakeMark (w : Word) : Bool := w.getLsbD 31

/-- Wavefronts start in the order in which they were written: takes at once, up to the next clear (R621, R633). -/
def startWavefronts : List Word → State → State
  | [], s => { s with clears := [] }
  | w :: l, s =>
    if isTakeMark w then startWavefronts l (launchTake s (w.getLsbD 30)) else runClear { s with clears := w :: l } w

/-- A write of `CLR_CMD` (R620, R621, R651): GROUP and ALL read as written. One with neither HIST nor CNT clears
nothing. -/
def opClear (s : State) (w : Word) : State :=
  if s.mode = .reset then s
  else
    let s := (s.setFld Fld.clrCmdGroup (Fld.clrCmdGroup.of w)).setFld Fld.clrCmdAll (Fld.clrCmdAll.of w)
    let w := w &&& 0x7FF
    if Fld.clrCmdHist.of w == 0 && Fld.clrCmdCnt.of w == 0 then s
    else if s.clears.isEmpty then startWavefronts [w] s else { s with clears := s.clears ++ [w] }

/-- The clear's wavefront ends (R621). -/
def opWavefrontEnd (s : State) : State :=
  match s.clears with
  | [] => s
  | _ :: l => startWavefronts l s

/-- `BEAM_CTL.TAKE` and `.TAKE_CLEAR` in beam mode (R630–R633). -/
def opTake (s : State) (clear : Bool) : State :=
  if s.mode = .reset then s
  else if s.flag Fld.beamStatusBusy then s.setFlag Fld.beamStatusDropped true
  else
    let s := (s.setFlag Fld.beamStatusBusy true).setFlag Fld.beamStatusDone false
    if s.clears.isEmpty then launchTake s clear else { s with clears := s.clears ++ [takeMark clear] }

/-- The wavefront of the take ends (R630). -/
def opTakeDone (s : State) : State :=
  if !s.flag Fld.beamStatusBusy || s.clears.any isTakeMark then s
  else
    let s := (s.setFlag Fld.beamStatusBusy false).setFlag Fld.beamStatusDone true
    (s.setFld Fld.beamStatusSeq (s.fld Fld.beamStatusSeq + 1)).setFlag Fld.beamStatusCleared s.beamClear

/-- An item is captured into `EYELET_DATA` (R634, R635). -/
def capture (s : State) (offs : List Nat) (clear : Bool) : State :=
  let words := offs.map (eyeletWord s)
  let s := (List.range 64).foldl (fun s i => s.wr (Reg.eyeletData.at i) (words.getD i 0)) s
  let s := ((s.setFlag Fld.eyeletStatusValid false).setFlag Fld.eyeletStatusBusy true).setFlag Fld.eyeletStatusBad false
  (s.setFld Fld.eyeletStatusWords offs.length).setFlag Fld.eyeletStatusCleared clear

/-- A write of `EYELET_SEL` in eyelet mode (R635, R636); the books of the conservation item are judged (R149). -/
def opEyeletSel (s : State) (w : Word) : State :=
  let item := Fld.eyeletSelItem.of w
  let s := s.setFld Fld.eyeletSelItem item
  match eyeletOffs item with
  | some l => capture (if item = 0x10 then checkBooks s else s) l false
  | none => s.wr Reg.eyeletStatus.at (Fld.eyeletStatusBad.into 1 0)

/-- `EYELET_CTL.CLEAR` (R637). -/
def opEyeletClear (s : State) : State :=
  if !s.flag Fld.eyeletStatusValid || s.flag Fld.eyeletStatusBad then s
  else match eyeletOffs (s.fld Fld.eyeletSelItem) with
    | none => s
    | some l => clearFields (capture s l true) true true (fun o => l.contains o)

/-- The capture ends (R635). -/
def opCaptureDone (s : State) : State :=
  if s.flag Fld.eyeletStatusBusy then (s.setFlag Fld.eyeletStatusBusy false).setFlag Fld.eyeletStatusValid true else s

/-! ### The event queue's window -/

/-- The four words of an item (R638). -/
def EvItem.words (i : EvItem) : List Word :=
  [dw (i.prio + i.gap.toNat * 4 + i.code % 1024 * 16 + i.seq % 4096 * 2 ^ 16), dw (i.tick.toNat + i.source % 256 * 2 ^ 24), i.d0, i.d1]

/-- The item that a pop takes (R644): of the highest priority, the first accepted. -/
def EvQueue.first (q : EvQueue) : Option EvItem :=
  [0, 1, 2, 3].findSome? (fun p => q.items.find? (fun i => i.prio == p))

/-- A pop (R644–R646): the item, and the queue without it. Words that fail their parity are counted and reported. -/
def popItem (s : State) : Option EvItem × State :=
  match s.evq.first with
  | none => (none, s)
  | some i =>
    let s : State := { s with evq := { s.evq with items := s.evq.items.erase i } }
    (some i, if i.bad = 0 then s else (s.count Reg.evqCntParity).report 75)

/-- `EVQ_CTL.POP` (R645). -/
def opPop (s : State) : State :=
  if s.mode = .reset then s
  else match popItem s with
    | (none, s) =>
      (List.range 4).foldl (fun s k => s.wr (Reg.evqItem.at k) 0) (s.wr Reg.evqPopStatus.at (Fld.evqPopStatusEmpty.into 1 0))
    | (some i, s) =>
      let st := Fld.evqPopStatusValid.into 1 (Fld.evqPopStatusPoison.intoB (i.bad != 0)
        (Fld.evqPopStatusBadword.into i.bad.toNat 0))
      (List.range 4).foldl (fun s k => s.wr (Reg.evqItem.at k) (i.words.getD k 0)) (s.wr Reg.evqPopStatus.at st)

/-- `EVQ_CTL.FLUSH` (R647). -/
def opFlushQueue (s : State) : State :=
  if s.mode = .reset then s
  else
    let n := s.evq.items.length
    let s : State := { s.count Reg.evqCntFlush with evq := { s.evq with items := [] } }
    s.push { prio := Prio.info, code := Ev.evqFlush, tick := s.timeBase, source := Src.evq, d0 := dw n, d1 := 0 }

/-- The pushes of a handshake in ascending SOURCE order (R641). -/
def sortStage : List EvPush → List EvPush
  | [] => []
  | p :: l =>
    let r := sortStage l
    r.takeWhile (fun q => q.source < p.source) ++ p :: r.dropWhile (fun q => q.source < p.source)

/-- A handshake of the input stage (R641). -/
def opHandshake (s : State) : State :=
  if s.mode = .reset then s
  else (sortStage s.evq.stage).foldl State.push { s with evq := { s.evq with stage := [] } }

/-! ### What a write does -/

/-- `CFG_HOLD.HOLD` (R617): after it is cleared, what it held waits for the epoch boundary. -/
def opHold (s : State) (v : Bool) : State :=
  if s.mode = .reset then s
  else if v then s.setFlag Fld.cfgHoldHold true
  else if s.holding then { s.setFlag Fld.cfgHoldHold false with holdRelease := true }
  else s

/-- RW bits change at once, buffered bits wait (R611). -/
def storeWord (s : State) (off : Nat) (w : Word) : State :=
  match findReg off with
  | none => s
  | some r =>
    let s := if r.rw = 0 then s else s.wr off ((s.rd off &&& ~~~r.rw) ||| (w &&& r.rw))
    s.putPend off w

/-- Identity, configuration, event queue and fault collector. -/
def writeControl (s : State) (off : Nat) (w : Word) : State :=
  if off = Reg.blkModeReq.at then opModeReq s (Fld.blkModeReqTarget.of w)
  else if off = Reg.cfgHold.at then opHold s (Fld.cfgHoldHold.of w == 1)
  else if off = Reg.clrCmd.at then opClear s w
  else if off = Reg.beamCtl.at then
    if Fld.beamCtlTakeClear.of w = 1 then opTake s true else if Fld.beamCtlTake.of w = 1 then opTake s false else s
  else if off = Reg.eyeletSel.at then opEyeletSel s w
  else if off = Reg.eyeletCtl.at then if Fld.eyeletCtlClear.of w = 1 then opEyeletClear s else s
  else if off = Reg.evqCtl.at then
    let s := if Fld.evqCtlPop.of w = 1 then opPop s else s
    if Fld.evqCtlFlush.of w = 1 then opFlushQueue s else s
  else if off = Reg.fltCtl.at then
    let s := opFatalArm s (Fld.fltCtlFatalArm.of w == 1)
    if Fld.fltCtlSafe.of w = 1 then opSoftSafe s else s
  else match (List.range 3).find? (fun i => Reg.fltForce.at i == off) with
    | some i => opForceWrite s i w
    | none => storeWord s off w

/-- The context window (R66–R70): its entry words are the window's own. -/
def writeCtx (s : State) (off : Nat) (w : Word) : State :=
  if off = Reg.ctxSel.at then opCtxSel s w
  else if off = Reg.ctxCmd.at then
    let s := if Fld.ctxCmdWrite.of w = 1 then opCtxWrite s else s
    if Fld.ctxCmdClearCnt.of w = 1 then opCtxClear s else s
  else if off = Reg.ctxCfg.at then s.wr off (w &&& Reg.ctxCfg.rb)
  else if off = Reg.ctxBudget.at then s.wr off w
  else if off = Reg.ctxThr.at then
    { s.wr off (w &&& Reg.ctxThr.ra) with ctxWin := { s.ctxWin with thrWritten := true } }
  else storeWord s off w

/-- Ledger, tier and media port. -/
def writeTier (s : State) (off : Nat) (w : Word) : State :=
  if off = Reg.ldgInspSel.at then opInspSel s w
  else if off = Reg.tierLostSel.at then opLostRelease s w
  else if off = Reg.tagCmd.at then
    let s := if Fld.tagCmdRead.of w = 1 then opTagRead s else s
    if Fld.tagCmdRetire.of w = 1 then opTagRetire s else s
  else if off = Reg.mpArbCtl.at then opMpFreeze s (Fld.mpArbCtlFreeze.of w == 1)
  else if off = Reg.mpCtl.at ∨ off = Reg.mpDefer.at ∨ off = Reg.mpArbPreempt.at then
    let s := storeWord s off w
    if s.media.xfer.isNone then mediaEdge s else s
  else storeWord s off w

/-- A write of `CH_SVC`: one command bit at most (R516, R469). -/
def writeSvc (s : State) (c : Nat) (w : Word) : State :=
  match getBits w 0 4 with
  | 0 => putSvc s c w
  | 1 => opMark s c w
  | 2 => opUnmark s c w
  | 4 => opPprSoft s c w
  | 8 => opPprHard s c w
  | _ => chRefuse (putSvc s c w) c w

/-- A channel's registers. -/
def writeChan (s : State) (c off : Nat) (w : Word) : State :=
  if off = Reg.chState.at c then
    if getBits w 8 7 = 0 then s
    else match ChCmd.ofWord w with
      | some cmd => opCh s c cmd
      | none => chRefuse s c w
  else if off = Reg.chSvc.at c then writeSvc s c w
  else if off = Reg.chArbCtl.at c then
    opFreezeData (opFreeze s c (Fld.chArbCtlFreeze.of w == 1)) c (Fld.chArbCtlFreezeData.of w == 1)
  else
    let s := if off = Reg.chFreq.at c then opFreqChange (s.putPend off w) c (Fld.chFreqTarget.of w) else storeWord s off w
    if (s.ch c).sr = .inside then channelBoundary s c else s

/-- SRAM test, service and flash. -/
def writeService (s : State) (off : Nat) (w : Word) : State :=
  if off = Reg.sramMtCtl.at then
    if Fld.sramMtCtlGo.of w = 1 then opMarch s w
    else (s.setFld Fld.sramMtCtlGroup (Fld.sramMtCtlGroup.of w)).setFld Fld.sramMtCtlPreserve (Fld.sramMtCtlPreserve.of w)
  else if off = Reg.svcOtp.at then
    let s := if Fld.svcOtpBurnSram.of w = 1 then opSvcBurn s 3 else s
    if Fld.svcOtpBurnLane.of w = 1 then opSvcBurn s 4 else s
  else if off = Reg.imgCtl.at then
    let s := if Fld.imgCtlPseq.of w = 1 then opImgPseq s w else putImg s w
    if Fld.imgCtlTseq.of w = 1 then opImgTseq s w else s
  else if off = Reg.lfCtl.at then
    let s := s.putPend off w
    if Fld.lfCtlRescan.of w = 1 then opRescan s else s
  else if off = Reg.lfXfer.at then
    if Fld.lfXferGo.of w = 1 then opLfXfer s w (Fld.lfXferOp.of w)
    else (s.setFld Fld.lfXferOp (Fld.lfXferOp.of w)).setFld Fld.lfXferLen (Fld.lfXferLen.of w)
  else if off = Reg.otpCtl.at then
    if Fld.otpCtlBurn.of w = 1 then opOtpBurn s w else s.setFld Fld.otpCtlRecord (Fld.otpCtlRecord.of w)
  else storeWord s off w

/-- The chain and the sideband quads. -/
def writeBand (s : State) (off : Nat) (w : Word) : State :=
  match (List.range 4).find? (fun q => Reg.sbXfer.at q == off || Reg.sbCtl.at q == off) with
  | none => storeWord s off w
  | some q => if off = Reg.sbXfer.at q then opSbXfer s q w else quadBoundary (storeWord s off w) q

/-- The Awl's registers: nothing is taken while it is locked (R404, R405). -/
def writeAwl (s : State) (off : Nat) (w : Word) : State :=
  if off = Reg.awlKey.at then opAwlKey s w else if s.awlOpen then s.putPend off w else s

/-- A write to a mirror of an Awl control changes the control (R406). -/
def writeMirror (s : State) (off : Nat) (w : Word) : State :=
  match awlMirror off with
  | some (dst, f, g) => if s.awlOpen then s.putPend dst (g.into (f.of w) (newestWord s dst)) else s
  | none => s

/-- A write of a whole word to an assigned register. -/
def writeWord (s : State) (off : Nat) (w : Word) : State :=
  if s.mode = .reset then s
  else
    let s := writeMirror s off w
    let g := off / 4096
    if g < 4 then writeControl s off w
    else if g = 4 then
      let s := storeWord s off w
      let p := portOf ((off - 0x4000) / 0x200)
      if s.ports[p].rx.isNone then portEdge s p else s
    else if g = 6 then writeCtx s off w
    else if g < 16 then writeTier s off w
    else if g < 32 then writeChan s (g - 16) off w
    else if g < 35 then writeService s off w
    else if g = 35 then writeBand s off w
    else if g = 48 then writeAwl s off w
    else s

/-! ### Accesses (R613, R623–R628) -/

/-- The code of an access size (R627). -/
def sizeCode (size : Nat) : Nat := if size = 1 then 0 else if size = 2 then 1 else if size = 8 then 3 else 2

/-- EV_ACCESS with its count; a parity error is fault source 91 (R627). -/
def accessFail (s : State) (chain write : Bool) (off size reason : Nat) (data : Word) : State :=
  let d0 := dw (off % 2 ^ 20 + sizeCode size * 2 ^ 20 + write.toNat * 2 ^ 22 + chain.toNat * 2 ^ 23 + reason * 2 ^ 24)
  let s := s.count Reg.regCntAccess
  let d1 := if write then data else 0
  if reason = 5 then s.eventOf Ev.access Src.path 91 d0 d1 else s.info Ev.access Src.path d0 d1

/-- The offset belongs to the beam mirror (R632). -/
def inMirror (off : Nat) : Bool := decide (0x80000 ≤ off ∧ off < 0xC0000)

/-- A register of the wide mode that is not in force (R628). -/
def wrongWide (s : State) (off : Nat) : Bool :=
  let o := off / 4 * 4
  if eyeletMode s then inMirror off || o == Reg.beamCtl.at || o == Reg.beamStatus.at || o == Reg.beamTick.at
  else o == Reg.eyeletSel.at || o == Reg.eyeletCtl.at || o == Reg.eyeletStatus.at
    || decide (Reg.eyeletData.at ≤ o ∧ o ≤ Reg.eyeletData.at 63)

/-- A register that takes narrow writes (R625). -/
def byteWritable (off : Nat) : Bool :=
  let o := off / 4 * 4
  decide (Reg.otpBuf.at ≤ o ∧ o ≤ Reg.otpBuf.at 127) || decide (Reg.lfBuf.at ≤ o ∧ o ≤ Reg.lfBuf.at 63)
    || o == Reg.eyeletSel.at || (List.range 4).any (fun q => Reg.sbData.at q == o)

/-- Why an access of at most 32 bits is in error (R613, R625, R627, R628), if it is. -/
def accessReason (s : State) (off size : Nat) (write parityBad : Bool) : Option Nat :=
  if write && parityBad then some 5
  else if off % size ≠ 0 then some 2
  else if !inMirror off && (findReg (off / 4 * 4)).isNone then some 3
  else if wrongWide s off then some 4
  else if write && size < 4 && !byteWritable off then some 1
  else none

/-- The byte lanes of an access within its word. -/
def laneMask (off size : Nat) : Word := fieldMask (8 * (off % 4)) (8 * size)

/-- A native access (R623): its read data, and the state after it. -/
def access (s : State) (off size : Nat) (write : Bool) (data : Word) : Word × State :=
  let o := off / 4 * 4
  let m := if 4 ≤ size then BitVec.allOnes 32 else laneMask off size
  if inMirror off then (if write then 0 else beamWord s (o - 0x80000) &&& m, s)
  else if write then (0, writeWord s o ((readReg s o &&& ~~~m) ||| (data &&& m)))
  else (readReg s o &&& m, s)

/-- One access of at most 32 bits: read data, error, and the state after it. `size` in the event is that of the whole
access. -/
def oneAccess (s : State) (chain : Bool) (off size whole : Nat) (write : Bool) (data : Word) (parityBad : Bool) :
    Word × Bool × State :=
  match accessReason s off size write parityBad with
  | some r => (0, true, accessFail s chain write off whole r data)
  | none => let x := access s off size write data; (x.1, false, x.2)

/-- The halves of a 64-bit access, or the one access (R623, R624). -/
def runAccess (s : State) (a : Access) : BitVec 64 × Bool × State :=
  if a.size = 8 then
    if a.off % 8 ≠ 0 && !(a.write && a.parityBad) then
      (0, true, accessFail s a.chain a.write a.off 8 2 (a.data.setWidth 32))
    else
      let x := oneAccess s a.chain a.off 4 8 a.write (a.data.setWidth 32) a.parityBad
      let y := oneAccess (settle x.2.2) a.chain (a.off + 4) 4 8 a.write ((a.data >>> 32).setWidth 32) a.parityBad
      (y.1 ++ x.1, x.2.1 || y.2.1, y.2.2)
  else
    let x := oneAccess s a.chain a.off a.size a.size a.write (a.data.setWidth 32) a.parityBad
    (x.1.setWidth 64, x.2.1, x.2.2)

/-- A register access of the management port (R611, R623). In RESET the path answers with an error (R430). -/
def opAccess (s : State) (a : Access) : State :=
  if s.mode = .reset then s.drive (.answer a.chain 0 true)
  else
    let x := runAccess s a
    x.2.2.drive (.answer a.chain x.1 x.2.1)

/-- The access is in error, as a whole or in a half (R624). -/
def accessBad (s : State) (a : Access) : Bool := (runAccess s a).2.1

/-- REG_ACCESS_ERROR: the access is one that is in error. -/
def opBadAccess (s : State) (a : Access) : State :=
  if s.mode = .reset || accessBad s a then opAccess s a else s

/-- A command that is a write of one register by the management port: it is dropped where the register belongs to the
other wide mode (R628). -/
def cmdWrite (s : State) (off : Nat) (w : Word) : State :=
  if s.mode = .reset then s
  else if wrongWide s off then accessFail s false true off 4 4 w
  else writeWord s off w

end Sys2Proof.Machine
end

