-- ==== Sys2Proof/Machine/Chain.lean ====
section
/-! DEFINITION. The bead chain (R433–R441, R666–R669): its frames, the accesses of its master, and the chain address. -/

namespace Sys2Proof.Machine

/-! ### Frames (R435–R437) -/

/-- Byte `i` of a frame. -/
def frameByte (f : List (BitVec 8)) (i : Nat) : Nat := (f.getD i 0).toNat

/-- The frame's check code passes, and it has the length that its LEN gives (R434, R435). -/
def frameOk (f : List (BitVec 8)) : Bool :=
  decide (4 ≤ f.length) && f.length == frameByte f 2 + 4 && crc8 0 f == 0

/-- Payload bytes of a command (R437). -/
def frameLen : Nat → Option Nat
  | 0x01 => some 1 | 0x02 => some 8 | 0x03 => some 8 | 0x04 => some 17 | 0x05 => some 1 | 0x06 => some 6 | _ => none

/-- BCAST, RESP and ADDR of a frame (R435). -/
def frameBcast (f : List (BitVec 8)) : Bool := (f.getD 0 0).getLsbD 7
def frameResp (f : List (BitVec 8)) : Bool := (f.getD 0 0).getLsbD 6
def frameAddr (f : List (BitVec 8)) : Nat := frameByte f 0 % 64

/-- CMD, LEN and BCAST agree with the table of R437. -/
def frameWellFormed (f : List (BitVec 8)) : Bool :=
  let cmd := frameByte f 1
  frameLen cmd == some (frameByte f 2)
    && (if cmd = 0x01 then frameBcast f else if cmd = 0x05 then true else !frameBcast f)

/-- The frame with payload bytes replaced from byte `i` on and its check code computed anew (R436). -/
def frameWith (f : List (BitVec 8)) (i : Nat) (l : List (BitVec 8)) : List (BitVec 8) :=
  let body := f.take i ++ l ++ (f.drop (i + l.length)).take (f.length - 1 - i - l.length)
  body ++ [crc8 0 body]

/-- The bytes of a number, most significant first. -/
def bytesBig (n v : Nat) : List (BitVec 8) := (List.range n).map (fun i => BitVec.ofNat 8 (v / 256 ^ (n - 1 - i)))

/-- The answered frame (R438): RESP set, payload bytes from byte 3, and STATUS, the last payload byte. -/
def answerFrame (f : List (BitVec 8)) (payload : List (BitVec 8)) (status : Nat) : List (BitVec 8) :=
  let f := frameWith f 0 [f.getD 0 0 ||| 0x40]
  frameWith (frameWith f 3 payload) (f.length - 2) [BitVec.ofNat 8 status]

/-! ### What the unit does with a frame -/

/-- A frame that fails its check or is malformed is sent on unchanged and counted (R434, R437). -/
def badFrame (s : State) (f : List (BitVec 8)) : State := (s.count Reg.chainCntCrc).drive (.chain f)

/-- A BEAD (R439): the frame that leaves carries COUNT + 1. In ENUMERATE it ends the wait for an address (R441). -/
def takeBead (s : State) (f : List (BitVec 8)) : State :=
  let n := frameByte f 3
  let s := s.count Reg.chainCntFrame
  let s :=
    if n < 64 then
      let s := ((s.setFld Fld.chainStatusAddr n).setFld Fld.chainStatusSource 1).setFlag Fld.chainStatusValid true
      (s.count Reg.chainCntAddr).info Ev.chainAddr Src.chain (dw (n + 64)) (dw n)
    else s.setFlag Fld.chainStatusOverflow true
  let s := s.drive (.chain (frameWith f 3 [BitVec.ofNat 8 (min (n + 1) 255)]))
  if s.mode = .enumerate then beginLoad s else s

/-- A register access of the chain's master (R666, R667): STATUS, read data, and the state after it. -/
def chainAccess (s : State) (f : List (BitVec 8)) (write : Bool) : Nat × Word × State :=
  let off := frameByte f 3 * 2 ^ 16 + frameByte f 4 * 2 ^ 8 + frameByte f 5
  let data : Word := dw (frameByte f 6 * 2 ^ 24 + frameByte f 7 * 2 ^ 16 + frameByte f 8 * 2 ^ 8 + frameByte f 9)
  if s.mode = .reset then (2, 0, s)
  else if write && !s.flag Fld.chainCtlWrEn then (3, data, s)
  else if 2 ^ 20 ≤ off then (2, if write then data else 0, accessFail s true write off 4 3 data)
  else
    let x := oneAccess s true off 4 4 write data false
    (if x.2.1 then 2 else 0, if write then data else x.1, x.2.2)

/-- READ and WRITE (R437). -/
def chainReg (s : State) (f : List (BitVec 8)) (write : Bool) : State :=
  let x := chainAccess s f write
  x.2.2.drive (.chain (answerFrame f ((f.drop 3).take 3 ++ bytesBig 4 x.2.1.toNat) x.1))

/-- EVQ_POP (R437, R645): the management port's held item stays. -/
def chainPop (s : State) (f : List (BitVec 8)) : State :=
  match popItem s with
  | (none, s) => s.drive (.chain (answerFrame f (bytesBig 16 0) 4))
  | (some i, s) => s.drive (.chain (answerFrame f ((i.words.map (fun w => bytesBig 4 w.toNat)).flatten) 0))

/-- SAFE to one unit (R437, R438): fault source 92, where `CHAIN_CTL` lets it act. -/
def chainSafe (s : State) (f : List (BitVec 8)) : State :=
  if s.flag Fld.chainCtlSafeEn then (s.report 92).drive (.chain (answerFrame f [] 0))
  else s.drive (.chain (answerFrame f [] 3))

/-- IDENT (R437). -/
def chainIdent (s : State) (f : List (BitVec 8)) : State :=
  s.drive (.chain (answerFrame f (bytesBig 4 (s.rd Reg.blkUnit.at).toNat ++ bytesBig 1 s.modeNow.code) 0))

/-- A frame whose address matches and that has been answered already (R438). -/
def chainDup (s : State) (f : List (BitVec 8)) : State :=
  let s := (s.count Reg.chainCntDup).info Ev.chainDup Src.chain (dw (frameAddr f + frameByte f 1 * 256))
  let i := f.length - 2
  s.drive (.chain (frameWith f i [f.getD i 0 ||| 0x80]))

/-- The unit's own address is in use and the frame carries it (R438). -/
def addressed (s : State) (f : List (BitVec 8)) : Bool :=
  s.flag Fld.chainStatusValid && s.fld Fld.chainStatusAddr == frameAddr f

/-- A whole frame has been received (R434, R438, R440). Nothing is received while the cold reset holds the block. -/
def opFrame (s : State) (f : List (BitVec 8)) : State :=
  if !s.pins.coldRstN then s
  else if !frameOk f || !frameWellFormed f then badFrame s f
  else
    let cmd := frameByte f 1
    if cmd = 0x01 then takeBead s f
    else if frameBcast f then
      let s := if s.flag Fld.chainCtlSafeEn then (s.count Reg.chainCntFrame).report 92 else s
      s.drive (.chain f)
    else if !addressed s f then s.drive (.chain f)
    else if frameResp f then chainDup s f
    else
      let s := s.count Reg.chainCntFrame
      match cmd with
      | 0x02 => chainReg s f false
      | 0x03 => chainReg s f true
      | 0x04 => chainPop s f
      | 0x05 => chainSafe s f
      | _ => chainIdent s f

/-- A frame that the chain's receiver found bad (R434). -/
def opBadFrame (s : State) (f : List (BitVec 8)) : State := if !s.pins.coldRstN then s else badFrame s f

/-- ENUMERATE ends without a BEAD (R441). -/
def opNoBead (s : State) (tied : Bool) : State :=
  if s.mode = .enumerate then beginLoad (fallbackAddr (if tied then s.setFlag Fld.chainStatusTiedLow true else s)) else s

/-! ### The commands -/

/-- BEAD (R439). -/
def execBead (frame : List (BitVec 8)) (s : State) : Host.Outcome State Fault Refusal := .next (settle (opFrame s frame))

/-- CHAIN_READ (R437, R666). -/
def execChainRead (frame : List (BitVec 8)) (s : State) : Host.Outcome State Fault Refusal :=
  .next (settle (opFrame s frame))

/-- CHAIN_WRITE (R437, R666). -/
def execChainWrite (frame : List (BitVec 8)) (s : State) : Host.Outcome State Fault Refusal :=
  .next (settle (opFrame s frame))

/-- EVQ_POP_FRAME (R437, R645). -/
def execEvqPopFrame (frame : List (BitVec 8)) (s : State) : Host.Outcome State Fault Refusal :=
  .next (settle (opFrame s frame))

/-- CHAIN_SAFE (R438). -/
def execChainSafe (frame : List (BitVec 8)) (s : State) : Host.Outcome State Fault Refusal :=
  .next (settle (opFrame s frame))

/-- IDENT (R437). -/
def execIdent (frame : List (BitVec 8)) (s : State) : Host.Outcome State Fault Refusal := .next (settle (opFrame s frame))

/-- CHAIN_FRAME_BAD (R434). -/
def execChainFrameBad (frame : List (BitVec 8)) (s : State) : Host.Outcome State Fault Refusal :=
  .next (settle (opBadFrame s frame))

/-- ENUMERATE_TIED_LOW (R441). -/
def execEnumerateTiedLow (s : State) : Host.Outcome State Fault Refusal := .next (settle (opNoBead s true))

/-- ENUMERATE_TIMEOUT (R441). -/
def execEnumerateTimeout (s : State) : Host.Outcome State Fault Refusal := .next (settle (opNoBead s false))

end Sys2Proof.Machine
end

