-- ==== Sys2Proof/Machine/Registers.lean ====
section
/-! DEFINITION. The commands of the register path (R611–R651): accesses, clears, HOLD, the beam, the eyelet and the event
queue. -/

namespace Sys2Proof.Machine

/-- REG_WRITE (R611, R623): a register access of the window. -/
def execRegWrite (a : Access) (s : State) : Host.Outcome State Fault Refusal := .next (settle (opAccess s a))

/-- REG_ACCESS_ERROR (R613, R627): an access that is in error. -/
def execRegAccessError (a : Access) (s : State) : Host.Outcome State Fault Refusal := .next (settle (opBadAccess s a))

/-- CLR_HIST (R620): a write of `CLR_CMD` with HIST set. -/
def execClrHist (w : Word) (s : State) : Host.Outcome State Fault Refusal := .next (settle (cmdWrite s Reg.clrCmd.at (Fld.clrCmdHist.into 1 w)))

/-- CLR_CNT (R620): a write of `CLR_CMD` with CNT set. -/
def execClrCnt (w : Word) (s : State) : Host.Outcome State Fault Refusal := .next (settle (cmdWrite s Reg.clrCmd.at (Fld.clrCmdCnt.into 1 w)))

/-- CLEAR_WAVEFRONT_END (R621). -/
def execClearWavefrontEnd (s : State) : Host.Outcome State Fault Refusal := .next (settle (opWavefrontEnd s))

/-- CFG_HOLD_SET (R617). -/
def execCfgHoldSet (s : State) : Host.Outcome State Fault Refusal := .next (settle (opHold s true))

/-- CFG_HOLD_CLEAR (R617). -/
def execCfgHoldClear (s : State) : Host.Outcome State Fault Refusal := .next (settle (opHold s false))

/-- BEAM_TAKE (R630). -/
def execBeamTake (s : State) : Host.Outcome State Fault Refusal := .next (settle (cmdWrite s Reg.beamCtl.at (Fld.beamCtlTake.into 1 0)))

/-- BEAM_TAKE_CLEAR (R631). -/
def execBeamTakeClear (s : State) : Host.Outcome State Fault Refusal := .next (settle (cmdWrite s Reg.beamCtl.at (Fld.beamCtlTakeClear.into 1 0)))

/-- BEAM_TAKE_DONE (R630). -/
def execBeamTakeDone (s : State) : Host.Outcome State Fault Refusal := .next (settle (opTakeDone s))

/-- EYELET_SELECT (R635). -/
def execEyeletSelect (w : Word) (s : State) : Host.Outcome State Fault Refusal := .next (settle (cmdWrite s Reg.eyeletSel.at w))

/-- EYELET_CLEAR (R637). -/
def execEyeletClear (s : State) : Host.Outcome State Fault Refusal := .next (settle (cmdWrite s Reg.eyeletCtl.at (Fld.eyeletCtlClear.into 1 0)))

/-- EYELET_CAPTURE_DONE (R635). -/
def execEyeletCaptureDone (s : State) : Host.Outcome State Fault Refusal := .next (settle (opCaptureDone s))

/-- EVQ_POP (R645). -/
def execEvqPop (s : State) : Host.Outcome State Fault Refusal := .next (settle (opPop s))

/-- EVQ_FLUSH (R647). -/
def execEvqFlush (s : State) : Host.Outcome State Fault Refusal := .next (settle (opFlushQueue s))

/-- EVQ_PUSH_HANDSHAKE (R641). -/
def execEvqPushHandshake (s : State) : Host.Outcome State Fault Refusal := .next (settle (opHandshake s))

end Sys2Proof.Machine
end

