-- ==== Sys2Proof/Machine/Start.lean ====
section
/-! DEFINITION. Resets, power handshakes and the start sequence (R418–R432, R441–R451, R581–R590, R604, R683–R700). -/

namespace Sys2Proof.Machine

/-! ### The reset pins and step 1 -/

/-- COLD_RST_n falls (R418, R684). -/
def opColdAssert (s : State) : State := coldReset s

/-- COLD_RST_n rises (R418, R426): a cold start, counted in the lifetime record (R591). -/
def opColdRelease (s : State) : State :=
  if s.pins.coldRstN then s
  else lifeUp { s with pins := { s.pins with coldRstN := true }, start := .refclk } 0

/-- REFCLK has locked (R426 step 1, R427): time starts, SAFE_n is released (R687) and the groups of step 2 are asked for. A
warm start reports the channels whose contents the reset lost (R423). -/
def opRefclkLock (s : State) : State :=
  if s.start != .refclk then s
  else
    let s : State := { s with start := .power, pins := { s.pins with pwrReq := s.pins.pwrReq ||| 7, safeN := true } }
    let s := (s.setFlag Fld.refclkStatusPresent true).setFld Fld.mpIfrevIfrev s.pins.mpIfrev.toNat
    (List.range 16).foldl (fun s c =>
      if s.warm && (s.ch c).warmLost then (s.count Reg.blkCntWarmLost).info Ev.warmLost Src.block (dw c) else s) s

/-- A falling edge of WARM_RST_n (R420, R683). -/
def opWarmReset (s : State) : State :=
  let s : State := { s with pins := { s.pins with warmRstN := false } }
  if s.mode = .reset || s.warmFlush then s else beginQuiesce s

/-- WARM_RST_n rises: a block that it holds in RESET starts (R683). -/
def opWarmRelease (s : State) : State :=
  let s : State := { s with pins := { s.pins with warmRstN := true } }
  if s.mode = .reset && s.start == .off && s.pins.coldRstN then { s with start := .refclk } else s

/-! ### Power groups (R697–R700) -/

/-- The steps that wait for grants without limit (R699). -/
def waitsGrants (s : State) : Bool := s.start == .power || s.start == .last

/-- A group is granted (R698). A grant of a DDR4 channel's group carries its DIMMs' supplies (R697). -/
def opAckRise (s : State) (g : Nat) : State :=
  if !s.pins.pwrReq.getLsbD g then s
  else
    let s : State := { s with pins := { s.pins with pwrAck := s.pins.pwrAck ||| (1#25 <<< g) } }
    if 3 ≤ g ∧ g < 19 ∧ s.fld Fld.phyPopGen (g - 3) = 1 then s.setFlag Fld.phyStatusDimmPwr true (g - 3) else s

/-- What a channel's DRAM holds is lost: a warm reset kept it in self-refresh, and its group's grant has ended (R700). -/
def loseDram (s : State) (c : Nat) : State :=
  { s with dram := s.dram.filter (fun e => e.1 / 2 ^ 34 != c), tags := s.tags.filter (fun e => e.1 / 2 ^ 28 != c) }

/-- A grant ends (R699): while the group is asked for and in use it is fault source 89, but not once HOLDUP_DONE has risen
(R700). -/
def opAckFall (s : State) (g : Nat) : State :=
  if !s.pins.pwrAck.getLsbD g then s
  else
    let used := s.pins.pwrReq.getLsbD g && !s.pins.holdupDone && !waitsGrants s
    let s : State := { s with pins := { s.pins with pwrAck := s.pins.pwrAck &&& ~~~(1#25 <<< g) } }
    let s := if 3 ≤ g ∧ g < 19 ∧ s.fld Fld.phyPopGen (g - 3) = 1 then s.setFlag Fld.phyStatusDimmPwr false (g - 3) else s
    let s := if 3 ≤ g ∧ g < 19 ∧ s.mode = .reset then loseDram s (g - 3) else s
    if used then s.report 89 else s

/-- A grant has not come within 1 ms of its request (R699). -/
def opAckTimeout (s : State) (g : Nat) : State :=
  if s.pins.pwrReq.getLsbD g && !s.pins.pwrAck.getLsbD g && !s.pins.holdupDone && !waitsGrants s then s.report 89 else s

/-! ### Steps 3 to 6: OTP and flash -/

/-- LF_SCK in MHz (R575, R603): 266 MHz divided down to 133 MHz or to the limit of LAST_POLICY. -/
def flashRate (s : State) : Nat :=
  let lim := otpByte s 5 5
  let lim := if lim = 0 then 133 else min 133 lim
  266 / ((266 + lim - 1) / lim)

/-- The flash is discovered (R574): `LF_INFO`. -/
def discover (s : State) : State :=
  let p := s.flash.part
  if p = 0 then s
  else
    let s := (s.setFld Fld.lfInfoSize p).setFlag Fld.lfInfoFound true
    let s := (s.setFlag Fld.lfInfoQuad (otpByte s 5 4 % 2 == 0)).setFlag Fld.lfInfoAddr4 (decide (4 < p))
    s.setFld Fld.lfInfoSck (flashRate s)

/-- The OTP records (R604): the valid slots, the unit's identity, which seeds the victim LFSRs (R181), and fault source 82
for a slot that fails its check. -/
def readOtp (s : State) : State :=
  let s := (List.range 7).foldl (fun s k => s.setFld (Fld.otpSlotSlot k) ((otpValid s k).getD 7)) s
  let s := s.setFld Fld.blkUnitId (leNat ((List.range 4).map (fun i => BitVec.ofNat 8 (otpByte s 0 (1 + i)))))
  let s := loadLfsrs s
  let bad := (List.range 7).any (fun k => (List.range 4).any (fun i => otpSlotUsed s k i && !otpSlotOk s k i))
  if bad then s.report 82 else s

/-- The march test of step 6 (R429): group 0 first. -/
def beginStartMarch (s : State) : State :=
  let s : State := { s with sram := { s.sram with march := some (0, false), atStart := true } }
  s.setFlag Fld.sramStatusMtBusy true

/-- Steps 3 to 6 (R426): the OTP, the flash with the log's recovery, the stored repairs and the groups of step 5. -/
def opOtpRead (s : State) : State :=
  if s.start != .otp then s
  else
    let s := discover (readOtp s)
    let s := if s.flag Fld.lfInfoFound then recoverLog s else s
    let s := storedRepairs s
    let s : State := { s with start := .last, pins := { s.pins with pwrReq := s.pins.pwrReq ||| 0xFFFFF8 } }
    if !s.warm && logCell s 1 0 % 2 == 1 then beginStartMarch s else s

/-! ### LOAD: the Last (R442–R445, R581–R590) -/

/-- The range of a compatibility entry excludes a value, or its kind is unknown (R587): the kind that excludes. -/
def entryExcludes (s : State) (a : Nat) : Option Nat :=
  let b (i : Nat) : Nat := (flashByte s (a + i)).toNat
  let out (v : Nat) : Bool := decide (v < b 4 ∨ b 5 < v)
  match b 0 with
  | 1 => if out Config.hwRev.toNat then some 1 else none
  | 2 => none
  | 3 => if out (s.fld Fld.mpIfrevIfrev) then some 3 else none
  | k => some k

/-- Addresses of the compatibility entries of a copy. -/
def compatEntries (l : List LastRec) : List Nat :=
  ((l.filter (fun r => r.typ == 0x20)).map (fun r => (List.range (r.len / 8)).map (fun i => r.at_ + 8 * i))).flatten

/-- The KIND that excludes a copy, if one does (R587). -/
def excludedBy (s : State) (l : List LastRec) : Option Nat :=
  let es := compatEntries l
  match es.findSome? (entryExcludes s) with
  | some k => some k
  | none =>
    let units := es.filter (fun a => (flashByte s a).toNat == 2)
    if !units.isEmpty && units.all (fun a => flashWord s (a + 4) != s.fld Fld.blkUnitId) then some 2 else none

/-- The copy that LOAD chooses (R581): 0 none, 1 copy A, 2 copy B; and whether the copies tie. -/
def chooseLast (s : State) : Nat × Bool :=
  let a := s.flag Fld.lastStatusValidA
  let b := s.flag Fld.lastStatusValidB
  let d := (s.fld Fld.lastSeqBSeq + 2 ^ 32 - s.fld Fld.lastSeqASeq) % 2 ^ 32
  if otpByte s 5 4 / 2 % 2 = 1 then (0, false)
  else if a && b then (if newerSeq (s.fld Fld.lastSeqBSeq) (s.fld Fld.lastSeqASeq) then 2 else 1, d == 0 || d == 2 ^ 31)
  else (if a then 1 else if b then 2 else 0, false)

/-- The code of R445 by which the images of a copy form no matched pair (R444), if they do not, with their interface
revisions. -/
def pairCode (s : State) (l : List LastRec) : Nat × Nat × Nat × Nat × Nat :=
  match lastFind s l 0x10 0, lastFind s l 0x11 0 with
  | some t, some p =>
    let (tv, tr, th, tm) := imageHead s t
    let (pv, pr, ph, pm) := imageHead s p
    let out (x : Nat × Nat) (v : Nat) : Bool := decide (v < x.1 ∨ x.2 < v)
    let h := Config.hwRev.toNat
    let m := s.fld Fld.mpIfrevIfrev
    (if out th h || out ph h then 2 else if tr != pr then 3 else if out tm m || out pm m then 4 else 0, tv, tr, pv, pr)
  | t, p => (1, 0, (t.map (fun r => (imageHead s r).2.1)).getD 0, 0, (p.map (fun r => (imageHead s r).2.1)).getD 0)

/-- The images are loaded into the sequencers, or both run their ROM images (R444, R445). -/
def loadImages (s : State) (l : List LastRec) : State :=
  let (code, tv, tr, pv, pr) := pairCode s l
  if code = 0 then
    let s := (s.setFld Fld.imgPseqVerVersion pv).setFld Fld.imgPseqVerIfrev pr
    let s := (List.range 16).foldl (fun s c => (s.setFld Fld.imgTseqVerVersion tv c).setFld Fld.imgTseqVerIfrev tr c) s
    ((s.setFlag Fld.spareInvImgRomPseq false).setFld Fld.spareInvImgRomTseq 0).setFlag Fld.blkStatusImageFallback false
  else
    ((romImages s).setFlag Fld.blkStatusImageFallback true).info Ev.imageMismatch Src.pseq (dw code) (mismatchWord s tr pr)

/-- A record or an entry is skipped (R443, R590). `d0`: the offset that names it. -/
def skipRecord (s : State) (r : LastRec) (d0 : Nat) : State :=
  (s.count Reg.blkCntLastSkip).info Ev.lastRecord Src.flash (dw d0) (dw (r.typ % 2 ^ 16 + r.arg % 2 ^ 16 * 2 ^ 16))

/-- One entry of a register-initialisation record (R443, R585). A value that software has written already stays
(R430). -/
def initEntry (s : State) (held : List Nat) (r : LastRec) (a : Nat) : State :=
  let off := flashWord s a
  let v := dw (flashWord s (a + 4))
  let m := dw (flashWord s (a + 8))
  let classed := match findReg off with
    | some g => g.rw ||| g.rb ||| g.ra != 0
    | none => false
  if 2 ^ 20 ≤ off || off % 4 != 0 || !classed then skipRecord s r off
  else if held.contains off || wrongWide s off then s
  else writeWord s off ((readReg s off &&& ~~~m) ||| (v &&& m))

/-- One entry of a context table (R584, R589): a pending copy, unless software has committed one already (R430). -/
def ctxEntry (s : State) (held : List Nat) (r : LastRec) (a base : Nat) : State :=
  let n := flashWord s a % 4096
  if n = 0 then skipRecord s r (r.at_ - 8 - base)
  else if held.contains n then s
  else
    let cfg := dw (flashWord s (a + 4)) &&& Reg.ctxCfg.rb
    let bud := dw (flashWord s (a + 8))
    let stp := Fld.ctxThrStep.of (dw (flashWord s (a + 12)))
    s.modCtx n (fun c => { c with pend := some (cfg, bud, some stp) })

/-- The records of the chosen copy, in order (R589, R590). `heldR`, `heldC`: registers and contexts that software has
written. `base`: the copy's address. -/
def applyRecords (heldR heldC : List Nat) (base : Nat) : List LastRec → State → State
  | [], s => s
  | r :: rest, s =>
    let skip (s : State) : State := skipRecord s r (r.at_ - 8 - base)
    let s :=
      if r.typ = 0x20 then s
      else if rest.any (fun x => x.typ == r.typ && x.arg == r.arg) then skip s
      else if r.typ = 0x01 then (List.range (r.len / 12)).foldl (fun s i => initEntry s heldR r (r.at_ + 12 * i)) s
      else if r.typ < 0x10 ∨ 0x15 < r.typ then skip s
      else if !blobOk s r then skip s
      else if r.typ = 0x15 then
        (List.range ((r.len - 4) / 16)).foldl (fun s i => ctxEntry s heldC r (r.at_ + 16 * i) base) s
      else s
    applyRecords heldR heldC base rest s

/-- The channel map of the copy, after every other record (R589). -/
def loadMap (heldR : List Nat) (l : List LastRec) (s : State) : State :=
  match lastFind s l 0x14 0 with
  | none => s
  | some r => (List.range 16).foldl (fun s k =>
      if heldR.contains (Reg.chMap.at k) then s else s.putPend (Reg.chMap.at k) (dw (flashWord s (r.at_ + 4 * k)))) s

/-- No Last is used (R442, R448). -/
def noLast (s : State) : State :=
  ((romImages s).setFlag Fld.blkStatusImageFallback true).setFlag Fld.blkStatusNoLast true

/-- The Last copy in use is applied (R443–R445, R589). -/
def useLast (s : State) (pick : Nat) (l : List LastRec) : State :=
  let base := copyAt s (pick == 2)
  let heldR := s.pend.map (fun e => e.1)
  let heldC := (s.ctxs.filter (fun e => e.2.pend.isSome)).map (fun e => e.1)
  let s := s.setFld Fld.blkStatusLast pick
  let s := s.setFlag Fld.lastStatusWide ((flashByte s (base + 6)).toNat % 2 == 1)
  loadMap heldR l (applyRecords heldR heldC base l (loadImages s l))

/-- Step 11: the retired ways of the log (R426, R591). -/
def loadWays (s : State) : State :=
  let l := if s.flag Fld.lfInfoFound then loggedWays s else []
  let s : State := { s with retiredLog := l }
  (List.range 16).foldl (fun s c => s.setFld Fld.tierRetiredWays (l.countP (fun x => x.1 == c)) c) s

/-- The Last has been read (R426 steps 8 to 11, R442, R581). -/
def opLastRead (s : State) : State :=
  if s.start != .load then s
  else
    let s := readHeaders s
    let (pick, tie) := chooseLast s
    let s := if tie then
        (s.setFlag Fld.lastStatusTie true).info Ev.lastTie Src.flash (s.rd Reg.lastSeqA.at)
      else s
    let none_ := !s.flag Fld.lastStatusValidA && !s.flag Fld.lastStatusValidB
    let s := if none_ then
        s.info Ev.lastNone Src.flash (s.rd Reg.lastStatus.at) (dw (!s.flag Fld.lfInfoFound).toNat)
      else s
    let l := if pick = 0 then [] else (lastCopy s (pick == 2)).getD []
    let s :=
      if pick = 0 then noLast s
      else match excludedBy s l with
        | some k =>
          noLast ((s.setFlag Fld.blkStatusIncompat true).info Ev.lastIncompat Src.flash (dw (pick + k % 16 * 16)))
        | none => useLast s pick l
    { loadWays s with start := .boundary }

/-! ### The wait for media -/

/-- A period of `BLK_START.MP_WAIT` has passed while the start waits for the media port (R451). -/
def opMpWait (s : State) : State :=
  if s.start != .waitMp then s
  else
    let n := s.mpWaits + 1
    { s with mpWaits := n }.info Ev.mpWait Src.block (dw (n * s.fld Fld.blkStartMpWait))

/-! ### The commands -/

/-- COLD_RESET_ASSERT (R418, R684). -/
def execColdResetAssert (s : State) : Host.Outcome State Fault Refusal := .next (settle (opColdAssert s))

/-- COLD_RESET_RELEASE (R426). -/
def execColdResetRelease (s : State) : Host.Outcome State Fault Refusal := .next (settle (opColdRelease s))

/-- REFCLK_LOCK (R427). -/
def execRefclkLock (s : State) : Host.Outcome State Fault Refusal := .next (settle (opRefclkLock s))

/-- OTP_RECORDS_READ (R604). -/
def execOtpRecordsRead (s : State) : Host.Outcome State Fault Refusal := .next (settle (opOtpRead s))

/-- LAST_READ_DONE (R581). -/
def execLastReadDone (s : State) : Host.Outcome State Fault Refusal := .next (settle (opLastRead s))

/-- WARM_RESET (R420). -/
def execWarmReset (s : State) : Host.Outcome State Fault Refusal := .next (settle (opWarmReset s))

/-- WARM_RESET_RELEASE (R683). -/
def execWarmResetRelease (s : State) : Host.Outcome State Fault Refusal := .next (settle (opWarmRelease s))

/-- PWR_ACK_RISE (R698). -/
def execPwrAckRise (g : Fin 25) (s : State) : Host.Outcome State Fault Refusal := .next (settle (opAckRise s g.val))

/-- PWR_ACK_FALL (R699). -/
def execPwrAckFall (g : Fin 25) (s : State) : Host.Outcome State Fault Refusal := .next (settle (opAckFall s g.val))

/-- PWR_ACK_TIMEOUT (R699). -/
def execPwrAckTimeout (g : Fin 25) (s : State) : Host.Outcome State Fault Refusal :=
  .next (settle (opAckTimeout s g.val))

/-- MP_WAIT_EXPIRED (R451). -/
def execMpWaitExpired (s : State) : Host.Outcome State Fault Refusal := .next (settle (opMpWait s))

end Sys2Proof.Machine
end

