-- ==== Sys2Proof/Machine/Training.lean ====
section
/-! DEFINITION. Training (R349–R363) and running calibration (R365–R384): the commands of a channel's sequencer. -/

namespace Sys2Proof.Machine

/-! ### Training -/

/-- A training sweep step ends (R353): between two phases lies a calibration gate (R384). -/
def opTrainStep (s : State) (c : Nat) (r : TrnResult) : State :=
  if s.mode = .reset then s
  else
    let was := (s.ch c).trn
    let s := trainStep s c r
    if (s.ch c).trn == was then s else switchTseq s c

/-! ### Passes -/

/-- The period that a kind runs at is not zero (R365, R386). -/
def calPeriodOn (s : State) (c kind : Nat) : Bool :=
  if kind = 2 ∨ kind = 3 then s.fld Fld.calPeriodRead c != 0
  else if kind = 4 then s.fld Fld.calPeriodOsc c != 0
  else if kind = 5 then s.fld Fld.calPeriodWrite c != 0
  else true

/-- The code of a kind (R365). -/
def calCode : CalKind → Nat
  | .tap => 0 | .zq => 1 | .read => 2 | .gate => 3 | .osc => 4 | .write => 5

/-- A period of kinds 2 to 5 ends and its pass starts (R365); a frequency change pauses calibration. The passes of kinds 0 and 1 have commands of their own
(R324, R331). -/
def opPassStart (s : State) (c kind : Nat) : State :=
  if calRuns s c && (s.ch c).freq == .none && kindRuns s c kind && decide (2 ≤ kind) && calPeriodOn s c kind
      && !(s.ch c).passes.any (fun p => p.kind == kind) then
    startPass s c kind
  else s

/-- The pass of a kind is over. -/
def dropPass (s : State) (c kind : Nat) : State :=
  s.modCh (chan c) (fun q => { q with passes := q.passes.filter (fun p => p.kind != kind) })

/-- A direction of lane settings: transmit for kinds 4 and 5. -/
def calTx (kind : Nat) : Bool := calLine kind == 3

/-- A pass whose results are known is accepted or rejected as a whole (R371, R374, R375). -/
def judgePass (s : State) (c : Nat) (p : CalPass) (res : List CalRes) : State :=
  match res.find? (fun r => calCheckRes s c p r != 0) with
  | none =>
    if p.why ≠ 0 then calReject s c p.kind p.why 0 0 0 0
    else
      let s := calAccept s c p.kind (res.map (fun r => (r.lane, r.rank, r.value)))
      if p.kind = 2 then dfeStep s c else s
  | some r =>
    let why := calCheckRes s c p r
    let s := calReject s c p.kind why r.lane r.rank (calTarget s c p.kind r.lane) r.value
    if why = 3 then laneWeakOnline s c r.lane (calTx p.kind) r.eye else s

/-- A pass of kinds 2 to 5 ends (R371): discarded where the channel has left the states in which calibration runs (R377),
judged otherwise. The moment after it is a calibration gate (R384). -/
def opPassEnd (s : State) (c kind : Nat) (res : List CalRes) : State :=
  match (s.ch c).passes.find? (fun p => p.kind == kind && decide (2 ≤ p.kind)) with
  | none => s
  | some _ =>
    if !calRuns s c then dropPass s c kind
    else
      let s := if vddqOk s c then markSr s c else markPasses (markSr s c) c 6
      let p := ((s.ch c).passes.find? (fun p => p.kind == kind)).getD { kind := kind, check := 0 }
      switchTseq (dropPass (judgePass s c p res) c kind) c

/-! ### Boundaries -/

/-- No column command of a subchannel waits or is on its bus. -/
def subIdle (s : State) (c sub : Nat) : Bool :=
  (s.ch c).queue.all (fun q => q.loc.sub != sub || !q.cmd.column)

/-- An idle of the data bus has lasted (R378): a correction boundary for every subchannel without column commands. -/
def opCalIdle (s : State) (c : Nat) : State :=
  if calRuns s c then
    let s := zqInstall s c
    (List.range (s.subs c)).foldl (fun s sub => if subIdle s c sub then calBoundary s c sub else s) s
  else s

/-- A pending correction of 4 or more units has waited beyond DEFER_MAX (R382). -/
def opCalFallback (s : State) (c : Nat) : State :=
  if calRuns s c && (s.ch c).corr.any (fun x => decide (4 ≤ x.delta.natAbs)) then calFallbackNow s c else s

/-! ### Meanings -/

/-- TRAINING_STEP_BOUNDARY (R353) -/
def execTrainingStepBoundary (ch : ChanId) (r : TrnResult) (s : State) : Host.Outcome State Fault Refusal :=
  .next (settle (opTrainStep s ch.val r))

/-- CAL_PASS_START (R365) -/
def execCalPassStart (ch : ChanId) (kind : CalKind) (s : State) : Host.Outcome State Fault Refusal :=
  .next (settle (opPassStart s ch.val (calCode kind)))

/-- CAL_PASS_END (R371) -/
def execCalPassEnd (ch : ChanId) (kind : CalKind) (res : List CalRes) (s : State) : Host.Outcome State Fault Refusal :=
  .next (settle (opPassEnd s ch.val (calCode kind) res))

/-- CAL_IDLE_BOUNDARY (R378) -/
def execCalIdleBoundary (ch : ChanId) (s : State) : Host.Outcome State Fault Refusal :=
  .next (settle (opCalIdle s ch.val))

/-- CAL_FALLBACK (R382) -/
def execCalFallback (ch : ChanId) (s : State) : Host.Outcome State Fault Refusal :=
  .next (settle (opCalFallback s ch.val))

end Sys2Proof.Machine
end

