-- ==== Sys2Proof/Machine/Dispatch.lean ====
section
/-! DEFINITION. The dispatcher: one arm per command. -/

namespace Sys2Proof.Machine

/-- The effect of a command on everything but the queue. -/
def exec (i : Instr) (s : State) : Host.Outcome State Fault Refusal :=
  match i with
  | .rd p raw => Sys2Proof.Machine.execRd p raw s
  | .wr p raw => Sys2Proof.Machine.execWr p raw s
  | .wrm p raw => Sys2Proof.Machine.execWrm p raw s
  | .zero p raw => Sys2Proof.Machine.execZero p raw s
  | .flush p raw => Sys2Proof.Machine.execFlush p raw s
  | .drop p raw => Sys2Proof.Machine.execDrop p raw s
  | .prefetch p raw => Sys2Proof.Machine.execPrefetch p raw s
  | .barrier p raw => Sys2Proof.Machine.execBarrier p raw s
  | .fetchAdd p raw => Sys2Proof.Machine.execFetchAdd p raw s
  | .swap p raw => Sys2Proof.Machine.execSwap p raw s
  | .cas p raw => Sys2Proof.Machine.execCas p raw s
  | .headerCheckFail p raw => Sys2Proof.Machine.execHeaderCheckFail p raw s
  | .creditOverrun p raw => Sys2Proof.Machine.execCreditOverrun p raw s
  | .payloadLineReceived p data crc => Sys2Proof.Machine.execPayloadLineReceived p data crc s
  | .payloadEndMark p => Sys2Proof.Machine.execPayloadEndMark p s
  | .ingressAdmit => Sys2Proof.Machine.execIngressAdmit s
  | .completionCreditReturn p n => Sys2Proof.Machine.execCompletionCreditReturn p n s
  | .creditAdvertisement p n => Sys2Proof.Machine.execCreditAdvertisement p n s
  | .dramReadReturn ch job line out => Sys2Proof.Machine.execDramReadReturn ch job line out s
  | .frameWriteDone ch job => Sys2Proof.Machine.execFrameWriteDone ch job s
  | .operationOverdue idx => Sys2Proof.Machine.execOperationOverdue idx s
  | .cmdArbGrant ch => Sys2Proof.Machine.execCmdArbGrant ch s
  | .dataBusArbitrate ch sub => Sys2Proof.Machine.execDataBusArbitrate ch sub s
  | .mpArbArbitrate => Sys2Proof.Machine.execMpArbArbitrate s
  | .commandIssue ch sub clocks => Sys2Proof.Machine.execCommandIssue ch sub clocks s
  | .chArbFreeze ch v => Sys2Proof.Machine.execChArbFreeze ch v s
  | .chArbFreezeData ch v => Sys2Proof.Machine.execChArbFreezeData ch v s
  | .mpArbFreeze v => Sys2Proof.Machine.execMpArbFreeze v s
  | .ctxSelWrite w => Sys2Proof.Machine.execCtxSelWrite w s
  | .ctxCaptureDone => Sys2Proof.Machine.execCtxCaptureDone s
  | .ctxCmdWrite => Sys2Proof.Machine.execCtxCmdWrite s
  | .ctxClearCnt => Sys2Proof.Machine.execCtxClearCnt s
  | .throttleTokenRefill ctx => Sys2Proof.Machine.execThrottleTokenRefill ctx s
  | .throttleWindowEnd => Sys2Proof.Machine.execThrottleWindowEnd s
  | .epochBoundary m => Sys2Proof.Machine.execEpochBoundary m s
  | .ldgInspSelWrite w => Sys2Proof.Machine.execLdgInspSelWrite w s
  | .ldgInspCaptureDone => Sys2Proof.Machine.execLdgInspCaptureDone s
  | .tagRead => Sys2Proof.Machine.execTagRead s
  | .tagCaptureDone out => Sys2Proof.Machine.execTagCaptureDone out s
  | .tagRetire => Sys2Proof.Machine.execTagRetire s
  | .wayRetireDrained ch set way => Sys2Proof.Machine.execWayRetireDrained ch set way s
  | .tierLostRelease w => Sys2Proof.Machine.execTierLostRelease w s
  | .tagSweepStep ch => Sys2Proof.Machine.execTagSweepStep ch s
  | .drainWalkStep ch => Sys2Proof.Machine.execDrainWalkStep ch s
  | .fenceWalkStep ch => Sys2Proof.Machine.execFenceWalkStep ch s
  | .cleanerClean => Sys2Proof.Machine.execCleanerClean s
  | .scrubUnitStart ch => Sys2Proof.Machine.execScrubUnitStart ch s
  | .fillData raw lines => Sys2Proof.Machine.execFillData raw lines s
  | .accept raw => Sys2Proof.Machine.execAccept raw s
  | .decline raw => Sys2Proof.Machine.execDecline raw s
  | .defer raw => Sys2Proof.Machine.execDefer raw s
  | .credit raw => Sys2Proof.Machine.execCredit raw s
  | .resyncAck raw => Sys2Proof.Machine.execResyncAck raw s
  | .mpResyncReceived raw => Sys2Proof.Machine.execMpResyncReceived raw s
  | .mpHeaderCheckFail raw => Sys2Proof.Machine.execMpHeaderCheckFail raw s
  | .mpDeferLong slot => Sys2Proof.Machine.execMpDeferLong slot s
  | .mpEnableChange v => Sys2Proof.Machine.execMpEnableChange v s
  | .mpHoldupAnswerLate => Sys2Proof.Machine.execMpHoldupAnswerLate s
  | .holdupReq => Sys2Proof.Machine.execHoldupReq s
  | .refreshInterval ch => Sys2Proof.Machine.execRefreshInterval ch s
  | .refreshIdleCatchup ch rank bank => Sys2Proof.Machine.execRefreshIdleCatchup ch rank bank s
  | .pageIdleTimeout ch sub rank bank => Sys2Proof.Machine.execPageIdleTimeout ch sub rank bank s
  | .tempPoll ch => Sys2Proof.Machine.execTempPoll ch s
  | .chFreqChange ch target => Sys2Proof.Machine.execChFreqChange ch target s
  | .freqChangeIdle ch => Sys2Proof.Machine.execFreqChangeIdle ch s
  | .freqRelockDecision ch => Sys2Proof.Machine.execFreqRelockDecision ch s
  | .freqPhyLocked ch => Sys2Proof.Machine.execFreqPhyLocked ch s
  | .seededCentringDone ch ok => Sys2Proof.Machine.execSeededCentringDone ch ok s
  | .vddqMonitor ch mv => Sys2Proof.Machine.execVddqMonitor ch mv s
  | .vddqWaitExpired ch => Sys2Proof.Machine.execVddqWaitExpired ch s
  | .tapSizeMeasure ch size => Sys2Proof.Machine.execTapSizeMeasure ch size s
  | .zqCalDue ch => Sys2Proof.Machine.execZqCalDue ch s
  | .zqCalDone ch pu pd => Sys2Proof.Machine.execZqCalDone ch pu pd s
  | .alertNParity ch dimm => Sys2Proof.Machine.execAlertNParity ch dimm s
  | .dimmPowerGoodLost ch dimm => Sys2Proof.Machine.execDimmPowerGoodLost ch dimm s
  | .clockLockLost ch => Sys2Proof.Machine.execClockLockLost ch s
  | .sbXfer q w => Sys2Proof.Machine.execSbXfer q w s
  | .sbTransactionDone q data => Sys2Proof.Machine.execSbTransactionDone q data s
  | .sbTransactionTimeout q nack held => Sys2Proof.Machine.execSbTransactionTimeout q nack held s
  | .trainingStepBoundary ch r => Sys2Proof.Machine.execTrainingStepBoundary ch r s
  | .calPassStart ch kind => Sys2Proof.Machine.execCalPassStart ch kind s
  | .calPassEnd ch kind res => Sys2Proof.Machine.execCalPassEnd ch kind res s
  | .calIdleBoundary ch => Sys2Proof.Machine.execCalIdleBoundary ch s
  | .calFallback ch => Sys2Proof.Machine.execCalFallback ch s
  | .refclkLost missing => Sys2Proof.Machine.execRefclkLost missing s
  | .refclkRestored => Sys2Proof.Machine.execRefclkRestored s
  | .awlKeyWrite w => Sys2Proof.Machine.execAwlKeyWrite w s
  | .awlBpRun t => Sys2Proof.Machine.execAwlBpRun t s
  | .stageHangTimeout g => Sys2Proof.Machine.execStageHangTimeout g s
  | .coldResetAssert => Sys2Proof.Machine.execColdResetAssert s
  | .coldResetRelease => Sys2Proof.Machine.execColdResetRelease s
  | .refclkLock => Sys2Proof.Machine.execRefclkLock s
  | .lastReadDone => Sys2Proof.Machine.execLastReadDone s
  | .warmReset => Sys2Proof.Machine.execWarmReset s
  | .warmResetRelease => Sys2Proof.Machine.execWarmResetRelease s
  | .pwrAckRise g => Sys2Proof.Machine.execPwrAckRise g s
  | .pwrAckFall g => Sys2Proof.Machine.execPwrAckFall g s
  | .pwrAckTimeout g => Sys2Proof.Machine.execPwrAckTimeout g s
  | .mpWaitExpired => Sys2Proof.Machine.execMpWaitExpired s
  | .bead frame => Sys2Proof.Machine.execBead frame s
  | .chainRead frame => Sys2Proof.Machine.execChainRead frame s
  | .chainWrite frame => Sys2Proof.Machine.execChainWrite frame s
  | .evqPopFrame frame => Sys2Proof.Machine.execEvqPopFrame frame s
  | .chainSafe frame => Sys2Proof.Machine.execChainSafe frame s
  | .ident frame => Sys2Proof.Machine.execIdent frame s
  | .chainFrameBad frame => Sys2Proof.Machine.execChainFrameBad frame s
  | .enumerateTiedLow => Sys2Proof.Machine.execEnumerateTiedLow s
  | .enumerateTimeout => Sys2Proof.Machine.execEnumerateTimeout s
  | .modeReqPlain => Sys2Proof.Machine.execModeReqPlain s
  | .modeReqTiered => Sys2Proof.Machine.execModeReqTiered s
  | .modeReqDrain => Sys2Proof.Machine.execModeReqDrain s
  | .modeReqBypass => Sys2Proof.Machine.execModeReqBypass s
  | .modeReqTest => Sys2Proof.Machine.execModeReqTest s
  | .chFence ch => Sys2Proof.Machine.execChFence ch s
  | .fenceSlowWarn ch => Sys2Proof.Machine.execFenceSlowWarn ch s
  | .chService ch => Sys2Proof.Machine.execChService ch s
  | .chServicePowerOff ch => Sys2Proof.Machine.execChServicePowerOff ch s
  | .chRetrain ch => Sys2Proof.Machine.execChRetrain ch s
  | .chReturn ch => Sys2Proof.Machine.execChReturn ch s
  | .chRetire ch => Sys2Proof.Machine.execChRetire ch s
  | .chDiscard ch => Sys2Proof.Machine.execChDiscard ch s
  | .retrainWindowEnd ch => Sys2Proof.Machine.execRetrainWindowEnd ch s
  | .chMark ch w => Sys2Proof.Machine.execChMark ch w s
  | .chUnmark ch w => Sys2Proof.Machine.execChUnmark ch w s
  | .chPprSoft ch w => Sys2Proof.Machine.execChPprSoft ch w s
  | .chPprHard ch w => Sys2Proof.Machine.execChPprHard ch w s
  | .endtapRetrainTimer ch => Sys2Proof.Machine.execEndtapRetrainTimer ch s
  | .imgLoadPseq w => Sys2Proof.Machine.execImgLoadPseq w s
  | .imgLoadTseq w => Sys2Proof.Machine.execImgLoadTseq w s
  | .burnSram => Sys2Proof.Machine.execBurnSram s
  | .burnLane => Sys2Proof.Machine.execBurnLane s
  | .faultPairError src named => Sys2Proof.Machine.execFaultPairError src named s
  | .faultPairBroken src => Sys2Proof.Machine.execFaultPairBroken src s
  | .faultPairClear src => Sys2Proof.Machine.execFaultPairClear src s
  | .fltForceWrite n w => Sys2Proof.Machine.execFltForceWrite n w s
  | .fltFatalArm v => Sys2Proof.Machine.execFltFatalArm v s
  | .softwareSafe => Sys2Proof.Machine.execSoftwareSafe s
  | .quietPeriodEnd => Sys2Proof.Machine.execQuietPeriodEnd s
  | .recoverRelockDone ok lost => Sys2Proof.Machine.execRecoverRelockDone ok lost s
  | .bgtRegionStart => Sys2Proof.Machine.execBgtRegionStart s
  | .bgtRegionDrained => Sys2Proof.Machine.execBgtRegionDrained s
  | .bgtDrainTimeout => Sys2Proof.Machine.execBgtDrainTimeout s
  | .bgtSaveDone => Sys2Proof.Machine.execBgtSaveDone s
  | .bgtTestDone r => Sys2Proof.Machine.execBgtTestDone r s
  | .bgtRestoreDone => Sys2Proof.Machine.execBgtRestoreDone s
  | .bgtRedirect => Sys2Proof.Machine.execBgtRedirect s
  | .sramMarchTest w => Sys2Proof.Machine.execSramMarchTest w s
  | .sramMarchDone r => Sys2Proof.Machine.execSramMarchDone r s
  | .sramGroupCopyDone => Sys2Proof.Machine.execSramGroupCopyDone s
  | .lfXferRead w => Sys2Proof.Machine.execLfXferRead w s
  | .lfXferProgram w => Sys2Proof.Machine.execLfXferProgram w s
  | .lfXferErase w => Sys2Proof.Machine.execLfXferErase w s
  | .lfXferOp3 w => Sys2Proof.Machine.execLfXferOp3 w s
  | .flashOpDone ok => Sys2Proof.Machine.execFlashOpDone ok s
  | .flashOpTimeout => Sys2Proof.Machine.execFlashOpTimeout s
  | .lfRescan => Sys2Proof.Machine.execLfRescan s
  | .logUpdateCommit => Sys2Proof.Machine.execLogUpdateCommit s
  | .lifetimeLogTimer => Sys2Proof.Machine.execLifetimeLogTimer s
  | .calSummaryTimer => Sys2Proof.Machine.execCalSummaryTimer s
  | .otpBurn w => Sys2Proof.Machine.execOtpBurn w s
  | .otpBurnDone ok => Sys2Proof.Machine.execOtpBurnDone ok s
  | .regWrite a => Sys2Proof.Machine.execRegWrite a s
  | .regAccessError a => Sys2Proof.Machine.execRegAccessError a s
  | .clrHist w => Sys2Proof.Machine.execClrHist w s
  | .clrCnt w => Sys2Proof.Machine.execClrCnt w s
  | .clearWavefrontEnd => Sys2Proof.Machine.execClearWavefrontEnd s
  | .cfgHoldSet => Sys2Proof.Machine.execCfgHoldSet s
  | .cfgHoldClear => Sys2Proof.Machine.execCfgHoldClear s
  | .beamTake => Sys2Proof.Machine.execBeamTake s
  | .beamTakeClear => Sys2Proof.Machine.execBeamTakeClear s
  | .beamTakeDone => Sys2Proof.Machine.execBeamTakeDone s
  | .eyeletSelect w => Sys2Proof.Machine.execEyeletSelect w s
  | .eyeletClear => Sys2Proof.Machine.execEyeletClear s
  | .eyeletCaptureDone => Sys2Proof.Machine.execEyeletCaptureDone s
  | .evqPop => Sys2Proof.Machine.execEvqPop s
  | .evqFlush => Sys2Proof.Machine.execEvqFlush s
  | .evqPushHandshake => Sys2Proof.Machine.execEvqPushHandshake s
  | .channelBoundaryIdle ch => Sys2Proof.Machine.execChannelBoundaryIdle ch s
  | .safeNetBroken island => Sys2Proof.Machine.execSafeNetBroken island s
  | .otpRecordsRead => Sys2Proof.Machine.execOtpRecordsRead s

end Sys2Proof.Machine
end

