-- ==== Sys2Proof/Safety.lean ====
section
/-! DEFINITION. What the claims are stated in: the canonical form of the machine's tables, the OTP's fuses, what the DRAM
means, the words for frames, and the shared premises. -/

namespace Sys2Proof.Machine

/-- The canonical form of a table of lines: keys strictly rising, no line listed that an unlisted key reads as. -/
def Memory.wf (m : KMap Line) : Bool := kWf (fun _ => 0) m

/-- Every table of the machine that software or a command can reach holds its canonical form: the DRAM lines, the
registers, their pending words, the tags, the contexts, the flash and the OTP. -/
def State.wf (s : State) : Bool :=
  Memory.wf s.dram && kWf resetWord s.regs && kRising s.pend && kWf (fun _ => {}) s.tags && kWf (fun _ => {}) s.ctxs
    && kWf (fun _ => 0xFF) s.flash.bytes && kWf (fun _ => 0) s.flash.otp

/-- Every OTP bit burned in `a` is burned in `b` (R603, R605: a burn sets bits, nothing clears one). -/
def OtpKept (a b : State) : Prop :=
  ∀ k i : Nat, (kGet 0 a.flash.otp k).getLsbD i = true → (kGet 0 b.flash.otp k).getLsbD i = true

/-- Every outstanding request has a number below the next one to be given. -/
def State.numbered (s : State) : Prop := ∀ p : PortId, ∀ r ∈ s.ports[p].reqs, r.rid < s.nextId

/-- Whether a mode reads the DRAM as the tier (R453): PLAIN does not, TIERED, DRAIN and BYPASS do, no other mode says. -/
def Mode.tier? : Mode → Option Bool
  | .plain => some false
  | .tiered | .drain | .bypass => some true
  | .reset | .enumerate | .load | .train | .holdup | .safe | .recover | .test => none

/-- What the DRAM means in the mode in force (R453): TEST keeps the meaning of the mode it was entered from, SAFE and
RECOVER that of the mode they take up again. -/
def State.tier? (s : State) : Option Bool :=
  let of (m : Mode) : Option Bool := if m = .test then s.testFrom.tier? else m.tier?
  match s.modeNow with
  | .safe | .recover => of s.resume
  | m => of m

/-! ### Words for frames -/

/-- `t` is `s` in everything but the register words in force, and of those only the words at `offs` may differ. -/
def OnlyWords (s t : State) (offs : List Nat) : Prop :=
  { t with regs := s.regs } = s ∧ ∀ o, o ∉ offs → t.rd o = s.rd o

/-- The register words at every offset but `offs` read in `t` as in `s`. -/
def WordsKept (s t : State) (offs : List Nat) : Prop := ∀ o, o ∉ offs → t.rd o = s.rd o

/-- Every channel but `c` is in `t` as in `s`. -/
def OtherChannels (s t : State) (c : ChanId) : Prop := ∀ d : ChanId, d ≠ c → t.chs[d] = s.chs[d]

/-- Every port but `p` is in `t` as in `s`. -/
def OtherPorts (s t : State) (p : PortId) : Prop := ∀ q : PortId, q ≠ p → t.ports[q] = s.ports[q]

/-- The stores of data and the directory are in `t` as in `s`: every line of DRAM, every tag entry, the flash's bytes and
the OTP's. -/
def DataKept (s t : State) : Prop :=
  t.dram = s.dram ∧ t.tags = s.tags ∧ t.flash.bytes = s.flash.bytes ∧ t.flash.otp = s.flash.otp

/-! ### Premises -/

/-- The media port looks at messages: outside RESET, neither STOPPED nor disabled (R248, R256). -/
def Heard (s : State) : Prop :=
  s.mode ≠ .reset ∧ s.media.st ≠ .stopped ∧ (s.flag Fld.mpCtlEnable = true ∨ s.mode = .holdup)

/-! ### Rows of one shape -/

/-- The eleven request rows. -/
def requestRows : List (PortId → BitVec 256 → Instr) :=
  [.rd, .wr, .wrm, .zero, .flush, .drop, .prefetch, .barrier, .fetchAdd, .swap, .cas]

/-- The six frame rows of the bead chain. -/
def frameRows : List (List (BitVec 8) → Instr) := [.bead, .chainRead, .chainWrite, .evqPopFrame, .chainSafe, .ident]

/-- The state at a packet boundary of a port: the packet before it has ended, buffered values apply and the port's state
follows (R51, R56, R705). -/
def packetStart (s : State) (p : PortId) : State := endPacket (portEdge (endPacket s p) p) p

/-- A completion with LAST for a request of this tag and context has been sent since `s`, or waits for completion
credits. -/
def Completed (s t : State) (p : PortId) (tag : BitVec 16) (ctx : Nat) (opcode : BitVec 8) (status : Nat) : Prop :=
  ∃ c : Completion, c.last = true ∧ c.tag = tag ∧ c.ctx = ctx ∧ c.opcode = opcode ∧ c.status = status
    ∧ (c ∈ t.ports[p].txq ∨ Out.completion p c ∈ t.out.drop s.out.length)

/-- The port is open with full pools, or closed with none: what a resynchronisation leaves of its credits (R55). -/
def Resynced (t : State) (p : PortId) : Prop :=
  (t.ports[p].st = .opened ∧ t.ports[p].hFab = 2048 ∧ t.ports[p].hPort = 0 ∧ mayOpen t p = true)
    ∨ (t.ports[p].st = .closed ∧ t.ports[p].hFab = 0 ∧ t.ports[p].dFab = 0 ∧ t.ports[p].hPort = 0)

end Sys2Proof.Machine
end

