-- ==== Sys2Proof/WellFormed.lean ====
section
/-! DEFINITION. What a command must look like to be one that its row of the table describes: the opcode its packet, message
or frame carries, the numbers it names, the code in its command word. The meanings are total and do not ask for it: they act
on what is received, as the hardware does. -/

namespace Sys2Proof

/-- The OPCODE byte of a request packet's or media message's header (R16, R213). -/
def headerOp (raw : BitVec 256) : Nat := (raw.extractLsb' 0 8).toNat

/-- A request row's header carries the row's opcode, or one that R26 does not list (a malformed packet belongs to no row). -/
def requestWf (op : Nat) (raw : BitVec 256) : Bool :=
  headerOp raw == op || decide (headerOp raw = 0 ∨ 11 < headerOp raw)

/-- A frame of the bead chain has its three header bytes, the LEN bytes they name and a check byte, and the row's CMD, or
one that R437 does not list (R435, R437). -/
def frameWf (cmd : Nat) (f : List (BitVec 8)) : Bool :=
  decide (4 ≤ f.length) && f.length == (f.getD 2 0).toNat + 4
    && (f.getD 1 0 == BitVec.ofNat 8 cmd || decide ((f.getD 1 0).toNat = 0 ∨ 6 < (f.getD 1 0).toNat))

/-- An access of the window has one of the four sizes of R623, and its data fit in that size. -/
def Access.wf (a : Access) : Bool :=
  (a.size == 1 || a.size == 2 || a.size == 4 || a.size == 8) && decide (a.data.toNat < 2 ^ (8 * a.size))

/-- Lane and value ranges of a calibration measurement (R371): a lane of one channel, a rank of one channel. -/
def CalRes.wf (r : CalRes) : Bool := decide (r.lane < 256) && decide (r.rank < 4)

/-- The command is one its row describes. -/
def Instr.wf : Instr → Bool
  | .rd _ raw => requestWf 0x01 raw
  | .wr _ raw => requestWf 0x02 raw
  | .wrm _ raw => requestWf 0x03 raw
  | .zero _ raw => requestWf 0x04 raw
  | .flush _ raw => requestWf 0x05 raw
  | .drop _ raw => requestWf 0x06 raw
  | .prefetch _ raw => requestWf 0x07 raw
  | .barrier _ raw => requestWf 0x08 raw
  | .fetchAdd _ raw => requestWf 0x09 raw
  | .swap _ raw => requestWf 0x0A raw
  | .cas _ raw => requestWf 0x0B raw
  | .fillData raw lines => headerOp raw == 0x81 && decide (lines.length ≤ 64)
  | .accept raw => headerOp raw == 0x82
  | .decline raw => headerOp raw == 0x83
  | .defer raw => headerOp raw == 0x84
  | .credit raw => headerOp raw == 0x85
  | .resyncAck raw => headerOp raw == 0x8E
  | .mpResyncReceived raw => headerOp raw == 0x0E
  | .bead f => frameWf 0x01 f
  | .chainRead f => frameWf 0x02 f
  | .chainWrite f => frameWf 0x03 f
  | .evqPopFrame f => frameWf 0x04 f
  | .chainSafe f => frameWf 0x05 f
  | .ident f => frameWf 0x06 f
  | .completionCreditReturn _ n => decide (0 < n)
  | .commandIssue _ _ clocks => decide (0 < clocks)
  | .operationOverdue idx => decide (idx < 131072)
  | .wayRetireDrained _ set _ => decide (set < 2 ^ 24)
  | .mpDeferLong slot => decide (slot < 1024)
  | .calPassEnd _ _ res => res.all CalRes.wf
  | .recoverRelockDone _ lost => lost.all (fun i => decide (i < 131072))
  | .regWrite a => a.wf
  | .regAccessError a => a.wf
  | _ => true

end Sys2Proof
end

