-- ==== Sys2Proof/Certificates/Slice0/Obligations.lean ====
section
/-! DEFINITION. The statements about the machine. A command's statement says what the command itself does, as the state `t`
in the answer `.next (settle t)`: `settle` then takes the turns that follow by themselves (notes/assumptions/2.md). -/

open Sys2Proof Sys2Proof.Machine

/-! ### The machine as a whole -/

/-- A step runs the command at the front of the queue on the state with the rest of the queue. -/
def Obligations.StepRunsFrontCommand : Prop :=
  ∀ (c : Instr) (rest : List Instr) (s : State), s.pending = c :: rest → step s = exec c { s with pending := rest }

/-- On an empty queue the block idles (the model's choice, notes/assumptions/1.md): nothing changes but the time base, by
one tick at most, and the uptime behind it; and where the clock runs and the tick is no epoch boundary, the tick comes. -/
def Obligations.EmptyQueueIdles : Prop :=
  ∀ s : State, s.pending = [] → ∃ t, step s = .next t
    ∧ { t with timeBase := s.timeBase, tickFrac := s.tickFrac, uptime := s.uptime } = s
    ∧ (t.timeBase = s.timeBase ∨ t.timeBase = s.timeBase + 1)
    ∧ (clockRuns s = true → s.timeBase.toNat % 1024 ≠ 1023 → t.timeBase = s.timeBase + 1)

/-- Every command completes: none ends in a fault or a refusal, and the answer is what follows from some state. -/
def Obligations.EveryCommandCompletes : Prop :=
  ∀ (c : Instr) (s : State), ∃ t, exec c s = .next (settle t)

/-! ### Request packets -/

/-- A request packet with a passing header check, a header credit, a free tag and no failing check of R31 becomes an
outstanding request of its port: its fields are the header's, its class the one that governs, its deadline the arrival
tick plus its effective budget while the Awl is locked. It spends one header credit; nothing but the port and the
numbering of requests changes. -/
def Obligations.RequestBecomesOutstanding : Prop :=
  ∀ mk ∈ requestRows, ∀ (p : PortId) (raw : BitVec 256) (s : State),
    let u := packetStart s p
    let h := Header.parse raw
    s.mode ≠ .reset → u.mode ≠ .safe → u.modeNow ≠ .recover → hcrcOk raw = true → u.ports[p].hFab ≠ 0 →
    (∀ r ∈ u.ports[p].reqs, r.tag ≠ h.tag) → h.malformed = false → admissionCheck u h = none →
    ∃ t r, exec (mk p raw) s = .next (settle t)
      ∧ t.ports[p].reqs = u.ports[p].reqs ++ [r]
      ∧ r.opcode = h.opcode ∧ r.tag = h.tag ∧ r.ctx = h.context.toNat ∧ r.len = h.length.toNat ∧ r.addr = h.address
      ∧ r.operand = h.operand ∧ r.cls = govClass u h ∧ r.arrival = u.timeBase ∧ r.admitted = false ∧ r.finished = false
      ∧ (u.awlOpen = false → r.deadline
          = u.timeBase + BitVec.ofNat 24 (effBudget (baseBudget u h) (u.throttleOf h.context.toNat)))
      ∧ t.ports[p].hFab = u.ports[p].hFab - 1 ∧ t.ports[p].hPort = u.ports[p].hPort + 1
      ∧ OtherPorts u t p ∧ { t with ports := u.ports, nextId := u.nextId } = u

/-- A request packet that is malformed, or meets a failing check of R31, completes ERR with the status of that check, and
takes no entry of the ledger. A request whose tag is outstanding on its port is discarded: the requests of the port stay
as they are, WP_CNT_TAG_REUSE counts it, and nothing completes. -/
def Obligations.RequestTurnedAway : Prop :=
  (∀ mk ∈ requestRows, ∀ (p : PortId) (raw : BitVec 256) (s : State) (st : Nat),
      let u := packetStart s p
      let h := Header.parse raw
      s.mode ≠ .reset → hcrcOk raw = true → u.ports[p].hFab ≠ 0 → (∀ r ∈ u.ports[p].reqs, r.tag ≠ h.tag) →
      (u.mode ≠ .safe ∧ u.modeNow ≠ .recover ∧ (h.malformed = true ∧ st = Status.aborted
          ∨ h.malformed = false ∧ admissionCheck u h = some st)) →
      u.numbered →
      ∃ t, exec (mk p raw) s = .next (settle t) ∧ Completed u t p h.tag h.context.toNat Op.err st
        ∧ (∀ e ∈ t.ledger, e ∈ u.ledger) ∧ t.dram = u.dram ∧ t.tags = u.tags ∧ OtherPorts u t p)
  ∧ (∀ mk ∈ requestRows, ∀ (p : PortId) (raw : BitVec 256) (s : State),
      let u := packetStart s p
      let h := Header.parse raw
      s.mode ≠ .reset → hcrcOk raw = true → u.ports[p].hFab ≠ 0 → (∃ r ∈ u.ports[p].reqs, r.tag = h.tag) →
      kRising u.regs = true →
      ∃ t, exec (mk p raw) s = .next (settle t) ∧ t.ports[p].reqs = u.ports[p].reqs ∧ t.out = u.out
        ∧ t.ports[p].txq = u.ports[p].txq
        ∧ t.rd (Reg.wpCntTagReuse.at p.val) = satAdd32 (u.rd (Reg.wpCntTagReuse.at p.val)) 1
        ∧ t.ledger = u.ledger ∧ OtherPorts u t p)

/-- A header whose check fails, and a packet without credit, resynchronise the port outside RESET, SAFE and RECOVER: its
header and data-line books are full again and it is open, or it is closed; no packet is in progress on it. -/
def Obligations.PortResynchronises : Prop :=
  ∀ (p : PortId) (raw : BitVec 256) (s : State), s.mode ≠ .reset → s.mode ≠ .safe → s.modeNow ≠ .recover →
    (∃ t, exec (.headerCheckFail p raw) s = .next (settle t) ∧ Resynced t p ∧ t.ports[p].rx = none)
    ∧ (∃ t, exec (.creditOverrun p raw) s = .next (settle t) ∧ Resynced t p ∧ t.ports[p].rx = none)

/-- A payload line of a packet in progress spends one data-line credit and takes one staging line; it joins its packet's
count of lines, and the other ports stay as they are. After an end mark no packet is in progress on its port. -/
def Obligations.PayloadLinesAndEndMarks : Prop :=
  (∀ (p : PortId) (data : Line) (crc : BitVec 32) (s : State) (x : Rx), s.mode ≠ .reset → s.ports[p].rx = some x →
      s.ports[p].dFab ≠ 0 →
      ∃ t, exec (.payloadLineReceived p data crc) s = .next (settle t)
        ∧ t.ports[p].dFab = s.ports[p].dFab - 1 ∧ t.ports[p].staged = s.ports[p].staged + 1
        ∧ (t.ports[p].rx.map (fun y => y.lines)) = some (x.lines + 1)
        ∧ OtherPorts s t p ∧ t.dram = s.dram ∧ t.tags = s.tags ∧ t.media = s.media)
  ∧ (∀ (p : PortId) (s : State), s.mode ≠ .reset →
      ∃ t, exec (.payloadEndMark p) s = .next (settle t) ∧ t.ports[p].rx = none)

/-- Completion credits: a return adds to those on hand and takes from those outstanding where no completion waits for them;
an advertisement of 65 or more to a CLOSED port is recorded, and opens the port where its enable and the mode let it;
one of fewer leaves the port's books as they are and sets WP_HIST.CREDIT. -/
def Obligations.CompletionCredits : Prop :=
  (∀ (p : PortId) (n : Nat) (s : State), s.mode ≠ .reset → s.ports[p].adv.isSome = true → s.ports[p].txq = [] →
    ∃ t, exec (.completionCreditReturn p n) s = .next (settle t)
      ∧ t.ports[p] = { s.ports[p] with cAvail := s.ports[p].cAvail + n, cOut := s.ports[p].cOut - n }
      ∧ OtherPorts s t p ∧ { t with ports := s.ports } = s)
  ∧ (∀ (p : PortId) (n : Nat) (s : State), s.mode ≠ .reset → s.ports[p].st = .closed → 65 ≤ n →
    ∃ t, exec (.creditAdvertisement p n) s = .next (settle t)
      ∧ t.ports[p].adv = some n ∧ t.ports[p].cAvail = n ∧ t.ports[p].cOut = 0
      ∧ (t.ports[p].st = .opened ↔ (s.flag Fld.wpCtlEnable p.val = true ∧ s.modeNow.serves = true))
      ∧ OtherPorts s t p)
  ∧ (∀ (p : PortId) (n : Nat) (s : State), s.mode ≠ .reset → s.ports[p].st = .closed → n < 65 →
      kRising s.regs = true →
    ∃ t, exec (.creditAdvertisement p n) s = .next (settle t) ∧ t.ports = s.ports
      ∧ t.flag Fld.wpHistCredit p.val = true ∧ WordsKept s t [Fld.wpHistCredit.reg.at p.val])

/-! ### The ledger -/

/-- The ingress stage admits the head it has chosen when the free host entries suffice: one entry for each line, behind
every entry there is (for a read, a FLUSH or a PREFETCH, which cancel nothing), and the head is admitted. With too few
free entries the head is held, and nothing enters the ledger. Without a head nothing changes. -/
def Obligations.IngressAdmitsHead : Prop :=
  (∀ (p : PortId) (r : Req) (s : State), (s.mode = .tiered ∨ s.mode = .drain ∨ s.mode = .bypass) →
      nextHead s = some (p, r) → uncleanStop s r = false → uncleanPrefetch s r = false → r.entries ≤ hostFree s →
      (kindOf r.opcode = .rd ∨ kindOf r.opcode = .flush ∨ kindOf r.opcode = .prefetch) →
    ∃ t es, exec .ingressAdmit s = .next (settle t) ∧ t.ledger = s.ledger ++ es ∧ es.length = r.entries
      ∧ (∀ e ∈ es, e.rid = some r.rid ∧ e.ctx = r.ctx ∧ e.deadline = r.deadline ∧ e.pool = .host)
      ∧ (∀ x ∈ t.ports[p].reqs, x.rid = r.rid → x.admitted = true)
      ∧ t.dram = s.dram ∧ t.tags = s.tags ∧ OtherPorts s t p)
  ∧ (∀ (p : PortId) (r : Req) (s : State), (s.mode = .tiered ∨ s.mode = .drain ∨ s.mode = .bypass) →
      nextHead s = some (p, r) → uncleanStop s r = false → uncleanPrefetch s r = false → hostFree s < r.entries →
    ∃ t, exec .ingressAdmit s = .next (settle t) ∧ t.ledger = s.ledger ∧ t.ports[p].headHeld = true ∧ OtherPorts s t p)
  ∧ (∀ s : State, nextHead s = none → exec .ingressAdmit s = .next (settle s))

/-- An operation whose deadline the time base has passed by 2^22 ticks becomes overdue, and no other entry changes. The
inspection window: a write of LDG_INSP_SEL shows the selected entry's four words, and the capture's end sets VALID; the
ledger itself stays as it is. -/
def Obligations.LedgerEntryWatched : Prop :=
  (∀ (idx : Nat) (s : State) (e : LEntry), entry? s idx = some e → e.overdue = false →
      2 ^ 22 ≤ (s.timeBase - e.deadline).toNat → (s.timeBase - e.deadline).toNat ≤ 2 ^ 23 →
      ∃ t, exec (.operationOverdue idx) s = .next (settle t)
        ∧ t.ledger = s.ledger.map (fun x => if x.idx = idx then { x with overdue := true } else x)
        ∧ t.ports = s.ports ∧ DataKept s t)
  ∧ ((∀ (w : Word) (s : State) (e : LEntry), s.mode ≠ .reset → kRising s.regs = true → entry? s (w.toNat % 2 ^ 17) = some e →
      ∃ t, exec (.ldgInspSelWrite w) s = .next (settle t)
        ∧ (∀ i : Fin 4, t.rd (Reg.ldgInspData.at i.val) = dw ((inspWords
            ((s.setFld Fld.ldgInspSelEntry (w.toNat % 2 ^ 17)).setFlag Fld.ldgInspStatusValid false) e).getD i.val 0))
        ∧ { t with regs := s.regs } = s)
    ∧ (∀ s : State, s.mode ≠ .reset → kRising s.regs = true →
      ∃ t, exec .ldgInspCaptureDone s = .next (settle t) ∧ t.flag Fld.ldgInspStatusValid = true
        ∧ OnlyWords s t [Fld.ldgInspStatusValid.reg.at]))

/-! ### Arbiters and issue -/

/-- What the arbiters decide moves no data: a decision of a channel's command arbiter or data-bus arbiter leaves the ledger,
the frames, the tags, the media port, the ports and every other channel as they are. A frozen data-bus arbiter decides
nothing. The media-port arbiter of a frozen or stopped port grants nothing on an idle path; where it grants, the
transfer begins at its first line. -/
def Obligations.ArbitersDecide : Prop :=
  ((∀ (c : ChanId) (s : State), ∃ t, exec (.cmdArbGrant c) s = .next (settle t)
        ∧ t.ledger = s.ledger ∧ t.media = s.media ∧ t.ports = s.ports ∧ DataKept s t ∧ OtherChannels s t c)
    ∧ (∀ (c : ChanId) (sub : Fin 2) (s : State), ∃ t, exec (.dataBusArbitrate c sub) s = .next (settle t)
        ∧ t.ledger = s.ledger ∧ t.media = s.media ∧ t.ports = s.ports ∧ DataKept s t ∧ OtherChannels s t c
        ∧ (dataFrozen s c = true → t = s)))
  ∧ (∀ s : State, s.media.xfer = none →
      (s.media.st ≠ .up ∨ s.flag Fld.mpArbCtlFreeze = true → exec .mpArbArbitrate s = .next (settle s))
      ∧ (∀ x, s.media.st = .up → s.flag Fld.mpArbCtlFreeze = false → mediaBest s = some x →
          ∃ t, exec .mpArbArbitrate s = .next (settle t) ∧ t.media.xfer = some (x, 0)
            ∧ { t with media := s.media } = s ∧ { t.media with xfer := s.media.xfer, ptr := s.media.ptr } = s.media))

/-- The three freezes set and clear their bits outside RESET; freezing a data-bus arbiter withdraws the grants it has
decided. -/
def Obligations.FreezeBits : Prop :=
  (∀ (c : ChanId) (v : Bool) (s : State), s.mode ≠ .reset → kRising s.regs = true →
    ∃ t, exec (.chArbFreeze c v) s = .next (settle t) ∧ t.flag Fld.chArbCtlFreeze c.val = v
      ∧ OnlyWords s t [Fld.chArbCtlFreeze.reg.at c.val])
  ∧ (∀ (c : ChanId) (v : Bool) (s : State), s.mode ≠ .reset → kRising s.regs = true →
    ∃ t, exec (.chArbFreezeData c v) s = .next (settle t) ∧ t.flag Fld.chArbCtlFreezeData c.val = v
      ∧ (v = true → t.chs[c].busNext = []) ∧ (v = false → t.chs = s.chs)
      ∧ OtherChannels s t c ∧ { t with regs := s.regs, chs := s.chs } = s)
  ∧ (∀ (v : Bool) (s : State), s.mode ≠ .reset → kRising s.regs = true →
    ∃ t, exec (.mpArbFreeze v) s = .next (settle t) ∧ t.flag Fld.mpArbCtlFreeze = v
      ∧ OnlyWords s t [Fld.mpArbCtlFreeze.reg.at])

/-- The command that an issue queue may issue is one of its own subchannel, every rod that governs it reads zero, and no
older command of its bank waits before it. At an issue the island's clocks pass, and at most one command leaves the
channel's queue; no data moves and no entry of the ledger changes. -/
def Obligations.CommandIssues : Prop :=
  (∀ (s : State) (c sub : Nat) (q : List QCmd) (x : QCmd), issuable s c sub [] q = some x →
      x.loc.sub = sub ∧ released s c x.cmd x.loc = true
        ∧ ∃ a b, q = a ++ x :: b ∧ ∀ y ∈ a, bankKey y.loc ≠ bankKey x.loc)
  ∧ (∀ (c : ChanId) (sub : Fin 2) (clocks : Nat) (s : State),
      ∃ t, exec (.commandIssue c sub clocks) s = .next (settle t) ∧ t.chs[c].clk = s.chs[c].clk + clocks
        ∧ (t.chs[c].queue.length = s.chs[c].queue.length ∨ t.chs[c].queue.length + 1 = s.chs[c].queue.length)
        ∧ DataKept s t ∧ t.ledger = s.ledger ∧ t.ports = s.ports ∧ t.media = s.media ∧ OtherChannels s t c)

/-! ### Contexts and throttle -/

/-- The context window outside RESET: a write of CTX_SEL shows the selected context's entry and takes its counters in eyelet
mode; a capture's end sets CAPTURED; CTX_CMD.WRITE makes the window's words the pending copy of the selected context,
and changes no entry where context 0 is selected; CTX_CMD.CLEAR_CNT zeroes the eight counters of the selected context.
No other context changes. -/
def Obligations.ContextWindow : Prop :=
  ∀ s : State, s.mode ≠ .reset → s.wf = true →
    (∀ w : Word, let n := w.toNat % 4096
      ∃ t, exec (.ctxSelWrite w) s = .next (settle t) ∧ t.fld Fld.ctxSelContext = n
        ∧ t.rd Reg.ctxCfg.at = (s.ctx n).cfg ∧ t.rd Reg.ctxBudget.at = (s.ctx n).budget
        ∧ t.rd Reg.ctxThr.at = dw (s.ctx n).step ∧ t.flag Fld.ctxStatusCaptured = !eyeletMode s
        ∧ t.ctxWin = { thrWritten := false, captured := if eyeletMode s then (s.ctx n).counters else [] }
        ∧ { t with regs := s.regs, ctxWin := s.ctxWin } = s
        ∧ WordsKept s t [Reg.ctxSel.at, Reg.ctxCfg.at, Reg.ctxBudget.at, Reg.ctxThr.at, Reg.ctxStatus.at])
    ∧ (eyeletMode s = true → s.ctxWin.captured ≠ [] →
      ∃ t, exec .ctxCaptureDone s = .next (settle t) ∧ t.flag Fld.ctxStatusCaptured = true
        ∧ OnlyWords s t [Reg.ctxStatus.at])
    ∧ (selCtx s ≠ 0 → ∃ t, exec .ctxCmdWrite s = .next (settle t)
        ∧ t.ctx (selCtx s) = { s.ctx (selCtx s) with pend := some (s.rd Reg.ctxCfg.at, s.rd Reg.ctxBudget.at,
            if s.ctxWin.thrWritten then some (s.fld Fld.ctxThrStep) else none) }
        ∧ (∀ m, m ≠ selCtx s → t.ctx m = s.ctx m) ∧ { t with ctxs := s.ctxs } = s)
    ∧ (selCtx s = 0 → ∃ t, exec .ctxCmdWrite s = .next (settle t) ∧ t.ctxs = s.ctxs
        ∧ { t with regs := s.regs, evq := s.evq } = s
        ∧ t.rd Reg.regCntReject.at = satAdd32 (s.rd Reg.regCntReject.at) 1 ∧ WordsKept s t [Reg.regCntReject.at])
    ∧ (∃ t, exec .ctxClearCnt s = .next (settle t) ∧ t.ctx (selCtx s) = clearCtx (s.ctx (selCtx s))
        ∧ (∀ m, m ≠ selCtx s → t.ctx m = s.ctx m) ∧ { t with ctxs := s.ctxs } = s)

/-- The throttle outside RESET: a token interval of a throttled context other than 0 adds a token up to DEPTH; at a window's
end the step of every context that no alert named falls by one. -/
def Obligations.ThrottleBuckets : Prop :=
  ∀ s : State, s.mode ≠ .reset → s.wf = true →
    (∀ n : BitVec 12, n ≠ 0 → (s.ctx n.toNat).step ≠ 0 →
      ∃ t, exec (.throttleTokenRefill n) s = .next (settle t)
        ∧ ((s.ctx n.toNat).tokens ≤ s.fld Fld.thrCtlDepth →
            (t.ctx n.toNat).tokens = min ((s.ctx n.toNat).tokens + 1) (s.fld Fld.thrCtlDepth))
        ∧ (t.ctx n.toNat).step = (s.ctx n.toNat).step
        ∧ (∀ m, m ≠ n.toNat → t.ctx m = s.ctx m) ∧ { t with ctxs := s.ctxs } = s)
    ∧ (∃ t, exec .throttleWindowEnd s = .next (settle t) ∧ { t with ctxs := s.ctxs } = s
        ∧ ∀ n, (t.ctx n).step = (if (s.ctx n).named then (s.ctx n).step else (s.ctx n).step - 1)
            ∧ (t.ctx n).named = false ∧ (t.ctx n).cfg = (s.ctx n).cfg ∧ (t.ctx n).pend = (s.ctx n).pend
            ∧ (t.ctx n).counters = (s.ctx n).counters)

/-! ### Time -/

/-- At an epoch boundary the time base stands at the next multiple of 1,024 ticks and the count of epochs is one more. In
RESET that is all that the boundary does. REFCLK: its loss outside a holdover puts the block into holdover, with its
history bit and its count; after its return the holdover ends. The Awl's key: 0x5A3C and then 0xC3A5 unlock it, any
other word locks it, and its pending words are dropped. A run of back-pressure slots advances the LFSR of its target
alone. -/
def Obligations.TimeClockAndAwl : Prop :=
  (∀ (m : EpochMeas) (s : State), clockRuns s = true →
      ∃ t, exec (.epochBoundary m) s = .next (settle t) ∧ t.timeBase.toNat % 1024 = 0
        ∧ t.timeBase = s.timeBase + BitVec.ofNat 24 (1024 - s.timeBase.toNat % 1024) ∧ t.epoch = s.epoch + 1
        ∧ (s.mode = .reset → { t with timeBase := s.timeBase, tickFrac := s.tickFrac, uptime := s.uptime, epoch := s.epoch } = s))
  ∧ ((∀ (b : Bool) (s : State), s.wf = true → clockRuns s = true → s.flag Fld.refclkStatusHoldover = false →
      ∃ t, exec (.refclkLost b) s = .next (settle t) ∧ t.flag Fld.refclkStatusHoldover = true
        ∧ t.flag Fld.refclkStatusPresent = false ∧ t.flag Fld.refclkStatusLost = true
        ∧ t.rd Reg.tbCntRefclk.at = satAdd32 (s.rd Reg.tbCntRefclk.at) 1
        ∧ WordsKept s t [Reg.refclkStatus.at, Reg.tbCntRefclk.at]
        ∧ { t with regs := s.regs, evq := s.evq, flt := s.flt } = s)
    ∧ (∀ s : State, s.wf = true → s.flag Fld.refclkStatusHoldover = true →
      ∃ t, exec .refclkRestored s = .next (settle t) ∧ t.flag Fld.refclkStatusHoldover = false
        ∧ t.flag Fld.refclkStatusPresent = true ∧ DataKept s t ∧ t.ledger = s.ledger ∧ t.ports = s.ports)
    ∧ (∀ (w : Word) (s : State), s.wf = true → s.mode ≠ .reset →
      ∃ t, exec (.awlKeyWrite w) s = .next (settle t)
        ∧ (Fld.awlKeyKey.of w = 0x5A3C → t = { s with awlStep := 1 })
        ∧ (Fld.awlKeyKey.of w = 0xC3A5 ∧ s.awlStep = 1 → t.awlOpen = true ∧ t.awlStep = 0 ∧ t.pend = s.pend)
        ∧ (Fld.awlKeyKey.of w ≠ 0x5A3C ∧ (Fld.awlKeyKey.of w ≠ 0xC3A5 ∨ s.awlStep ≠ 1) →
            t.awlOpen = false ∧ t.awlStep = 0 ∧ ∀ e ∈ t.pend, e ∈ s.pend ∧ ¬(0x30000 ≤ e.1 ∧ e.1 < 0x31000))
        ∧ WordsKept s t [Reg.awlStatus.at] ∧ DataKept s t ∧ t.ledger = s.ledger ∧ t.ports = s.ports)
    ∧ (∀ (b : Fin 9) (s : State), ∃ t, exec (.awlBpRun b) s = .next (settle t) ∧ t.awlLfsr[b] = lfsr16 s.awlLfsr[b]
        ∧ (∀ o : Fin 9, o ≠ b → t.awlLfsr[o] = s.awlLfsr[o]) ∧ { t with awlLfsr := s.awlLfsr } = s))

/-! ### The register path -/

/-- A register access outside RESET. A read in order answers the register's bytes and changes nothing. A write of a buffered
register of the tier group becomes pending and changes no word in force. An access in error changes no register but its
count, and answers an error. -/
def Obligations.RegisterAccesses : Prop :=
  (∀ (a : Access) (s : State), s.mode ≠ .reset → a.write = false → a.size ∈ [1, 2, 4] →
      accessReason s a.off a.size false a.parityBad = none →
    exec (.regWrite a) s = .next (settle (s.drive (.answer a.chain (((if inMirror a.off
        then beamWord s (a.off / 4 * 4 - 0x80000) else readReg s (a.off / 4 * 4))
          &&& (if 4 ≤ a.size then BitVec.allOnes 32 else laneMask a.off a.size)).setWidth 64) false))))
  ∧ (∀ (r : RegDef) (a : Access) (s : State), r ∈ [Reg.tierCtl, Reg.fillGran, Reg.tierHashSeedLo, Reg.tierHashSeedHi,
        Reg.tierLfsrSeed, Reg.dirtyBudget, Reg.dirtyCtl] → s.mode ≠ .reset → a.off = r.at → a.size = 4 → a.write = true →
        a.parityBad = false →
    ∃ t, exec (.regWrite a) s = .next (settle t)
      ∧ kFind t.pend r.at = some (a.data.setWidth 32 &&& (r.rb ||| r.ra))
      ∧ (∀ o, o ≠ r.at → kFind t.pend o = kFind s.pend o)
      ∧ { t with pend := s.pend, out := s.out } = s ∧ t.out = s.out ++ [.answer a.chain 0 false])
  ∧ (∀ (a : Access) (s : State) (why : Nat), s.mode ≠ .reset → s.wf = true → a.size ∈ [1, 2, 4] →
      accessReason s a.off a.size a.write a.parityBad = some why →
    ∃ t, exec (.regAccessError a) s = .next (settle t) ∧ t.out = s.out ++ [.answer a.chain 0 true]
      ∧ t.rd Reg.regCntAccess.at = satAdd32 (s.rd Reg.regCntAccess.at) 1 ∧ WordsKept s t [Reg.regCntAccess.at]
      ∧ { t with regs := s.regs, out := s.out, evq := s.evq, flt := s.flt } = s)

/-- Clears outside RESET. With no clear running a clear command runs at once: it clears the RC bits (CNT) or the RH bits
(HIST) of every register of its scope, but for the CLR_CMD word and the fault history, and no other bit. While one runs
it waits behind it. The end of a clear that nothing waits for ends it. -/
def Obligations.ClearsRunInOrder : Prop :=
  (∀ (cnt : Bool) (w : Word) (s : State), s.mode ≠ .reset → s.wf = true →
    let v : Word := if cnt then Fld.clrCmdCnt.into 1 w else Fld.clrCmdHist.into 1 w
    ∃ t, exec (if cnt then .clrCnt w else .clrHist w) s = .next (settle t)
      ∧ (s.clears = [] → t.clears = [v &&& 0x7FF] ∧
          ∀ o, o ≠ Reg.clrCmd.at → (∀ i : Fin 3, o ≠ Reg.fltHist.at i.val) →
            t.rd o = if Fld.clrCmdAll.of v = 1 ∨ o / 4096 = Fld.clrCmdGroup.of v
              then s.rd o &&& ~~~clearMask o (Fld.clrCmdCnt.of v == 1) (Fld.clrCmdHist.of v == 1) else s.rd o)
      ∧ (s.clears ≠ [] → t.clears = s.clears ++ [v &&& 0x7FF] ∧ WordsKept s t [Reg.clrCmd.at] ∧ t.ctxs = s.ctxs)
      ∧ DataKept s t ∧ t.ledger = s.ledger ∧ t.ports = s.ports ∧ t.evq = s.evq)
  ∧ (∀ (w : Word) (s : State), s.clears = [w] → exec .clearWavefrontEnd s = .next (settle { s with clears := [] }))
  ∧ (∀ (w v : Word) (l : List Word) (s : State), s.clears = w :: v :: l → isTakeMark v = false →
      ∃ t, exec .clearWavefrontEnd s = .next (settle t) ∧ t.clears = v :: l ∧ DataKept s t ∧ t.ledger = s.ledger)

/-- CFG_HOLD outside RESET: it is set at once; once it is cleared, what it held waits for the next epoch boundary. No other
word changes, and a clear without a hold changes nothing. A buffered value at its boundary: a value that its register's
own rule takes replaces the buffered bits of the word in force; a value that it does not take changes no word but the
count of rejected values. Either way it is no longer pending. (Registers whose application does more are left to their
own rules.) A channel idle long enough applies every pending value of its registers, or rejects it, and no other: none
is left but TRN_CTL and PHY_ZQ, which have boundaries of their own. -/
def Obligations.BufferedValues : Prop :=
  (∀ s : State, s.mode ≠ .reset → s.wf = true →
      (∃ t, exec .cfgHoldSet s = .next (settle t) ∧ t.holding = true ∧ t.pend = s.pend ∧ OnlyWords s t [Reg.cfgHold.at])
      ∧ (s.holding = true → ∃ t, exec .cfgHoldClear s = .next (settle t) ∧ t.holding = false ∧ t.holdRelease = true
          ∧ t.pend = s.pend ∧ OnlyWords { s with holdRelease := true } t [Reg.cfgHold.at])
      ∧ (s.holding = false → exec .cfgHoldClear s = .next (settle s)))
  ∧ (∀ (s : State) (off : Nat) (w : Word), s.wf = true → kFind s.pend off = some w →
      off ∉ [Reg.tierLfsrSeed.at, Reg.awlBpSeed.at, Reg.thrCtl.at, Reg.dirtyBudget.at, Reg.dirtyCtl.at, Reg.regCntReject.at] →
      kFind (applyReg s off).pend off = none
        ∧ (∀ o, o ≠ off → kFind (applyReg s off).pend o = kFind s.pend o)
        ∧ (valueOk s off w = true → (applyReg s off).rd off = (s.rd off &&& ~~~bufferedMask off) ||| (w &&& bufferedMask off)
            ∧ WordsKept s (applyReg s off) [off])
        ∧ (valueOk s off w = false → WordsKept s (applyReg s off) [Reg.regCntReject.at]))
  ∧ (∀ (c : ChanId) (s : State), s.wf = true → s.mode ≠ .reset → s.chs[c].jobs = [] → s.chs[c].queue = [] →
      unitMayApply s = true →
      ∃ t, exec (.channelBoundaryIdle c) s = .next (settle t)
        ∧ (∀ o, inChannel c o = true → o ≠ Reg.trnCtl.at c.val → o ≠ Reg.phyZq.at c.val → kFind t.pend o = none)
        ∧ (∀ o, inChannel c o = false → kFind t.pend o = kFind s.pend o)
        ∧ { t with regs := s.regs, pend := s.pend, evq := s.evq } = s)

/-- A 32-bit counter that counts adds to its value and stays at all ones; a pair counts as one 64-bit value. -/
def Obligations.CountersSaturate : Prop :=
  (∀ (s : State) (r : RegDef) (n i k : Nat), kRising s.regs = true →
    ((s.count r n i k).rd (r.at i k)).toNat = min ((s.rd (r.at i k)).toNat + n) (2 ^ 32 - 1)
      ∧ WordsKept s (s.count r n i k) [r.at i k])
  ∧ (∀ (s : State) (lo hi : RegDef) (n i : Nat), kRising s.regs = true → lo.at i ≠ hi.at i →
    ((s.count64 lo hi n i).rd (hi.at i)).toNat * 2 ^ 32 + ((s.count64 lo hi n i).rd (lo.at i)).toNat
      = min ((s.rd (hi.at i)).toNat * 2 ^ 32 + (s.rd (lo.at i)).toNat + n) (2 ^ 64 - 1))

/-! ### Beam, eyelet and event queue -/

/-- Takes in beam mode, outside RESET. A take while one is in progress only sets DROPPED. One that nothing holds up judges
the conservation books, and reports source 64 where they do not balance; where they do, it copies every counter and
history field with the tick of its marker, and TAKE alone changes no other register; its end sets DONE and counts SEQ. -/
def Obligations.BeamTakes : Prop :=
  (∀ (clear : Bool) (s : State), s.mode ≠ .reset → s.wf = true → eyeletMode s = false →
    let c : Instr := if clear then .beamTakeClear else .beamTake
    (s.flag Fld.beamStatusBusy = true → ∃ t, exec c s = .next (settle t)
        ∧ t.flag Fld.beamStatusDropped = true ∧ OnlyWords s t [Reg.beamStatus.at])
    ∧ (s.flag Fld.beamStatusBusy = false → s.clears = [] → booksOut s ≠ 0 → ∃ t, exec c s = .next (settle t)
        ∧ t.flt.raised = s.flt.raised ++ [(64, none)]
        ∧ (clear = false → t.flag Fld.consStatusImbalance = true))
    ∧ (s.flag Fld.beamStatusBusy = false → s.clears = [] → booksOut s = 0 → ∃ t, exec c s = .next (settle t)
        ∧ t.flag Fld.beamStatusBusy = true ∧ t.flag Fld.beamStatusDone = false
        ∧ t.rd Reg.beamTick.at = s.timeBase.setWidth 32 ∧ t.beamClear = clear ∧ t.beamCtx = beamContexts s
        ∧ (∀ o, o ∉ satOffs ++ bookOffs ++ pairOffs → o ≠ Reg.beamStatus.at →
            kGet 0 t.beam o = s.rd o &&& clearMask o true true)
        ∧ (clear = false → t.ctxs = s.ctxs ∧ WordsKept s t [Reg.beamStatus.at, Reg.beamTick.at])
        ∧ DataKept s t ∧ t.ledger = s.ledger ∧ t.ports = s.ports ∧ t.evq = s.evq))
  ∧ (∀ s : State, s.wf = true → s.flag Fld.beamStatusBusy = true → s.clears.any isTakeMark = false →
    ∃ t, exec .beamTakeDone s = .next (settle t) ∧ t.flag Fld.beamStatusBusy = false ∧ t.flag Fld.beamStatusDone = true
      ∧ t.fld Fld.beamStatusSeq = (s.fld Fld.beamStatusSeq + 1) % 2 ^ Fld.beamStatusSeq.w
      ∧ t.flag Fld.beamStatusCleared = s.beamClear ∧ OnlyWords s t [Reg.beamStatus.at])

/-- Eyelet mode, outside RESET: a select of an item captures its registers' words in order and is BUSY; of a code that names
no item it sets BAD and captures nothing; a capture's end sets VALID; a clear of a captured item clears the counter and
history bits of that item's registers. -/
def Obligations.EyeletCaptures : Prop :=
  (∀ (w : Word) (s : State), s.mode ≠ .reset → s.wf = true → eyeletMode s = true →
    let item := Fld.eyeletSelItem.of w
    (∀ l, eyeletOffs item = some l → (item = 0x10 → booksOut s = 0) → ∃ t, exec (.eyeletSelect w) s = .next (settle t)
        ∧ t.fld Fld.eyeletSelItem = item ∧ t.flag Fld.eyeletStatusBusy = true ∧ t.flag Fld.eyeletStatusValid = false
        ∧ t.fld Fld.eyeletStatusWords = l.length
        ∧ (∀ i, i < l.length → t.rd (Reg.eyeletData.at i)
            = eyeletWord (s.setFld Fld.eyeletSelItem item) (l.getD i 0))
        ∧ { t with regs := s.regs } = s)
    ∧ (eyeletOffs item = none → ∃ t, exec (.eyeletSelect w) s = .next (settle t)
        ∧ t.flag Fld.eyeletStatusBad = true ∧ t.flag Fld.eyeletStatusBusy = false
        ∧ OnlyWords s t [Reg.eyeletSel.at, Reg.eyeletStatus.at]))
  ∧ (∀ s : State, s.wf = true → s.flag Fld.eyeletStatusBusy = true →
    ∃ t, exec .eyeletCaptureDone s = .next (settle t) ∧ t.flag Fld.eyeletStatusBusy = false
      ∧ t.flag Fld.eyeletStatusValid = true ∧ OnlyWords s t [Reg.eyeletStatus.at])
  ∧ (∀ (s : State) (l : List Nat), s.mode ≠ .reset → s.wf = true → eyeletMode s = true →
      s.flag Fld.eyeletStatusValid = true → s.flag Fld.eyeletStatusBad = false →
      eyeletOffs (s.fld Fld.eyeletSelItem) = some l →
    ∃ t, exec .eyeletClear s = .next (settle t)
      ∧ (∀ o ∈ l, (∀ i : Fin 3, o ≠ Reg.fltHist.at i.val) → t.rd o = s.rd o &&& ~~~clearMask o true true)
      ∧ { t with regs := s.regs } = s)

/-- A pop outside RESET takes, of the items of the highest priority queued, the one first accepted, shows its four words and
removes it; from an empty queue it shows zeros and EMPTY. The event queue outside RESET: a handshake takes every waiting
event in, in ascending SOURCE order, as long as a general slot is free for each; a flush leaves one item, which says how
many were dropped. A push keeps the bound of the queue: at most 1,020 items in the general slots, and at most one gap
marker of each priority beside them; what does not fit is counted in EVQ_CNT_DROP and leaves the items other than gap
markers as they are. -/
def Obligations.EventQueueOrder : Prop :=
  ((∀ (s : State) (i : EvItem), s.mode ≠ .reset → s.wf = true → s.evq.first = some i → i.bad = 0 →
      ∃ t, exec .evqPop s = .next (settle t)
        ∧ (∃ a b, s.evq.items = a ++ i :: b ∧ t.evq.items = a ++ b ∧ ∀ j ∈ a, j.prio ≠ i.prio)
        ∧ (∀ j ∈ s.evq.items, j.prio ≤ 3 → i.prio ≤ j.prio)
        ∧ (∀ k : Fin 4, t.rd (Reg.evqItem.at k.val) = i.words.getD k.val 0)
        ∧ t.rd Reg.evqPopStatus.at = Fld.evqPopStatusValid.into 1 0
        ∧ { t with regs := s.regs, evq := s.evq } = s)
    ∧ (∀ s : State, s.mode ≠ .reset → s.wf = true → s.evq.items = [] →
      ∃ t, exec .evqPop s = .next (settle t) ∧ t.rd Reg.evqPopStatus.at = Fld.evqPopStatusEmpty.into 1 0
        ∧ (∀ k : Fin 4, t.rd (Reg.evqItem.at k.val) = 0)
        ∧ OnlyWords s t (Reg.evqPopStatus.at :: (List.range 4).map (fun k => Reg.evqItem.at k))))
  ∧ ((∀ s : State, s.mode ≠ .reset → s.evq.general + s.evq.stage.length ≤ 1020 →
      ∃ t, exec .evqPushHandshake s = .next (settle t) ∧ t.evq.stage = []
        ∧ (∃ new, t.evq.items = s.evq.items ++ new ∧ new.length = s.evq.stage.length
            ∧ new.Pairwise (fun a b => a.source ≤ b.source) ∧ ∀ i ∈ new, i.gap = false)
        ∧ { t with regs := s.regs, evq := s.evq } = s)
    ∧ (∀ s : State, s.mode ≠ .reset →
      ∃ t i, exec .evqFlush s = .next (settle t) ∧ t.evq.items = [i] ∧ i.code = Ev.evqFlush
        ∧ i.d0 = dw s.evq.items.length ∧ i.seq = s.evq.seq ∧ t.evq.stage = s.evq.stage
        ∧ { t with regs := s.regs, evq := s.evq } = s))
  ∧ (∀ (s : State) (p : EvPush), s.evq.general ≤ 1020 →
      (∀ n, s.evq.items.countP (fun i => i.gap && i.prio == n) ≤ 1) →
      (s.push p).evq.general ≤ 1020 ∧ (∀ n, (s.push p).evq.items.countP (fun i => i.gap && i.prio == n) ≤ 1)
        ∧ (s.evq.full = true → (s.push p).evq.items.filter (fun i => !i.gap) = s.evq.items.filter (fun i => !i.gap)))

/-! ### The tier: tag window, sweeps, walkers, cleaner, scrub -/

/-- The tag window outside RESET: READ of an entry of a set that exists begins a capture, of one beyond the channel's sets
sets REFUSED; the capture's end shows the entry's eight words and sets VALID, and an entry lost to an uncorrectable
error sets ERR too and reads cleared outside PLAIN. RETIRE of a way of an ONLINE channel joins the list of retirements
while it and the log have room. A pending way whose lines have left goes on to its clean, and its tag entry stays as it
is; one that is not pending, or still holds a line in flight, stays as it is. A write of TIER_LOST_SEL outside RESET
selects an entry of the lost-set list, and with RELEASE frees it; no other entry of the list changes. -/
def Obligations.TagWindowAndRetirement : Prop :=
  (∀ s : State, s.mode ≠ .reset → s.wf = true →
      let k := tagSelected s
      (k.2.1 < s.sets k.1 → ∃ t, exec .tagRead s = .next (settle t) ∧ t.tagCap = some k
          ∧ t.flag Fld.tagStatusBusy = true ∧ t.flag Fld.tagStatusValid = false ∧ t.flag Fld.tagStatusRefused = false
          ∧ OnlyWords { s with tagCap := some k } t [Reg.tagStatus.at])
      ∧ (s.sets k.1 ≤ k.2.1 → ∀ c ∈ [Instr.tagRead, Instr.tagRetire], ∃ t, exec c s = .next (settle t)
          ∧ t.flag Fld.tagStatusRefused = true ∧ OnlyWords s t [Reg.tagStatus.at])
      ∧ (∀ c set way, s.tagCap = some (c, set, way) →
          (∃ t, exec (.tagCaptureDone .clean) s = .next (settle t) ∧ t.tagCap = none
            ∧ (∀ i : Fin 8, t.rd (Reg.tagData.at i.val) = dw ((tagWords (s.tag c set way) c set).getD i.val 0))
            ∧ t.flag Fld.tagStatusValid = true ∧ t.flag Fld.tagStatusBusy = false
            ∧ { t with regs := s.regs, tagCap := s.tagCap } = s)
          ∧ (∃ t, exec (.tagCaptureDone .uncorrectable) s = .next (settle t) ∧ t.tagCap = none
            ∧ t.flag Fld.tagStatusErr = true ∧ (s.mode ≠ .plain → t.tag c set way = {})))
      ∧ (k.2.1 < s.sets k.1 → (s.tag k.1 k.2.1 k.2.2).retired = false → (s.tag k.1 k.2.1 k.2.2).retirePend = false →
          s.retiring.any (fun r => r.1 == k.1 && r.2.1 == k.2.1 && r.2.2.1 == k.2.2) = false → (s.ch k.1).st = .online →
          waysUsed s < 8192 → logOpen s = true →
          ∃ t, exec .tagRetire s = .next (settle t) ∧ t.retiring = s.retiring ++ [(k.1, k.2.1, k.2.2, 0)]
            ∧ t.flag Fld.tagStatusRefused = false ∧ OnlyWords { s with retiring := t.retiring } t [Reg.tagStatus.at]))
  ∧ (∀ (c : ChanId) (set : Nat) (way : Fin 16) (s : State),
      (s.retiring.contains (c.val, set, way.val, 1) = true → wayBusy s c set way = false →
        ∃ t, exec (.wayRetireDrained c set way) s = .next (settle t) ∧ (c.val, set, way.val, 2) ∈ t.retiring
          ∧ (c.val, set, way.val, 1) ∉ t.retiring ∧ DataKept s t)
      ∧ (s.retiring.contains (c.val, set, way.val, 1) = false ∨ wayBusy s c set way = true →
        exec (.wayRetireDrained c set way) s = .next (settle s)))
  ∧ (∀ (w : Word) (s : State), s.mode ≠ .reset → s.wf = true → let i := Fld.tierLostSelIndex.of w
      ∃ t, exec (.tierLostRelease w) s = .next (settle t) ∧ t.fld Fld.tierLostSelIndex = i
        ∧ t.lost = (if Fld.tierLostSelRelease.of w = 1 then s.lost.set i none else s.lost)
        ∧ OnlyWords { s with lost := t.lost } t [Reg.tierLostSel.at])

/-- A step of an active sweep of an ONLINE channel outside PLAIN clears every entry of the set at the frontier but for the
ways that the log holds retired, and the frontier moves on by one set; no entry of another set changes. The walkers and
the cleaner move no line by themselves: a step of the drain walker, of a fence walker, or of the cleaner leaves every
DRAM line and every tag entry as it is, and each walker stays at its set, moves to the next, or ends. Where nothing is
to be walked or cleaned, nothing changes. -/
def Obligations.SweepsAndWalkers : Prop :=
  (∀ (c : ChanId) (s : State), s.wf = true → (s.mode = .tiered ∨ s.mode = .drain ∨ s.mode = .bypass) →
      s.flag Fld.tierSweepActive c.val = true → s.chs[c].st = .online → s.fld Fld.tierSweepFrontier c.val < s.sets c →
      let set := s.fld Fld.tierSweepFrontier c.val
      ∃ t, exec (.tagSweepStep c) s = .next (settle t)
        ∧ (∀ w : Fin 16, t.tag c set w = { retired := s.retiredLog.contains (c.val, set, w.val) })
        ∧ (∀ k, (∀ w : Fin 16, k ≠ frameKey c set w) → t.tagK k = s.tagK k)
        ∧ t.fld Fld.tierSweepFrontier c.val = set + 1
        ∧ t.dram = s.dram ∧ t.ledger = s.ledger ∧ t.ports = s.ports ∧ OtherChannels s t c)
  ∧ (∀ (c : ChanId) (s : State),
      (∃ t, exec (.drainWalkStep c) s = .next (settle t) ∧ DataKept s t
          ∧ ∀ set, kFind s.drain c = some set → s.mode = .drain → kRising s.drain = true →
              kFind t.drain c = some set ∨ kFind t.drain c = some (set + 1) ∨ kFind t.drain c = none)
      ∧ (∃ t, exec (.fenceWalkStep c) s = .next (settle t) ∧ DataKept s t
          ∧ ∀ set, s.chs[c].walker = some set →
              t.chs[c].walker = some set ∨ t.chs[c].walker = some (set + 1) ∨ t.chs[c].walker = none)
      ∧ (∃ t, exec .cleanerClean s = .next (settle t) ∧ DataKept s t ∧ t.pidx = s.pidx
          ∧ t.media.offers.length ≤ s.media.offers.length + 1)
      ∧ (kFind s.drain c = none ∨ s.mode ≠ .drain → exec (.drainWalkStep c) s = .next (settle s))
      ∧ (s.chs[c].walker = none → exec (.fenceWalkStep c) s = .next (settle s))
      ∧ (s.flag Fld.tierCtlCleaner = false ∨ budgetUnits s = 0 → exec .cleanerClean s = .next (settle s)))

/-- A scrub unit outside the last of a pass: the position moves on by one unit, and every line of the unit that has no entry
in the ledger takes a move reserve entry under context 0; what was in the ledger stays. -/
def Obligations.ScrubUnitStarts : Prop :=
  ∀ (c : ChanId) (s : State), s.wf = true → scrubRuns s c = true → s.chs[c].rankUnits ≤ 2 ^ 25 →
    s.fld Fld.phyPopRanks c.val ≠ 0 →
    let unit := s.fld Fld.chScrubPosUnit c.val
    let ls := (unitLines s c (s.fld Fld.chScrubPosRank c.val) unit).filter (fun x => (chain s x.1).isEmpty)
    unit + 1 < s.chs[c].rankUnits → poolCount s .moveRes + ls.length ≤ 1024 →
    ∃ t, exec (.scrubUnitStart c) s = .next (settle t) ∧ t.fld Fld.chScrubPosUnit c.val = unit + 1
      ∧ t.fld Fld.chScrubPosRank c.val = s.fld Fld.chScrubPosRank c.val
      ∧ (∃ es, t.ledger = s.ledger ++ es ∧ es.map (fun e => e.key) = ls.map (fun x => x.1)
          ∧ ∀ e ∈ es, e.kind = .scrub ∧ e.pool = .moveRes ∧ e.ctx = 0)
      ∧ DataKept s t ∧ OtherChannels s t c

/-! ### The media port -/

/-- The answers of the media engine to open work: FILL_DATA lands the sectors that it carries in its fill, and with LAST
gives a request credit back; ACCEPT of an offer makes it accepted, DECLINE of a clean offer ends it, each gives its
offer credit back; DEFER leaves the offer open and deferred. -/
def Obligations.MediaAnswers : Prop :=
  ∀ (raw : BitVec 256) (s : State), Heard s → hcrcOk raw = true → s.media.awaitAck = false → s.media.awaitCredit = false →
    let m := MediaHdr.parse raw
    (∀ (lines : List (Line × BitVec 32)) (f : Fill), m.opcode = 0x81 → m.lines = popcount m.smap → m.lines = lines.length →
        m.pmap &&& ~~~m.smap = 0 → m.smap ≠ 0 → m.smap &&& ~~~(f.want &&& ~~~f.landed) = 0 →
        s.media.fills.find? (fun f => f.sent && !f.last && f.tag == m.mtag.toNat) = some f →
        (m.flags.getLsbD 0 = true → f.landed ||| m.smap = f.want) → s.media.holdup = .none →
      ∃ t g, exec (.fillData raw lines) s = .next (settle t) ∧ g ∈ t.media.fills ∧ g.id = f.id
        ∧ g.landed = f.landed ||| m.smap ∧ g.last = (f.last || m.flags.getLsbD 0)
        ∧ t.media.reqBlock = s.media.reqBlock + (m.flags.getLsbD 0).toNat
        ∧ t.media.reqEngine = s.media.reqEngine - (m.flags.getLsbD 0).toNat ∧ DataKept s t)
    ∧ (∀ o : Offer, m.lines = 0 → openOffer s m.mtag.toNat = some o →
        (m.opcode = 0x82 → m.status = 0 → ∃ t, exec (.accept raw) s = .next (settle t)
          ∧ (∀ x ∈ t.media.offers, x.id = o.id → x.st = .accepted)
          ∧ t.media.offBlock = s.media.offBlock + 1 ∧ t.media.offEngine = s.media.offEngine - 1 ∧ DataKept s t)
        ∧ (m.opcode = 0x83 → m.status = 0 → o.dirty = false → ∃ t, exec (.decline raw) s = .next (settle t)
          ∧ (∀ x ∈ t.media.offers, x.id ≠ o.id)
          ∧ t.media.offBlock = s.media.offBlock + 1 ∧ t.media.offEngine = s.media.offEngine - 1 ∧ DataKept s t)
        ∧ (m.opcode = 0x84 → m.status = 0 → s.media.holdup = .none → ∃ t, exec (.defer raw) s = .next (settle t)
          ∧ (o.st = .sent → ∀ x ∈ t.media.offers, x.id = o.id → x.st = .deferred) ∧ (o.st = .deferred → t.media = s.media)
          ∧ t.media.offBlock = s.media.offBlock ∧ t.media.offEngine = s.media.offEngine ∧ DataKept s t))

/-- Bringing the port up: RESYNC_ACK is taken while it is awaited, and nothing else is; CREDIT of the full pools makes the
port UP with 2,048 request and 1,024 offer credits; a RESYNC of the engine and a header that fails its check cut the
transfer and void both pools until the next CREDIT, and the failing header is counted and recorded. The media port's
other events. A deferral beyond the warning time is warned of once. ENABLE, written while no transfer is in progress and
no hold-up is in force, takes effect at once: cleared on an UP port it leaves the port DOWN, and set again it
resynchronises. A late hold-up answer is fault source 93 during a flush that runs from the tier, and nothing otherwise.
HOLDUP_REQ stays high and ends every force and FATAL_ARM; in PLAIN and TIERED the block enters HOLDUP. -/
def Obligations.MediaPortStates : Prop :=
  (∀ (raw : BitVec 256) (s : State), Heard s → s.wf = true →
      let m := MediaHdr.parse raw
      (hcrcOk raw = true → s.media.awaitAck = true → m.opcode = 0x8E → m.lines = 0 → exec (.resyncAck raw) s
          = .next (settle { s with media := { s.media with awaitAck := false, awaitCredit := true } }))
      ∧ (s.media.awaitAck = true → m.opcode ≠ 0x8E → exec (.credit raw) s = .next (settle s))
      ∧ (hcrcOk raw = true → s.media.awaitAck = false → s.media.awaitCredit = true → m.opcode = 0x85 → m.lines = 0 →
          m.smap.toNat % 4096 = 2048 → m.smap.toNat / 65536 % 4096 = 1024 →
          ∃ t, exec (.credit raw) s = .next (settle t) ∧ t.media.st = .up ∧ t.media.awaitCredit = false
            ∧ t.media.reqBlock + t.media.reqEngine = 2048 ∧ t.media.offBlock + t.media.offEngine = 1024 ∧ DataKept s t)
      ∧ (s.media.awaitAck = false →
          (hcrcOk raw = true → m.opcode = 0x0E → m.lines = 0 → ∃ t, exec (.mpResyncReceived raw) s = .next (settle t) ∧ t.media.awaitAck = true
            ∧ t.media.xfer = none ∧ t.media.reqBlock = 0 ∧ t.media.offBlock = 0 ∧ t.media.st ≠ .up ∧ DataKept s t
            ∧ t.ledger = s.ledger)
          ∧ (∃ t, exec (.mpHeaderCheckFail raw) s = .next (settle t) ∧ t.media.awaitAck = true ∧ t.media.xfer = none
            ∧ t.media.reqBlock = 0 ∧ t.media.offBlock = 0 ∧ t.flag Fld.mpHistHdrCrc = true ∧ t.flag Fld.mpHistProto = true
            ∧ t.rd Reg.mpCntProto.at = satAdd32 (s.rd Reg.mpCntProto.at) 1 ∧ DataKept s t ∧ t.ledger = s.ledger)))
  ∧ ((∀ (slot : Nat) (o : Offer) (s : State), s.wf = true → s.fld Fld.mpDeferWarn ≠ 0 →
        s.media.offers.find? (fun o => o.st == .deferred && o.slot == slot) = some o → o.warned = false →
      ∃ t, exec (.mpDeferLong slot) s = .next (settle t) ∧ t.flag Fld.mpHistDeferLong = true
        ∧ t.rd Reg.mpCntDeferLong.at = satAdd32 (s.rd Reg.mpCntDeferLong.at) 1
        ∧ (∀ x ∈ t.media.offers, x.id = o.id → x.warned = true)
        ∧ WordsKept s t [Reg.mpHist.at, Reg.mpCntDeferLong.at] ∧ t.ledger = s.ledger ∧ DataKept s t)
    ∧ (∀ (v : Bool) (s : State), s.wf = true → (s.mode = .plain ∨ s.mode = .tiered) → s.media.xfer = none →
        s.holding = false → s.holdRelease = false → s.media.st ≠ .stopped →
      ∃ t, exec (.mpEnableChange v) s = .next (settle t) ∧ t.flag Fld.mpCtlEnable = v
        ∧ (v = false → s.flag Fld.mpCtlEnable = true → t.media.st = .down)
        ∧ (v = true → s.flag Fld.mpCtlEnable = false → t.media.st = .resync ∧ t.media.awaitAck = true) ∧ t.ledger = s.ledger ∧ DataKept s t)
    ∧ (∀ s : State, exec .mpHoldupAnswerLate s
        = .next (settle (if s.flushing && flushFromTier s then s.report 93 else s)))
    ∧ (∀ s : State, ∃ t, exec .holdupReq s = .next (settle t) ∧ t.pins.holdupReq = true
        ∧ t.flag Fld.fltCtlFatalArm = false ∧ (∀ i, i < 3 → t.rd (Reg.fltForce.at i) = 0)
        ∧ (s.flt.finishing = false → s.warmFlush = false → (s.mode = .plain ∨ s.mode = .tiered) → t.mode = .holdup)
        ∧ ((s.mode = .safe ∨ s.mode = .reset ∨ s.mode = .recover) → t.mode = s.mode) ∧ DataKept s t))

/-! ### Channels: accesses, issue, refresh, temperature -/

/-- The end of an access of a host line: the data of a read goes into its entry's slot, poisoned exactly where it was
uncorrectable; a write that has been made is settled next. The access is over, and no content of DRAM changes. -/
def Obligations.HostAccessEnds : Prop :=
  ∀ (c : ChanId) (id : Nat) (s : State) (j : Job) (jl : JobLine) (idx : Nat) (e : LEntry), s.wf = true →
    job? s c id = some j → j.why = .host idx → j.lines = [jl] → jl.step = 2 → entry? s idx = some e → e.phase = .dram id →
    (j.write = false → jl.fin = false → s.mode ≠ .safe → s.modeNow ≠ .recover → ∀ out : EccOut,
      ∃ t x, exec (.dramReadReturn c id 0 out) s = .next (settle t) ∧ entry? t idx = some x ∧ x.phase = .got
        ∧ x.slot = some (kGet 0 s.dram jl.key, decide (out = .uncorrectable)) ∧ t.dram = s.dram
        ∧ job? t c id = none ∧ OtherChannels s t c ∧ t.ports = s.ports)
    ∧ (j.write = true →
      ∃ t, exec (.frameWriteDone c id) s = .next (settle t) ∧ job? t c id = none
        ∧ t.ledger = s.ledger.map (fun x => if x.idx = idx then { x with phase := .settle (keyWay jl.key) } else x)
        ∧ DataKept s t ∧ OtherChannels s t c ∧ t.ports = s.ports ∧ t.media = s.media)

/-- Refresh and page closing on a channel. A refresh interval adds one to the debt of every unit, up to nine. A unit in debt
that nothing wants, after its idle time, is to be refreshed. A bank whose idle timer expires is precharged where nothing
wants its row, no candidate is ready and its PRE may be granted. A temperature poll outside RESET asks for every sensor
of the channel's modules: after it each of them has a read that waits or is in progress. Nothing is polled while the
period is 0. -/
def Obligations.RefreshPagesAndTemperature : Prop :=
  (∀ (c : ChanId) (s : State), s.wf = true →
      (refreshes s c = true → ∃ t, exec (.refreshInterval c) s = .next (settle t)
          ∧ (∀ k ∈ debtKeys s c, debtOf t c k = min (debtOf s c k + 1) 9) ∧ t.chs[c].alerts = 0
          ∧ DataKept s t ∧ t.ledger = s.ledger ∧ t.ports = s.ports ∧ OtherChannels s t c)
      ∧ (∀ (rank : Fin 4) (bank : Fin 64),
          let k := if sameBank s c then rank.val * 64 + 1 + s.indexOf c bank else rank.val * 64
          refreshes s c = true → k ∈ debtKeys s c → unitWanted s c k = false → debtOf s c k ≠ 0 →
          ∃ t, exec (.refreshIdleCatchup c rank bank) s = .next (settle t) ∧ t.chs[c].refDue.any (fun r => r.1 == k) = true
            ∧ { t with chs := s.chs } = s ∧ OtherChannels s t c)
      ∧ (∀ (sub : Fin 2) (rank : Fin 4) (bank : Fin 256) (u : State),
          let l : Loc := { sub := sub, rank := rank, bank := bank, row := 0, col := 0 }
          let row := kGet 0 s.chs[c].book (bankKey l)
          row ≠ 0 → (∀ j ∈ s.chs[c].jobs, ∀ x ∈ j.lines, x.step = 0 → bankKey x.loc = bankKey l → x.loc.row + 1 ≠ row) →
          cmdFrozen s c = false → (candsOf s c sub).any (eligibleCmd s c) = false → grantPre s c l = some u →
          ∃ t q, exec (.pageIdleTimeout c sub rank bank) s = .next (settle t)
            ∧ t.chs[c].queue = s.chs[c].queue ++ [q] ∧ q.cmd = .pre ∧ q.loc = l
            ∧ t.rd (Reg.chCntIdlePre.at c.val) = satAdd32 (s.rd (Reg.chCntIdlePre.at c.val)) 1
            ∧ DataKept s t ∧ t.ledger = s.ledger ∧ OtherChannels s t c))
  ∧ (∀ (c : ChanId) (s : State), s.wf = true → s.mode ≠ .reset →
      (s.fld Fld.chTempPoll c.val ≠ 0 → ∃ t, exec (.tempPoll c) s = .next (settle t)
          ∧ (∀ d : Fin 2, present s c d = true → ∀ dev ∈ sensorsOf s c d,
              sbOpen t c (fun x => x.who == .temp && x.slot == slotCode c d && x.dev == dev) = true)
          ∧ DataKept s t ∧ t.ledger = s.ledger ∧ t.ports = s.ports)
      ∧ (s.fld Fld.chTempPoll c.val = 0 → exec (.tempPoll c) s = .next (settle s)))

/-! ### Channels: frequency, supply, impedance, sideband -/

/-- A frequency change step by step. A TARGET that R302 refuses sets REFUSED and moves nothing; one taken on a channel
without a change or a training makes it wait for idleness with BUSY set. Idle, it enters self-refresh. At the end of the
minimum time it relocks, or leaves for a host-caused candidate. Locked, CURRENT is the target and self-refresh exit
begins. The centring ends the change: done, or refused with the old set point current again. -/
def Obligations.FrequencyChange : Prop :=
  ∀ (c : ChanId) (s : State), s.wf = true →
    (∀ tgt : BitVec 2, s.mode ≠ .reset → let u := s.setFld Fld.chFreqTarget tgt.toNat c.val
      (∀ code, freqRefusal u c tgt.toNat = some code → ∃ t, exec (.chFreqChange c tgt) s = .next (settle t)
          ∧ t.flag Fld.chFreqRefused c.val = true ∧ { t with regs := s.regs, evq := s.evq } = s
          ∧ WordsKept s t [Reg.chFreq.at c.val])
      ∧ (freqRefusal u c tgt.toNat = none → s.chs[c].freq = .none → (∀ p sp, s.chs[c].trn ≠ .running p sp) →
          ∃ t, exec (.chFreqChange c tgt) s = .next (settle t) ∧ t.chs[c].freq = .waitIdle ∧ t.chs[c].freqTo = tgt.toNat
            ∧ t.chs[c].freqFrom = s.fld Fld.chFreqCurrent c.val ∧ t.flag Fld.chFreqBusy c.val = true
            ∧ t.flag Fld.chFreqRefused c.val = false ∧ WordsKept s t [Reg.chFreq.at c.val] ∧ OtherChannels s t c
            ∧ { t with regs := s.regs, chs := s.chs } = s))
    ∧ (s.chs[c].freq = .waitIdle → s.chs[c].sr = .active →
        (s.chs[c].st = .fenced ∨ (s.chs[c].jobs = [] ∧ s.chs[c].queue = [])) →
        ∃ t, exec (.freqChangeIdle c) s = .next (settle t) ∧ t.chs[c].freq = .entering ∧ t.chs[c].sr = .entering
          ∧ t.chs[c].srWhy = .freq ∧ OtherChannels s t c ∧ { t with chs := s.chs } = s)
    ∧ (s.chs[c].freq = .minWait → s.chs[c].sr = .inside → ∃ t, exec (.freqRelockDecision c) s = .next (settle t)
        ∧ (s.chs[c].jobs.any (fun j => !j.background) = true → t.chs[c].sr = .exiting
            ∧ t.rd (Reg.chCntFreqRetry.at c.val) = satAdd32 (s.rd (Reg.chCntFreqRetry.at c.val)) 1)
        ∧ (s.chs[c].jobs.any (fun j => !j.background) = false → t.chs[c].freq = .relocking ∧ t.chs[c].sr = .inside
            ∧ t.flag Fld.phyStatusLocked c.val = false)
        ∧ DataKept s t ∧ t.ledger = s.ledger ∧ OtherChannels s t c)
    ∧ (s.chs[c].freq = .relocking → trainRelock s c = false → ∃ t, exec (.freqPhyLocked c) s = .next (settle t)
        ∧ t.chs[c].freq = .exiting ∧ t.chs[c].sr = .exiting ∧ t.flag Fld.phyStatusLocked c.val = true
        ∧ t.fld Fld.chFreqCurrent c.val = s.chs[c].freqTo % 4 ∧ DataKept s t ∧ t.ledger = s.ledger ∧ OtherChannels s t c)
    ∧ (s.chs[c].freq = .centring → s.chs[c].freqNext = none → ∀ ok : Bool,
        ∃ t, exec (.seededCentringDone c ok) s = .next (settle t) ∧ t.chs[c].freq = .none
          ∧ t.flag Fld.chFreqBusy c.val = false
          ∧ (ok = true → t.rd (Reg.chCntFreq.at c.val) = satAdd32 (s.rd (Reg.chCntFreq.at c.val)) 1)
          ∧ (ok = false → t.flag Fld.chFreqRefused c.val = true ∧ t.fld Fld.chFreqCurrent c.val = s.chs[c].freqFrom % 4)
          ∧ getBits (t.rd (Reg.trimValid.at c.val)) (s.chs[c].freqTo % 4) 1 = ok.toNat
          ∧ DataKept s t ∧ t.ledger = s.ledger ∧ OtherChannels s t c)

/-- VDDQ of a channel outside RESET: every reading is shown. In range it clears the run of bad readings; the second bad
reading in a row of a trained ONLINE channel in a serving mode fences the channel. An expired wait for VDDQ leaves the
channel untrained, outside RETRAIN without ranks; it fails a RETRAIN, as does power of the DIMMs that is not good by
then. Faults at a channel's balls in PLAIN and TIERED. A first parity alert of a refresh interval is counted and no
more, the second fences an ONLINE channel; a module's loss of power good fences it, and its lines are gone; a trained
ONLINE channel whose clock generator loses lock is fenced. -/
def Obligations.SupplyAndChannelFaults : Prop :=
  (∀ (c : ChanId) (s : State), s.wf = true → s.mode ≠ .reset →
      (∀ mv : BitVec 12, ∃ t, exec (.vddqMonitor c mv) s = .next (settle t) ∧ t.fld Fld.phyVddqMv c.val = mv.toNat
          ∧ t.flag Fld.phyStatusVddqOk c.val = vddqIn (s.fld Fld.phyPopGen c.val) mv.toNat
          ∧ (vddqIn (s.fld Fld.phyPopGen c.val) mv.toNat = true → t.chs[c].vddqBad = 0 ∧ t.chs[c].st = s.chs[c].st
              ∧ t.ledger = s.ledger)
          ∧ (vddqIn (s.fld Fld.phyPopGen c.val) mv.toNat = false → t.chs[c].vddqBad = s.chs[c].vddqBad + 1
              ∧ (s.chs[c].vddqBad = 0 → t.chs[c].st = s.chs[c].st ∧ t.ledger = s.ledger)
              ∧ (1 ≤ s.chs[c].vddqBad → s.chs[c].phyCause.getLsbD 0 = false → phyTrained s c = true → s.chs[c].st = .online →
                  (s.mode = .plain ∨ s.mode = .tiered) → s.flt.finishing = false → t.chs[c].st = .fenced
                  ∧ t.rd (Reg.phyCntVddq.at c.val) = satAdd32 (s.rd (Reg.phyCntVddq.at c.val)) 1)))
      ∧ (s.chs[c].trn = .prep → s.fld Fld.phyPopGen c.val ≠ 0 → vddqOk s c = false →
          ∃ t, exec (.vddqWaitExpired c) s = .next (settle t) ∧ t.flag Fld.phyPopVddqBad c.val = true
            ∧ t.chs[c].trn = .idle ∧ (s.chs[c].st ≠ .retrain → t.fld Fld.tierGeomRanks c.val = 0)
            ∧ (s.chs[c].st = .retrain → t.chs[c].st = .fenced
                ∧ t.rd (Reg.chCntRetrainFail.at c.val) = satAdd32 (s.rd (Reg.chCntRetrainFail.at c.val)) 1)
            ∧ DataKept s t ∧ OtherChannels s t c)
      ∧ (s.chs[c].trn = .prep → s.fld Fld.phyPopGen c.val ≠ 0 → vddqOk s c = true → s.chs[c].st = .retrain →
          s.flag Fld.phyStatusDimmPwr c.val = false →
          ∃ t, exec (.vddqWaitExpired c) s = .next (settle t) ∧ t.chs[c].trn = .idle ∧ t.chs[c].st = .fenced
            ∧ t.rd (Reg.chCntRetrainFail.at c.val) = satAdd32 (s.rd (Reg.chCntRetrainFail.at c.val)) 1
            ∧ DataKept s t ∧ OtherChannels s t c))
  ∧ (∀ (c : ChanId) (s : State), s.wf = true → (s.mode = .plain ∨ s.mode = .tiered) → s.flt.finishing = false →
        s.chs[c].st = .online →
      (∀ d : Fin 2, present s c d = true → s.flag Fld.phyStatusDrvOn c.val = true →
        ∃ t, exec (.alertNParity c d) s = .next (settle t)
          ∧ t.rd (Reg.phyCntAlert.at c.val) = satAdd32 (s.rd (Reg.phyCntAlert.at c.val)) 1
          ∧ (s.chs[c].alerts = 0 → t.chs[c].st = .online ∧ t.ledger = s.ledger)
          ∧ (1 ≤ s.chs[c].alerts → t.chs[c].st = .fenced))
      ∧ (∀ d : Fin 2, present s c d = true → s.flag Fld.phyStatusDimmPwr c.val = true →
        ∃ t, exec (.dimmPowerGoodLost c d) s = .next (settle t) ∧ t.chs[c].st = .fenced ∧ t.chs[c].powered = false
          ∧ t.flag Fld.phyStatusDimmPwr c.val = false ∧ (∀ k, k / 2 ^ 34 = c.val → kGet 0 t.dram k = 0)
          ∧ (∀ k, k / 2 ^ 34 ≠ c.val → kGet 0 t.dram k = kGet 0 s.dram k))
      ∧ (s.flag Fld.phyStatusLocked c.val = true → ∃ t, exec (.clockLockLost c) s = .next (settle t)
          ∧ t.flag Fld.phyStatusLocked c.val = false ∧ (phyTrained s c = true → t.chs[c].st = .fenced)
          ∧ (phyTrained s c = false → t.chs[c].st = .online ∧ t.ledger = s.ledger)))

/-- Tap size and impedance. A tap size that every check of R371 passes is shown with its taps per unit interval; one that
fails a check leaves PHY_TAP as it is and is counted as a rejection. A channel whose impedance calibration falls due
joins the queue for ZQ_EXT; when the one that holds it is done it leaves the queue, and on a channel not trained yet its
codes are taken at once. -/
def Obligations.TapSizeAndImpedance : Prop :=
  ∀ (c : ChanId) (s : State), s.wf = true → (s.mode = .plain ∨ s.mode = .tiered) → s.flt.finishing = false →
      s.fld Fld.phyPopGen c.val ≠ 0 →
    (∀ size : BitVec 16, let old := s.fld Fld.phyTapSize c.val
      let off := (size.toNat - old) + (old - size.toNat)
      let good := (old = 0 ∨ off * 100 ≤ old * 3) ∧ 512 ≤ size.toNat * 10 ∧ size.toNat ≤ 192 ∧ vddqOk s c = true
        ∧ (s.flag Fld.phyStatusLocked c.val = true ∨ phyTrained s c = false)
      ∃ t, exec (.tapSizeMeasure c size) s = .next (settle t) ∧ DataKept s t
        ∧ (good → t.fld Fld.phyTapSize c.val = size.toNat
            ∧ t.fld Fld.phyTapUiTaps c.val = uiTaps (fspRate s c (s.fld Fld.chFreqCurrent c.val)) size.toNat
            ∧ t.ledger = s.ledger ∧ OtherChannels s t c)
        ∧ (¬good → t.rd (Reg.phyTap.at c.val) = s.rd (Reg.phyTap.at c.val)
            ∧ t.rd (Reg.calCntFail.at c.val) = satAdd32 (s.rd (Reg.calCntFail.at c.val)) 1))
    ∧ (s.fld Fld.phyZqCtlPeriod c.val ≠ 0 → c.val ∉ s.zqQ →
        ∃ t, exec (.zqCalDue c) s = .next (settle t) ∧ t.zqQ = s.zqQ ++ [c.val] ∧ t.regs = s.regs ∧ t.ledger = s.ledger
          ∧ DataKept s t)
    ∧ (∀ pu pd : BitVec 7, s.zqQ.head? = some c.val → ∃ t, exec (.zqCalDone c pu pd) s = .next (settle t)
        ∧ t.zqQ = s.zqQ.tail ∧ DataKept s t
        ∧ (phyTrained s c = false → 0 < pu.toNat → pu.toNat < 127 → 0 < pd.toNat → pd.toNat < 127 →
            t.fld Fld.phyZqPu c.val = pu.toNat ∧ t.fld Fld.phyZqPd c.val = pd.toNat))
    ∧ (∀ pu pd : BitVec 7, s.zqQ.head? ≠ some c.val → exec (.zqCalDone c pu pd) s = .next (settle s))

/-- The sideband outside RESET. A firmware read of a module's SPD, asked for while no transfer is, makes the quad BUSY; a
transfer asked for while one is only raises EV_SB_DENIED; a write outside R346 sends nothing and sets ERR. The data of a
firmware read come to SB_DATA, its first bytes, and BUSY ends. A transaction that fails is retried twice, and the third
failure is counted. -/
def Obligations.SidebandTransfers : Prop :=
  ∀ (q : QuadId) (s : State), s.wf = true → s.mode ≠ .reset →
    (∀ w : Word, Fld.sbXferGo.of w = 1 →
      (sbBusy s q = true → ∃ t, exec (.sbXfer q w) s = .next (settle t) ∧ { t with evq := s.evq } = s)
      ∧ (sbBusy s q = false → Fld.sbXferWrite.of w = 0 → Fld.sbXferDev.of w = 0 →
          ∃ t, exec (.sbXfer q w) s = .next (settle t) ∧ t.flag Fld.sbStatusBusy q.val = true
            ∧ t.flag Fld.sbStatusErr q.val = false ∧ sbBusy t q = true ∧ t.chs = s.chs ∧ t.ledger = s.ledger ∧ DataKept s t)
      ∧ (sbBusy s q = false → Fld.sbXferWrite.of w = 1 → Fld.sbXferDev.of w ≠ 1 ∨ s.flag Fld.sbCtlWrEn q.val = false →
          ∃ t, exec (.sbXfer q w) s = .next (settle t) ∧ t.flag Fld.sbStatusErr q.val = true ∧ t.quads = s.quads
            ∧ WordsKept s t [Reg.sbXfer.at q.val, Reg.sbStatus.at q.val] ∧ t.ledger = s.ledger))
    ∧ (∀ (x : SbTxn) (data : Word), s.quads[q].cur = some x → x.who = .firmware → x.write = false →
        ∃ t, exec (.sbTransactionDone q data) s = .next (settle t) ∧ t.flag Fld.sbStatusBusy q.val = false
          ∧ t.flag Fld.sbStatusErr q.val = false ∧ t.rd (Reg.sbData.at q.val) = dw (data.toNat % 2 ^ (8 * x.len))
          ∧ t.chs = s.chs ∧ t.ledger = s.ledger ∧ DataKept s t)
    ∧ (∀ (x : SbTxn) (nack : Bool), s.quads[q].cur = some x →
        (s.quads[q].tries < 2 → ∃ t, exec (.sbTransactionTimeout q nack false) s = .next (settle t)
          ∧ t.quads[q].cur = some x ∧ t.quads[q].tries = s.quads[q].tries + 1 ∧ { t with quads := s.quads } = s)
        ∧ (2 ≤ s.quads[q].tries → x.who = .firmware → ∃ t, exec (.sbTransactionTimeout q nack false) s = .next (settle t)
          ∧ t.flag Fld.sbStatusErr q.val = true ∧ t.flag Fld.sbStatusBusy q.val = false
          ∧ (nack = true → t.rd (Reg.sbCntNack.at q.val) = satAdd32 (s.rd (Reg.sbCntNack.at q.val)) 1)
          ∧ (nack = false → t.rd (Reg.sbCntTimeout.at q.val) = satAdd32 (s.rd (Reg.sbCntTimeout.at q.val)) 1)
          ∧ t.chs = s.chs ∧ t.ledger = s.ledger ∧ DataKept s t))

/-! ### Training and running calibration -/

/-- A training outside RESET, with no other set point asked for. A phase that ends well goes on to the next phase of the
channel's population; the last one makes the trim set valid, counts TRN_CNT_RUN and makes its set point current; a phase
that has used its retries from the defaults fails the training. -/
def Obligations.TrainingProceeds : Prop :=
  ∀ (c : ChanId) (phase sp : Nat) (s : State), s.wf = true → s.mode = .train → s.chs[c].st ≠ .retrain → sp < 4 →
    s.chs[c].trn = .running phase sp → s.chs[c].trnTarget = none → kFind s.tseqStaged c.val = none →
    (nextPhase s c phase ≤ 11 → ∃ t, exec (.trainingStepBoundary c .phaseOk) s = .next (settle t)
        ∧ t.chs[c].trn = .running (nextPhase s c phase) sp ∧ t.fld Fld.trnStatusPhase c.val = nextPhase s c phase
        ∧ WordsKept s t [Reg.trnStatus.at c.val] ∧ OtherChannels s t c ∧ { t with regs := s.regs, chs := s.chs } = s)
    ∧ (11 < nextPhase s c phase → ∃ t, exec (.trainingStepBoundary c .phaseOk) s = .next (settle t)
        ∧ t.chs[c].trn = .done ∧ getBits (t.rd (Reg.trimValid.at c.val)) sp 1 = 1
        ∧ t.fld Fld.chFreqCurrent c.val = sp ∧ t.fld Fld.trnStatusPhase c.val = 0
        ∧ t.rd (Reg.trnCntRun.at c.val) = satAdd32 (s.rd (Reg.trnCntRun.at c.val)) 1 ∧ DataKept s t ∧ OtherChannels s t c)
    ∧ (s.fld Fld.trnStatusSource c.val = 3 → s.fld Fld.trnCtlRetries c.val ≤ s.chs[c].trnRetries + 1 →
        ∃ t, exec (.trainingStepBoundary c .phaseFail) s = .next (settle t) ∧ t.flag Fld.trnStatusFailed c.val = true
          ∧ t.chs[c].trn = .idle ∧ t.fld Fld.tierGeomRanks c.val = 0 ∧ DataKept s t ∧ OtherChannels s t c)

/-- A calibration pass of kinds 2 to 5 while its channel calibrates. A start opens it with the limits in force. Its end
closes it: with a failing result it is rejected, every setting and every pending correction stays, and it is counted as
a failure; without one it is accepted, counted, and every setting it covers has its target: the present value and the
pending correction together make the result. -/
def Obligations.CalibrationPasses : Prop :=
  ∀ (c : ChanId) (k : CalKind) (s : State), s.wf = true → calRuns s c = true → 2 ≤ calCode k →
    (s.chs[c].freq = .none → kindRuns s c (calCode k) = true → calPeriodOn s c (calCode k) = true →
        s.chs[c].passes.any (fun p => p.kind == calCode k) = false →
        ∃ t p, exec (.calPassStart c k) s = .next (settle t) ∧ t.chs[c].passes.getLast? = some p
          ∧ t.chs[c].passes.length = s.chs[c].passes.length + 1 ∧ p.kind = calCode k ∧ p.check = s.rd (Reg.calCheck.at c.val) ∧ OtherChannels s t c ∧ { t with chs := s.chs } = s)
    ∧ (∀ (p : CalPass) (res : List CalRes), s.chs[c].passes.find? (fun p => p.kind == calCode k) = some p →
        vddqOk s c = true → s.chs[c].sr = .active → s.tseqStaged = [] →
        (∀ r ∈ res, calCheckRes s c p r = 0) → p.why = 0 → (res.map (fun r => r.lane)).Nodup → (∀ r ∈ res, r.lane < 149) →
        ∃ t, exec (.calPassEnd c k res) s = .next (settle t)
          ∧ (∀ x ∈ t.chs[c].passes, x.kind ≠ calCode k)
          ∧ (∀ r ∈ res, calTarget t c (calCode k) r.lane = r.value)
          ∧ t.rd (Reg.calCnt.at c.val) = satAdd32 (s.rd (Reg.calCnt.at c.val)) 1 ∧ t.fld Fld.calStatusConsec c.val = 0
          ∧ t.chs[c].trims = s.chs[c].trims ∧ DataKept s t ∧ t.ledger = s.ledger ∧ OtherChannels s t c)
    ∧ (∀ (p : CalPass) (res : List CalRes) (r : CalRes), s.chs[c].passes.find? (fun p => p.kind == calCode k) = some p →
        vddqOk s c = true → s.chs[c].sr = .active → s.tseqStaged = [] → r ∈ res → calCheckRes s c p r ≠ 0 →
        s.fld Fld.calStatusConsec c.val < 2 →
        ∃ t, exec (.calPassEnd c k res) s = .next (settle t)
          ∧ (∀ x ∈ t.chs[c].passes, x.kind ≠ calCode k)
          ∧ t.chs[c].trims = s.chs[c].trims ∧ t.chs[c].corr = s.chs[c].corr
          ∧ t.rd (Reg.calCntFail.at c.val) = satAdd32 (s.rd (Reg.calCntFail.at c.val)) 1
          ∧ t.fld Fld.calStatusConsec c.val = s.fld Fld.calStatusConsec c.val + 1
          ∧ DataKept s t ∧ t.ledger = s.ledger)

/-- Corrections at their boundaries. The fallback applies every pending correction of a calibrating channel in one step and
counts itself; an idle boundary moves every pending setting of an idle subchannel toward its target by at most
TAPS_PER_GAP units. No other channel and no data changes. -/
def Obligations.CorrectionsMoveAtBoundaries : Prop :=
  ∀ (c : ChanId) (s : State), s.wf = true → calRuns s c = true →
    (s.chs[c].corr.any (fun x => decide (4 ≤ x.delta.natAbs)) = true →
      (∀ x ∈ s.chs[c].corr, x.delta.natAbs ≤ 1023) →
      ∃ t, exec (.calFallback c) s = .next (settle t) ∧ t.chs[c].corr = []
        ∧ t.rd (Reg.calCntFallback.at c.val) = satAdd32 (s.rd (Reg.calCntFallback.at c.val)) 1
        ∧ DataKept s t ∧ t.ledger = s.ledger ∧ OtherChannels s t c)
    ∧ (kFind s.pend (Reg.phyZq.at c.val) = none → ∃ t, exec (.calIdleBoundary c) s = .next (settle t)
        ∧ (∀ y ∈ t.chs[c].corr, ∃ x ∈ s.chs[c].corr, x.kind = y.kind ∧ x.lane = y.lane ∧ y.delta.natAbs ≤ x.delta.natAbs
            ∧ (x.delta - y.delta).natAbs ≤ s.fld Fld.calGateTapsPerGap c.val)
        ∧ DataKept s t ∧ t.ledger = s.ledger ∧ OtherChannels s t c)

/-! ### The machine as a whole: reset, invariants -/

/-- The machine right after reset: mode RESET with COLD_RST_n low, no power asked for, SAFE_n low, HOLDUP_DONE low, every
register at its reset word, every port CLOSED without a request, the media port DOWN, and no command, event, ledger
entry, DRAM line or tag; it meets the invariants. (The reset words that the model chose are those of notes/assumptions.) -/
def Obligations.ResetState : Prop :=
  let s := State.reset
  s.mode = .reset ∧ s.start = .off ∧ s.pins.coldRstN = false ∧ s.pins.pwrReq = 0 ∧ s.pins.safeN = false
    ∧ s.pins.holdupDone = false ∧ (∀ o, s.rd o = resetWord o) ∧ (∀ p : PortId, s.ports[p].st = .closed ∧ s.ports[p].reqs = [])
    ∧ s.media.st = .down ∧ s.pending = [] ∧ s.evq.items = [] ∧ s.ledger = [] ∧ s.dram = [] ∧ s.tags = []
    ∧ s.timeBase = 0 ∧ s.wf = true ∧ s.numbered

/-- Every step keeps the invariants: each table of the machine stays in its canonical form, and every outstanding request
keeps a number below the next one to be given. -/
def Obligations.InvariantKept : Prop :=
  ∀ s t : State, s.wf = true → s.numbered → step s = .next t → t.wf = true ∧ t.numbered

/-- A step takes one command from the queue and adds none: the rest of the queue waits as it did. -/
def Obligations.StepKeepsQueue : Prop := ∀ s t : State, step s = .next t → t.pending = s.pending.tail

/-- No step clears a burned OTP bit. -/
def Obligations.BurnedBitsStay : Prop := ∀ s t : State, s.wf = true → step s = .next t → OtpKept s t

/-- Deadline a precedes b exactly when (b − a) mod 2^24 lies between 1 and 2^23 − 1; where it is 0 or 2^23 neither precedes
the other, and otherwise one of them does. -/
def Obligations.DeadlineOrder : Prop :=
  ∀ a b : Tick, let d := (b - a).toNat
    (precedes a b = true ↔ 1 ≤ d ∧ d ≤ 2 ^ 23 - 1)
      ∧ ((precedes a b = false ∧ precedes b a = false) ↔ (d = 0 ∨ d = 2 ^ 23))

/-- In PLAIN no two pages below 64 × Q share a frame, and every such page's frame lies inside its channel's sets. -/
def Obligations.PlainFramesDisjoint : Prop :=
  ∀ (s : State) (n m : Nat), n < 64 * s.plainQ → m < 64 * s.plainQ →
    (s.plainPlace n).1 < 16 ∧ (s.plainPlace n).2.1 < s.sets (s.plainPlace n).1 ∧ (s.plainPlace n).2.2 < 16
      ∧ (s.plainPlace n = s.plainPlace m → n = m)

/-! ### Resets, power and the start -/

/-- COLD_RST_n low, at every moment: it ends a warm quiesce, a hold-up flush and a start, and every volatile state is lost:
DRAM, tags, ledger, registers and what waits for them, contexts, ports, channels, media port, event queue, time and
lifetime gains. The bytes of the flash and of the OTP stay, and so does the queue of commands. -/
def Obligations.ColdResetLosesAll : Prop :=
  ∀ s : State, ∃ t, exec .coldResetAssert s = .next (settle t) ∧ t.mode = .reset ∧ t.start = .off ∧ t.warmFlush = false
    ∧ t.media = {} ∧ t.warm = false ∧ t.dram = [] ∧ t.tags = [] ∧ t.ledger = [] ∧ t.regs = [] ∧ t.pend = [] ∧ t.ctxs = []
    ∧ (∀ p : PortId, t.ports[p].st = .closed ∧ t.ports[p].reqs = []) ∧ (∀ c : ChanId, t.chs[c] = {})
    ∧ t.evq = {} ∧ t.timeBase = 0 ∧ t.life = [] ∧ t.pins.coldRstN = false ∧ t.pins.safeN = false ∧ t.pins.pwrReq = 0
    ∧ t.flash.bytes = s.flash.bytes ∧ t.flash.otp = s.flash.otp ∧ t.pending = s.pending

/-- The warm reset. Its falling edge starts the quiesce: from PLAIN, TIERED, DRAIN, BYPASS and TEST the mode becomes HOLDUP
with WARM_FLUSH, from ENUMERATE, LOAD and TRAIN the mode stays; in RESET and during a quiesce nothing but the pin
changes. When the quiesce has ended the block enters RESET, where a high WARM_RST_n starts it at once and a low one
holds it: the channels in self-refresh keep their lines and tags, the others lose them, and of the registers
CHAIN_STATUS is kept and BLK_CNT_WARM counts. A release starts a block that is held. -/
def Obligations.WarmReset : Prop :=
  (∀ s : State, let u : State := { s with pins := { s.pins with warmRstN := false } }
    ((s.mode = .reset ∨ s.warmFlush = true) → exec .warmReset s = .next (settle u))
    ∧ (s.warmFlush = false → (s.modeNow = .safe ∨ s.modeNow = .holdup) →
        exec .warmReset s = .next (settle { u with warmFlush := true }))
    ∧ (s.warmFlush = false → s.flt.finishing = false → s.mode ∈ [Mode.plain, .tiered, .drain, .bypass, .test] →
        ∃ t, exec .warmReset s = .next (settle t) ∧ t.mode = .holdup ∧ t.warmFlush = true ∧ t.pins.warmRstN = false
          ∧ t.prev = s.mode ∧ t.dram = s.dram)
    ∧ (s.warmFlush = false → s.flt.finishing = false → s.mode ∈ [Mode.enumerate, .load, .train] →
        ∃ t, exec .warmReset s = .next (settle t) ∧ t.mode = s.mode ∧ t.warmFlush = true ∧ t.start = .off ∧ DataKept s t))
  ∧ (∀ s : State, s.wf = true → quiesced s = true → let t := quiesceTurn s
      t.mode = .reset ∧ t.warm = true ∧ t.warmFlush = false ∧ t.start = (if s.pins.warmRstN then .refclk else .off)
        ∧ (∀ k, kGet 0 t.dram k = if keepsDram s (k / 2 ^ 34) then kGet 0 s.dram k else 0)
        ∧ (∀ k, t.tagK k = if keepsDram s (k / 2 ^ 28) then s.tagK k else {})
        ∧ t.rd Reg.chainStatus.at = s.rd Reg.chainStatus.at
        ∧ t.rd Reg.blkCntWarm.at = satAdd32 (s.rd Reg.blkCntWarm.at) 1
        ∧ (∀ o, o ≠ Reg.chainStatus.at → o ≠ Reg.blkCntWarm.at → t.rd o = resetWord o)
        ∧ t.flash.bytes = s.flash.bytes ∧ t.flash.otp = s.flash.otp ∧ t.ledger = [])
  ∧ (∀ s : State, let u : State := { s with pins := { s.pins with warmRstN := true } }
      exec .warmResetRelease s = .next (settle (if s.mode = .reset ∧ s.start = .off ∧ s.pins.coldRstN = true
        then { u with start := .refclk } else u)))

/-- The steps of a start, each from the one before it. The release of COLD_RST_n counts a cold start and waits for REFCLK;
its lock releases SAFE_n and asks for the groups of step 2; the OTP records name the valid slots and the groups of step
5 are asked for; the Last that is missing or incompatible leaves NO_LAST and the ROM images; an expired wait for media
is counted. Where a command's step is not the one waited for, it changes nothing. Power groups. A grant of a group that
is asked for is taken; on a DDR4 channel it carries the DIMMs' supply. A grant that ends while its group is asked for
and in use is fault source 89; in RESET a channel that it fed loses its lines. A grant that does not come within its
time is fault source 89, but while a start waits for it or after HOLDUP_DONE. -/
def Obligations.StartAndPower : Prop :=
  ((∀ s : State, s.pins.coldRstN = false → ∃ t, exec .coldResetRelease s = .next (settle t) ∧ t.pins.coldRstN = true
        ∧ t.start = .refclk ∧ kGet 0 t.life 0 = kGet 0 s.life 0 + 1
        ∧ { t with pins := s.pins, start := s.start, life := s.life } = s)
    ∧ (∀ s : State, s.wf = true → s.start = .refclk → ∃ t, exec .refclkLock s = .next (settle t) ∧ t.start = .power
        ∧ t.pins = { s.pins with pwrReq := s.pins.pwrReq ||| 7, safeN := true } ∧ t.flag Fld.refclkStatusPresent = true
        ∧ t.fld Fld.mpIfrevIfrev = s.pins.mpIfrev.toNat
        ∧ { t with regs := s.regs, evq := s.evq, start := s.start, pins := s.pins } = s
        ∧ (s.warm = false → WordsKept s t [Reg.refclkStatus.at, Reg.mpIfrev.at]))
    ∧ (∀ s : State, s.wf = true → s.start = .otp → ∃ t, exec .otpRecordsRead s = .next (settle t) ∧ t.start = .last
        ∧ t.pins.pwrReq &&& 0xFFFFFF = (s.pins.pwrReq &&& 0xFFFFFF) ||| 0xFFFFF8
        ∧ (∀ k : Fin 7, t.fld (Fld.otpSlotSlot k.val) = (otpValid s k.val).getD 7)
        ∧ t.flash.otp = s.flash.otp ∧ t.dram = s.dram ∧ t.tags = s.tags ∧ t.ledger = s.ledger ∧ t.ports = s.ports)
    ∧ (∀ s : State, s.wf = true → s.start = .load → ∃ t, exec .lastReadDone s = .next (settle t) ∧ t.start = .boundary
        ∧ (let pick := (chooseLast (readHeaders s)).1
           (pick = 0 ∨ (excludedBy (readHeaders s) ((lastCopy s (pick == 2)).getD [])).isSome = true) →
            t.flag Fld.blkStatusNoLast = true ∧ t.flag Fld.blkStatusImageFallback = true ∧ DataKept s t
              ∧ t.ledger = s.ledger ∧ t.pend = s.pend))
    ∧ (∀ s : State, s.start = .waitMp → ∃ t, exec .mpWaitExpired s = .next (settle t) ∧ t.mpWaits = s.mpWaits + 1
        ∧ { t with mpWaits := s.mpWaits, evq := s.evq } = s)
    ∧ (∀ s : State, (s.pins.coldRstN = true → exec .coldResetRelease s = .next (settle s))
        ∧ (s.start ≠ .refclk → exec .refclkLock s = .next (settle s))
        ∧ (s.start ≠ .otp → exec .otpRecordsRead s = .next (settle s))
        ∧ (s.start ≠ .load → exec .lastReadDone s = .next (settle s))
        ∧ (s.start ≠ .waitMp → exec .mpWaitExpired s = .next (settle s))))
  ∧ (∀ (g : Fin 25) (s : State), s.wf = true →
      (s.pins.pwrReq.getLsbD g.val = true → ∃ t, exec (.pwrAckRise g) s = .next (settle t)
          ∧ t.pins = { s.pins with pwrAck := s.pins.pwrAck ||| (1#25 <<< g.val) }
          ∧ (∀ c : ChanId, g.val = 3 + c.val → s.fld Fld.phyPopGen c.val = 1 → t.flag Fld.phyStatusDimmPwr c.val = true)
          ∧ { t with pins := s.pins, regs := s.regs } = s
          ∧ WordsKept s t ((List.range 16).map (fun c => Reg.phyStatus.at c)))
      ∧ (s.pins.pwrReq.getLsbD g.val = false → exec (.pwrAckRise g) s = .next (settle s))
      ∧ (s.pins.pwrAck.getLsbD g.val = true → ∃ t, exec (.pwrAckFall g) s = .next (settle t)
          ∧ t.pins = { s.pins with pwrAck := s.pins.pwrAck &&& ~~~(1#25 <<< g.val) }
          ∧ t.flt.raised = s.flt.raised ++ (if s.pins.pwrReq.getLsbD g.val && !s.pins.holdupDone && !waitsGrants s
              then [(89, none)] else [])
          ∧ (∀ k, kGet 0 t.dram k = if s.mode = .reset ∧ g.val = 3 + k / 2 ^ 34 ∧ k / 2 ^ 34 < 16 then 0 else kGet 0 s.dram k)
          ∧ t.ledger = s.ledger ∧ t.ports = s.ports ∧ t.chs = s.chs
          ∧ WordsKept s t ((List.range 16).map (fun c => Reg.phyStatus.at c)))
      ∧ (s.pins.pwrAck.getLsbD g.val = false → exec (.pwrAckFall g) s = .next (settle s))
      ∧ exec (.pwrAckTimeout g) s = .next (settle (if s.pins.pwrReq.getLsbD g.val = true ∧ s.pins.pwrAck.getLsbD g.val = false
            ∧ s.pins.holdupDone = false ∧ s.start ≠ .power ∧ s.start ≠ .last then s.report 89 else s)))

/-! ### The bead chain -/

/-- Frames of the bead chain, outside the cold reset. One that fails its check or is malformed goes on unchanged and is
counted; one for another unit goes on unchanged; one already answered goes on with DUP. A BEAD of COUNT below 64 gives
the address, of 64 or more sets OVERFLOW, goes on with COUNT + 1, and ends ENUMERATE. Each addressed command acts and is
answered with its STATUS. What the chain's receiver finds bad goes on unchanged and is counted. ENUMERATE without a BEAD
ends with the fallback address, and with TIED_LOW where the input is tied low; in any other mode nothing happens. -/
def Obligations.ChainFrames : Prop :=
  (∀ mk ∈ frameRows, ∀ (f : List (BitVec 8)) (s : State), s.pins.coldRstN = true → s.wf = true →
      ((frameOk f = false ∨ frameWellFormed f = false) → ∃ t, exec (mk f) s = .next (settle t) ∧ t.out = s.out ++ [.chain f]
          ∧ t.rd Reg.chainCntCrc.at = satAdd32 (s.rd Reg.chainCntCrc.at) 1 ∧ WordsKept s t [Reg.chainCntCrc.at]
          ∧ { t with regs := s.regs, out := s.out } = s)
      ∧ (frameOk f = true → frameWellFormed f = true → frameByte f 1 = 1 → let n := frameByte f 3
        ∃ t, exec (mk f) s = .next (settle t)
          ∧ (s.out ++ [.chain (frameWith f 3 [BitVec.ofNat 8 (min (n + 1) 255)])]) <+: t.out
          ∧ (n < 64 → t.fld Fld.chainStatusAddr = n ∧ t.fld Fld.chainStatusSource = 1 ∧ t.flag Fld.chainStatusValid = true
              ∧ t.rd Reg.chainCntAddr.at = satAdd32 (s.rd Reg.chainCntAddr.at) 1)
          ∧ (64 ≤ n → t.flag Fld.chainStatusOverflow = true ∧ t.fld Fld.chainStatusAddr = s.fld Fld.chainStatusAddr)
          ∧ (s.mode = .enumerate → t.mode = .load ∧ t.start = .load)
          ∧ (s.mode ≠ .enumerate → { t with regs := s.regs, out := s.out, evq := s.evq } = s
              ∧ WordsKept s t [Reg.chainCntFrame.at, Reg.chainStatus.at, Reg.chainCntAddr.at]))
      ∧ (frameOk f = true → frameWellFormed f = true → frameByte f 1 ≠ 1 → frameBcast f = true →
          ∃ t, exec (mk f) s = .next (settle t) ∧ t.out = s.out ++ [.chain f]
            ∧ t.flt.raised = s.flt.raised ++ (if s.flag Fld.chainCtlSafeEn then [(92, none)] else [])
            ∧ WordsKept s t [Reg.chainCntFrame.at])
      ∧ (frameOk f = true → frameWellFormed f = true → frameByte f 1 ≠ 1 → frameBcast f = false → addressed s f = false →
          exec (mk f) s = .next (settle (s.drive (.chain f))))
      ∧ (frameOk f = true → frameWellFormed f = true → frameByte f 1 ≠ 1 → frameBcast f = false → addressed s f = true →
          (frameResp f = true → ∃ t, exec (mk f) s = .next (settle t)
            ∧ t.out = s.out ++ [.chain (frameWith f (f.length - 2) [f.getD (f.length - 2) 0 ||| 0x80])]
            ∧ t.rd Reg.chainCntDup.at = satAdd32 (s.rd Reg.chainCntDup.at) 1 ∧ WordsKept s t [Reg.chainCntDup.at]
            ∧ { t with regs := s.regs, out := s.out, evq := s.evq } = s)
          ∧ (frameResp f = false →
            let off := frameByte f 3 * 2 ^ 16 + frameByte f 4 * 2 ^ 8 + frameByte f 5
            let data := frameByte f 6 * 2 ^ 24 + frameByte f 7 * 2 ^ 16 + frameByte f 8 * 2 ^ 8 + frameByte f 9
            let u := s.count Reg.chainCntFrame
            (frameByte f 1 = 2 → s.mode ≠ .reset → off < 2 ^ 20 → accessReason u off 4 false false = none →
              exec (mk f) s = .next (settle (u.drive (.chain (answerFrame f ((f.drop 3).take 3 ++ bytesBig 4
                (if inMirror off then beamWord u (off - 0x80000) else readReg u off).toNat) 0)))))
            ∧ (frameByte f 1 = 3 → s.mode ≠ .reset → s.flag Fld.chainCtlWrEn = false →
              exec (mk f) s = .next (settle (u.drive (.chain (answerFrame f ((f.drop 3).take 3 ++ bytesBig 4 data) 3)))))
            ∧ (frameByte f 1 = 3 → s.mode ≠ .reset → s.flag Fld.chainCtlWrEn = true → off < 2 ^ 20 → inMirror off = false →
                accessReason u off 4 true false = none →
              exec (mk f) s = .next (settle ((writeWord u off (dw data)).drive
                (.chain (answerFrame f ((f.drop 3).take 3 ++ bytesBig 4 data) 0)))))
            ∧ (frameByte f 1 = 4 → (∀ i, s.evq.first = some i → i.bad = 0 → ∃ t, exec (mk f) s = .next (settle t)
                ∧ t.out = s.out ++ [.chain (answerFrame f ((i.words.map (fun w => bytesBig 4 w.toNat)).flatten) 0)]
                ∧ t.evq.items = s.evq.items.erase i ∧ WordsKept s t [Reg.chainCntFrame.at]
                ∧ { t with regs := s.regs, out := s.out, evq := s.evq } = s)
              ∧ (s.evq.first = none →
                exec (mk f) s = .next (settle (u.drive (.chain (answerFrame f (bytesBig 16 0) 4))))))
            ∧ (frameByte f 1 = 5 → exec (mk f) s = .next (settle (if s.flag Fld.chainCtlSafeEn
                then (u.report 92).drive (.chain (answerFrame f [] 0)) else u.drive (.chain (answerFrame f [] 3)))))
            ∧ (frameByte f 1 = 6 → exec (mk f) s = .next (settle (u.drive (.chain (answerFrame f
                (bytesBig 4 (s.rd Reg.blkUnit.at).toNat ++ bytesBig 1 s.modeNow.code) 0))))))))
  ∧ ((∀ (f : List (BitVec 8)) (s : State), s.pins.coldRstN = true → s.wf = true →
      ∃ t, exec (.chainFrameBad f) s = .next (settle t) ∧ t.out = s.out ++ [.chain f]
        ∧ t.rd Reg.chainCntCrc.at = satAdd32 (s.rd Reg.chainCntCrc.at) 1 ∧ WordsKept s t [Reg.chainCntCrc.at]
        ∧ { t with regs := s.regs, out := s.out } = s)
    ∧ (∀ (tied : Bool) (s : State), s.wf = true → let c : Instr := if tied then .enumerateTiedLow else .enumerateTimeout
      (s.mode = .enumerate → ∃ t, exec c s = .next (settle t) ∧ t.mode = .load ∧ t.start = .load
          ∧ t.fld Fld.chainStatusAddr = (if (otpValid s 1).isSome then otpByte s 1 1 % 64 else 0)
          ∧ t.fld Fld.chainStatusSource = (if (otpValid s 1).isSome then 2 else 3)
          ∧ t.flag Fld.chainStatusValid = true ∧ (tied = true → t.flag Fld.chainStatusTiedLow = true) ∧ DataKept s t)
      ∧ (s.mode ≠ .enumerate → exec c s = .next (settle s))))

/-! ### Modes -/

/-- Mode requests. A request outside RESET waits in BLK_MODE_REQ with its target. At the boundary a pending request is
pending no more; equal to the mode in force it changes nothing; a transition of the table whose condition holds changes
the mode, PREV and BLK_CNT_MODE; any other is refused and counted, and the mode stays. -/
def Obligations.ModeRequests : Prop :=
  (∀ x ∈ [(Instr.modeReqPlain, Mode.plain), (.modeReqTiered, .tiered), (.modeReqDrain, .drain), (.modeReqBypass, .bypass),
      (.modeReqTest, .test)], ∀ s : State, s.wf = true →
    (s.mode ≠ .reset → ∃ t, exec x.1 s = .next (settle t) ∧ t.flag Fld.blkModeReqPending = true
        ∧ t.fld Fld.blkModeReqTarget = x.2.code ∧ OnlyWords s t [Reg.blkModeReq.at])
    ∧ (s.mode = .reset → exec x.1 s = .next (settle s)))
  ∧ (∀ s : State, s.wf = true → s.flag Fld.blkModeReqPending = true →
      let n := s.fld Fld.blkModeReqTarget
      let t := modeBoundary s
      t.flag Fld.blkModeReqPending = false
        ∧ (Mode.ofCode n = some s.modeNow → t.flag Fld.blkModeReqRefused = false ∧ OnlyWords s t [Reg.blkModeReq.at])
        ∧ (∀ m, Mode.ofCode n = some m → m ≠ s.modeNow → modeEdge s m = true → startFresh s = false →
            t.mode = m ∧ t.prev = s.modeNow ∧ t.flag Fld.blkModeReqRefused = false
              ∧ t.rd Reg.blkCntMode.at = satAdd32 (s.rd Reg.blkCntMode.at) 1)
        ∧ ((∀ m, Mode.ofCode n = some m → m ≠ s.modeNow ∧ (modeEdge s m = false ∨ startFresh s = true)) →
            t.flag Fld.blkModeReqRefused = true ∧ t.rd Reg.blkCntRefused.at = satAdd32 (s.rd Reg.blkCntRefused.at) 1
              ∧ { t with regs := s.regs, evq := s.evq } = s ∧ WordsKept s t [Reg.blkModeReq.at, Reg.blkCntRefused.at]))

/-- The block never passes between PLAIN and TIERED, DRAIN or BYPASS without a reset, not even through TEST, SAFE or
RECOVER: no step turns the one meaning of the DRAM into the other. A TEST entered from PLAIN returns only to PLAIN, one
entered from TIERED or DRAIN to TIERED or BYPASS, one entered from BYPASS to BYPASS, and one that is the start mode to
PLAIN or BYPASS. -/
def Obligations.PlainAndTierStayApart : Prop :=
  (∀ (s t : State) (a b : Bool), s.wf = true → step s = .next t → s.tier? = some a → t.tier? = some b → a = b)
  ∧ (∀ (s : State) (m : Mode), modeEdge s m = true → s.modeNow = .test →
    (s.testFrom = .plain → m = .plain)
    ∧ ((s.testFrom = .tiered ∨ s.testFrom = .drain) → m = .tiered ∨ m = .bypass)
    ∧ (s.testFrom = .bypass → m = .bypass)
    ∧ (s.testFrom = .reset → m = .plain ∨ m = .bypass))

/-- What follows from a command by itself (the model's choice, notes/assumptions/2.md) outside a warm quiesce: neither the
queue nor time moves, and the windows, captures, clears and the beam stay as they are. In SAFE no entry of the ledger,
no line, tag, port, channel or message moves, and in RESET before a start nothing does. -/
def Obligations.WhatFollowsByItself : Prop :=
  ∀ s : State, s.warmFlush = false → let t := settle s
    (t.pending = s.pending ∧ t.timeBase = s.timeBase ∧ t.tickFrac = s.tickFrac ∧ t.uptime = s.uptime ∧ t.epoch = s.epoch
        ∧ t.testFrom = s.testFrom ∧ t.held = s.held ∧ t.holdRelease = s.holdRelease ∧ t.ctxWin = s.ctxWin
        ∧ t.tagCap = s.tagCap ∧ t.clears = s.clears ∧ t.beam = s.beam ∧ t.beamCtx = s.beamCtx ∧ t.beamClear = s.beamClear
        ∧ t.ingressPtr = s.ingressPtr ∧ t.awlStep = s.awlStep ∧ t.awlLfsr = s.awlLfsr ∧ t.flash.otp = s.flash.otp
        ∧ s.out <+: t.out)
    ∧ (s.mode = .safe → t.mode = .safe ∧ t.ledger = s.ledger ∧ t.dram = s.dram ∧ t.tags = s.tags ∧ t.ports = s.ports
        ∧ t.chs = s.chs ∧ t.media = s.media)
    ∧ (s.mode = .reset → s.start = .off → s.flt.raised = [] → t = s)

/-! ### Service: channels, marks, repairs, images, burns -/

/-- Commands of CH_STATE outside RESET. One that the mode, a transition in progress or the table of R468 forbids sets
REFUSED and is counted, and nothing else changes. A permitted one: FENCE of an ONLINE channel starts FENCING, or waits
where a frequency change is under way; SERVICE, RETRAIN, RETURN and RETIRE bring the channel to their states, RETURN
with its sweep from set 0 and its arbiters unfrozen, POWER_OFF with the modules' power and lines gone; DISCARD of an
UNCLEAN channel gives up its tags and keeps every line of DRAM. -/
def Obligations.ChannelCommands : Prop :=
  ∀ (c : ChanId) (s : State), s.wf = true → s.mode ≠ .reset →
    (∀ x ∈ [(Instr.chFence, ChCmd.fence), (.chService, .service false), (.chServicePowerOff, .service true),
        (.chRetrain, .retrain), (.chReturn, .ret), (.chRetire, .retire), (.chDiscard, .discard)],
      (s.modeNow.noChCmd = true ∨ chBusy s c = true ∨ chAllowed s c x.2 = false) → ∃ t, exec (x.1 c) s = .next (settle t)
        ∧ t.flag Fld.chStateRefused c.val = true ∧ t.rd Reg.svcCntRefused.at = satAdd32 (s.rd Reg.svcCntRefused.at) 1
        ∧ { t with regs := s.regs, evq := s.evq } = s ∧ WordsKept s t [Reg.chState.at c.val, Reg.svcCntRefused.at])
    ∧ (s.modeNow.noChCmd = false → chBusy s c = false →
      (s.chs[c].st = .online → ∃ t, exec (.chFence c) s = .next (settle t)
          ∧ (s.chs[c].freq = .none → s.retiring = [] → t.chs[c].st = .fencing
              ∧ t.rd (Reg.chCntFence.at c.val) = satAdd32 (s.rd (Reg.chCntFence.at c.val)) 1)
          ∧ (s.chs[c].freq ≠ .none → t.chs[c].st = .online ∧ t.chs[c].fencePend = 1)
          ∧ t.flag Fld.chStateRefused c.val = false ∧ DataKept s t ∧ t.ledger = s.ledger ∧ OtherChannels s t c)
      ∧ (chAllowed s c (.service false) = true → ∃ t, exec (.chService c) s = .next (settle t) ∧ t.chs[c].st = .service
          ∧ t.chs[c].trained = false ∧ DataKept s t ∧ t.ledger = s.ledger ∧ OtherChannels s t c)
      ∧ (chAllowed s c (.service true) = true → ∃ t, exec (.chServicePowerOff c) s = .next (settle t)
          ∧ t.chs[c].st = .service ∧ t.chs[c].trained = false ∧ OtherChannels s t c
          ∧ (s.chs[c].st = .fenced → t.chs[c].powered = false ∧ t.flag Fld.phyStatusDimmPwr c.val = false
              ∧ ∀ k, kGet 0 t.dram k = if k / 2 ^ 34 = c.val then 0 else kGet 0 s.dram k))
      ∧ (chAllowed s c .retrain = true → ∃ t, exec (.chRetrain c) s = .next (settle t) ∧ t.chs[c].st = .retrain
          ∧ t.rd (Reg.chCntRetrain.at c.val) = satAdd32 (s.rd (Reg.chCntRetrain.at c.val)) 1
          ∧ t.fld Fld.chRetrainCount c.val = min (s.fld Fld.chRetrainCount c.val + 1) 15
          ∧ DataKept s t ∧ t.ledger = s.ledger)
      ∧ (chAllowed s c .ret = true → ∃ t, exec (.chReturn c) s = .next (settle t) ∧ t.chs[c].st = .returning
          ∧ (s.chs[c].st = .fenced → t.flag Fld.tierSweepActive c.val = true ∧ t.fld Fld.tierSweepFrontier c.val = 0
              ∧ t.flag Fld.chArbCtlFreeze c.val = false ∧ t.flag Fld.chArbCtlFreezeData c.val = false)
          ∧ DataKept s t ∧ t.ledger = s.ledger ∧ OtherChannels s t c)
      ∧ (chAllowed s c .retire = true → ∃ t, exec (.chRetire c) s = .next (settle t) ∧ t.chs[c].st = .retired
          ∧ t.chs[c].trained = false ∧ { kind := LogKind.journal, body := [Jr.retire, c.val] } ∈ t.flash.log ∧ OtherChannels s t c)
      ∧ (s.chs[c].unclean = true → ∃ t, exec (.chDiscard c) s = .next (settle t) ∧ t.chs[c].unclean = false
          ∧ t.chs[c].st = s.chs[c].st ∧ t.dram = s.dram ∧ OtherChannels s t c
          ∧ ∀ k, t.tagK k = if k / 2 ^ 28 = c.val then { retired := (s.tagK k).retired } else s.tagK k))

/-- Timers of a channel. A fence in FENCING is warned of once, unless FENCE_WARN is 0; the window of 24 hours takes the
count of RETRAINs back to 0; released end taps of an ONLINE channel fence it by the policy's rule for RETRAIN. -/
def Obligations.ChannelTimers : Prop :=
  ∀ (c : ChanId) (s : State), s.wf = true →
    (s.chs[c].st = .fencing → s.chs[c].fenceWarned = false → s.fld Fld.svcPolicyFenceWarn ≠ 0 →
        ∃ t, exec (.fenceSlowWarn c) s = .next (settle t) ∧ t.chs[c].fenceWarned = true ∧ OtherChannels s t c
          ∧ t.evq.stage.length = s.evq.stage.length + 1 ∧ { t with chs := s.chs, evq := s.evq } = s)
    ∧ ((s.chs[c].st ≠ .fencing ∨ s.chs[c].fenceWarned = true ∨ s.fld Fld.svcPolicyFenceWarn = 0) →
        exec (.fenceSlowWarn c) s = .next (settle s))
    ∧ (s.mode ≠ .reset → ∃ t, exec (.retrainWindowEnd c) s = .next (settle t) ∧ t.fld Fld.chRetrainCount c.val = 0
        ∧ WordsKept s t [Reg.chRetrain.at c.val] ∧ OtherChannels s t c ∧ { t with regs := s.regs, chs := s.chs } = s)
    ∧ (s.modeNow.noChCmd = false → s.chs[c].st = .online → s.flag Fld.svcPolicyRetrainEndtap = true →
        s.fld Fld.phyEndtapReleased c.val ≠ 0 → s.chs[c].freq = .none → s.retiring = [] →
        ∃ t, exec (.endtapRetrainTimer c) s = .next (settle t) ∧ t.chs[c].st = .fencing ∧ t.chs[c].plan = 1
          ∧ DataKept s t ∧ t.ledger = s.ledger ∧ OtherChannels s t c)
    ∧ ((s.modeNow.noChCmd = true ∨ s.chs[c].st ≠ .online ∨ s.flag Fld.svcPolicyRetrainEndtap = false) →
        exec (.endtapRetrainTimer c) s = .next (settle s))

/-- Commands of CH_SVC outside RESET, where the channel takes them: MARK marks the device of a rank that may be marked and
journals it; UNMARK gives up a rank's mark; PPR_SOFT puts the row of CH_SVC_ROW first among those to repair; PPR_HARD
begins the repair while its bank group has a free resource, and is counted as impossible otherwise. Where the channel
does not take one, REFUSED is set and counted and nothing else changes. -/
def Obligations.MarksAndRepairs : Prop :=
  ∀ (c : ChanId) (w : Word) (s : State), s.wf = true → s.mode ≠ .reset → let r := Fld.chSvcRank.of w
    (svcOpen s c = true →
      (mayMark s c r = true → ∃ t, exec (.chMark c w) s = .next (settle t) ∧ t.fld (Fld.chMarkValid r) c.val = 1
          ∧ t.fld (Fld.chMarkDev r) c.val = Fld.chSvcDev.of w
          ∧ t.flash.log = s.flash.log ++ [{ kind := LogKind.journal, body := [Jr.mark, c.val, r, Fld.chSvcDev.of w] }]
          ∧ WordsKept s t [Reg.chSvc.at c.val, Reg.chMark.at c.val, Reg.chState.at c.val]
          ∧ { t with regs := s.regs, evq := s.evq, flash := s.flash } = s)
      ∧ ((s.chs[c].st = .fenced ∨ s.chs[c].st = .service) → ∃ t, exec (.chUnmark c w) s = .next (settle t)
          ∧ t.fld (Fld.chMarkValid r) c.val = 0
          ∧ t.flash.log = s.flash.log ++ (if s.fld (Fld.chMarkValid r) c.val = 0 then []
              else [{ kind := LogKind.journal, body := [Jr.unmark, c.val, r] }])
          ∧ WordsKept s t [Reg.chSvc.at c.val, Reg.chMark.at c.val, Reg.chState.at c.val]
          ∧ { t with regs := s.regs, flash := s.flash } = s)
      ∧ (softAble s = true → pprState s c = true → ∃ t, exec (.chPprSoft c w) s = .next (settle t)
          ∧ t.chs[c].pprWant = svcRow s c :: s.chs[c].pprWant.erase (svcRow s c) ∧ OtherChannels s t c
          ∧ WordsKept s t [Reg.chSvc.at c.val, Reg.chState.at c.val] ∧ { t with regs := s.regs, chs := s.chs } = s)
      ∧ (s.chs[c].st = .service → s.chs[c].powered = true → ∃ t, exec (.chPprHard c w) s = .next (settle t)
          ∧ (kGet 0 s.chs[c].pprFree (pprGroup s c (svcRow s c)) ≠ 0 → t.chs[c].ppr = 7 ∧ t.chs[c].pprLoc = some (svcRow s c))
          ∧ (kGet 0 s.chs[c].pprFree (pprGroup s c (svcRow s c)) = 0 → t.chs = s.chs
              ∧ t.rd (Reg.chCntPprNone.at c.val) = satAdd32 (s.rd (Reg.chCntPprNone.at c.val)) 1)
          ∧ OtherChannels s t c ∧ { t with regs := s.regs, chs := s.chs, evq := s.evq } = s))
    ∧ (∀ x ∈ [(Instr.chMark c w, mayMark s c r),
          (.chUnmark c w, s.chs[c].st == .fenced || s.chs[c].st == .service),
          (.chPprSoft c w, softAble s && pprState s c), (.chPprHard c w, s.chs[c].st == .service && s.chs[c].powered)],
        (svcOpen s c && x.2) = false → ∃ t, exec x.1 s = .next (settle t) ∧ t.flag Fld.chStateRefused c.val = true
          ∧ t.rd Reg.svcCntRefused.at = satAdd32 (s.rd Reg.svcCntRefused.at) 1
          ∧ WordsKept s t [Reg.chSvc.at c.val, Reg.chState.at c.val, Reg.svcCntRefused.at]
          ∧ { t with regs := s.regs, evq := s.evq } = s)

/-- Images loaded in service, outside RESET. An image of the copy that fits the running images waits: PSEQ's for its
boundary, TSEQ's for the boundary of each channel that IMG_CTL names, but for a FENCED channel outside TRAIN, which
takes it at once. One that does not fit is refused with its code, and nothing is staged. -/
def Obligations.ImagesLoad : Prop :=
  ∀ (w : Word) (s : State), s.wf = true → s.mode ≠ .reset →
    (∀ (r : Nat) (im : Nat × Nat), tseqRev s = some r → imageOf s (imgRecords s w) 0x11 (some r) = .inl im →
        ∃ t, exec (.imgLoadPseq w) s = .next (settle t) ∧ t.pseqStaged = some im ∧ t.flag Fld.imgStatusStaged = true
          ∧ t.flag Fld.imgStatusBusy = true ∧ t.flag Fld.imgStatusRefused = false
          ∧ WordsKept s t [Reg.imgCtl.at, Reg.imgStatus.at] ∧ { t with regs := s.regs, pseqStaged := s.pseqStaged } = s)
    ∧ (∀ code : Nat, ((tseqRev s = none ∧ code = 3)
          ∨ ∃ r, tseqRev s = some r ∧ imageOf s (imgRecords s w) 0x11 (some r) = .inr code) →
        ∃ t, exec (.imgLoadPseq w) s = .next (settle t) ∧ t.flag Fld.imgStatusRefused = true
          ∧ t.fld Fld.imgStatusCode = code % 16 ∧ t.rd Reg.svcCntImgRefused.at = satAdd32 (s.rd Reg.svcCntImgRefused.at) 1
          ∧ WordsKept s t [Reg.imgCtl.at, Reg.imgStatus.at, Reg.svcCntImgRefused.at]
          ∧ { t with regs := s.regs, evq := s.evq } = s)
    ∧ (∀ v rev : Nat, imageOf s (imgRecords s w) 0x10 (some (s.fld Fld.imgPseqVerIfrev)) = .inl (v, rev) →
        v < 2 ^ 16 → rev < 256 → ∃ t, exec (.imgLoadTseq w) s = .next (settle t)
          ∧ (∀ c : ChanId, getBits w (16 + c.val) 1 = 1 → (s.chs[c].st ≠ .fenced ∨ s.mode = .train) →
              kFind t.tseqStaged c.val = some (v + rev * 2 ^ 16) ∧ t.flag Fld.imgTseqVerPending c.val = true)
          ∧ (∀ c : ChanId, getBits w (16 + c.val) 1 = 1 → s.chs[c].st = .fenced → s.mode ≠ .train →
              t.fld Fld.imgTseqVerVersion c.val = v ∧ t.fld Fld.imgTseqVerIfrev c.val = rev
                ∧ t.flag Fld.imgTseqVerPending c.val = false)
          ∧ (∀ c : ChanId, getBits w (16 + c.val) 1 = 0 →
              t.rd (Reg.imgTseqVer.at c.val) = s.rd (Reg.imgTseqVer.at c.val))
          ∧ t.chs = s.chs ∧ DataKept s t ∧ t.ledger = s.ledger)
    ∧ (∀ code : Nat, imageOf s (imgRecords s w) 0x10 (some (s.fld Fld.imgPseqVerIfrev)) = .inr code →
        ∃ t, exec (.imgLoadTseq w) s = .next (settle t) ∧ t.flag Fld.imgStatusRefused = true
          ∧ t.tseqStaged = s.tseqStaged ∧ t.rd Reg.svcCntImgRefused.at = satAdd32 (s.rd Reg.svcCntImgRefused.at) 1)

/-- OTP burns outside RESET. A burn of an unlocked record with a free slot, in a mode that takes it and with none in
progress, begins on the lowest slot above every used one; another is refused, and nothing burns. Its end programs the
slot, each bit only ever set, or, where the read-back failed, sets FAIL and leaves the slot used; without a burn nothing
happens. -/
def Obligations.OtpBurns : Prop :=
  (∀ x ∈ [(Instr.burnSram, 3), (.burnLane, 4)], ∀ s : State, s.wf = true → s.mode ≠ .reset →
    (s.modeNow.noChCmd = false → s.flash.burn = none → otpFree s x.2 ≠ 0 → otpLocked s x.2 = false →
      ∃ t l, exec x.1 s = .next (settle t) ∧ t.flash.burn = some (x.2, 4 - otpFree s x.2, l)
        ∧ t.flag Fld.otpStatusBusy = true ∧ t.flag Fld.otpStatusRefused = false ∧ DataKept s t ∧ t.ledger = s.ledger)
    ∧ ((s.modeNow.noChCmd = true ∨ s.flash.burn.isSome = true ∨ otpFree s x.2 = 0 ∨ otpLocked s x.2 = true) →
      ∃ t, exec x.1 s = .next (settle t) ∧ t.flag Fld.otpStatusRefused = true ∧ t.flash = s.flash
        ∧ WordsKept s t [Reg.otpStatus.at]))
  ∧ (∀ (w : Word) (s : State), s.wf = true → s.mode ≠ .reset → let k := Fld.otpCtlRecord.of w
      (s.modeNow.noChCmd = false → s.flash.burn = none → k < 7 → otpFree s k ≠ 0 → otpLocked s k = false →
        ∃ t l, exec (.otpBurn w) s = .next (settle t) ∧ t.flash.burn = some (k, 4 - otpFree s k, l)
          ∧ t.flag Fld.otpStatusBusy = true ∧ t.flag Fld.otpStatusRefused = false ∧ DataKept s t ∧ t.ledger = s.ledger)
      ∧ ((s.modeNow.noChCmd = true ∨ s.flash.burn.isSome = true ∨ k = 7 ∨ otpFree s k = 0 ∨ otpLocked s k = true) →
        ∃ t, exec (.otpBurn w) s = .next (settle t) ∧ t.flag Fld.otpStatusRefused = true ∧ t.flash = s.flash
          ∧ WordsKept s t [Reg.otpCtl.at, Reg.otpStatus.at]))
  ∧ (∀ (k slot : Nat) (l : List (BitVec 8)) (s : State), s.wf = true → s.flash.burn = some (k, slot, l) →
      let a := (otpPlace k).1 + slot * (otpPlace k).2
      (∃ t, exec (.otpBurnDone true) s = .next (settle t) ∧ t.flash.burn = none ∧ t.flag Fld.otpStatusBusy = false
        ∧ (∀ i, kGet 0 t.flash.otp i
            = if a ≤ i ∧ i < a + l.length then kGet 0 s.flash.otp i ||| l.getD (i - a) 0 else kGet 0 s.flash.otp i)
        ∧ t.rd Reg.otpCntBurn.at = satAdd32 (s.rd Reg.otpCntBurn.at) 1)
      ∧ (∃ t, exec (.otpBurnDone false) s = .next (settle t) ∧ t.flash.burn = none ∧ t.flag Fld.otpStatusBusy = false
        ∧ t.flag Fld.otpStatusFail = true ∧ t.flash.otp = s.flash.otp ∧ otpSlotUsed t k slot = true))
  ∧ (∀ (ok : Bool) (s : State), s.flash.burn = none → exec (.otpBurnDone ok) s = .next (settle s))

/-! ### Faults, SAFE and RECOVER -/

/-- What the collector does with an error of a source that is not in error yet, outside a held reset: the pair reads error,
its history bit is set, the counter of its class counts; a fatal one outside RESET, SAFE and RECOVER enters SAFE with
SAFE_n low, one in SAFE is merged, and one in RECOVER returns there. A source in error already shows nothing new. -/
def Obligations.CollectorTakesErrors : Prop :=
  ∀ (src : Fin 96) (s : State), s.wf = true →
    (s.inError src.val = true → collectOne s src.val = s)
    ∧ (s.inError src.val = false → (s.mode ≠ .reset ∨ pairsHeld s = false) → let t := collectOne s src.val
      t.flt.err.getLsbD src.val = true ∧ getBits (t.rd (Reg.fltHist.at (src.val / 32))) (src.val % 32) 1 = 1
        ∧ (faultClass src.val = .corrected → t.rd Reg.fltCntCorr.at = satAdd32 (s.rd Reg.fltCntCorr.at) 1
            ∧ t.mode = s.mode ∧ t.ledger = s.ledger ∧ t.ports = s.ports ∧ t.chs = s.chs)
        ∧ (faultClass src.val = .contained → t.rd Reg.fltCntCont.at = satAdd32 (s.rd Reg.fltCntCont.at) 1
            ∧ t.mode = s.mode ∧ t.ledger = s.ledger ∧ t.ports = s.ports ∧ t.chs = s.chs)
        ∧ (faultClass src.val = .fatal → t.rd Reg.fltCntFatal.at = satAdd32 (s.rd Reg.fltCntFatal.at) 1
            ∧ (s.modeNow ≠ .reset → t.mode = .safe)
            ∧ (s.modeNow ≠ .reset → s.modeNow ≠ .safe → s.modeNow ≠ .recover → t.prev = s.mode ∧ t.resume = s.mode
                ∧ t.pins.safeN = false ∧ t.media.st = .stopped))
        ∧ (s.modeNow = .safe → t.rd Reg.fltCntMerged.at = satAdd32 (s.rd Reg.fltCntMerged.at) 1)
        ∧ DataKept s t)

/-- The pairs of the sources. An error reported outside a held reset reaches the collector, with what it names; a break is
recorded, counted and raises source 95; a clear ends the error of a source that no cause and no force holds. The net's
breaks report source 95, and a channel's island its own source. SAFE by software is source 94, a stage group that hangs
source 90. Forces outside RESET: a write of a force register sets and clears its bits, but sets none of a fatal source
while FATAL_ARM is 0; FATAL_ARM is as written. A force bit that acts from now on on a pair not in error puts it into
error. -/
def Obligations.FaultPairsAndForces : Prop :=
  ((∀ (src : Fin 96) (named : Option Nat) (s : State), s.wf = true →
      ((s.mode ≠ .reset ∨ pairsHeld s = false) →
          ∃ t l, exec (.faultPairError src named) s = .next (settle t) ∧ t.flt.raised = l ++ [(src.val, named)]
            ∧ (faultClass src.val = .corrected → named = none → s.inError src.val = true → t.ledger = s.ledger
                ∧ t.chs = s.chs ∧ t.ports = s.ports ∧ DataKept s t))
      ∧ (s.mode = .reset → pairsHeld s = true → exec (.faultPairError src named) s = .next (settle s)))
    ∧ (∀ (src : Fin 96) (s : State), s.wf = true →
      (s.flt.broken.getLsbD src.val = false → (s.mode ≠ .reset ∨ pairsHeld s = false) →
          ∃ t, exec (.faultPairBroken src) s = .next (settle t) ∧ t.flt.broken.getLsbD src.val = true
            ∧ t.rd Reg.fltCntBroken.at = satAdd32 (s.rd Reg.fltCntBroken.at) 1 ∧ t.inError 95 = true)
      ∧ (src.val ≠ 63 → causeHolds { s with flt := { s.flt with broken := s.flt.broken &&& ~~~(1#96 <<< src.val) } } src.val = false →
          forceActs s src.val = false →
          ∃ t, exec (.faultPairClear src) s = .next (settle t) ∧ t.inError src.val = false ∧ { t with flt := s.flt } = s))
    ∧ (∀ (island : Fin 26) (s : State), s.mode ≠ .reset →
      (16 ≤ island.val → exec (.safeNetBroken island) s = .next (settle (s.report 95)))
      ∧ (∀ c : ChanId, island.val = c.val → s.inError (42 + c.val) = false → s.chs[c].st = .online →
          ∃ t l, exec (.safeNetBroken island) s = .next (settle t) ∧ t.flt.raised = l ++ [(42 + c.val, none)]
            ∧ (95, none) ∈ l ∧ t.chs[c].st = .fenced))
    ∧ (∀ s : State, (s.mode ≠ .reset → exec .softwareSafe s = .next (settle (s.report 94)))
        ∧ (s.mode = .reset → exec .softwareSafe s = .next (settle s)))
    ∧ (∀ (g : Fin 64) (s : State),
        exec (.stageHangTimeout g) s = .next (settle (if g.val < 61 then s.report 90 else s))))
  ∧ ((∀ (i : Fin 3) (w : Word) (s : State), s.wf = true → s.mode ≠ .reset →
      ∃ t, exec (.fltForceWrite i w) s = .next (settle t)
        ∧ (∀ j : Fin 32, (t.rd (Reg.fltForce.at i.val)).getLsbD j.val = (w.getLsbD j.val
            && (faultClass (32 * i.val + j.val) != .fatal || s.flag Fld.fltCtlFatalArm
                || (s.rd (Reg.fltForce.at i.val)).getLsbD j.val)))
        ∧ (∀ j : Fin 32, w.getLsbD j.val = true → faultClass (32 * i.val + j.val) ≠ .fatal → forced s (32 * i.val + j.val) = false →
            t.inError (32 * i.val + j.val) = true)
        ∧ (w = s.rd (Reg.fltForce.at i.val) → { t with regs := s.regs } = s))
    ∧ (∀ (v : Bool) (s : State), s.wf = true → s.mode ≠ .reset →
      ∃ t, exec (.fltFatalArm v) s = .next (settle t) ∧ t.flag Fld.fltCtlFatalArm = v
        ∧ ((∀ src : Fin 96, forced s src.val = false) → OnlyWords s t [Reg.fltCtl.at]))
    ∧ (∀ (i : Fin 3) (w : Word) (v : Bool) (s : State), s.mode = .reset → exec (.fltForceWrite i w) s = .next (settle s)
        ∧ exec (.fltFatalArm v) s = .next (settle s)))

/-- The end of an episode. The quiet timer's end leads from SAFE to RECOVER, or holds SAFE until a reset where it was
entered from HOLDUP or the episodes exceed the limit; while the timer does not run nothing happens. The end of the
relock restarts the arbiters, and takes the mode up again, as RECOVER until the kept entries are completed where that
mode has a ledger. Then SAFE_n is high again and the mode is the one in which SAFE was entered. -/
def Obligations.EpisodeEnds : Prop :=
  ∀ s : State, s.wf = true →
    (quietRuns s = true → s.warmFlush = false → s.flt.fromHoldup = false → episodesIn s ≤ s.fld Fld.fltRlimitLimit →
        ∃ t, exec .quietPeriodEnd s = .next (settle t) ∧ t.mode = .recover ∧ t.prev = .safe ∧ t.held = false
          ∧ t.ledger = s.ledger ∧ t.chs = s.chs ∧ DataKept s t)
    ∧ (quietRuns s = true → s.warmFlush = false → (s.flt.fromHoldup = true ∨ s.fld Fld.fltRlimitLimit < episodesIn s) →
        ∃ t, exec .quietPeriodEnd s = .next (settle t) ∧ t.held = true
          ∧ t.flag Fld.fltEpisodeHeldHoldup = s.flt.fromHoldup
          ∧ t.flag Fld.fltEpisodeHeldLimit = decide (s.fld Fld.fltRlimitLimit < episodesIn s)
          ∧ WordsKept s t [Fld.fltEpisodeHeldHoldup.reg.at] ∧ { t with regs := s.regs, evq := s.evq, held := s.held } = s)
    ∧ ((quietRuns s = false ∨ s.warmFlush = true) → exec .quietPeriodEnd s = .next (settle s))
    ∧ (∀ (ok : BitVec 16) (lost : List Nat),
      (s.mode = .recover → s.warmFlush = false → keepsLedger s.resume = true →
        ∃ t, exec (.recoverRelockDone ok lost) s = .next (settle t) ∧ t.mode = s.resume ∧ t.modeNow = .recover
          ∧ t.ingressPtr = 1 ∧ t.media.ptr = 1 ∧ (∀ c : ChanId, t.chs[c].cmdPtr = 1 ∧ t.chs[c].busPtr = 1 ∧ t.chs[c].busNext = []))
      ∧ ((s.mode ≠ .recover ∨ s.warmFlush = true) → exec (.recoverRelockDone ok lost) s = .next (settle s)))
    ∧ (s.flt.finishing = true → s.warmFlush = false → keptOpen s = false → s.pins.holdupReq = false →
        keepsLedger s.resume = true → let t := recoverTurn s
        t.mode = s.resume ∧ t.flt.finishing = false ∧ t.pins.safeN = true ∧ t.dram = s.dram)

/-! ### SRAM test -/

/-- The background test goes through its phases, one command each: the start of the next region drains it, a drained one is
saved, a saved one is borrowed and tested, a tested one is restored, and a restored one is released and counted. An
access to a borrowed region is redirected and counted, and abandons the test; a region that does not drain is left. A
command that the phase does not wait for changes nothing. March tests on request and group copies. A request outside
RESET that the block mode, another test, the group's own service or the want of a spare group forbids is refused; a
permitted one begins, with both BUSY bits. A clean result sets PASS and ends the test, or begins the copy back of a
preserving one. The end of a replacement's copy puts the spare in service of its group, and is counted. -/
def Obligations.SramTests : Prop :=
  (∀ s : State, s.wf = true →
      (bgtRuns s = true → s.sram.urgent = [] → let n := freeRegion s 128 s.sram.bgtNext
        n < allRegions → ∃ t, exec .bgtRegionStart s = .next (settle t) ∧ bgtIs t 1 = true
          ∧ t.fld Fld.sramBgtPosArray = (regionOf n).1 ∧ t.fld Fld.sramBgtPosRegion = (regionOf n).2
          ∧ t.sram.bgtNext = n + 1 ∧ t.flag Fld.sramStatusBgtActive = true ∧ t.flag Fld.sramStatusBorrowed = false
          ∧ WordsKept s t [Reg.sramBgtPos.at, Reg.sramStatus.at] ∧ { t with regs := s.regs, sram := s.sram } = s)
      ∧ (bgtRuns s = false → exec .bgtRegionStart s = .next (settle s))
      ∧ (bgtIs s 1 = true → (∃ t, exec .bgtRegionDrained s = .next (settle t) ∧ bgtIs t 2 = true ∧ s.ledger <+: t.ledger
            ∧ WordsKept s t [Reg.sramBgtPos.at, Reg.sramStatus.at] ∧ DataKept s t)
          ∧ (∃ t, exec .bgtDrainTimeout s = .next (settle t) ∧ bgtIs t 0 = true ∧ t.flag Fld.sramStatusBgtActive = false
            ∧ (kGet 0 s.sram.retry (regionNow s) + 1 < s.fld Fld.sramBgtCtlAbandonMax →
                kGet 0 t.sram.retry (regionNow s) = kGet 0 s.sram.retry (regionNow s) + 1)
            ∧ DataKept s t ∧ t.ledger = s.ledger))
      ∧ (bgtIs s 2 = true → ∃ t, exec .bgtSaveDone s = .next (settle t) ∧ bgtIs t 3 = true
            ∧ t.flag Fld.sramStatusBorrowed = true ∧ OnlyWords s t [Reg.sramBgtPos.at, Reg.sramStatus.at])
      ∧ (bgtIs s 3 = true → (∀ r : MarchRes, ∃ t, exec (.bgtTestDone r) s = .next (settle t) ∧ bgtIs t 4 = true
              ∧ t.flag Fld.sramStatusBorrowed = true ∧ (r = .pass → OnlyWords s t [Reg.sramBgtPos.at, Reg.sramStatus.at])
              ∧ DataKept s t ∧ t.ledger = s.ledger)
          ∧ (∃ t, exec .bgtRedirect s = .next (settle t) ∧ bgtIs t 4 = true ∧ t.sram.abandoned = true
            ∧ t.rd Reg.sramCntRedirect.at = satAdd32 (s.rd Reg.sramCntRedirect.at) 1
            ∧ t.rd Reg.sramCntBgtAbandon.at = satAdd32 (s.rd Reg.sramCntBgtAbandon.at) 1 ∧ DataKept s t ∧ t.ledger = s.ledger))
      ∧ (bgtIs s 4 = true → (∃ t, exec .bgtRestoreDone s = .next (settle t) ∧ bgtIs t 0 = true
              ∧ t.flag Fld.sramStatusBgtActive = false ∧ t.flag Fld.sramStatusBorrowed = false
              ∧ (s.sram.abandoned = false →
                  t.rd Reg.sramCntBgtRegion.at = satAdd32 (s.rd Reg.sramCntBgtRegion.at) 1)
              ∧ DataKept s t ∧ t.ledger = s.ledger)
          ∧ (∃ t, exec .bgtRedirect s = .next (settle t) ∧ t.rd Reg.sramCntRedirect.at = satAdd32 (s.rd Reg.sramCntRedirect.at) 1
            ∧ OnlyWords s t [Reg.sramCntRedirect.at]))
      ∧ (∀ r : MarchRes, bgtIs s 1 = false ∧ bgtIs s 2 = false ∧ bgtIs s 3 = false ∧ bgtIs s 4 = false →
          ∀ c ∈ [Instr.bgtRegionDrained, .bgtDrainTimeout, .bgtSaveDone, .bgtTestDone r, .bgtRestoreDone, .bgtRedirect],
            exec c s = .next (settle s)))
  ∧ (∀ s : State, s.wf = true →
      (∀ w : Word, s.mode ≠ .reset → let g := Fld.sramMtCtlGroup.of w
        let keep := Fld.sramMtCtlPreserve.of w == 1
        let no := s.mode == .holdup || s.mode == .safe || s.modeNow == .recover || s.sram.march.isSome || s.sram.copying.isSome
          || !s.sram.waiting.isEmpty || !marchMode s g keep || (keep && (freeGroup s).isNone)
        (no = true → ∃ t, exec (.sramMarchTest w) s = .next (settle t) ∧ t.flag Fld.sramMtStatusRefused = true
            ∧ WordsKept s t [Reg.sramMtCtl.at, Reg.sramMtStatus.at] ∧ { t with regs := s.regs, evq := s.evq } = s)
        ∧ (no = false → ∃ t, exec (.sramMarchTest w) s = .next (settle t) ∧ t.sram.march = some (g, keep)
            ∧ t.flag Fld.sramMtStatusBusy = true ∧ t.flag Fld.sramStatusMtBusy = true ∧ t.flag Fld.sramMtStatusRefused = false
            ∧ t.rd Reg.sramCntMtRun.at = satAdd32 (s.rd Reg.sramCntMtRun.at) 1 ∧ (keep = true → t.sram.marchStep = 1)
            ∧ { t with regs := s.regs, sram := s.sram, pins := s.pins } = s))
      ∧ (∀ (g : Nat) (keep : Bool), s.sram.march = some (g, keep) → s.sram.atStart = false →
          (keep = true → s.sram.marchStep = 2) → ∃ t, exec (.sramMarchDone .pass) s = .next (settle t)
            ∧ t.flag Fld.sramMtStatusPass = true ∧ t.flag Fld.sramMtStatusFail = false ∧ t.flag Fld.sramMtStatusBusy = false
            ∧ t.sram.march = (if keep then some (g, keep) else none) ∧ (keep = true → t.sram.marchStep = 3)
            ∧ WordsKept s t [Reg.sramMtStatus.at, Reg.sramStatus.at] ∧ { t with regs := s.regs, evq := s.evq, sram := s.sram } = s)
      ∧ (∀ r : MarchRes, s.sram.march = none → exec (.sramMarchDone r) s = .next (settle s))
      ∧ (∀ g n : Nat, s.sram.march = none → s.sram.copying = some (g, n) → ∃ t, exec .sramGroupCopyDone s = .next (settle t)
            ∧ t.sram.copying = none ∧ kFind t.sram.replaced g = some n ∧ t.flag Fld.sramStatusCopying = false
            ∧ t.rd Reg.svcCntGroup.at = satAdd32 (s.rd Reg.svcCntGroup.at) 1
            ∧ DataKept s t ∧ t.ledger = s.ledger ∧ t.chs = s.chs)
      ∧ (s.sram.march = none → s.sram.copying = none → exec .sramGroupCopyDone s = .next (settle s)))

/-! ### Flash and log -/

/-- Raw flash operations outside RESET. A permitted read, program or erase becomes the operation in progress with BUSY; one
that is not, and op code 3, sets REFUSED and starts nothing. The end of a read loads LF_BUF, of a program clears the
bits that its data have clear, of an erase leaves ones; a failed or late operation is counted and sets ERR, and the
third failure in a row stops the interface. A rescan shows what the two copies are. The flash log. A commit ends the
update in progress: its COMMIT is programmed, the record's content is the one that the update leaves, and the update
leaves the queue; without one nothing happens. The timers queue the lifetime record while time runs, and the calibration
summary of the channels that are due, where the log takes records. -/
def Obligations.FlashAndLog : Prop :=
  (∀ s : State, s.wf = true →
      (∀ (w : Word), s.mode ≠ .reset → let n := Fld.lfXferLen.of w + 1
        let a := (s.rd Reg.lfAddr.at).toNat
        let open_ := s.flag Fld.lfInfoFound && !s.inError 83 && (s.flash.op == none || s.flash.op == some .log)
        ∀ x ∈ [(Instr.lfXferRead w, open_, FlashOp.rawRead a n),
            (.lfXferProgram w, open_ && rawMayWrite s 1 a n, .rawProgram a (lfBufBytes s n)),
            (.lfXferErase w, open_ && rawMayWrite s 2 a 4096, .rawErase a), (.lfXferOp3 w, false, .log)],
          (x.2.1 = true → ∃ t, exec x.1 s = .next (settle t) ∧ t.flash = { s.flash with op := some x.2.2 }
            ∧ t.flag Fld.lfStatusBusy = true ∧ t.flag Fld.lfStatusErr = false ∧ t.flag Fld.lfStatusRefused = false
            ∧ WordsKept s t [Reg.lfXfer.at, Reg.lfStatus.at] ∧ { t with regs := s.regs, flash := s.flash } = s)
          ∧ (x.2.1 = false → ∃ t, exec x.1 s = .next (settle t) ∧ t.flag Fld.lfStatusRefused = true
            ∧ WordsKept s t [Reg.lfXfer.at, Reg.lfStatus.at] ∧ { t with regs := s.regs, evq := s.evq } = s))
      ∧ (s.flash.writing = false →
        (∀ a n : Nat, s.flash.op = some (.rawRead a n) → n ≤ 256 → ∃ t, exec (.flashOpDone true) s = .next (settle t)
            ∧ lfBufBytes t n = flashBytes s a n ∧ t.flash.op = none ∧ t.flag Fld.lfStatusBusy = false ∧ DataKept s t)
        ∧ (∀ (a : Nat) (l : List (BitVec 8)), s.flash.op = some (.rawProgram a l) →
            ∃ t, exec (.flashOpDone true) s = .next (settle t) ∧ t.flash.op = none ∧ t.flag Fld.lfStatusBusy = false
              ∧ ∀ j, flashByte t j = if a ≤ j ∧ j < a + l.length then flashByte s j &&& l.getD (j - a) 0xFF else flashByte s j)
        ∧ (∀ a : Nat, s.flash.op = some (.rawErase a) → ∃ t, exec (.flashOpDone true) s = .next (settle t)
              ∧ t.flash.op = none ∧ t.flag Fld.lfStatusBusy = false
              ∧ ∀ j, flashByte t j = if a ≤ j ∧ j < a + 4096 then 0xFF else flashByte s j)
        ∧ (∀ (a : Nat) (l : List (BitVec 8)), ∀ c ∈ [Instr.flashOpDone false, .flashOpTimeout],
            (s.flash.op = some (.rawProgram a l) ∨ s.flash.op = some (.rawErase a)) →
            ∃ t, exec c s = .next (settle t) ∧ t.flash.op = none ∧ t.flag Fld.lfStatusErr = true
              ∧ t.rd Reg.flCntErr.at = satAdd32 (s.rd Reg.flCntErr.at) 1 ∧ t.flash.failRun = s.flash.failRun + 1
              ∧ (2 ≤ s.flash.failRun → (83, none) ∈ t.flt.raised ∧ t.flag Fld.lfStatusStopped = true ∧ t.flash.log = [])
              ∧ (s.flash.failRun < 2 → t.flt = s.flt ∧ t.flash.log = s.flash.log))
        ∧ (s.flash.op = none → exec (.flashOpDone true) s = .next (settle s) ∧ exec .flashOpTimeout s = .next (settle s)))
      ∧ (s.mode ≠ .reset → s.inError 83 = false → ∃ t, exec .lfRescan s = .next (settle t)
          ∧ t.flag Fld.lastStatusValidA = (s.flag Fld.lfInfoFound && (lastCopy s false).isSome)
          ∧ t.flag Fld.lastStatusValidB = (s.flag Fld.lfInfoFound && (lastCopy s true).isSome)
          ∧ OnlyWords s t [Reg.lastSeqA.at, Reg.lastSeqB.at, Reg.lastStatus.at]))
  ∧ (∀ s : State, s.wf = true →
      (∀ (u : LogUpdate) (r : LogRec) (l : List LogRec), s.flash.update = some u → s.flash.log = r :: l →
          ∃ t, exec .logUpdateCommit s = .next (settle t) ∧ t.flash.update = none ∧ t.flash.writing = false
            ∧ t.flash.log = l ∧ t.flash.cells = applyRuns u.kind s.flash.cells u.runs
            ∧ (∀ j, flashByte t j = if u.commitAt ≤ j ∧ j < u.commitAt + 4
                then flashByte s j &&& (leBytes 4 u.commit).getD (j - u.commitAt) 0xFF else flashByte s j)
            ∧ t.rd Reg.flCntLog.at = satAdd32 (s.rd Reg.flCntLog.at) 1 ∧ t.flag Fld.lfStatusLogBusy = false
            ∧ t.dram = s.dram ∧ t.tags = s.tags ∧ t.flash.otp = s.flash.otp)
      ∧ (s.flash.update = none → exec .logUpdateCommit s = .next (settle s))
      ∧ (clockRuns s = true → logOpen s = true → ∃ t r, exec .lifetimeLogTimer s = .next (settle t)
          ∧ t.flash = { s.flash with log := s.flash.log ++ [r] } ∧ r.kind = LogKind.lifetime ∧ r.body.length = 63
          ∧ { t with flash := s.flash, life := s.life, lifeAt := s.lifeAt } = s)
      ∧ ((clockRuns s = false ∨ logOpen s = false) → exec .lifetimeLogTimer s = .next (settle s))
      ∧ (s.mode ≠ .reset → logOpen s = true → summaryDue s ≠ [] → exec .calSummaryTimer s = .next (settle
          { s with flash := { s.flash with log := s.flash.log ++ [{ kind := LogKind.cal, body := summaryDue s }] } }))
      ∧ ((s.mode = .reset ∨ logOpen s = false ∨ summaryDue s = []) → exec .calSummaryTimer s = .next (settle s)))
end

