-- ==== Sys2Proof/Laws/Table.lean ====
section
/-! SUPPORT. The sparse tables: reading after writing, and every table operation keeps the canonical form. -/

namespace Sys2Proof.Machine

variable {β : Type}

/-- Rising keys, as a relation of every two entries. -/
theorem kRising_iff (m : KMap β) : kRising m = true ↔ m.Pairwise (fun a b => a.1 < b.1) := by
  induction m with
  | nil => simp [kRising]
  | cons x m ih =>
    cases m with
    | nil => simp [kRising]
    | cons y l =>
      obtain ⟨a, v⟩ := x
      obtain ⟨b, w⟩ := y
      simp only [kRising, Bool.and_eq_true, decide_eq_true_eq, ih, List.pairwise_cons, List.mem_cons]
      constructor
      · rintro ⟨hab, hb, hl⟩
        exact ⟨by rintro c (rfl | hc) <;> [exact hab; exact lt_trans hab (hb c hc)], hb, hl⟩
      · rintro ⟨h, hb, hl⟩
        exact ⟨h _ (Or.inl rfl), hb, hl⟩

/-- The canonical form, as a relation and a condition on every entry. -/
theorem kWf_iff [DecidableEq β] (d : Nat → β) (m : KMap β) :
    kWf d m = true ↔ m.Pairwise (fun a b => a.1 < b.1) ∧ ∀ e ∈ m, e.2 ≠ d e.1 := by
  simp [kWf, kRising_iff]

theorem kFind_kPut (m : KMap β) (k j : Nat) (v : β) : kFind (kPut m k v) j = if k = j then some v else kFind m j := by
  induction m with
  | nil => simp [kPut, kFind]
  | cons x m ih =>
    obtain ⟨a, b⟩ := x
    simp only [kPut]
    by_cases h1 : k < a
    · simp [h1, kFind]
    · by_cases h2 : k = a
      · subst h2
        by_cases h3 : k = j <;> simp [kFind, h3]
      · simp only [h1, h2, if_false, kFind, ih]
        by_cases h3 : a = j
        · subst h3; simp; intro h; exact absurd h h2
        · simp [h3]

/-- An entry of a table after a write is the new one or an old one. -/
theorem mem_kPut (m : KMap β) (k : Nat) (v : β) (e : Nat × β) (h : e ∈ kPut m k v) : e = (k, v) ∨ e ∈ m := by
  induction m with
  | nil => simpa [kPut] using h
  | cons x m ih =>
    obtain ⟨a, b⟩ := x
    simp only [kPut] at h
    split at h
    · simpa using h
    · split at h
      · rcases List.mem_cons.1 h with h | h
        · exact Or.inl h
        · exact Or.inr (List.mem_cons_of_mem _ h)
      · rcases List.mem_cons.1 h with h | h
        · exact Or.inr (h ▸ List.mem_cons_self)
        · exact (ih h).imp id (List.mem_cons_of_mem _)

theorem kPut_rising (m : KMap β) (k : Nat) (v : β) (h : m.Pairwise (fun a b => a.1 < b.1)) :
    (kPut m k v).Pairwise (fun a b => a.1 < b.1) := by
  induction m with
  | nil => simp [kPut]
  | cons x m ih =>
    obtain ⟨a, b⟩ := x
    rw [List.pairwise_cons] at h
    simp only [kPut]
    split
    · rename_i hlt
      refine List.pairwise_cons.2 ⟨fun e he => ?_, List.pairwise_cons.2 h⟩
      rcases List.mem_cons.1 he with rfl | he
      · exact hlt
      · exact lt_trans hlt (h.1 e he)
    · split
      · rename_i _ heq
        subst heq
        exact List.pairwise_cons.2 h
      · rename_i h1 h2
        refine List.pairwise_cons.2 ⟨fun e he => ?_, ih h.2⟩
        rcases mem_kPut m k v e he with rfl | he
        · show a < k
          omega
        · exact h.1 e he

theorem kErase_sublist (m : KMap β) (k : Nat) : (kErase m k).Sublist m := by
  induction m with
  | nil => exact List.Sublist.refl _
  | cons x m ih =>
    obtain ⟨a, b⟩ := x
    simp only [kErase]
    split
    · exact List.sublist_cons_self _ _
    · exact ih.cons_cons _

/-- A part of a table keeps the canonical form. -/
theorem kWf_sublist [DecidableEq β] {d : Nat → β} {m l : KMap β} (hs : l.Sublist m) (h : kWf d m = true) :
    kWf d l = true := by
  rw [kWf_iff] at *
  exact ⟨h.1.sublist hs, fun e he => h.2 e (hs.subset he)⟩

theorem kRising_sublist {m l : KMap β} (hs : l.Sublist m) (h : kRising m = true) : kRising l = true := by
  rw [kRising_iff] at *
  exact h.sublist hs

theorem kRising_kPut {m : KMap β} (k : Nat) (v : β) (h : kRising m = true) : kRising (kPut m k v) = true := by
  rw [kRising_iff] at *
  exact kPut_rising m k v h

/-- A write keeps the canonical form: a value that an unlisted key reads as removes the entry. -/
theorem kWf_kSet [DecidableEq β] {d : Nat → β} {m : KMap β} (k : Nat) (v : β) (h : kWf d m = true) :
    kWf d (kSet (d k) m k v) = true := by
  unfold kSet
  split
  · exact kWf_sublist (kErase_sublist m k) h
  · rename_i hv
    rw [kWf_iff] at *
    refine ⟨kPut_rising m k v h.1, fun e he => ?_⟩
    rcases mem_kPut m k v e he with rfl | he
    · exact hv
    · exact h.2 e he

/-- A change of every entry's value, entries that read as unlisted removed, keeps the canonical form. -/
theorem kWf_map [DecidableEq β] {d : Nat → β} {m : KMap β} (f : Nat × β → β) (h : kWf d m = true) :
    kWf d ((m.map (fun e => (e.1, f e))).filter (fun e => e.2 != d e.1)) = true := by
  rw [kWf_iff] at *
  refine ⟨?_, fun e he => by simpa using (List.mem_filter.1 he).2⟩
  have hp : (m.map (fun e => (e.1, f e))).Pairwise (fun a b => a.1 < b.1) := by
    rw [List.pairwise_map]; exact h.1
  exact hp.sublist List.filter_sublist

/-- A change of some entries, others removed, keeps the canonical form. -/
theorem kWf_filterMap [DecidableEq β] {d : Nat → β} {m : KMap β} (f : Nat × β → Option (Nat × β))
    (hk : ∀ e x, f e = some x → x.1 = e.1) (hv : ∀ e x, e ∈ m → e.2 ≠ d e.1 → f e = some x → x.2 ≠ d x.1)
    (h : kWf d m = true) : kWf d (m.filterMap f) = true := by
  rw [kWf_iff] at *
  refine ⟨?_, fun e he => ?_⟩
  · rw [List.pairwise_filterMap]
    exact h.1.imp (fun {a b} hab x hx y hy => by rw [hk a x hx, hk b y hy]; exact hab)
  · obtain ⟨x, hx, hfx⟩ := List.mem_filterMap.1 he
    exact hv x e hx (h.2 x hx) hfx

theorem kFind_none_of_lt {m : KMap β} {k : Nat} (h : ∀ e ∈ m, k < e.1) : kFind m k = none := by
  induction m with
  | nil => rfl
  | cons x m ih =>
    obtain ⟨a, b⟩ := x
    have : k < a := h (a, b) List.mem_cons_self
    simp only [kFind, Nat.ne_of_gt this, if_false]
    exact ih (fun e he => h e (List.mem_cons_of_mem _ he))

theorem kFind_kErase {m : KMap β} (h : m.Pairwise (fun a b => a.1 < b.1)) (k j : Nat) :
    kFind (kErase m k) j = if k = j then none else kFind m j := by
  induction m with
  | nil => simp [kErase, kFind]
  | cons x m ih =>
    obtain ⟨a, b⟩ := x
    rw [List.pairwise_cons] at h
    simp only [kErase]
    by_cases h1 : a = k
    · subst h1
      simp only [if_true, kFind]
      by_cases h2 : a = j
      · subst h2
        simpa using kFind_none_of_lt (fun e he => h.1 e he)
      · simp [h2]
    · simp only [h1, if_false, kFind, ih h.2]
      by_cases h2 : a = j
      · subst h2
        simp [Ne.symm h1]
      · simp [h2]

/-- Reading after a write. -/
theorem kGet_kSet [DecidableEq β] {m : KMap β} (h : kRising m = true) (d : β) (k j : Nat) (v : β) :
    kGet d (kSet d m k v) j = if k = j then v else kGet d m j := by
  rw [kRising_iff] at h
  unfold kSet kGet
  split
  · rename_i hv
    rw [kFind_kErase h]
    split <;> simp [hv]
  · rw [kFind_kPut]
    split <;> simp

end Sys2Proof.Machine
end

