-- ==== Sys2Proof/Laws/State.lean ====
section
/-! SUPPORT. The small lemmas of State: what each basic update leaves unchanged, field by field, and reading a register
after writing one. -/

namespace Sys2Proof.Machine

variable (s : State)

/-! ### wr -/

@[simp] theorem State.wr_pending (o : Nat) (w : Word) : (s.wr o w).pending = s.pending := by unfold State.wr; rfl
@[simp] theorem State.wr_pend (o : Nat) (w : Word) : (s.wr o w).pend = s.pend := by unfold State.wr; rfl
@[simp] theorem State.wr_holdRelease (o : Nat) (w : Word) : (s.wr o w).holdRelease = s.holdRelease := by unfold State.wr; rfl
@[simp] theorem State.wr_mode (o : Nat) (w : Word) : (s.wr o w).mode = s.mode := by unfold State.wr; rfl
@[simp] theorem State.wr_prev (o : Nat) (w : Word) : (s.wr o w).prev = s.prev := by unfold State.wr; rfl
@[simp] theorem State.wr_warm (o : Nat) (w : Word) : (s.wr o w).warm = s.warm := by unfold State.wr; rfl
@[simp] theorem State.wr_warmFlush (o : Nat) (w : Word) : (s.wr o w).warmFlush = s.warmFlush := by unfold State.wr; rfl
@[simp] theorem State.wr_held (o : Nat) (w : Word) : (s.wr o w).held = s.held := by unfold State.wr; rfl
@[simp] theorem State.wr_modeAt (o : Nat) (w : Word) : (s.wr o w).modeAt = s.modeAt := by unfold State.wr; rfl
@[simp] theorem State.wr_resume (o : Nat) (w : Word) : (s.wr o w).resume = s.resume := by unfold State.wr; rfl
@[simp] theorem State.wr_testFrom (o : Nat) (w : Word) : (s.wr o w).testFrom = s.testFrom := by unfold State.wr; rfl
@[simp] theorem State.wr_start (o : Nat) (w : Word) : (s.wr o w).start = s.start := by unfold State.wr; rfl
@[simp] theorem State.wr_mpWaits (o : Nat) (w : Word) : (s.wr o w).mpWaits = s.mpWaits := by unfold State.wr; rfl
@[simp] theorem State.wr_pins (o : Nat) (w : Word) : (s.wr o w).pins = s.pins := by unfold State.wr; rfl
@[simp] theorem State.wr_timeBase (o : Nat) (w : Word) : (s.wr o w).timeBase = s.timeBase := by unfold State.wr; rfl
@[simp] theorem State.wr_tickFrac (o : Nat) (w : Word) : (s.wr o w).tickFrac = s.tickFrac := by unfold State.wr; rfl
@[simp] theorem State.wr_uptime (o : Nat) (w : Word) : (s.wr o w).uptime = s.uptime := by unfold State.wr; rfl
@[simp] theorem State.wr_epoch (o : Nat) (w : Word) : (s.wr o w).epoch = s.epoch := by unfold State.wr; rfl
@[simp] theorem State.wr_evq (o : Nat) (w : Word) : (s.wr o w).evq = s.evq := by unfold State.wr; rfl
@[simp] theorem State.wr_flt (o : Nat) (w : Word) : (s.wr o w).flt = s.flt := by unfold State.wr; rfl
@[simp] theorem State.wr_ports (o : Nat) (w : Word) : (s.wr o w).ports = s.ports := by unfold State.wr; rfl
@[simp] theorem State.wr_ctxs (o : Nat) (w : Word) : (s.wr o w).ctxs = s.ctxs := by unfold State.wr; rfl
@[simp] theorem State.wr_ctxWin (o : Nat) (w : Word) : (s.wr o w).ctxWin = s.ctxWin := by unfold State.wr; rfl
@[simp] theorem State.wr_ingressPtr (o : Nat) (w : Word) : (s.wr o w).ingressPtr = s.ingressPtr := by unfold State.wr; rfl
@[simp] theorem State.wr_ledger (o : Nat) (w : Word) : (s.wr o w).ledger = s.ledger := by unfold State.wr; rfl
@[simp] theorem State.wr_nextId (o : Nat) (w : Word) : (s.wr o w).nextId = s.nextId := by unfold State.wr; rfl
@[simp] theorem State.wr_tags (o : Nat) (w : Word) : (s.wr o w).tags = s.tags := by unfold State.wr; rfl
@[simp] theorem State.wr_caches (o : Nat) (w : Word) : (s.wr o w).caches = s.caches := by unfold State.wr; rfl
@[simp] theorem State.wr_fetches (o : Nat) (w : Word) : (s.wr o w).fetches = s.fetches := by unfold State.wr; rfl
@[simp] theorem State.wr_lfsr (o : Nat) (w : Word) : (s.wr o w).lfsr = s.lfsr := by unfold State.wr; rfl
@[simp] theorem State.wr_lost (o : Nat) (w : Word) : (s.wr o w).lost = s.lost := by unfold State.wr; rfl
@[simp] theorem State.wr_pidx (o : Nat) (w : Word) : (s.wr o w).pidx = s.pidx := by unfold State.wr; rfl
@[simp] theorem State.wr_allocs (o : Nat) (w : Word) : (s.wr o w).allocs = s.allocs := by unfold State.wr; rfl
@[simp] theorem State.wr_drain (o : Nat) (w : Word) : (s.wr o w).drain = s.drain := by unfold State.wr; rfl
@[simp] theorem State.wr_drainFrom (o : Nat) (w : Word) : (s.wr o w).drainFrom = s.drainFrom := by unfold State.wr; rfl
@[simp] theorem State.wr_drainOpen (o : Nat) (w : Word) : (s.wr o w).drainOpen = s.drainOpen := by unfold State.wr; rfl
@[simp] theorem State.wr_retiring (o : Nat) (w : Word) : (s.wr o w).retiring = s.retiring := by unfold State.wr; rfl
@[simp] theorem State.wr_retiredLog (o : Nat) (w : Word) : (s.wr o w).retiredLog = s.retiredLog := by unfold State.wr; rfl
@[simp] theorem State.wr_dram (o : Nat) (w : Word) : (s.wr o w).dram = s.dram := by unfold State.wr; rfl
@[simp] theorem State.wr_media (o : Nat) (w : Word) : (s.wr o w).media = s.media := by unfold State.wr; rfl
@[simp] theorem State.wr_chs (o : Nat) (w : Word) : (s.wr o w).chs = s.chs := by unfold State.wr; rfl
@[simp] theorem State.wr_quads (o : Nat) (w : Word) : (s.wr o w).quads = s.quads := by unfold State.wr; rfl
@[simp] theorem State.wr_sram (o : Nat) (w : Word) : (s.wr o w).sram = s.sram := by unfold State.wr; rfl
@[simp] theorem State.wr_flash (o : Nat) (w : Word) : (s.wr o w).flash = s.flash := by unfold State.wr; rfl
@[simp] theorem State.wr_life (o : Nat) (w : Word) : (s.wr o w).life = s.life := by unfold State.wr; rfl
@[simp] theorem State.wr_lifeAt (o : Nat) (w : Word) : (s.wr o w).lifeAt = s.lifeAt := by unfold State.wr; rfl
@[simp] theorem State.wr_zqQ (o : Nat) (w : Word) : (s.wr o w).zqQ = s.zqQ := by unfold State.wr; rfl
@[simp] theorem State.wr_awlStep (o : Nat) (w : Word) : (s.wr o w).awlStep = s.awlStep := by unfold State.wr; rfl
@[simp] theorem State.wr_awlLfsr (o : Nat) (w : Word) : (s.wr o w).awlLfsr = s.awlLfsr := by unfold State.wr; rfl
@[simp] theorem State.wr_beam (o : Nat) (w : Word) : (s.wr o w).beam = s.beam := by unfold State.wr; rfl
@[simp] theorem State.wr_beamCtx (o : Nat) (w : Word) : (s.wr o w).beamCtx = s.beamCtx := by unfold State.wr; rfl
@[simp] theorem State.wr_beamClear (o : Nat) (w : Word) : (s.wr o w).beamClear = s.beamClear := by unfold State.wr; rfl
@[simp] theorem State.wr_clears (o : Nat) (w : Word) : (s.wr o w).clears = s.clears := by unfold State.wr; rfl
@[simp] theorem State.wr_tagCap (o : Nat) (w : Word) : (s.wr o w).tagCap = s.tagCap := by unfold State.wr; rfl
@[simp] theorem State.wr_pseqStaged (o : Nat) (w : Word) : (s.wr o w).pseqStaged = s.pseqStaged := by unfold State.wr; rfl
@[simp] theorem State.wr_tseqStaged (o : Nat) (w : Word) : (s.wr o w).tseqStaged = s.tseqStaged := by unfold State.wr; rfl
@[simp] theorem State.wr_out (o : Nat) (w : Word) : (s.wr o w).out = s.out := by unfold State.wr; rfl
@[simp] theorem State.wr_freeCtr (o : Nat) (w : Word) : (s.wr o w).freeCtr = s.freeCtr := by unfold State.wr; rfl

/-! ### setFld -/

@[simp] theorem State.setFld_pending (f : Fld) (v i k : Nat) : (s.setFld f v i k).pending = s.pending := State.wr_pending ..
@[simp] theorem State.setFld_pend (f : Fld) (v i k : Nat) : (s.setFld f v i k).pend = s.pend := State.wr_pend ..
@[simp] theorem State.setFld_holdRelease (f : Fld) (v i k : Nat) : (s.setFld f v i k).holdRelease = s.holdRelease := State.wr_holdRelease ..
@[simp] theorem State.setFld_mode (f : Fld) (v i k : Nat) : (s.setFld f v i k).mode = s.mode := State.wr_mode ..
@[simp] theorem State.setFld_prev (f : Fld) (v i k : Nat) : (s.setFld f v i k).prev = s.prev := State.wr_prev ..
@[simp] theorem State.setFld_warm (f : Fld) (v i k : Nat) : (s.setFld f v i k).warm = s.warm := State.wr_warm ..
@[simp] theorem State.setFld_warmFlush (f : Fld) (v i k : Nat) : (s.setFld f v i k).warmFlush = s.warmFlush := State.wr_warmFlush ..
@[simp] theorem State.setFld_held (f : Fld) (v i k : Nat) : (s.setFld f v i k).held = s.held := State.wr_held ..
@[simp] theorem State.setFld_modeAt (f : Fld) (v i k : Nat) : (s.setFld f v i k).modeAt = s.modeAt := State.wr_modeAt ..
@[simp] theorem State.setFld_resume (f : Fld) (v i k : Nat) : (s.setFld f v i k).resume = s.resume := State.wr_resume ..
@[simp] theorem State.setFld_testFrom (f : Fld) (v i k : Nat) : (s.setFld f v i k).testFrom = s.testFrom := State.wr_testFrom ..
@[simp] theorem State.setFld_start (f : Fld) (v i k : Nat) : (s.setFld f v i k).start = s.start := State.wr_start ..
@[simp] theorem State.setFld_mpWaits (f : Fld) (v i k : Nat) : (s.setFld f v i k).mpWaits = s.mpWaits := State.wr_mpWaits ..
@[simp] theorem State.setFld_pins (f : Fld) (v i k : Nat) : (s.setFld f v i k).pins = s.pins := State.wr_pins ..
@[simp] theorem State.setFld_timeBase (f : Fld) (v i k : Nat) : (s.setFld f v i k).timeBase = s.timeBase := State.wr_timeBase ..
@[simp] theorem State.setFld_tickFrac (f : Fld) (v i k : Nat) : (s.setFld f v i k).tickFrac = s.tickFrac := State.wr_tickFrac ..
@[simp] theorem State.setFld_uptime (f : Fld) (v i k : Nat) : (s.setFld f v i k).uptime = s.uptime := State.wr_uptime ..
@[simp] theorem State.setFld_epoch (f : Fld) (v i k : Nat) : (s.setFld f v i k).epoch = s.epoch := State.wr_epoch ..
@[simp] theorem State.setFld_evq (f : Fld) (v i k : Nat) : (s.setFld f v i k).evq = s.evq := State.wr_evq ..
@[simp] theorem State.setFld_flt (f : Fld) (v i k : Nat) : (s.setFld f v i k).flt = s.flt := State.wr_flt ..
@[simp] theorem State.setFld_ports (f : Fld) (v i k : Nat) : (s.setFld f v i k).ports = s.ports := State.wr_ports ..
@[simp] theorem State.setFld_ctxs (f : Fld) (v i k : Nat) : (s.setFld f v i k).ctxs = s.ctxs := State.wr_ctxs ..
@[simp] theorem State.setFld_ctxWin (f : Fld) (v i k : Nat) : (s.setFld f v i k).ctxWin = s.ctxWin := State.wr_ctxWin ..
@[simp] theorem State.setFld_ingressPtr (f : Fld) (v i k : Nat) : (s.setFld f v i k).ingressPtr = s.ingressPtr := State.wr_ingressPtr ..
@[simp] theorem State.setFld_ledger (f : Fld) (v i k : Nat) : (s.setFld f v i k).ledger = s.ledger := State.wr_ledger ..
@[simp] theorem State.setFld_nextId (f : Fld) (v i k : Nat) : (s.setFld f v i k).nextId = s.nextId := State.wr_nextId ..
@[simp] theorem State.setFld_tags (f : Fld) (v i k : Nat) : (s.setFld f v i k).tags = s.tags := State.wr_tags ..
@[simp] theorem State.setFld_caches (f : Fld) (v i k : Nat) : (s.setFld f v i k).caches = s.caches := State.wr_caches ..
@[simp] theorem State.setFld_fetches (f : Fld) (v i k : Nat) : (s.setFld f v i k).fetches = s.fetches := State.wr_fetches ..
@[simp] theorem State.setFld_lfsr (f : Fld) (v i k : Nat) : (s.setFld f v i k).lfsr = s.lfsr := State.wr_lfsr ..
@[simp] theorem State.setFld_lost (f : Fld) (v i k : Nat) : (s.setFld f v i k).lost = s.lost := State.wr_lost ..
@[simp] theorem State.setFld_pidx (f : Fld) (v i k : Nat) : (s.setFld f v i k).pidx = s.pidx := State.wr_pidx ..
@[simp] theorem State.setFld_allocs (f : Fld) (v i k : Nat) : (s.setFld f v i k).allocs = s.allocs := State.wr_allocs ..
@[simp] theorem State.setFld_drain (f : Fld) (v i k : Nat) : (s.setFld f v i k).drain = s.drain := State.wr_drain ..
@[simp] theorem State.setFld_drainFrom (f : Fld) (v i k : Nat) : (s.setFld f v i k).drainFrom = s.drainFrom := State.wr_drainFrom ..
@[simp] theorem State.setFld_drainOpen (f : Fld) (v i k : Nat) : (s.setFld f v i k).drainOpen = s.drainOpen := State.wr_drainOpen ..
@[simp] theorem State.setFld_retiring (f : Fld) (v i k : Nat) : (s.setFld f v i k).retiring = s.retiring := State.wr_retiring ..
@[simp] theorem State.setFld_retiredLog (f : Fld) (v i k : Nat) : (s.setFld f v i k).retiredLog = s.retiredLog := State.wr_retiredLog ..
@[simp] theorem State.setFld_dram (f : Fld) (v i k : Nat) : (s.setFld f v i k).dram = s.dram := State.wr_dram ..
@[simp] theorem State.setFld_media (f : Fld) (v i k : Nat) : (s.setFld f v i k).media = s.media := State.wr_media ..
@[simp] theorem State.setFld_chs (f : Fld) (v i k : Nat) : (s.setFld f v i k).chs = s.chs := State.wr_chs ..
@[simp] theorem State.setFld_quads (f : Fld) (v i k : Nat) : (s.setFld f v i k).quads = s.quads := State.wr_quads ..
@[simp] theorem State.setFld_sram (f : Fld) (v i k : Nat) : (s.setFld f v i k).sram = s.sram := State.wr_sram ..
@[simp] theorem State.setFld_flash (f : Fld) (v i k : Nat) : (s.setFld f v i k).flash = s.flash := State.wr_flash ..
@[simp] theorem State.setFld_life (f : Fld) (v i k : Nat) : (s.setFld f v i k).life = s.life := State.wr_life ..
@[simp] theorem State.setFld_lifeAt (f : Fld) (v i k : Nat) : (s.setFld f v i k).lifeAt = s.lifeAt := State.wr_lifeAt ..
@[simp] theorem State.setFld_zqQ (f : Fld) (v i k : Nat) : (s.setFld f v i k).zqQ = s.zqQ := State.wr_zqQ ..
@[simp] theorem State.setFld_awlStep (f : Fld) (v i k : Nat) : (s.setFld f v i k).awlStep = s.awlStep := State.wr_awlStep ..
@[simp] theorem State.setFld_awlLfsr (f : Fld) (v i k : Nat) : (s.setFld f v i k).awlLfsr = s.awlLfsr := State.wr_awlLfsr ..
@[simp] theorem State.setFld_beam (f : Fld) (v i k : Nat) : (s.setFld f v i k).beam = s.beam := State.wr_beam ..
@[simp] theorem State.setFld_beamCtx (f : Fld) (v i k : Nat) : (s.setFld f v i k).beamCtx = s.beamCtx := State.wr_beamCtx ..
@[simp] theorem State.setFld_beamClear (f : Fld) (v i k : Nat) : (s.setFld f v i k).beamClear = s.beamClear := State.wr_beamClear ..
@[simp] theorem State.setFld_clears (f : Fld) (v i k : Nat) : (s.setFld f v i k).clears = s.clears := State.wr_clears ..
@[simp] theorem State.setFld_tagCap (f : Fld) (v i k : Nat) : (s.setFld f v i k).tagCap = s.tagCap := State.wr_tagCap ..
@[simp] theorem State.setFld_pseqStaged (f : Fld) (v i k : Nat) : (s.setFld f v i k).pseqStaged = s.pseqStaged := State.wr_pseqStaged ..
@[simp] theorem State.setFld_tseqStaged (f : Fld) (v i k : Nat) : (s.setFld f v i k).tseqStaged = s.tseqStaged := State.wr_tseqStaged ..
@[simp] theorem State.setFld_out (f : Fld) (v i k : Nat) : (s.setFld f v i k).out = s.out := State.wr_out ..
@[simp] theorem State.setFld_freeCtr (f : Fld) (v i k : Nat) : (s.setFld f v i k).freeCtr = s.freeCtr := State.wr_freeCtr ..

/-! ### setFlag -/

@[simp] theorem State.setFlag_pending (f : Fld) (b : Bool) (i k : Nat) : (s.setFlag f b i k).pending = s.pending := State.setFld_pending ..
@[simp] theorem State.setFlag_pend (f : Fld) (b : Bool) (i k : Nat) : (s.setFlag f b i k).pend = s.pend := State.setFld_pend ..
@[simp] theorem State.setFlag_holdRelease (f : Fld) (b : Bool) (i k : Nat) : (s.setFlag f b i k).holdRelease = s.holdRelease := State.setFld_holdRelease ..
@[simp] theorem State.setFlag_mode (f : Fld) (b : Bool) (i k : Nat) : (s.setFlag f b i k).mode = s.mode := State.setFld_mode ..
@[simp] theorem State.setFlag_prev (f : Fld) (b : Bool) (i k : Nat) : (s.setFlag f b i k).prev = s.prev := State.setFld_prev ..
@[simp] theorem State.setFlag_warm (f : Fld) (b : Bool) (i k : Nat) : (s.setFlag f b i k).warm = s.warm := State.setFld_warm ..
@[simp] theorem State.setFlag_warmFlush (f : Fld) (b : Bool) (i k : Nat) : (s.setFlag f b i k).warmFlush = s.warmFlush := State.setFld_warmFlush ..
@[simp] theorem State.setFlag_held (f : Fld) (b : Bool) (i k : Nat) : (s.setFlag f b i k).held = s.held := State.setFld_held ..
@[simp] theorem State.setFlag_modeAt (f : Fld) (b : Bool) (i k : Nat) : (s.setFlag f b i k).modeAt = s.modeAt := State.setFld_modeAt ..
@[simp] theorem State.setFlag_resume (f : Fld) (b : Bool) (i k : Nat) : (s.setFlag f b i k).resume = s.resume := State.setFld_resume ..
@[simp] theorem State.setFlag_testFrom (f : Fld) (b : Bool) (i k : Nat) : (s.setFlag f b i k).testFrom = s.testFrom := State.setFld_testFrom ..
@[simp] theorem State.setFlag_start (f : Fld) (b : Bool) (i k : Nat) : (s.setFlag f b i k).start = s.start := State.setFld_start ..
@[simp] theorem State.setFlag_mpWaits (f : Fld) (b : Bool) (i k : Nat) : (s.setFlag f b i k).mpWaits = s.mpWaits := State.setFld_mpWaits ..
@[simp] theorem State.setFlag_pins (f : Fld) (b : Bool) (i k : Nat) : (s.setFlag f b i k).pins = s.pins := State.setFld_pins ..
@[simp] theorem State.setFlag_timeBase (f : Fld) (b : Bool) (i k : Nat) : (s.setFlag f b i k).timeBase = s.timeBase := State.setFld_timeBase ..
@[simp] theorem State.setFlag_tickFrac (f : Fld) (b : Bool) (i k : Nat) : (s.setFlag f b i k).tickFrac = s.tickFrac := State.setFld_tickFrac ..
@[simp] theorem State.setFlag_uptime (f : Fld) (b : Bool) (i k : Nat) : (s.setFlag f b i k).uptime = s.uptime := State.setFld_uptime ..
@[simp] theorem State.setFlag_epoch (f : Fld) (b : Bool) (i k : Nat) : (s.setFlag f b i k).epoch = s.epoch := State.setFld_epoch ..
@[simp] theorem State.setFlag_evq (f : Fld) (b : Bool) (i k : Nat) : (s.setFlag f b i k).evq = s.evq := State.setFld_evq ..
@[simp] theorem State.setFlag_flt (f : Fld) (b : Bool) (i k : Nat) : (s.setFlag f b i k).flt = s.flt := State.setFld_flt ..
@[simp] theorem State.setFlag_ports (f : Fld) (b : Bool) (i k : Nat) : (s.setFlag f b i k).ports = s.ports := State.setFld_ports ..
@[simp] theorem State.setFlag_ctxs (f : Fld) (b : Bool) (i k : Nat) : (s.setFlag f b i k).ctxs = s.ctxs := State.setFld_ctxs ..
@[simp] theorem State.setFlag_ctxWin (f : Fld) (b : Bool) (i k : Nat) : (s.setFlag f b i k).ctxWin = s.ctxWin := State.setFld_ctxWin ..
@[simp] theorem State.setFlag_ingressPtr (f : Fld) (b : Bool) (i k : Nat) : (s.setFlag f b i k).ingressPtr = s.ingressPtr := State.setFld_ingressPtr ..
@[simp] theorem State.setFlag_ledger (f : Fld) (b : Bool) (i k : Nat) : (s.setFlag f b i k).ledger = s.ledger := State.setFld_ledger ..
@[simp] theorem State.setFlag_nextId (f : Fld) (b : Bool) (i k : Nat) : (s.setFlag f b i k).nextId = s.nextId := State.setFld_nextId ..
@[simp] theorem State.setFlag_tags (f : Fld) (b : Bool) (i k : Nat) : (s.setFlag f b i k).tags = s.tags := State.setFld_tags ..
@[simp] theorem State.setFlag_caches (f : Fld) (b : Bool) (i k : Nat) : (s.setFlag f b i k).caches = s.caches := State.setFld_caches ..
@[simp] theorem State.setFlag_fetches (f : Fld) (b : Bool) (i k : Nat) : (s.setFlag f b i k).fetches = s.fetches := State.setFld_fetches ..
@[simp] theorem State.setFlag_lfsr (f : Fld) (b : Bool) (i k : Nat) : (s.setFlag f b i k).lfsr = s.lfsr := State.setFld_lfsr ..
@[simp] theorem State.setFlag_lost (f : Fld) (b : Bool) (i k : Nat) : (s.setFlag f b i k).lost = s.lost := State.setFld_lost ..
@[simp] theorem State.setFlag_pidx (f : Fld) (b : Bool) (i k : Nat) : (s.setFlag f b i k).pidx = s.pidx := State.setFld_pidx ..
@[simp] theorem State.setFlag_allocs (f : Fld) (b : Bool) (i k : Nat) : (s.setFlag f b i k).allocs = s.allocs := State.setFld_allocs ..
@[simp] theorem State.setFlag_drain (f : Fld) (b : Bool) (i k : Nat) : (s.setFlag f b i k).drain = s.drain := State.setFld_drain ..
@[simp] theorem State.setFlag_drainFrom (f : Fld) (b : Bool) (i k : Nat) : (s.setFlag f b i k).drainFrom = s.drainFrom := State.setFld_drainFrom ..
@[simp] theorem State.setFlag_drainOpen (f : Fld) (b : Bool) (i k : Nat) : (s.setFlag f b i k).drainOpen = s.drainOpen := State.setFld_drainOpen ..
@[simp] theorem State.setFlag_retiring (f : Fld) (b : Bool) (i k : Nat) : (s.setFlag f b i k).retiring = s.retiring := State.setFld_retiring ..
@[simp] theorem State.setFlag_retiredLog (f : Fld) (b : Bool) (i k : Nat) : (s.setFlag f b i k).retiredLog = s.retiredLog := State.setFld_retiredLog ..
@[simp] theorem State.setFlag_dram (f : Fld) (b : Bool) (i k : Nat) : (s.setFlag f b i k).dram = s.dram := State.setFld_dram ..
@[simp] theorem State.setFlag_media (f : Fld) (b : Bool) (i k : Nat) : (s.setFlag f b i k).media = s.media := State.setFld_media ..
@[simp] theorem State.setFlag_chs (f : Fld) (b : Bool) (i k : Nat) : (s.setFlag f b i k).chs = s.chs := State.setFld_chs ..
@[simp] theorem State.setFlag_quads (f : Fld) (b : Bool) (i k : Nat) : (s.setFlag f b i k).quads = s.quads := State.setFld_quads ..
@[simp] theorem State.setFlag_sram (f : Fld) (b : Bool) (i k : Nat) : (s.setFlag f b i k).sram = s.sram := State.setFld_sram ..
@[simp] theorem State.setFlag_flash (f : Fld) (b : Bool) (i k : Nat) : (s.setFlag f b i k).flash = s.flash := State.setFld_flash ..
@[simp] theorem State.setFlag_life (f : Fld) (b : Bool) (i k : Nat) : (s.setFlag f b i k).life = s.life := State.setFld_life ..
@[simp] theorem State.setFlag_lifeAt (f : Fld) (b : Bool) (i k : Nat) : (s.setFlag f b i k).lifeAt = s.lifeAt := State.setFld_lifeAt ..
@[simp] theorem State.setFlag_zqQ (f : Fld) (b : Bool) (i k : Nat) : (s.setFlag f b i k).zqQ = s.zqQ := State.setFld_zqQ ..
@[simp] theorem State.setFlag_awlStep (f : Fld) (b : Bool) (i k : Nat) : (s.setFlag f b i k).awlStep = s.awlStep := State.setFld_awlStep ..
@[simp] theorem State.setFlag_awlLfsr (f : Fld) (b : Bool) (i k : Nat) : (s.setFlag f b i k).awlLfsr = s.awlLfsr := State.setFld_awlLfsr ..
@[simp] theorem State.setFlag_beam (f : Fld) (b : Bool) (i k : Nat) : (s.setFlag f b i k).beam = s.beam := State.setFld_beam ..
@[simp] theorem State.setFlag_beamCtx (f : Fld) (b : Bool) (i k : Nat) : (s.setFlag f b i k).beamCtx = s.beamCtx := State.setFld_beamCtx ..
@[simp] theorem State.setFlag_beamClear (f : Fld) (b : Bool) (i k : Nat) : (s.setFlag f b i k).beamClear = s.beamClear := State.setFld_beamClear ..
@[simp] theorem State.setFlag_clears (f : Fld) (b : Bool) (i k : Nat) : (s.setFlag f b i k).clears = s.clears := State.setFld_clears ..
@[simp] theorem State.setFlag_tagCap (f : Fld) (b : Bool) (i k : Nat) : (s.setFlag f b i k).tagCap = s.tagCap := State.setFld_tagCap ..
@[simp] theorem State.setFlag_pseqStaged (f : Fld) (b : Bool) (i k : Nat) : (s.setFlag f b i k).pseqStaged = s.pseqStaged := State.setFld_pseqStaged ..
@[simp] theorem State.setFlag_tseqStaged (f : Fld) (b : Bool) (i k : Nat) : (s.setFlag f b i k).tseqStaged = s.tseqStaged := State.setFld_tseqStaged ..
@[simp] theorem State.setFlag_out (f : Fld) (b : Bool) (i k : Nat) : (s.setFlag f b i k).out = s.out := State.setFld_out ..
@[simp] theorem State.setFlag_freeCtr (f : Fld) (b : Bool) (i k : Nat) : (s.setFlag f b i k).freeCtr = s.freeCtr := State.setFld_freeCtr ..

/-! ### count -/

@[simp] theorem State.count_pending (r : RegDef) (n i k : Nat) : (s.count r n i k).pending = s.pending := State.wr_pending ..
@[simp] theorem State.count_pend (r : RegDef) (n i k : Nat) : (s.count r n i k).pend = s.pend := State.wr_pend ..
@[simp] theorem State.count_holdRelease (r : RegDef) (n i k : Nat) : (s.count r n i k).holdRelease = s.holdRelease := State.wr_holdRelease ..
@[simp] theorem State.count_mode (r : RegDef) (n i k : Nat) : (s.count r n i k).mode = s.mode := State.wr_mode ..
@[simp] theorem State.count_prev (r : RegDef) (n i k : Nat) : (s.count r n i k).prev = s.prev := State.wr_prev ..
@[simp] theorem State.count_warm (r : RegDef) (n i k : Nat) : (s.count r n i k).warm = s.warm := State.wr_warm ..
@[simp] theorem State.count_warmFlush (r : RegDef) (n i k : Nat) : (s.count r n i k).warmFlush = s.warmFlush := State.wr_warmFlush ..
@[simp] theorem State.count_held (r : RegDef) (n i k : Nat) : (s.count r n i k).held = s.held := State.wr_held ..
@[simp] theorem State.count_modeAt (r : RegDef) (n i k : Nat) : (s.count r n i k).modeAt = s.modeAt := State.wr_modeAt ..
@[simp] theorem State.count_resume (r : RegDef) (n i k : Nat) : (s.count r n i k).resume = s.resume := State.wr_resume ..
@[simp] theorem State.count_testFrom (r : RegDef) (n i k : Nat) : (s.count r n i k).testFrom = s.testFrom := State.wr_testFrom ..
@[simp] theorem State.count_start (r : RegDef) (n i k : Nat) : (s.count r n i k).start = s.start := State.wr_start ..
@[simp] theorem State.count_mpWaits (r : RegDef) (n i k : Nat) : (s.count r n i k).mpWaits = s.mpWaits := State.wr_mpWaits ..
@[simp] theorem State.count_pins (r : RegDef) (n i k : Nat) : (s.count r n i k).pins = s.pins := State.wr_pins ..
@[simp] theorem State.count_timeBase (r : RegDef) (n i k : Nat) : (s.count r n i k).timeBase = s.timeBase := State.wr_timeBase ..
@[simp] theorem State.count_tickFrac (r : RegDef) (n i k : Nat) : (s.count r n i k).tickFrac = s.tickFrac := State.wr_tickFrac ..
@[simp] theorem State.count_uptime (r : RegDef) (n i k : Nat) : (s.count r n i k).uptime = s.uptime := State.wr_uptime ..
@[simp] theorem State.count_epoch (r : RegDef) (n i k : Nat) : (s.count r n i k).epoch = s.epoch := State.wr_epoch ..
@[simp] theorem State.count_evq (r : RegDef) (n i k : Nat) : (s.count r n i k).evq = s.evq := State.wr_evq ..
@[simp] theorem State.count_flt (r : RegDef) (n i k : Nat) : (s.count r n i k).flt = s.flt := State.wr_flt ..
@[simp] theorem State.count_ports (r : RegDef) (n i k : Nat) : (s.count r n i k).ports = s.ports := State.wr_ports ..
@[simp] theorem State.count_ctxs (r : RegDef) (n i k : Nat) : (s.count r n i k).ctxs = s.ctxs := State.wr_ctxs ..
@[simp] theorem State.count_ctxWin (r : RegDef) (n i k : Nat) : (s.count r n i k).ctxWin = s.ctxWin := State.wr_ctxWin ..
@[simp] theorem State.count_ingressPtr (r : RegDef) (n i k : Nat) : (s.count r n i k).ingressPtr = s.ingressPtr := State.wr_ingressPtr ..
@[simp] theorem State.count_ledger (r : RegDef) (n i k : Nat) : (s.count r n i k).ledger = s.ledger := State.wr_ledger ..
@[simp] theorem State.count_nextId (r : RegDef) (n i k : Nat) : (s.count r n i k).nextId = s.nextId := State.wr_nextId ..
@[simp] theorem State.count_tags (r : RegDef) (n i k : Nat) : (s.count r n i k).tags = s.tags := State.wr_tags ..
@[simp] theorem State.count_caches (r : RegDef) (n i k : Nat) : (s.count r n i k).caches = s.caches := State.wr_caches ..
@[simp] theorem State.count_fetches (r : RegDef) (n i k : Nat) : (s.count r n i k).fetches = s.fetches := State.wr_fetches ..
@[simp] theorem State.count_lfsr (r : RegDef) (n i k : Nat) : (s.count r n i k).lfsr = s.lfsr := State.wr_lfsr ..
@[simp] theorem State.count_lost (r : RegDef) (n i k : Nat) : (s.count r n i k).lost = s.lost := State.wr_lost ..
@[simp] theorem State.count_pidx (r : RegDef) (n i k : Nat) : (s.count r n i k).pidx = s.pidx := State.wr_pidx ..
@[simp] theorem State.count_allocs (r : RegDef) (n i k : Nat) : (s.count r n i k).allocs = s.allocs := State.wr_allocs ..
@[simp] theorem State.count_drain (r : RegDef) (n i k : Nat) : (s.count r n i k).drain = s.drain := State.wr_drain ..
@[simp] theorem State.count_drainFrom (r : RegDef) (n i k : Nat) : (s.count r n i k).drainFrom = s.drainFrom := State.wr_drainFrom ..
@[simp] theorem State.count_drainOpen (r : RegDef) (n i k : Nat) : (s.count r n i k).drainOpen = s.drainOpen := State.wr_drainOpen ..
@[simp] theorem State.count_retiring (r : RegDef) (n i k : Nat) : (s.count r n i k).retiring = s.retiring := State.wr_retiring ..
@[simp] theorem State.count_retiredLog (r : RegDef) (n i k : Nat) : (s.count r n i k).retiredLog = s.retiredLog := State.wr_retiredLog ..
@[simp] theorem State.count_dram (r : RegDef) (n i k : Nat) : (s.count r n i k).dram = s.dram := State.wr_dram ..
@[simp] theorem State.count_media (r : RegDef) (n i k : Nat) : (s.count r n i k).media = s.media := State.wr_media ..
@[simp] theorem State.count_chs (r : RegDef) (n i k : Nat) : (s.count r n i k).chs = s.chs := State.wr_chs ..
@[simp] theorem State.count_quads (r : RegDef) (n i k : Nat) : (s.count r n i k).quads = s.quads := State.wr_quads ..
@[simp] theorem State.count_sram (r : RegDef) (n i k : Nat) : (s.count r n i k).sram = s.sram := State.wr_sram ..
@[simp] theorem State.count_flash (r : RegDef) (n i k : Nat) : (s.count r n i k).flash = s.flash := State.wr_flash ..
@[simp] theorem State.count_life (r : RegDef) (n i k : Nat) : (s.count r n i k).life = s.life := State.wr_life ..
@[simp] theorem State.count_lifeAt (r : RegDef) (n i k : Nat) : (s.count r n i k).lifeAt = s.lifeAt := State.wr_lifeAt ..
@[simp] theorem State.count_zqQ (r : RegDef) (n i k : Nat) : (s.count r n i k).zqQ = s.zqQ := State.wr_zqQ ..
@[simp] theorem State.count_awlStep (r : RegDef) (n i k : Nat) : (s.count r n i k).awlStep = s.awlStep := State.wr_awlStep ..
@[simp] theorem State.count_awlLfsr (r : RegDef) (n i k : Nat) : (s.count r n i k).awlLfsr = s.awlLfsr := State.wr_awlLfsr ..
@[simp] theorem State.count_beam (r : RegDef) (n i k : Nat) : (s.count r n i k).beam = s.beam := State.wr_beam ..
@[simp] theorem State.count_beamCtx (r : RegDef) (n i k : Nat) : (s.count r n i k).beamCtx = s.beamCtx := State.wr_beamCtx ..
@[simp] theorem State.count_beamClear (r : RegDef) (n i k : Nat) : (s.count r n i k).beamClear = s.beamClear := State.wr_beamClear ..
@[simp] theorem State.count_clears (r : RegDef) (n i k : Nat) : (s.count r n i k).clears = s.clears := State.wr_clears ..
@[simp] theorem State.count_tagCap (r : RegDef) (n i k : Nat) : (s.count r n i k).tagCap = s.tagCap := State.wr_tagCap ..
@[simp] theorem State.count_pseqStaged (r : RegDef) (n i k : Nat) : (s.count r n i k).pseqStaged = s.pseqStaged := State.wr_pseqStaged ..
@[simp] theorem State.count_tseqStaged (r : RegDef) (n i k : Nat) : (s.count r n i k).tseqStaged = s.tseqStaged := State.wr_tseqStaged ..
@[simp] theorem State.count_out (r : RegDef) (n i k : Nat) : (s.count r n i k).out = s.out := State.wr_out ..
@[simp] theorem State.count_freeCtr (r : RegDef) (n i k : Nat) : (s.count r n i k).freeCtr = s.freeCtr := State.wr_freeCtr ..

/-! ### count64 -/

@[simp] theorem State.count64_pending (a b : RegDef) (n i : Nat) : (s.count64 a b n i).pending = s.pending := (State.wr_pending ..).trans (State.wr_pending ..)
@[simp] theorem State.count64_pend (a b : RegDef) (n i : Nat) : (s.count64 a b n i).pend = s.pend := (State.wr_pend ..).trans (State.wr_pend ..)
@[simp] theorem State.count64_holdRelease (a b : RegDef) (n i : Nat) : (s.count64 a b n i).holdRelease = s.holdRelease := (State.wr_holdRelease ..).trans (State.wr_holdRelease ..)
@[simp] theorem State.count64_mode (a b : RegDef) (n i : Nat) : (s.count64 a b n i).mode = s.mode := (State.wr_mode ..).trans (State.wr_mode ..)
@[simp] theorem State.count64_prev (a b : RegDef) (n i : Nat) : (s.count64 a b n i).prev = s.prev := (State.wr_prev ..).trans (State.wr_prev ..)
@[simp] theorem State.count64_warm (a b : RegDef) (n i : Nat) : (s.count64 a b n i).warm = s.warm := (State.wr_warm ..).trans (State.wr_warm ..)
@[simp] theorem State.count64_warmFlush (a b : RegDef) (n i : Nat) : (s.count64 a b n i).warmFlush = s.warmFlush := (State.wr_warmFlush ..).trans (State.wr_warmFlush ..)
@[simp] theorem State.count64_held (a b : RegDef) (n i : Nat) : (s.count64 a b n i).held = s.held := (State.wr_held ..).trans (State.wr_held ..)
@[simp] theorem State.count64_modeAt (a b : RegDef) (n i : Nat) : (s.count64 a b n i).modeAt = s.modeAt := (State.wr_modeAt ..).trans (State.wr_modeAt ..)
@[simp] theorem State.count64_resume (a b : RegDef) (n i : Nat) : (s.count64 a b n i).resume = s.resume := (State.wr_resume ..).trans (State.wr_resume ..)
@[simp] theorem State.count64_testFrom (a b : RegDef) (n i : Nat) : (s.count64 a b n i).testFrom = s.testFrom := (State.wr_testFrom ..).trans (State.wr_testFrom ..)
@[simp] theorem State.count64_start (a b : RegDef) (n i : Nat) : (s.count64 a b n i).start = s.start := (State.wr_start ..).trans (State.wr_start ..)
@[simp] theorem State.count64_mpWaits (a b : RegDef) (n i : Nat) : (s.count64 a b n i).mpWaits = s.mpWaits := (State.wr_mpWaits ..).trans (State.wr_mpWaits ..)
@[simp] theorem State.count64_pins (a b : RegDef) (n i : Nat) : (s.count64 a b n i).pins = s.pins := (State.wr_pins ..).trans (State.wr_pins ..)
@[simp] theorem State.count64_timeBase (a b : RegDef) (n i : Nat) : (s.count64 a b n i).timeBase = s.timeBase := (State.wr_timeBase ..).trans (State.wr_timeBase ..)
@[simp] theorem State.count64_tickFrac (a b : RegDef) (n i : Nat) : (s.count64 a b n i).tickFrac = s.tickFrac := (State.wr_tickFrac ..).trans (State.wr_tickFrac ..)
@[simp] theorem State.count64_uptime (a b : RegDef) (n i : Nat) : (s.count64 a b n i).uptime = s.uptime := (State.wr_uptime ..).trans (State.wr_uptime ..)
@[simp] theorem State.count64_epoch (a b : RegDef) (n i : Nat) : (s.count64 a b n i).epoch = s.epoch := (State.wr_epoch ..).trans (State.wr_epoch ..)
@[simp] theorem State.count64_evq (a b : RegDef) (n i : Nat) : (s.count64 a b n i).evq = s.evq := (State.wr_evq ..).trans (State.wr_evq ..)
@[simp] theorem State.count64_flt (a b : RegDef) (n i : Nat) : (s.count64 a b n i).flt = s.flt := (State.wr_flt ..).trans (State.wr_flt ..)
@[simp] theorem State.count64_ports (a b : RegDef) (n i : Nat) : (s.count64 a b n i).ports = s.ports := (State.wr_ports ..).trans (State.wr_ports ..)
@[simp] theorem State.count64_ctxs (a b : RegDef) (n i : Nat) : (s.count64 a b n i).ctxs = s.ctxs := (State.wr_ctxs ..).trans (State.wr_ctxs ..)
@[simp] theorem State.count64_ctxWin (a b : RegDef) (n i : Nat) : (s.count64 a b n i).ctxWin = s.ctxWin := (State.wr_ctxWin ..).trans (State.wr_ctxWin ..)
@[simp] theorem State.count64_ingressPtr (a b : RegDef) (n i : Nat) : (s.count64 a b n i).ingressPtr = s.ingressPtr := (State.wr_ingressPtr ..).trans (State.wr_ingressPtr ..)
@[simp] theorem State.count64_ledger (a b : RegDef) (n i : Nat) : (s.count64 a b n i).ledger = s.ledger := (State.wr_ledger ..).trans (State.wr_ledger ..)
@[simp] theorem State.count64_nextId (a b : RegDef) (n i : Nat) : (s.count64 a b n i).nextId = s.nextId := (State.wr_nextId ..).trans (State.wr_nextId ..)
@[simp] theorem State.count64_tags (a b : RegDef) (n i : Nat) : (s.count64 a b n i).tags = s.tags := (State.wr_tags ..).trans (State.wr_tags ..)
@[simp] theorem State.count64_caches (a b : RegDef) (n i : Nat) : (s.count64 a b n i).caches = s.caches := (State.wr_caches ..).trans (State.wr_caches ..)
@[simp] theorem State.count64_fetches (a b : RegDef) (n i : Nat) : (s.count64 a b n i).fetches = s.fetches := (State.wr_fetches ..).trans (State.wr_fetches ..)
@[simp] theorem State.count64_lfsr (a b : RegDef) (n i : Nat) : (s.count64 a b n i).lfsr = s.lfsr := (State.wr_lfsr ..).trans (State.wr_lfsr ..)
@[simp] theorem State.count64_lost (a b : RegDef) (n i : Nat) : (s.count64 a b n i).lost = s.lost := (State.wr_lost ..).trans (State.wr_lost ..)
@[simp] theorem State.count64_pidx (a b : RegDef) (n i : Nat) : (s.count64 a b n i).pidx = s.pidx := (State.wr_pidx ..).trans (State.wr_pidx ..)
@[simp] theorem State.count64_allocs (a b : RegDef) (n i : Nat) : (s.count64 a b n i).allocs = s.allocs := (State.wr_allocs ..).trans (State.wr_allocs ..)
@[simp] theorem State.count64_drain (a b : RegDef) (n i : Nat) : (s.count64 a b n i).drain = s.drain := (State.wr_drain ..).trans (State.wr_drain ..)
@[simp] theorem State.count64_drainFrom (a b : RegDef) (n i : Nat) : (s.count64 a b n i).drainFrom = s.drainFrom := (State.wr_drainFrom ..).trans (State.wr_drainFrom ..)
@[simp] theorem State.count64_drainOpen (a b : RegDef) (n i : Nat) : (s.count64 a b n i).drainOpen = s.drainOpen := (State.wr_drainOpen ..).trans (State.wr_drainOpen ..)
@[simp] theorem State.count64_retiring (a b : RegDef) (n i : Nat) : (s.count64 a b n i).retiring = s.retiring := (State.wr_retiring ..).trans (State.wr_retiring ..)
@[simp] theorem State.count64_retiredLog (a b : RegDef) (n i : Nat) : (s.count64 a b n i).retiredLog = s.retiredLog := (State.wr_retiredLog ..).trans (State.wr_retiredLog ..)
@[simp] theorem State.count64_dram (a b : RegDef) (n i : Nat) : (s.count64 a b n i).dram = s.dram := (State.wr_dram ..).trans (State.wr_dram ..)
@[simp] theorem State.count64_media (a b : RegDef) (n i : Nat) : (s.count64 a b n i).media = s.media := (State.wr_media ..).trans (State.wr_media ..)
@[simp] theorem State.count64_chs (a b : RegDef) (n i : Nat) : (s.count64 a b n i).chs = s.chs := (State.wr_chs ..).trans (State.wr_chs ..)
@[simp] theorem State.count64_quads (a b : RegDef) (n i : Nat) : (s.count64 a b n i).quads = s.quads := (State.wr_quads ..).trans (State.wr_quads ..)
@[simp] theorem State.count64_sram (a b : RegDef) (n i : Nat) : (s.count64 a b n i).sram = s.sram := (State.wr_sram ..).trans (State.wr_sram ..)
@[simp] theorem State.count64_flash (a b : RegDef) (n i : Nat) : (s.count64 a b n i).flash = s.flash := (State.wr_flash ..).trans (State.wr_flash ..)
@[simp] theorem State.count64_life (a b : RegDef) (n i : Nat) : (s.count64 a b n i).life = s.life := (State.wr_life ..).trans (State.wr_life ..)
@[simp] theorem State.count64_lifeAt (a b : RegDef) (n i : Nat) : (s.count64 a b n i).lifeAt = s.lifeAt := (State.wr_lifeAt ..).trans (State.wr_lifeAt ..)
@[simp] theorem State.count64_zqQ (a b : RegDef) (n i : Nat) : (s.count64 a b n i).zqQ = s.zqQ := (State.wr_zqQ ..).trans (State.wr_zqQ ..)
@[simp] theorem State.count64_awlStep (a b : RegDef) (n i : Nat) : (s.count64 a b n i).awlStep = s.awlStep := (State.wr_awlStep ..).trans (State.wr_awlStep ..)
@[simp] theorem State.count64_awlLfsr (a b : RegDef) (n i : Nat) : (s.count64 a b n i).awlLfsr = s.awlLfsr := (State.wr_awlLfsr ..).trans (State.wr_awlLfsr ..)
@[simp] theorem State.count64_beam (a b : RegDef) (n i : Nat) : (s.count64 a b n i).beam = s.beam := (State.wr_beam ..).trans (State.wr_beam ..)
@[simp] theorem State.count64_beamCtx (a b : RegDef) (n i : Nat) : (s.count64 a b n i).beamCtx = s.beamCtx := (State.wr_beamCtx ..).trans (State.wr_beamCtx ..)
@[simp] theorem State.count64_beamClear (a b : RegDef) (n i : Nat) : (s.count64 a b n i).beamClear = s.beamClear := (State.wr_beamClear ..).trans (State.wr_beamClear ..)
@[simp] theorem State.count64_clears (a b : RegDef) (n i : Nat) : (s.count64 a b n i).clears = s.clears := (State.wr_clears ..).trans (State.wr_clears ..)
@[simp] theorem State.count64_tagCap (a b : RegDef) (n i : Nat) : (s.count64 a b n i).tagCap = s.tagCap := (State.wr_tagCap ..).trans (State.wr_tagCap ..)
@[simp] theorem State.count64_pseqStaged (a b : RegDef) (n i : Nat) : (s.count64 a b n i).pseqStaged = s.pseqStaged := (State.wr_pseqStaged ..).trans (State.wr_pseqStaged ..)
@[simp] theorem State.count64_tseqStaged (a b : RegDef) (n i : Nat) : (s.count64 a b n i).tseqStaged = s.tseqStaged := (State.wr_tseqStaged ..).trans (State.wr_tseqStaged ..)
@[simp] theorem State.count64_out (a b : RegDef) (n i : Nat) : (s.count64 a b n i).out = s.out := (State.wr_out ..).trans (State.wr_out ..)
@[simp] theorem State.count64_freeCtr (a b : RegDef) (n i : Nat) : (s.count64 a b n i).freeCtr = s.freeCtr := (State.wr_freeCtr ..).trans (State.wr_freeCtr ..)

/-! ### event -/

@[simp] theorem State.event_pending (a b c : Nat) (x y : Word) : (s.event a b c x y).pending = s.pending := by unfold State.event; rfl
@[simp] theorem State.event_regs (a b c : Nat) (x y : Word) : (s.event a b c x y).regs = s.regs := by unfold State.event; rfl
@[simp] theorem State.event_pend (a b c : Nat) (x y : Word) : (s.event a b c x y).pend = s.pend := by unfold State.event; rfl
@[simp] theorem State.event_holdRelease (a b c : Nat) (x y : Word) : (s.event a b c x y).holdRelease = s.holdRelease := by unfold State.event; rfl
@[simp] theorem State.event_mode (a b c : Nat) (x y : Word) : (s.event a b c x y).mode = s.mode := by unfold State.event; rfl
@[simp] theorem State.event_prev (a b c : Nat) (x y : Word) : (s.event a b c x y).prev = s.prev := by unfold State.event; rfl
@[simp] theorem State.event_warm (a b c : Nat) (x y : Word) : (s.event a b c x y).warm = s.warm := by unfold State.event; rfl
@[simp] theorem State.event_warmFlush (a b c : Nat) (x y : Word) : (s.event a b c x y).warmFlush = s.warmFlush := by unfold State.event; rfl
@[simp] theorem State.event_held (a b c : Nat) (x y : Word) : (s.event a b c x y).held = s.held := by unfold State.event; rfl
@[simp] theorem State.event_modeAt (a b c : Nat) (x y : Word) : (s.event a b c x y).modeAt = s.modeAt := by unfold State.event; rfl
@[simp] theorem State.event_resume (a b c : Nat) (x y : Word) : (s.event a b c x y).resume = s.resume := by unfold State.event; rfl
@[simp] theorem State.event_testFrom (a b c : Nat) (x y : Word) : (s.event a b c x y).testFrom = s.testFrom := by unfold State.event; rfl
@[simp] theorem State.event_start (a b c : Nat) (x y : Word) : (s.event a b c x y).start = s.start := by unfold State.event; rfl
@[simp] theorem State.event_mpWaits (a b c : Nat) (x y : Word) : (s.event a b c x y).mpWaits = s.mpWaits := by unfold State.event; rfl
@[simp] theorem State.event_pins (a b c : Nat) (x y : Word) : (s.event a b c x y).pins = s.pins := by unfold State.event; rfl
@[simp] theorem State.event_timeBase (a b c : Nat) (x y : Word) : (s.event a b c x y).timeBase = s.timeBase := by unfold State.event; rfl
@[simp] theorem State.event_tickFrac (a b c : Nat) (x y : Word) : (s.event a b c x y).tickFrac = s.tickFrac := by unfold State.event; rfl
@[simp] theorem State.event_uptime (a b c : Nat) (x y : Word) : (s.event a b c x y).uptime = s.uptime := by unfold State.event; rfl
@[simp] theorem State.event_epoch (a b c : Nat) (x y : Word) : (s.event a b c x y).epoch = s.epoch := by unfold State.event; rfl
@[simp] theorem State.event_flt (a b c : Nat) (x y : Word) : (s.event a b c x y).flt = s.flt := by unfold State.event; rfl
@[simp] theorem State.event_ports (a b c : Nat) (x y : Word) : (s.event a b c x y).ports = s.ports := by unfold State.event; rfl
@[simp] theorem State.event_ctxs (a b c : Nat) (x y : Word) : (s.event a b c x y).ctxs = s.ctxs := by unfold State.event; rfl
@[simp] theorem State.event_ctxWin (a b c : Nat) (x y : Word) : (s.event a b c x y).ctxWin = s.ctxWin := by unfold State.event; rfl
@[simp] theorem State.event_ingressPtr (a b c : Nat) (x y : Word) : (s.event a b c x y).ingressPtr = s.ingressPtr := by unfold State.event; rfl
@[simp] theorem State.event_ledger (a b c : Nat) (x y : Word) : (s.event a b c x y).ledger = s.ledger := by unfold State.event; rfl
@[simp] theorem State.event_nextId (a b c : Nat) (x y : Word) : (s.event a b c x y).nextId = s.nextId := by unfold State.event; rfl
@[simp] theorem State.event_tags (a b c : Nat) (x y : Word) : (s.event a b c x y).tags = s.tags := by unfold State.event; rfl
@[simp] theorem State.event_caches (a b c : Nat) (x y : Word) : (s.event a b c x y).caches = s.caches := by unfold State.event; rfl
@[simp] theorem State.event_fetches (a b c : Nat) (x y : Word) : (s.event a b c x y).fetches = s.fetches := by unfold State.event; rfl
@[simp] theorem State.event_lfsr (a b c : Nat) (x y : Word) : (s.event a b c x y).lfsr = s.lfsr := by unfold State.event; rfl
@[simp] theorem State.event_lost (a b c : Nat) (x y : Word) : (s.event a b c x y).lost = s.lost := by unfold State.event; rfl
@[simp] theorem State.event_pidx (a b c : Nat) (x y : Word) : (s.event a b c x y).pidx = s.pidx := by unfold State.event; rfl
@[simp] theorem State.event_allocs (a b c : Nat) (x y : Word) : (s.event a b c x y).allocs = s.allocs := by unfold State.event; rfl
@[simp] theorem State.event_drain (a b c : Nat) (x y : Word) : (s.event a b c x y).drain = s.drain := by unfold State.event; rfl
@[simp] theorem State.event_drainFrom (a b c : Nat) (x y : Word) : (s.event a b c x y).drainFrom = s.drainFrom := by unfold State.event; rfl
@[simp] theorem State.event_drainOpen (a b c : Nat) (x y : Word) : (s.event a b c x y).drainOpen = s.drainOpen := by unfold State.event; rfl
@[simp] theorem State.event_retiring (a b c : Nat) (x y : Word) : (s.event a b c x y).retiring = s.retiring := by unfold State.event; rfl
@[simp] theorem State.event_retiredLog (a b c : Nat) (x y : Word) : (s.event a b c x y).retiredLog = s.retiredLog := by unfold State.event; rfl
@[simp] theorem State.event_dram (a b c : Nat) (x y : Word) : (s.event a b c x y).dram = s.dram := by unfold State.event; rfl
@[simp] theorem State.event_media (a b c : Nat) (x y : Word) : (s.event a b c x y).media = s.media := by unfold State.event; rfl
@[simp] theorem State.event_chs (a b c : Nat) (x y : Word) : (s.event a b c x y).chs = s.chs := by unfold State.event; rfl
@[simp] theorem State.event_quads (a b c : Nat) (x y : Word) : (s.event a b c x y).quads = s.quads := by unfold State.event; rfl
@[simp] theorem State.event_sram (a b c : Nat) (x y : Word) : (s.event a b c x y).sram = s.sram := by unfold State.event; rfl
@[simp] theorem State.event_flash (a b c : Nat) (x y : Word) : (s.event a b c x y).flash = s.flash := by unfold State.event; rfl
@[simp] theorem State.event_life (a b c : Nat) (x y : Word) : (s.event a b c x y).life = s.life := by unfold State.event; rfl
@[simp] theorem State.event_lifeAt (a b c : Nat) (x y : Word) : (s.event a b c x y).lifeAt = s.lifeAt := by unfold State.event; rfl
@[simp] theorem State.event_zqQ (a b c : Nat) (x y : Word) : (s.event a b c x y).zqQ = s.zqQ := by unfold State.event; rfl
@[simp] theorem State.event_awlStep (a b c : Nat) (x y : Word) : (s.event a b c x y).awlStep = s.awlStep := by unfold State.event; rfl
@[simp] theorem State.event_awlLfsr (a b c : Nat) (x y : Word) : (s.event a b c x y).awlLfsr = s.awlLfsr := by unfold State.event; rfl
@[simp] theorem State.event_beam (a b c : Nat) (x y : Word) : (s.event a b c x y).beam = s.beam := by unfold State.event; rfl
@[simp] theorem State.event_beamCtx (a b c : Nat) (x y : Word) : (s.event a b c x y).beamCtx = s.beamCtx := by unfold State.event; rfl
@[simp] theorem State.event_beamClear (a b c : Nat) (x y : Word) : (s.event a b c x y).beamClear = s.beamClear := by unfold State.event; rfl
@[simp] theorem State.event_clears (a b c : Nat) (x y : Word) : (s.event a b c x y).clears = s.clears := by unfold State.event; rfl
@[simp] theorem State.event_tagCap (a b c : Nat) (x y : Word) : (s.event a b c x y).tagCap = s.tagCap := by unfold State.event; rfl
@[simp] theorem State.event_pseqStaged (a b c : Nat) (x y : Word) : (s.event a b c x y).pseqStaged = s.pseqStaged := by unfold State.event; rfl
@[simp] theorem State.event_tseqStaged (a b c : Nat) (x y : Word) : (s.event a b c x y).tseqStaged = s.tseqStaged := by unfold State.event; rfl
@[simp] theorem State.event_out (a b c : Nat) (x y : Word) : (s.event a b c x y).out = s.out := by unfold State.event; rfl
@[simp] theorem State.event_freeCtr (a b c : Nat) (x y : Word) : (s.event a b c x y).freeCtr = s.freeCtr := by unfold State.event; rfl

/-! ### info -/

@[simp] theorem State.info_pending (a b : Nat) (x y : Word) : (s.info a b x y).pending = s.pending := State.event_pending ..
@[simp] theorem State.info_regs (a b : Nat) (x y : Word) : (s.info a b x y).regs = s.regs := State.event_regs ..
@[simp] theorem State.info_pend (a b : Nat) (x y : Word) : (s.info a b x y).pend = s.pend := State.event_pend ..
@[simp] theorem State.info_holdRelease (a b : Nat) (x y : Word) : (s.info a b x y).holdRelease = s.holdRelease := State.event_holdRelease ..
@[simp] theorem State.info_mode (a b : Nat) (x y : Word) : (s.info a b x y).mode = s.mode := State.event_mode ..
@[simp] theorem State.info_prev (a b : Nat) (x y : Word) : (s.info a b x y).prev = s.prev := State.event_prev ..
@[simp] theorem State.info_warm (a b : Nat) (x y : Word) : (s.info a b x y).warm = s.warm := State.event_warm ..
@[simp] theorem State.info_warmFlush (a b : Nat) (x y : Word) : (s.info a b x y).warmFlush = s.warmFlush := State.event_warmFlush ..
@[simp] theorem State.info_held (a b : Nat) (x y : Word) : (s.info a b x y).held = s.held := State.event_held ..
@[simp] theorem State.info_modeAt (a b : Nat) (x y : Word) : (s.info a b x y).modeAt = s.modeAt := State.event_modeAt ..
@[simp] theorem State.info_resume (a b : Nat) (x y : Word) : (s.info a b x y).resume = s.resume := State.event_resume ..
@[simp] theorem State.info_testFrom (a b : Nat) (x y : Word) : (s.info a b x y).testFrom = s.testFrom := State.event_testFrom ..
@[simp] theorem State.info_start (a b : Nat) (x y : Word) : (s.info a b x y).start = s.start := State.event_start ..
@[simp] theorem State.info_mpWaits (a b : Nat) (x y : Word) : (s.info a b x y).mpWaits = s.mpWaits := State.event_mpWaits ..
@[simp] theorem State.info_pins (a b : Nat) (x y : Word) : (s.info a b x y).pins = s.pins := State.event_pins ..
@[simp] theorem State.info_timeBase (a b : Nat) (x y : Word) : (s.info a b x y).timeBase = s.timeBase := State.event_timeBase ..
@[simp] theorem State.info_tickFrac (a b : Nat) (x y : Word) : (s.info a b x y).tickFrac = s.tickFrac := State.event_tickFrac ..
@[simp] theorem State.info_uptime (a b : Nat) (x y : Word) : (s.info a b x y).uptime = s.uptime := State.event_uptime ..
@[simp] theorem State.info_epoch (a b : Nat) (x y : Word) : (s.info a b x y).epoch = s.epoch := State.event_epoch ..
@[simp] theorem State.info_flt (a b : Nat) (x y : Word) : (s.info a b x y).flt = s.flt := State.event_flt ..
@[simp] theorem State.info_ports (a b : Nat) (x y : Word) : (s.info a b x y).ports = s.ports := State.event_ports ..
@[simp] theorem State.info_ctxs (a b : Nat) (x y : Word) : (s.info a b x y).ctxs = s.ctxs := State.event_ctxs ..
@[simp] theorem State.info_ctxWin (a b : Nat) (x y : Word) : (s.info a b x y).ctxWin = s.ctxWin := State.event_ctxWin ..
@[simp] theorem State.info_ingressPtr (a b : Nat) (x y : Word) : (s.info a b x y).ingressPtr = s.ingressPtr := State.event_ingressPtr ..
@[simp] theorem State.info_ledger (a b : Nat) (x y : Word) : (s.info a b x y).ledger = s.ledger := State.event_ledger ..
@[simp] theorem State.info_nextId (a b : Nat) (x y : Word) : (s.info a b x y).nextId = s.nextId := State.event_nextId ..
@[simp] theorem State.info_tags (a b : Nat) (x y : Word) : (s.info a b x y).tags = s.tags := State.event_tags ..
@[simp] theorem State.info_caches (a b : Nat) (x y : Word) : (s.info a b x y).caches = s.caches := State.event_caches ..
@[simp] theorem State.info_fetches (a b : Nat) (x y : Word) : (s.info a b x y).fetches = s.fetches := State.event_fetches ..
@[simp] theorem State.info_lfsr (a b : Nat) (x y : Word) : (s.info a b x y).lfsr = s.lfsr := State.event_lfsr ..
@[simp] theorem State.info_lost (a b : Nat) (x y : Word) : (s.info a b x y).lost = s.lost := State.event_lost ..
@[simp] theorem State.info_pidx (a b : Nat) (x y : Word) : (s.info a b x y).pidx = s.pidx := State.event_pidx ..
@[simp] theorem State.info_allocs (a b : Nat) (x y : Word) : (s.info a b x y).allocs = s.allocs := State.event_allocs ..
@[simp] theorem State.info_drain (a b : Nat) (x y : Word) : (s.info a b x y).drain = s.drain := State.event_drain ..
@[simp] theorem State.info_drainFrom (a b : Nat) (x y : Word) : (s.info a b x y).drainFrom = s.drainFrom := State.event_drainFrom ..
@[simp] theorem State.info_drainOpen (a b : Nat) (x y : Word) : (s.info a b x y).drainOpen = s.drainOpen := State.event_drainOpen ..
@[simp] theorem State.info_retiring (a b : Nat) (x y : Word) : (s.info a b x y).retiring = s.retiring := State.event_retiring ..
@[simp] theorem State.info_retiredLog (a b : Nat) (x y : Word) : (s.info a b x y).retiredLog = s.retiredLog := State.event_retiredLog ..
@[simp] theorem State.info_dram (a b : Nat) (x y : Word) : (s.info a b x y).dram = s.dram := State.event_dram ..
@[simp] theorem State.info_media (a b : Nat) (x y : Word) : (s.info a b x y).media = s.media := State.event_media ..
@[simp] theorem State.info_chs (a b : Nat) (x y : Word) : (s.info a b x y).chs = s.chs := State.event_chs ..
@[simp] theorem State.info_quads (a b : Nat) (x y : Word) : (s.info a b x y).quads = s.quads := State.event_quads ..
@[simp] theorem State.info_sram (a b : Nat) (x y : Word) : (s.info a b x y).sram = s.sram := State.event_sram ..
@[simp] theorem State.info_flash (a b : Nat) (x y : Word) : (s.info a b x y).flash = s.flash := State.event_flash ..
@[simp] theorem State.info_life (a b : Nat) (x y : Word) : (s.info a b x y).life = s.life := State.event_life ..
@[simp] theorem State.info_lifeAt (a b : Nat) (x y : Word) : (s.info a b x y).lifeAt = s.lifeAt := State.event_lifeAt ..
@[simp] theorem State.info_zqQ (a b : Nat) (x y : Word) : (s.info a b x y).zqQ = s.zqQ := State.event_zqQ ..
@[simp] theorem State.info_awlStep (a b : Nat) (x y : Word) : (s.info a b x y).awlStep = s.awlStep := State.event_awlStep ..
@[simp] theorem State.info_awlLfsr (a b : Nat) (x y : Word) : (s.info a b x y).awlLfsr = s.awlLfsr := State.event_awlLfsr ..
@[simp] theorem State.info_beam (a b : Nat) (x y : Word) : (s.info a b x y).beam = s.beam := State.event_beam ..
@[simp] theorem State.info_beamCtx (a b : Nat) (x y : Word) : (s.info a b x y).beamCtx = s.beamCtx := State.event_beamCtx ..
@[simp] theorem State.info_beamClear (a b : Nat) (x y : Word) : (s.info a b x y).beamClear = s.beamClear := State.event_beamClear ..
@[simp] theorem State.info_clears (a b : Nat) (x y : Word) : (s.info a b x y).clears = s.clears := State.event_clears ..
@[simp] theorem State.info_tagCap (a b : Nat) (x y : Word) : (s.info a b x y).tagCap = s.tagCap := State.event_tagCap ..
@[simp] theorem State.info_pseqStaged (a b : Nat) (x y : Word) : (s.info a b x y).pseqStaged = s.pseqStaged := State.event_pseqStaged ..
@[simp] theorem State.info_tseqStaged (a b : Nat) (x y : Word) : (s.info a b x y).tseqStaged = s.tseqStaged := State.event_tseqStaged ..
@[simp] theorem State.info_out (a b : Nat) (x y : Word) : (s.info a b x y).out = s.out := State.event_out ..
@[simp] theorem State.info_freeCtr (a b : Nat) (x y : Word) : (s.info a b x y).freeCtr = s.freeCtr := State.event_freeCtr ..

/-! ### report -/

@[simp] theorem State.report_pending (n : Nat) (o : Option Nat) : (s.report n o).pending = s.pending := by unfold State.report; rfl
@[simp] theorem State.report_regs (n : Nat) (o : Option Nat) : (s.report n o).regs = s.regs := by unfold State.report; rfl
@[simp] theorem State.report_pend (n : Nat) (o : Option Nat) : (s.report n o).pend = s.pend := by unfold State.report; rfl
@[simp] theorem State.report_holdRelease (n : Nat) (o : Option Nat) : (s.report n o).holdRelease = s.holdRelease := by unfold State.report; rfl
@[simp] theorem State.report_mode (n : Nat) (o : Option Nat) : (s.report n o).mode = s.mode := by unfold State.report; rfl
@[simp] theorem State.report_prev (n : Nat) (o : Option Nat) : (s.report n o).prev = s.prev := by unfold State.report; rfl
@[simp] theorem State.report_warm (n : Nat) (o : Option Nat) : (s.report n o).warm = s.warm := by unfold State.report; rfl
@[simp] theorem State.report_warmFlush (n : Nat) (o : Option Nat) : (s.report n o).warmFlush = s.warmFlush := by unfold State.report; rfl
@[simp] theorem State.report_held (n : Nat) (o : Option Nat) : (s.report n o).held = s.held := by unfold State.report; rfl
@[simp] theorem State.report_modeAt (n : Nat) (o : Option Nat) : (s.report n o).modeAt = s.modeAt := by unfold State.report; rfl
@[simp] theorem State.report_resume (n : Nat) (o : Option Nat) : (s.report n o).resume = s.resume := by unfold State.report; rfl
@[simp] theorem State.report_testFrom (n : Nat) (o : Option Nat) : (s.report n o).testFrom = s.testFrom := by unfold State.report; rfl
@[simp] theorem State.report_start (n : Nat) (o : Option Nat) : (s.report n o).start = s.start := by unfold State.report; rfl
@[simp] theorem State.report_mpWaits (n : Nat) (o : Option Nat) : (s.report n o).mpWaits = s.mpWaits := by unfold State.report; rfl
@[simp] theorem State.report_pins (n : Nat) (o : Option Nat) : (s.report n o).pins = s.pins := by unfold State.report; rfl
@[simp] theorem State.report_timeBase (n : Nat) (o : Option Nat) : (s.report n o).timeBase = s.timeBase := by unfold State.report; rfl
@[simp] theorem State.report_tickFrac (n : Nat) (o : Option Nat) : (s.report n o).tickFrac = s.tickFrac := by unfold State.report; rfl
@[simp] theorem State.report_uptime (n : Nat) (o : Option Nat) : (s.report n o).uptime = s.uptime := by unfold State.report; rfl
@[simp] theorem State.report_epoch (n : Nat) (o : Option Nat) : (s.report n o).epoch = s.epoch := by unfold State.report; rfl
@[simp] theorem State.report_evq (n : Nat) (o : Option Nat) : (s.report n o).evq = s.evq := by unfold State.report; rfl
@[simp] theorem State.report_ports (n : Nat) (o : Option Nat) : (s.report n o).ports = s.ports := by unfold State.report; rfl
@[simp] theorem State.report_ctxs (n : Nat) (o : Option Nat) : (s.report n o).ctxs = s.ctxs := by unfold State.report; rfl
@[simp] theorem State.report_ctxWin (n : Nat) (o : Option Nat) : (s.report n o).ctxWin = s.ctxWin := by unfold State.report; rfl
@[simp] theorem State.report_ingressPtr (n : Nat) (o : Option Nat) : (s.report n o).ingressPtr = s.ingressPtr := by unfold State.report; rfl
@[simp] theorem State.report_ledger (n : Nat) (o : Option Nat) : (s.report n o).ledger = s.ledger := by unfold State.report; rfl
@[simp] theorem State.report_nextId (n : Nat) (o : Option Nat) : (s.report n o).nextId = s.nextId := by unfold State.report; rfl
@[simp] theorem State.report_tags (n : Nat) (o : Option Nat) : (s.report n o).tags = s.tags := by unfold State.report; rfl
@[simp] theorem State.report_caches (n : Nat) (o : Option Nat) : (s.report n o).caches = s.caches := by unfold State.report; rfl
@[simp] theorem State.report_fetches (n : Nat) (o : Option Nat) : (s.report n o).fetches = s.fetches := by unfold State.report; rfl
@[simp] theorem State.report_lfsr (n : Nat) (o : Option Nat) : (s.report n o).lfsr = s.lfsr := by unfold State.report; rfl
@[simp] theorem State.report_lost (n : Nat) (o : Option Nat) : (s.report n o).lost = s.lost := by unfold State.report; rfl
@[simp] theorem State.report_pidx (n : Nat) (o : Option Nat) : (s.report n o).pidx = s.pidx := by unfold State.report; rfl
@[simp] theorem State.report_allocs (n : Nat) (o : Option Nat) : (s.report n o).allocs = s.allocs := by unfold State.report; rfl
@[simp] theorem State.report_drain (n : Nat) (o : Option Nat) : (s.report n o).drain = s.drain := by unfold State.report; rfl
@[simp] theorem State.report_drainFrom (n : Nat) (o : Option Nat) : (s.report n o).drainFrom = s.drainFrom := by unfold State.report; rfl
@[simp] theorem State.report_drainOpen (n : Nat) (o : Option Nat) : (s.report n o).drainOpen = s.drainOpen := by unfold State.report; rfl
@[simp] theorem State.report_retiring (n : Nat) (o : Option Nat) : (s.report n o).retiring = s.retiring := by unfold State.report; rfl
@[simp] theorem State.report_retiredLog (n : Nat) (o : Option Nat) : (s.report n o).retiredLog = s.retiredLog := by unfold State.report; rfl
@[simp] theorem State.report_dram (n : Nat) (o : Option Nat) : (s.report n o).dram = s.dram := by unfold State.report; rfl
@[simp] theorem State.report_media (n : Nat) (o : Option Nat) : (s.report n o).media = s.media := by unfold State.report; rfl
@[simp] theorem State.report_chs (n : Nat) (o : Option Nat) : (s.report n o).chs = s.chs := by unfold State.report; rfl
@[simp] theorem State.report_quads (n : Nat) (o : Option Nat) : (s.report n o).quads = s.quads := by unfold State.report; rfl
@[simp] theorem State.report_sram (n : Nat) (o : Option Nat) : (s.report n o).sram = s.sram := by unfold State.report; rfl
@[simp] theorem State.report_flash (n : Nat) (o : Option Nat) : (s.report n o).flash = s.flash := by unfold State.report; rfl
@[simp] theorem State.report_life (n : Nat) (o : Option Nat) : (s.report n o).life = s.life := by unfold State.report; rfl
@[simp] theorem State.report_lifeAt (n : Nat) (o : Option Nat) : (s.report n o).lifeAt = s.lifeAt := by unfold State.report; rfl
@[simp] theorem State.report_zqQ (n : Nat) (o : Option Nat) : (s.report n o).zqQ = s.zqQ := by unfold State.report; rfl
@[simp] theorem State.report_awlStep (n : Nat) (o : Option Nat) : (s.report n o).awlStep = s.awlStep := by unfold State.report; rfl
@[simp] theorem State.report_awlLfsr (n : Nat) (o : Option Nat) : (s.report n o).awlLfsr = s.awlLfsr := by unfold State.report; rfl
@[simp] theorem State.report_beam (n : Nat) (o : Option Nat) : (s.report n o).beam = s.beam := by unfold State.report; rfl
@[simp] theorem State.report_beamCtx (n : Nat) (o : Option Nat) : (s.report n o).beamCtx = s.beamCtx := by unfold State.report; rfl
@[simp] theorem State.report_beamClear (n : Nat) (o : Option Nat) : (s.report n o).beamClear = s.beamClear := by unfold State.report; rfl
@[simp] theorem State.report_clears (n : Nat) (o : Option Nat) : (s.report n o).clears = s.clears := by unfold State.report; rfl
@[simp] theorem State.report_tagCap (n : Nat) (o : Option Nat) : (s.report n o).tagCap = s.tagCap := by unfold State.report; rfl
@[simp] theorem State.report_pseqStaged (n : Nat) (o : Option Nat) : (s.report n o).pseqStaged = s.pseqStaged := by unfold State.report; rfl
@[simp] theorem State.report_tseqStaged (n : Nat) (o : Option Nat) : (s.report n o).tseqStaged = s.tseqStaged := by unfold State.report; rfl
@[simp] theorem State.report_out (n : Nat) (o : Option Nat) : (s.report n o).out = s.out := by unfold State.report; rfl
@[simp] theorem State.report_freeCtr (n : Nat) (o : Option Nat) : (s.report n o).freeCtr = s.freeCtr := by unfold State.report; rfl

/-! ### eventOf -/

@[simp] theorem State.eventOf_pending (a b n : Nat) (x y : Word) (o : Option Nat) : (s.eventOf a b n x y o).pending = s.pending := (State.report_pending ..).trans (State.event_pending ..)
@[simp] theorem State.eventOf_regs (a b n : Nat) (x y : Word) (o : Option Nat) : (s.eventOf a b n x y o).regs = s.regs := (State.report_regs ..).trans (State.event_regs ..)
@[simp] theorem State.eventOf_pend (a b n : Nat) (x y : Word) (o : Option Nat) : (s.eventOf a b n x y o).pend = s.pend := (State.report_pend ..).trans (State.event_pend ..)
@[simp] theorem State.eventOf_holdRelease (a b n : Nat) (x y : Word) (o : Option Nat) : (s.eventOf a b n x y o).holdRelease = s.holdRelease := (State.report_holdRelease ..).trans (State.event_holdRelease ..)
@[simp] theorem State.eventOf_mode (a b n : Nat) (x y : Word) (o : Option Nat) : (s.eventOf a b n x y o).mode = s.mode := (State.report_mode ..).trans (State.event_mode ..)
@[simp] theorem State.eventOf_prev (a b n : Nat) (x y : Word) (o : Option Nat) : (s.eventOf a b n x y o).prev = s.prev := (State.report_prev ..).trans (State.event_prev ..)
@[simp] theorem State.eventOf_warm (a b n : Nat) (x y : Word) (o : Option Nat) : (s.eventOf a b n x y o).warm = s.warm := (State.report_warm ..).trans (State.event_warm ..)
@[simp] theorem State.eventOf_warmFlush (a b n : Nat) (x y : Word) (o : Option Nat) : (s.eventOf a b n x y o).warmFlush = s.warmFlush := (State.report_warmFlush ..).trans (State.event_warmFlush ..)
@[simp] theorem State.eventOf_held (a b n : Nat) (x y : Word) (o : Option Nat) : (s.eventOf a b n x y o).held = s.held := (State.report_held ..).trans (State.event_held ..)
@[simp] theorem State.eventOf_modeAt (a b n : Nat) (x y : Word) (o : Option Nat) : (s.eventOf a b n x y o).modeAt = s.modeAt := (State.report_modeAt ..).trans (State.event_modeAt ..)
@[simp] theorem State.eventOf_resume (a b n : Nat) (x y : Word) (o : Option Nat) : (s.eventOf a b n x y o).resume = s.resume := (State.report_resume ..).trans (State.event_resume ..)
@[simp] theorem State.eventOf_testFrom (a b n : Nat) (x y : Word) (o : Option Nat) : (s.eventOf a b n x y o).testFrom = s.testFrom := (State.report_testFrom ..).trans (State.event_testFrom ..)
@[simp] theorem State.eventOf_start (a b n : Nat) (x y : Word) (o : Option Nat) : (s.eventOf a b n x y o).start = s.start := (State.report_start ..).trans (State.event_start ..)
@[simp] theorem State.eventOf_mpWaits (a b n : Nat) (x y : Word) (o : Option Nat) : (s.eventOf a b n x y o).mpWaits = s.mpWaits := (State.report_mpWaits ..).trans (State.event_mpWaits ..)
@[simp] theorem State.eventOf_pins (a b n : Nat) (x y : Word) (o : Option Nat) : (s.eventOf a b n x y o).pins = s.pins := (State.report_pins ..).trans (State.event_pins ..)
@[simp] theorem State.eventOf_timeBase (a b n : Nat) (x y : Word) (o : Option Nat) : (s.eventOf a b n x y o).timeBase = s.timeBase := (State.report_timeBase ..).trans (State.event_timeBase ..)
@[simp] theorem State.eventOf_tickFrac (a b n : Nat) (x y : Word) (o : Option Nat) : (s.eventOf a b n x y o).tickFrac = s.tickFrac := (State.report_tickFrac ..).trans (State.event_tickFrac ..)
@[simp] theorem State.eventOf_uptime (a b n : Nat) (x y : Word) (o : Option Nat) : (s.eventOf a b n x y o).uptime = s.uptime := (State.report_uptime ..).trans (State.event_uptime ..)
@[simp] theorem State.eventOf_epoch (a b n : Nat) (x y : Word) (o : Option Nat) : (s.eventOf a b n x y o).epoch = s.epoch := (State.report_epoch ..).trans (State.event_epoch ..)
@[simp] theorem State.eventOf_ports (a b n : Nat) (x y : Word) (o : Option Nat) : (s.eventOf a b n x y o).ports = s.ports := (State.report_ports ..).trans (State.event_ports ..)
@[simp] theorem State.eventOf_ctxs (a b n : Nat) (x y : Word) (o : Option Nat) : (s.eventOf a b n x y o).ctxs = s.ctxs := (State.report_ctxs ..).trans (State.event_ctxs ..)
@[simp] theorem State.eventOf_ctxWin (a b n : Nat) (x y : Word) (o : Option Nat) : (s.eventOf a b n x y o).ctxWin = s.ctxWin := (State.report_ctxWin ..).trans (State.event_ctxWin ..)
@[simp] theorem State.eventOf_ingressPtr (a b n : Nat) (x y : Word) (o : Option Nat) : (s.eventOf a b n x y o).ingressPtr = s.ingressPtr := (State.report_ingressPtr ..).trans (State.event_ingressPtr ..)
@[simp] theorem State.eventOf_ledger (a b n : Nat) (x y : Word) (o : Option Nat) : (s.eventOf a b n x y o).ledger = s.ledger := (State.report_ledger ..).trans (State.event_ledger ..)
@[simp] theorem State.eventOf_nextId (a b n : Nat) (x y : Word) (o : Option Nat) : (s.eventOf a b n x y o).nextId = s.nextId := (State.report_nextId ..).trans (State.event_nextId ..)
@[simp] theorem State.eventOf_tags (a b n : Nat) (x y : Word) (o : Option Nat) : (s.eventOf a b n x y o).tags = s.tags := (State.report_tags ..).trans (State.event_tags ..)
@[simp] theorem State.eventOf_caches (a b n : Nat) (x y : Word) (o : Option Nat) : (s.eventOf a b n x y o).caches = s.caches := (State.report_caches ..).trans (State.event_caches ..)
@[simp] theorem State.eventOf_fetches (a b n : Nat) (x y : Word) (o : Option Nat) : (s.eventOf a b n x y o).fetches = s.fetches := (State.report_fetches ..).trans (State.event_fetches ..)
@[simp] theorem State.eventOf_lfsr (a b n : Nat) (x y : Word) (o : Option Nat) : (s.eventOf a b n x y o).lfsr = s.lfsr := (State.report_lfsr ..).trans (State.event_lfsr ..)
@[simp] theorem State.eventOf_lost (a b n : Nat) (x y : Word) (o : Option Nat) : (s.eventOf a b n x y o).lost = s.lost := (State.report_lost ..).trans (State.event_lost ..)
@[simp] theorem State.eventOf_pidx (a b n : Nat) (x y : Word) (o : Option Nat) : (s.eventOf a b n x y o).pidx = s.pidx := (State.report_pidx ..).trans (State.event_pidx ..)
@[simp] theorem State.eventOf_allocs (a b n : Nat) (x y : Word) (o : Option Nat) : (s.eventOf a b n x y o).allocs = s.allocs := (State.report_allocs ..).trans (State.event_allocs ..)
@[simp] theorem State.eventOf_drain (a b n : Nat) (x y : Word) (o : Option Nat) : (s.eventOf a b n x y o).drain = s.drain := (State.report_drain ..).trans (State.event_drain ..)
@[simp] theorem State.eventOf_drainFrom (a b n : Nat) (x y : Word) (o : Option Nat) : (s.eventOf a b n x y o).drainFrom = s.drainFrom := (State.report_drainFrom ..).trans (State.event_drainFrom ..)
@[simp] theorem State.eventOf_drainOpen (a b n : Nat) (x y : Word) (o : Option Nat) : (s.eventOf a b n x y o).drainOpen = s.drainOpen := (State.report_drainOpen ..).trans (State.event_drainOpen ..)
@[simp] theorem State.eventOf_retiring (a b n : Nat) (x y : Word) (o : Option Nat) : (s.eventOf a b n x y o).retiring = s.retiring := (State.report_retiring ..).trans (State.event_retiring ..)
@[simp] theorem State.eventOf_retiredLog (a b n : Nat) (x y : Word) (o : Option Nat) : (s.eventOf a b n x y o).retiredLog = s.retiredLog := (State.report_retiredLog ..).trans (State.event_retiredLog ..)
@[simp] theorem State.eventOf_dram (a b n : Nat) (x y : Word) (o : Option Nat) : (s.eventOf a b n x y o).dram = s.dram := (State.report_dram ..).trans (State.event_dram ..)
@[simp] theorem State.eventOf_media (a b n : Nat) (x y : Word) (o : Option Nat) : (s.eventOf a b n x y o).media = s.media := (State.report_media ..).trans (State.event_media ..)
@[simp] theorem State.eventOf_chs (a b n : Nat) (x y : Word) (o : Option Nat) : (s.eventOf a b n x y o).chs = s.chs := (State.report_chs ..).trans (State.event_chs ..)
@[simp] theorem State.eventOf_quads (a b n : Nat) (x y : Word) (o : Option Nat) : (s.eventOf a b n x y o).quads = s.quads := (State.report_quads ..).trans (State.event_quads ..)
@[simp] theorem State.eventOf_sram (a b n : Nat) (x y : Word) (o : Option Nat) : (s.eventOf a b n x y o).sram = s.sram := (State.report_sram ..).trans (State.event_sram ..)
@[simp] theorem State.eventOf_flash (a b n : Nat) (x y : Word) (o : Option Nat) : (s.eventOf a b n x y o).flash = s.flash := (State.report_flash ..).trans (State.event_flash ..)
@[simp] theorem State.eventOf_life (a b n : Nat) (x y : Word) (o : Option Nat) : (s.eventOf a b n x y o).life = s.life := (State.report_life ..).trans (State.event_life ..)
@[simp] theorem State.eventOf_lifeAt (a b n : Nat) (x y : Word) (o : Option Nat) : (s.eventOf a b n x y o).lifeAt = s.lifeAt := (State.report_lifeAt ..).trans (State.event_lifeAt ..)
@[simp] theorem State.eventOf_zqQ (a b n : Nat) (x y : Word) (o : Option Nat) : (s.eventOf a b n x y o).zqQ = s.zqQ := (State.report_zqQ ..).trans (State.event_zqQ ..)
@[simp] theorem State.eventOf_awlStep (a b n : Nat) (x y : Word) (o : Option Nat) : (s.eventOf a b n x y o).awlStep = s.awlStep := (State.report_awlStep ..).trans (State.event_awlStep ..)
@[simp] theorem State.eventOf_awlLfsr (a b n : Nat) (x y : Word) (o : Option Nat) : (s.eventOf a b n x y o).awlLfsr = s.awlLfsr := (State.report_awlLfsr ..).trans (State.event_awlLfsr ..)
@[simp] theorem State.eventOf_beam (a b n : Nat) (x y : Word) (o : Option Nat) : (s.eventOf a b n x y o).beam = s.beam := (State.report_beam ..).trans (State.event_beam ..)
@[simp] theorem State.eventOf_beamCtx (a b n : Nat) (x y : Word) (o : Option Nat) : (s.eventOf a b n x y o).beamCtx = s.beamCtx := (State.report_beamCtx ..).trans (State.event_beamCtx ..)
@[simp] theorem State.eventOf_beamClear (a b n : Nat) (x y : Word) (o : Option Nat) : (s.eventOf a b n x y o).beamClear = s.beamClear := (State.report_beamClear ..).trans (State.event_beamClear ..)
@[simp] theorem State.eventOf_clears (a b n : Nat) (x y : Word) (o : Option Nat) : (s.eventOf a b n x y o).clears = s.clears := (State.report_clears ..).trans (State.event_clears ..)
@[simp] theorem State.eventOf_tagCap (a b n : Nat) (x y : Word) (o : Option Nat) : (s.eventOf a b n x y o).tagCap = s.tagCap := (State.report_tagCap ..).trans (State.event_tagCap ..)
@[simp] theorem State.eventOf_pseqStaged (a b n : Nat) (x y : Word) (o : Option Nat) : (s.eventOf a b n x y o).pseqStaged = s.pseqStaged := (State.report_pseqStaged ..).trans (State.event_pseqStaged ..)
@[simp] theorem State.eventOf_tseqStaged (a b n : Nat) (x y : Word) (o : Option Nat) : (s.eventOf a b n x y o).tseqStaged = s.tseqStaged := (State.report_tseqStaged ..).trans (State.event_tseqStaged ..)
@[simp] theorem State.eventOf_out (a b n : Nat) (x y : Word) (o : Option Nat) : (s.eventOf a b n x y o).out = s.out := (State.report_out ..).trans (State.event_out ..)
@[simp] theorem State.eventOf_freeCtr (a b n : Nat) (x y : Word) (o : Option Nat) : (s.eventOf a b n x y o).freeCtr = s.freeCtr := (State.report_freeCtr ..).trans (State.event_freeCtr ..)

/-! ### reject -/

@[simp] theorem State.reject_pending (o : Nat) (v : Word) : (s.reject o v).pending = s.pending := (State.info_pending ..).trans (State.count_pending ..)
@[simp] theorem State.reject_pend (o : Nat) (v : Word) : (s.reject o v).pend = s.pend := (State.info_pend ..).trans (State.count_pend ..)
@[simp] theorem State.reject_holdRelease (o : Nat) (v : Word) : (s.reject o v).holdRelease = s.holdRelease := (State.info_holdRelease ..).trans (State.count_holdRelease ..)
@[simp] theorem State.reject_mode (o : Nat) (v : Word) : (s.reject o v).mode = s.mode := (State.info_mode ..).trans (State.count_mode ..)
@[simp] theorem State.reject_prev (o : Nat) (v : Word) : (s.reject o v).prev = s.prev := (State.info_prev ..).trans (State.count_prev ..)
@[simp] theorem State.reject_warm (o : Nat) (v : Word) : (s.reject o v).warm = s.warm := (State.info_warm ..).trans (State.count_warm ..)
@[simp] theorem State.reject_warmFlush (o : Nat) (v : Word) : (s.reject o v).warmFlush = s.warmFlush := (State.info_warmFlush ..).trans (State.count_warmFlush ..)
@[simp] theorem State.reject_held (o : Nat) (v : Word) : (s.reject o v).held = s.held := (State.info_held ..).trans (State.count_held ..)
@[simp] theorem State.reject_modeAt (o : Nat) (v : Word) : (s.reject o v).modeAt = s.modeAt := (State.info_modeAt ..).trans (State.count_modeAt ..)
@[simp] theorem State.reject_resume (o : Nat) (v : Word) : (s.reject o v).resume = s.resume := (State.info_resume ..).trans (State.count_resume ..)
@[simp] theorem State.reject_testFrom (o : Nat) (v : Word) : (s.reject o v).testFrom = s.testFrom := (State.info_testFrom ..).trans (State.count_testFrom ..)
@[simp] theorem State.reject_start (o : Nat) (v : Word) : (s.reject o v).start = s.start := (State.info_start ..).trans (State.count_start ..)
@[simp] theorem State.reject_mpWaits (o : Nat) (v : Word) : (s.reject o v).mpWaits = s.mpWaits := (State.info_mpWaits ..).trans (State.count_mpWaits ..)
@[simp] theorem State.reject_pins (o : Nat) (v : Word) : (s.reject o v).pins = s.pins := (State.info_pins ..).trans (State.count_pins ..)
@[simp] theorem State.reject_timeBase (o : Nat) (v : Word) : (s.reject o v).timeBase = s.timeBase := (State.info_timeBase ..).trans (State.count_timeBase ..)
@[simp] theorem State.reject_tickFrac (o : Nat) (v : Word) : (s.reject o v).tickFrac = s.tickFrac := (State.info_tickFrac ..).trans (State.count_tickFrac ..)
@[simp] theorem State.reject_uptime (o : Nat) (v : Word) : (s.reject o v).uptime = s.uptime := (State.info_uptime ..).trans (State.count_uptime ..)
@[simp] theorem State.reject_epoch (o : Nat) (v : Word) : (s.reject o v).epoch = s.epoch := (State.info_epoch ..).trans (State.count_epoch ..)
@[simp] theorem State.reject_flt (o : Nat) (v : Word) : (s.reject o v).flt = s.flt := (State.info_flt ..).trans (State.count_flt ..)
@[simp] theorem State.reject_ports (o : Nat) (v : Word) : (s.reject o v).ports = s.ports := (State.info_ports ..).trans (State.count_ports ..)
@[simp] theorem State.reject_ctxs (o : Nat) (v : Word) : (s.reject o v).ctxs = s.ctxs := (State.info_ctxs ..).trans (State.count_ctxs ..)
@[simp] theorem State.reject_ctxWin (o : Nat) (v : Word) : (s.reject o v).ctxWin = s.ctxWin := (State.info_ctxWin ..).trans (State.count_ctxWin ..)
@[simp] theorem State.reject_ingressPtr (o : Nat) (v : Word) : (s.reject o v).ingressPtr = s.ingressPtr := (State.info_ingressPtr ..).trans (State.count_ingressPtr ..)
@[simp] theorem State.reject_ledger (o : Nat) (v : Word) : (s.reject o v).ledger = s.ledger := (State.info_ledger ..).trans (State.count_ledger ..)
@[simp] theorem State.reject_nextId (o : Nat) (v : Word) : (s.reject o v).nextId = s.nextId := (State.info_nextId ..).trans (State.count_nextId ..)
@[simp] theorem State.reject_tags (o : Nat) (v : Word) : (s.reject o v).tags = s.tags := (State.info_tags ..).trans (State.count_tags ..)
@[simp] theorem State.reject_caches (o : Nat) (v : Word) : (s.reject o v).caches = s.caches := (State.info_caches ..).trans (State.count_caches ..)
@[simp] theorem State.reject_fetches (o : Nat) (v : Word) : (s.reject o v).fetches = s.fetches := (State.info_fetches ..).trans (State.count_fetches ..)
@[simp] theorem State.reject_lfsr (o : Nat) (v : Word) : (s.reject o v).lfsr = s.lfsr := (State.info_lfsr ..).trans (State.count_lfsr ..)
@[simp] theorem State.reject_lost (o : Nat) (v : Word) : (s.reject o v).lost = s.lost := (State.info_lost ..).trans (State.count_lost ..)
@[simp] theorem State.reject_pidx (o : Nat) (v : Word) : (s.reject o v).pidx = s.pidx := (State.info_pidx ..).trans (State.count_pidx ..)
@[simp] theorem State.reject_allocs (o : Nat) (v : Word) : (s.reject o v).allocs = s.allocs := (State.info_allocs ..).trans (State.count_allocs ..)
@[simp] theorem State.reject_drain (o : Nat) (v : Word) : (s.reject o v).drain = s.drain := (State.info_drain ..).trans (State.count_drain ..)
@[simp] theorem State.reject_drainFrom (o : Nat) (v : Word) : (s.reject o v).drainFrom = s.drainFrom := (State.info_drainFrom ..).trans (State.count_drainFrom ..)
@[simp] theorem State.reject_drainOpen (o : Nat) (v : Word) : (s.reject o v).drainOpen = s.drainOpen := (State.info_drainOpen ..).trans (State.count_drainOpen ..)
@[simp] theorem State.reject_retiring (o : Nat) (v : Word) : (s.reject o v).retiring = s.retiring := (State.info_retiring ..).trans (State.count_retiring ..)
@[simp] theorem State.reject_retiredLog (o : Nat) (v : Word) : (s.reject o v).retiredLog = s.retiredLog := (State.info_retiredLog ..).trans (State.count_retiredLog ..)
@[simp] theorem State.reject_dram (o : Nat) (v : Word) : (s.reject o v).dram = s.dram := (State.info_dram ..).trans (State.count_dram ..)
@[simp] theorem State.reject_media (o : Nat) (v : Word) : (s.reject o v).media = s.media := (State.info_media ..).trans (State.count_media ..)
@[simp] theorem State.reject_chs (o : Nat) (v : Word) : (s.reject o v).chs = s.chs := (State.info_chs ..).trans (State.count_chs ..)
@[simp] theorem State.reject_quads (o : Nat) (v : Word) : (s.reject o v).quads = s.quads := (State.info_quads ..).trans (State.count_quads ..)
@[simp] theorem State.reject_sram (o : Nat) (v : Word) : (s.reject o v).sram = s.sram := (State.info_sram ..).trans (State.count_sram ..)
@[simp] theorem State.reject_flash (o : Nat) (v : Word) : (s.reject o v).flash = s.flash := (State.info_flash ..).trans (State.count_flash ..)
@[simp] theorem State.reject_life (o : Nat) (v : Word) : (s.reject o v).life = s.life := (State.info_life ..).trans (State.count_life ..)
@[simp] theorem State.reject_lifeAt (o : Nat) (v : Word) : (s.reject o v).lifeAt = s.lifeAt := (State.info_lifeAt ..).trans (State.count_lifeAt ..)
@[simp] theorem State.reject_zqQ (o : Nat) (v : Word) : (s.reject o v).zqQ = s.zqQ := (State.info_zqQ ..).trans (State.count_zqQ ..)
@[simp] theorem State.reject_awlStep (o : Nat) (v : Word) : (s.reject o v).awlStep = s.awlStep := (State.info_awlStep ..).trans (State.count_awlStep ..)
@[simp] theorem State.reject_awlLfsr (o : Nat) (v : Word) : (s.reject o v).awlLfsr = s.awlLfsr := (State.info_awlLfsr ..).trans (State.count_awlLfsr ..)
@[simp] theorem State.reject_beam (o : Nat) (v : Word) : (s.reject o v).beam = s.beam := (State.info_beam ..).trans (State.count_beam ..)
@[simp] theorem State.reject_beamCtx (o : Nat) (v : Word) : (s.reject o v).beamCtx = s.beamCtx := (State.info_beamCtx ..).trans (State.count_beamCtx ..)
@[simp] theorem State.reject_beamClear (o : Nat) (v : Word) : (s.reject o v).beamClear = s.beamClear := (State.info_beamClear ..).trans (State.count_beamClear ..)
@[simp] theorem State.reject_clears (o : Nat) (v : Word) : (s.reject o v).clears = s.clears := (State.info_clears ..).trans (State.count_clears ..)
@[simp] theorem State.reject_tagCap (o : Nat) (v : Word) : (s.reject o v).tagCap = s.tagCap := (State.info_tagCap ..).trans (State.count_tagCap ..)
@[simp] theorem State.reject_pseqStaged (o : Nat) (v : Word) : (s.reject o v).pseqStaged = s.pseqStaged := (State.info_pseqStaged ..).trans (State.count_pseqStaged ..)
@[simp] theorem State.reject_tseqStaged (o : Nat) (v : Word) : (s.reject o v).tseqStaged = s.tseqStaged := (State.info_tseqStaged ..).trans (State.count_tseqStaged ..)
@[simp] theorem State.reject_out (o : Nat) (v : Word) : (s.reject o v).out = s.out := (State.info_out ..).trans (State.count_out ..)
@[simp] theorem State.reject_freeCtr (o : Nat) (v : Word) : (s.reject o v).freeCtr = s.freeCtr := (State.info_freeCtr ..).trans (State.count_freeCtr ..)

/-! ### free -/

@[simp] theorem State.free_pending (w : Nat) : ((s.free w).2).pending = s.pending := by unfold State.free; rfl
@[simp] theorem State.free_regs (w : Nat) : ((s.free w).2).regs = s.regs := by unfold State.free; rfl
@[simp] theorem State.free_pend (w : Nat) : ((s.free w).2).pend = s.pend := by unfold State.free; rfl
@[simp] theorem State.free_holdRelease (w : Nat) : ((s.free w).2).holdRelease = s.holdRelease := by unfold State.free; rfl
@[simp] theorem State.free_mode (w : Nat) : ((s.free w).2).mode = s.mode := by unfold State.free; rfl
@[simp] theorem State.free_prev (w : Nat) : ((s.free w).2).prev = s.prev := by unfold State.free; rfl
@[simp] theorem State.free_warm (w : Nat) : ((s.free w).2).warm = s.warm := by unfold State.free; rfl
@[simp] theorem State.free_warmFlush (w : Nat) : ((s.free w).2).warmFlush = s.warmFlush := by unfold State.free; rfl
@[simp] theorem State.free_held (w : Nat) : ((s.free w).2).held = s.held := by unfold State.free; rfl
@[simp] theorem State.free_modeAt (w : Nat) : ((s.free w).2).modeAt = s.modeAt := by unfold State.free; rfl
@[simp] theorem State.free_resume (w : Nat) : ((s.free w).2).resume = s.resume := by unfold State.free; rfl
@[simp] theorem State.free_testFrom (w : Nat) : ((s.free w).2).testFrom = s.testFrom := by unfold State.free; rfl
@[simp] theorem State.free_start (w : Nat) : ((s.free w).2).start = s.start := by unfold State.free; rfl
@[simp] theorem State.free_mpWaits (w : Nat) : ((s.free w).2).mpWaits = s.mpWaits := by unfold State.free; rfl
@[simp] theorem State.free_pins (w : Nat) : ((s.free w).2).pins = s.pins := by unfold State.free; rfl
@[simp] theorem State.free_timeBase (w : Nat) : ((s.free w).2).timeBase = s.timeBase := by unfold State.free; rfl
@[simp] theorem State.free_tickFrac (w : Nat) : ((s.free w).2).tickFrac = s.tickFrac := by unfold State.free; rfl
@[simp] theorem State.free_uptime (w : Nat) : ((s.free w).2).uptime = s.uptime := by unfold State.free; rfl
@[simp] theorem State.free_epoch (w : Nat) : ((s.free w).2).epoch = s.epoch := by unfold State.free; rfl
@[simp] theorem State.free_evq (w : Nat) : ((s.free w).2).evq = s.evq := by unfold State.free; rfl
@[simp] theorem State.free_flt (w : Nat) : ((s.free w).2).flt = s.flt := by unfold State.free; rfl
@[simp] theorem State.free_ports (w : Nat) : ((s.free w).2).ports = s.ports := by unfold State.free; rfl
@[simp] theorem State.free_ctxs (w : Nat) : ((s.free w).2).ctxs = s.ctxs := by unfold State.free; rfl
@[simp] theorem State.free_ctxWin (w : Nat) : ((s.free w).2).ctxWin = s.ctxWin := by unfold State.free; rfl
@[simp] theorem State.free_ingressPtr (w : Nat) : ((s.free w).2).ingressPtr = s.ingressPtr := by unfold State.free; rfl
@[simp] theorem State.free_ledger (w : Nat) : ((s.free w).2).ledger = s.ledger := by unfold State.free; rfl
@[simp] theorem State.free_nextId (w : Nat) : ((s.free w).2).nextId = s.nextId := by unfold State.free; rfl
@[simp] theorem State.free_tags (w : Nat) : ((s.free w).2).tags = s.tags := by unfold State.free; rfl
@[simp] theorem State.free_caches (w : Nat) : ((s.free w).2).caches = s.caches := by unfold State.free; rfl
@[simp] theorem State.free_fetches (w : Nat) : ((s.free w).2).fetches = s.fetches := by unfold State.free; rfl
@[simp] theorem State.free_lfsr (w : Nat) : ((s.free w).2).lfsr = s.lfsr := by unfold State.free; rfl
@[simp] theorem State.free_lost (w : Nat) : ((s.free w).2).lost = s.lost := by unfold State.free; rfl
@[simp] theorem State.free_pidx (w : Nat) : ((s.free w).2).pidx = s.pidx := by unfold State.free; rfl
@[simp] theorem State.free_allocs (w : Nat) : ((s.free w).2).allocs = s.allocs := by unfold State.free; rfl
@[simp] theorem State.free_drain (w : Nat) : ((s.free w).2).drain = s.drain := by unfold State.free; rfl
@[simp] theorem State.free_drainFrom (w : Nat) : ((s.free w).2).drainFrom = s.drainFrom := by unfold State.free; rfl
@[simp] theorem State.free_drainOpen (w : Nat) : ((s.free w).2).drainOpen = s.drainOpen := by unfold State.free; rfl
@[simp] theorem State.free_retiring (w : Nat) : ((s.free w).2).retiring = s.retiring := by unfold State.free; rfl
@[simp] theorem State.free_retiredLog (w : Nat) : ((s.free w).2).retiredLog = s.retiredLog := by unfold State.free; rfl
@[simp] theorem State.free_dram (w : Nat) : ((s.free w).2).dram = s.dram := by unfold State.free; rfl
@[simp] theorem State.free_media (w : Nat) : ((s.free w).2).media = s.media := by unfold State.free; rfl
@[simp] theorem State.free_chs (w : Nat) : ((s.free w).2).chs = s.chs := by unfold State.free; rfl
@[simp] theorem State.free_quads (w : Nat) : ((s.free w).2).quads = s.quads := by unfold State.free; rfl
@[simp] theorem State.free_sram (w : Nat) : ((s.free w).2).sram = s.sram := by unfold State.free; rfl
@[simp] theorem State.free_flash (w : Nat) : ((s.free w).2).flash = s.flash := by unfold State.free; rfl
@[simp] theorem State.free_life (w : Nat) : ((s.free w).2).life = s.life := by unfold State.free; rfl
@[simp] theorem State.free_lifeAt (w : Nat) : ((s.free w).2).lifeAt = s.lifeAt := by unfold State.free; rfl
@[simp] theorem State.free_zqQ (w : Nat) : ((s.free w).2).zqQ = s.zqQ := by unfold State.free; rfl
@[simp] theorem State.free_awlStep (w : Nat) : ((s.free w).2).awlStep = s.awlStep := by unfold State.free; rfl
@[simp] theorem State.free_awlLfsr (w : Nat) : ((s.free w).2).awlLfsr = s.awlLfsr := by unfold State.free; rfl
@[simp] theorem State.free_beam (w : Nat) : ((s.free w).2).beam = s.beam := by unfold State.free; rfl
@[simp] theorem State.free_beamCtx (w : Nat) : ((s.free w).2).beamCtx = s.beamCtx := by unfold State.free; rfl
@[simp] theorem State.free_beamClear (w : Nat) : ((s.free w).2).beamClear = s.beamClear := by unfold State.free; rfl
@[simp] theorem State.free_clears (w : Nat) : ((s.free w).2).clears = s.clears := by unfold State.free; rfl
@[simp] theorem State.free_tagCap (w : Nat) : ((s.free w).2).tagCap = s.tagCap := by unfold State.free; rfl
@[simp] theorem State.free_pseqStaged (w : Nat) : ((s.free w).2).pseqStaged = s.pseqStaged := by unfold State.free; rfl
@[simp] theorem State.free_tseqStaged (w : Nat) : ((s.free w).2).tseqStaged = s.tseqStaged := by unfold State.free; rfl
@[simp] theorem State.free_out (w : Nat) : ((s.free w).2).out = s.out := by unfold State.free; rfl

/-! ### fresh -/

@[simp] theorem State.fresh_pending  : (s.fresh.2).pending = s.pending := by unfold State.fresh; rfl
@[simp] theorem State.fresh_regs  : (s.fresh.2).regs = s.regs := by unfold State.fresh; rfl
@[simp] theorem State.fresh_pend  : (s.fresh.2).pend = s.pend := by unfold State.fresh; rfl
@[simp] theorem State.fresh_holdRelease  : (s.fresh.2).holdRelease = s.holdRelease := by unfold State.fresh; rfl
@[simp] theorem State.fresh_mode  : (s.fresh.2).mode = s.mode := by unfold State.fresh; rfl
@[simp] theorem State.fresh_prev  : (s.fresh.2).prev = s.prev := by unfold State.fresh; rfl
@[simp] theorem State.fresh_warm  : (s.fresh.2).warm = s.warm := by unfold State.fresh; rfl
@[simp] theorem State.fresh_warmFlush  : (s.fresh.2).warmFlush = s.warmFlush := by unfold State.fresh; rfl
@[simp] theorem State.fresh_held  : (s.fresh.2).held = s.held := by unfold State.fresh; rfl
@[simp] theorem State.fresh_modeAt  : (s.fresh.2).modeAt = s.modeAt := by unfold State.fresh; rfl
@[simp] theorem State.fresh_resume  : (s.fresh.2).resume = s.resume := by unfold State.fresh; rfl
@[simp] theorem State.fresh_testFrom  : (s.fresh.2).testFrom = s.testFrom := by unfold State.fresh; rfl
@[simp] theorem State.fresh_start  : (s.fresh.2).start = s.start := by unfold State.fresh; rfl
@[simp] theorem State.fresh_mpWaits  : (s.fresh.2).mpWaits = s.mpWaits := by unfold State.fresh; rfl
@[simp] theorem State.fresh_pins  : (s.fresh.2).pins = s.pins := by unfold State.fresh; rfl
@[simp] theorem State.fresh_timeBase  : (s.fresh.2).timeBase = s.timeBase := by unfold State.fresh; rfl
@[simp] theorem State.fresh_tickFrac  : (s.fresh.2).tickFrac = s.tickFrac := by unfold State.fresh; rfl
@[simp] theorem State.fresh_uptime  : (s.fresh.2).uptime = s.uptime := by unfold State.fresh; rfl
@[simp] theorem State.fresh_epoch  : (s.fresh.2).epoch = s.epoch := by unfold State.fresh; rfl
@[simp] theorem State.fresh_evq  : (s.fresh.2).evq = s.evq := by unfold State.fresh; rfl
@[simp] theorem State.fresh_flt  : (s.fresh.2).flt = s.flt := by unfold State.fresh; rfl
@[simp] theorem State.fresh_ports  : (s.fresh.2).ports = s.ports := by unfold State.fresh; rfl
@[simp] theorem State.fresh_ctxs  : (s.fresh.2).ctxs = s.ctxs := by unfold State.fresh; rfl
@[simp] theorem State.fresh_ctxWin  : (s.fresh.2).ctxWin = s.ctxWin := by unfold State.fresh; rfl
@[simp] theorem State.fresh_ingressPtr  : (s.fresh.2).ingressPtr = s.ingressPtr := by unfold State.fresh; rfl
@[simp] theorem State.fresh_ledger  : (s.fresh.2).ledger = s.ledger := by unfold State.fresh; rfl
@[simp] theorem State.fresh_tags  : (s.fresh.2).tags = s.tags := by unfold State.fresh; rfl
@[simp] theorem State.fresh_caches  : (s.fresh.2).caches = s.caches := by unfold State.fresh; rfl
@[simp] theorem State.fresh_fetches  : (s.fresh.2).fetches = s.fetches := by unfold State.fresh; rfl
@[simp] theorem State.fresh_lfsr  : (s.fresh.2).lfsr = s.lfsr := by unfold State.fresh; rfl
@[simp] theorem State.fresh_lost  : (s.fresh.2).lost = s.lost := by unfold State.fresh; rfl
@[simp] theorem State.fresh_pidx  : (s.fresh.2).pidx = s.pidx := by unfold State.fresh; rfl
@[simp] theorem State.fresh_allocs  : (s.fresh.2).allocs = s.allocs := by unfold State.fresh; rfl
@[simp] theorem State.fresh_drain  : (s.fresh.2).drain = s.drain := by unfold State.fresh; rfl
@[simp] theorem State.fresh_drainFrom  : (s.fresh.2).drainFrom = s.drainFrom := by unfold State.fresh; rfl
@[simp] theorem State.fresh_drainOpen  : (s.fresh.2).drainOpen = s.drainOpen := by unfold State.fresh; rfl
@[simp] theorem State.fresh_retiring  : (s.fresh.2).retiring = s.retiring := by unfold State.fresh; rfl
@[simp] theorem State.fresh_retiredLog  : (s.fresh.2).retiredLog = s.retiredLog := by unfold State.fresh; rfl
@[simp] theorem State.fresh_dram  : (s.fresh.2).dram = s.dram := by unfold State.fresh; rfl
@[simp] theorem State.fresh_media  : (s.fresh.2).media = s.media := by unfold State.fresh; rfl
@[simp] theorem State.fresh_chs  : (s.fresh.2).chs = s.chs := by unfold State.fresh; rfl
@[simp] theorem State.fresh_quads  : (s.fresh.2).quads = s.quads := by unfold State.fresh; rfl
@[simp] theorem State.fresh_sram  : (s.fresh.2).sram = s.sram := by unfold State.fresh; rfl
@[simp] theorem State.fresh_flash  : (s.fresh.2).flash = s.flash := by unfold State.fresh; rfl
@[simp] theorem State.fresh_life  : (s.fresh.2).life = s.life := by unfold State.fresh; rfl
@[simp] theorem State.fresh_lifeAt  : (s.fresh.2).lifeAt = s.lifeAt := by unfold State.fresh; rfl
@[simp] theorem State.fresh_zqQ  : (s.fresh.2).zqQ = s.zqQ := by unfold State.fresh; rfl
@[simp] theorem State.fresh_awlStep  : (s.fresh.2).awlStep = s.awlStep := by unfold State.fresh; rfl
@[simp] theorem State.fresh_awlLfsr  : (s.fresh.2).awlLfsr = s.awlLfsr := by unfold State.fresh; rfl
@[simp] theorem State.fresh_beam  : (s.fresh.2).beam = s.beam := by unfold State.fresh; rfl
@[simp] theorem State.fresh_beamCtx  : (s.fresh.2).beamCtx = s.beamCtx := by unfold State.fresh; rfl
@[simp] theorem State.fresh_beamClear  : (s.fresh.2).beamClear = s.beamClear := by unfold State.fresh; rfl
@[simp] theorem State.fresh_clears  : (s.fresh.2).clears = s.clears := by unfold State.fresh; rfl
@[simp] theorem State.fresh_tagCap  : (s.fresh.2).tagCap = s.tagCap := by unfold State.fresh; rfl
@[simp] theorem State.fresh_pseqStaged  : (s.fresh.2).pseqStaged = s.pseqStaged := by unfold State.fresh; rfl
@[simp] theorem State.fresh_tseqStaged  : (s.fresh.2).tseqStaged = s.tseqStaged := by unfold State.fresh; rfl
@[simp] theorem State.fresh_out  : (s.fresh.2).out = s.out := by unfold State.fresh; rfl
@[simp] theorem State.fresh_freeCtr  : (s.fresh.2).freeCtr = s.freeCtr := by unfold State.fresh; rfl

/-! ### modPort -/

@[simp] theorem State.modPort_pending (p : PortId) (f : Port → Port) : (s.modPort p f).pending = s.pending := by unfold State.modPort; rfl
@[simp] theorem State.modPort_regs (p : PortId) (f : Port → Port) : (s.modPort p f).regs = s.regs := by unfold State.modPort; rfl
@[simp] theorem State.modPort_pend (p : PortId) (f : Port → Port) : (s.modPort p f).pend = s.pend := by unfold State.modPort; rfl
@[simp] theorem State.modPort_holdRelease (p : PortId) (f : Port → Port) : (s.modPort p f).holdRelease = s.holdRelease := by unfold State.modPort; rfl
@[simp] theorem State.modPort_mode (p : PortId) (f : Port → Port) : (s.modPort p f).mode = s.mode := by unfold State.modPort; rfl
@[simp] theorem State.modPort_prev (p : PortId) (f : Port → Port) : (s.modPort p f).prev = s.prev := by unfold State.modPort; rfl
@[simp] theorem State.modPort_warm (p : PortId) (f : Port → Port) : (s.modPort p f).warm = s.warm := by unfold State.modPort; rfl
@[simp] theorem State.modPort_warmFlush (p : PortId) (f : Port → Port) : (s.modPort p f).warmFlush = s.warmFlush := by unfold State.modPort; rfl
@[simp] theorem State.modPort_held (p : PortId) (f : Port → Port) : (s.modPort p f).held = s.held := by unfold State.modPort; rfl
@[simp] theorem State.modPort_modeAt (p : PortId) (f : Port → Port) : (s.modPort p f).modeAt = s.modeAt := by unfold State.modPort; rfl
@[simp] theorem State.modPort_resume (p : PortId) (f : Port → Port) : (s.modPort p f).resume = s.resume := by unfold State.modPort; rfl
@[simp] theorem State.modPort_testFrom (p : PortId) (f : Port → Port) : (s.modPort p f).testFrom = s.testFrom := by unfold State.modPort; rfl
@[simp] theorem State.modPort_start (p : PortId) (f : Port → Port) : (s.modPort p f).start = s.start := by unfold State.modPort; rfl
@[simp] theorem State.modPort_mpWaits (p : PortId) (f : Port → Port) : (s.modPort p f).mpWaits = s.mpWaits := by unfold State.modPort; rfl
@[simp] theorem State.modPort_pins (p : PortId) (f : Port → Port) : (s.modPort p f).pins = s.pins := by unfold State.modPort; rfl
@[simp] theorem State.modPort_timeBase (p : PortId) (f : Port → Port) : (s.modPort p f).timeBase = s.timeBase := by unfold State.modPort; rfl
@[simp] theorem State.modPort_tickFrac (p : PortId) (f : Port → Port) : (s.modPort p f).tickFrac = s.tickFrac := by unfold State.modPort; rfl
@[simp] theorem State.modPort_uptime (p : PortId) (f : Port → Port) : (s.modPort p f).uptime = s.uptime := by unfold State.modPort; rfl
@[simp] theorem State.modPort_epoch (p : PortId) (f : Port → Port) : (s.modPort p f).epoch = s.epoch := by unfold State.modPort; rfl
@[simp] theorem State.modPort_evq (p : PortId) (f : Port → Port) : (s.modPort p f).evq = s.evq := by unfold State.modPort; rfl
@[simp] theorem State.modPort_flt (p : PortId) (f : Port → Port) : (s.modPort p f).flt = s.flt := by unfold State.modPort; rfl
@[simp] theorem State.modPort_ctxs (p : PortId) (f : Port → Port) : (s.modPort p f).ctxs = s.ctxs := by unfold State.modPort; rfl
@[simp] theorem State.modPort_ctxWin (p : PortId) (f : Port → Port) : (s.modPort p f).ctxWin = s.ctxWin := by unfold State.modPort; rfl
@[simp] theorem State.modPort_ingressPtr (p : PortId) (f : Port → Port) : (s.modPort p f).ingressPtr = s.ingressPtr := by unfold State.modPort; rfl
@[simp] theorem State.modPort_ledger (p : PortId) (f : Port → Port) : (s.modPort p f).ledger = s.ledger := by unfold State.modPort; rfl
@[simp] theorem State.modPort_nextId (p : PortId) (f : Port → Port) : (s.modPort p f).nextId = s.nextId := by unfold State.modPort; rfl
@[simp] theorem State.modPort_tags (p : PortId) (f : Port → Port) : (s.modPort p f).tags = s.tags := by unfold State.modPort; rfl
@[simp] theorem State.modPort_caches (p : PortId) (f : Port → Port) : (s.modPort p f).caches = s.caches := by unfold State.modPort; rfl
@[simp] theorem State.modPort_fetches (p : PortId) (f : Port → Port) : (s.modPort p f).fetches = s.fetches := by unfold State.modPort; rfl
@[simp] theorem State.modPort_lfsr (p : PortId) (f : Port → Port) : (s.modPort p f).lfsr = s.lfsr := by unfold State.modPort; rfl
@[simp] theorem State.modPort_lost (p : PortId) (f : Port → Port) : (s.modPort p f).lost = s.lost := by unfold State.modPort; rfl
@[simp] theorem State.modPort_pidx (p : PortId) (f : Port → Port) : (s.modPort p f).pidx = s.pidx := by unfold State.modPort; rfl
@[simp] theorem State.modPort_allocs (p : PortId) (f : Port → Port) : (s.modPort p f).allocs = s.allocs := by unfold State.modPort; rfl
@[simp] theorem State.modPort_drain (p : PortId) (f : Port → Port) : (s.modPort p f).drain = s.drain := by unfold State.modPort; rfl
@[simp] theorem State.modPort_drainFrom (p : PortId) (f : Port → Port) : (s.modPort p f).drainFrom = s.drainFrom := by unfold State.modPort; rfl
@[simp] theorem State.modPort_drainOpen (p : PortId) (f : Port → Port) : (s.modPort p f).drainOpen = s.drainOpen := by unfold State.modPort; rfl
@[simp] theorem State.modPort_retiring (p : PortId) (f : Port → Port) : (s.modPort p f).retiring = s.retiring := by unfold State.modPort; rfl
@[simp] theorem State.modPort_retiredLog (p : PortId) (f : Port → Port) : (s.modPort p f).retiredLog = s.retiredLog := by unfold State.modPort; rfl
@[simp] theorem State.modPort_dram (p : PortId) (f : Port → Port) : (s.modPort p f).dram = s.dram := by unfold State.modPort; rfl
@[simp] theorem State.modPort_media (p : PortId) (f : Port → Port) : (s.modPort p f).media = s.media := by unfold State.modPort; rfl
@[simp] theorem State.modPort_chs (p : PortId) (f : Port → Port) : (s.modPort p f).chs = s.chs := by unfold State.modPort; rfl
@[simp] theorem State.modPort_quads (p : PortId) (f : Port → Port) : (s.modPort p f).quads = s.quads := by unfold State.modPort; rfl
@[simp] theorem State.modPort_sram (p : PortId) (f : Port → Port) : (s.modPort p f).sram = s.sram := by unfold State.modPort; rfl
@[simp] theorem State.modPort_flash (p : PortId) (f : Port → Port) : (s.modPort p f).flash = s.flash := by unfold State.modPort; rfl
@[simp] theorem State.modPort_life (p : PortId) (f : Port → Port) : (s.modPort p f).life = s.life := by unfold State.modPort; rfl
@[simp] theorem State.modPort_lifeAt (p : PortId) (f : Port → Port) : (s.modPort p f).lifeAt = s.lifeAt := by unfold State.modPort; rfl
@[simp] theorem State.modPort_zqQ (p : PortId) (f : Port → Port) : (s.modPort p f).zqQ = s.zqQ := by unfold State.modPort; rfl
@[simp] theorem State.modPort_awlStep (p : PortId) (f : Port → Port) : (s.modPort p f).awlStep = s.awlStep := by unfold State.modPort; rfl
@[simp] theorem State.modPort_awlLfsr (p : PortId) (f : Port → Port) : (s.modPort p f).awlLfsr = s.awlLfsr := by unfold State.modPort; rfl
@[simp] theorem State.modPort_beam (p : PortId) (f : Port → Port) : (s.modPort p f).beam = s.beam := by unfold State.modPort; rfl
@[simp] theorem State.modPort_beamCtx (p : PortId) (f : Port → Port) : (s.modPort p f).beamCtx = s.beamCtx := by unfold State.modPort; rfl
@[simp] theorem State.modPort_beamClear (p : PortId) (f : Port → Port) : (s.modPort p f).beamClear = s.beamClear := by unfold State.modPort; rfl
@[simp] theorem State.modPort_clears (p : PortId) (f : Port → Port) : (s.modPort p f).clears = s.clears := by unfold State.modPort; rfl
@[simp] theorem State.modPort_tagCap (p : PortId) (f : Port → Port) : (s.modPort p f).tagCap = s.tagCap := by unfold State.modPort; rfl
@[simp] theorem State.modPort_pseqStaged (p : PortId) (f : Port → Port) : (s.modPort p f).pseqStaged = s.pseqStaged := by unfold State.modPort; rfl
@[simp] theorem State.modPort_tseqStaged (p : PortId) (f : Port → Port) : (s.modPort p f).tseqStaged = s.tseqStaged := by unfold State.modPort; rfl
@[simp] theorem State.modPort_out (p : PortId) (f : Port → Port) : (s.modPort p f).out = s.out := by unfold State.modPort; rfl
@[simp] theorem State.modPort_freeCtr (p : PortId) (f : Port → Port) : (s.modPort p f).freeCtr = s.freeCtr := by unfold State.modPort; rfl

/-! ### modCh -/

@[simp] theorem State.modCh_pending (c : ChanId) (f : Channel → Channel) : (s.modCh c f).pending = s.pending := by unfold State.modCh; rfl
@[simp] theorem State.modCh_regs (c : ChanId) (f : Channel → Channel) : (s.modCh c f).regs = s.regs := by unfold State.modCh; rfl
@[simp] theorem State.modCh_pend (c : ChanId) (f : Channel → Channel) : (s.modCh c f).pend = s.pend := by unfold State.modCh; rfl
@[simp] theorem State.modCh_holdRelease (c : ChanId) (f : Channel → Channel) : (s.modCh c f).holdRelease = s.holdRelease := by unfold State.modCh; rfl
@[simp] theorem State.modCh_mode (c : ChanId) (f : Channel → Channel) : (s.modCh c f).mode = s.mode := by unfold State.modCh; rfl
@[simp] theorem State.modCh_prev (c : ChanId) (f : Channel → Channel) : (s.modCh c f).prev = s.prev := by unfold State.modCh; rfl
@[simp] theorem State.modCh_warm (c : ChanId) (f : Channel → Channel) : (s.modCh c f).warm = s.warm := by unfold State.modCh; rfl
@[simp] theorem State.modCh_warmFlush (c : ChanId) (f : Channel → Channel) : (s.modCh c f).warmFlush = s.warmFlush := by unfold State.modCh; rfl
@[simp] theorem State.modCh_held (c : ChanId) (f : Channel → Channel) : (s.modCh c f).held = s.held := by unfold State.modCh; rfl
@[simp] theorem State.modCh_modeAt (c : ChanId) (f : Channel → Channel) : (s.modCh c f).modeAt = s.modeAt := by unfold State.modCh; rfl
@[simp] theorem State.modCh_resume (c : ChanId) (f : Channel → Channel) : (s.modCh c f).resume = s.resume := by unfold State.modCh; rfl
@[simp] theorem State.modCh_testFrom (c : ChanId) (f : Channel → Channel) : (s.modCh c f).testFrom = s.testFrom := by unfold State.modCh; rfl
@[simp] theorem State.modCh_start (c : ChanId) (f : Channel → Channel) : (s.modCh c f).start = s.start := by unfold State.modCh; rfl
@[simp] theorem State.modCh_mpWaits (c : ChanId) (f : Channel → Channel) : (s.modCh c f).mpWaits = s.mpWaits := by unfold State.modCh; rfl
@[simp] theorem State.modCh_pins (c : ChanId) (f : Channel → Channel) : (s.modCh c f).pins = s.pins := by unfold State.modCh; rfl
@[simp] theorem State.modCh_timeBase (c : ChanId) (f : Channel → Channel) : (s.modCh c f).timeBase = s.timeBase := by unfold State.modCh; rfl
@[simp] theorem State.modCh_tickFrac (c : ChanId) (f : Channel → Channel) : (s.modCh c f).tickFrac = s.tickFrac := by unfold State.modCh; rfl
@[simp] theorem State.modCh_uptime (c : ChanId) (f : Channel → Channel) : (s.modCh c f).uptime = s.uptime := by unfold State.modCh; rfl
@[simp] theorem State.modCh_epoch (c : ChanId) (f : Channel → Channel) : (s.modCh c f).epoch = s.epoch := by unfold State.modCh; rfl
@[simp] theorem State.modCh_evq (c : ChanId) (f : Channel → Channel) : (s.modCh c f).evq = s.evq := by unfold State.modCh; rfl
@[simp] theorem State.modCh_flt (c : ChanId) (f : Channel → Channel) : (s.modCh c f).flt = s.flt := by unfold State.modCh; rfl
@[simp] theorem State.modCh_ports (c : ChanId) (f : Channel → Channel) : (s.modCh c f).ports = s.ports := by unfold State.modCh; rfl
@[simp] theorem State.modCh_ctxs (c : ChanId) (f : Channel → Channel) : (s.modCh c f).ctxs = s.ctxs := by unfold State.modCh; rfl
@[simp] theorem State.modCh_ctxWin (c : ChanId) (f : Channel → Channel) : (s.modCh c f).ctxWin = s.ctxWin := by unfold State.modCh; rfl
@[simp] theorem State.modCh_ingressPtr (c : ChanId) (f : Channel → Channel) : (s.modCh c f).ingressPtr = s.ingressPtr := by unfold State.modCh; rfl
@[simp] theorem State.modCh_ledger (c : ChanId) (f : Channel → Channel) : (s.modCh c f).ledger = s.ledger := by unfold State.modCh; rfl
@[simp] theorem State.modCh_nextId (c : ChanId) (f : Channel → Channel) : (s.modCh c f).nextId = s.nextId := by unfold State.modCh; rfl
@[simp] theorem State.modCh_tags (c : ChanId) (f : Channel → Channel) : (s.modCh c f).tags = s.tags := by unfold State.modCh; rfl
@[simp] theorem State.modCh_caches (c : ChanId) (f : Channel → Channel) : (s.modCh c f).caches = s.caches := by unfold State.modCh; rfl
@[simp] theorem State.modCh_fetches (c : ChanId) (f : Channel → Channel) : (s.modCh c f).fetches = s.fetches := by unfold State.modCh; rfl
@[simp] theorem State.modCh_lfsr (c : ChanId) (f : Channel → Channel) : (s.modCh c f).lfsr = s.lfsr := by unfold State.modCh; rfl
@[simp] theorem State.modCh_lost (c : ChanId) (f : Channel → Channel) : (s.modCh c f).lost = s.lost := by unfold State.modCh; rfl
@[simp] theorem State.modCh_pidx (c : ChanId) (f : Channel → Channel) : (s.modCh c f).pidx = s.pidx := by unfold State.modCh; rfl
@[simp] theorem State.modCh_allocs (c : ChanId) (f : Channel → Channel) : (s.modCh c f).allocs = s.allocs := by unfold State.modCh; rfl
@[simp] theorem State.modCh_drain (c : ChanId) (f : Channel → Channel) : (s.modCh c f).drain = s.drain := by unfold State.modCh; rfl
@[simp] theorem State.modCh_drainFrom (c : ChanId) (f : Channel → Channel) : (s.modCh c f).drainFrom = s.drainFrom := by unfold State.modCh; rfl
@[simp] theorem State.modCh_drainOpen (c : ChanId) (f : Channel → Channel) : (s.modCh c f).drainOpen = s.drainOpen := by unfold State.modCh; rfl
@[simp] theorem State.modCh_retiring (c : ChanId) (f : Channel → Channel) : (s.modCh c f).retiring = s.retiring := by unfold State.modCh; rfl
@[simp] theorem State.modCh_retiredLog (c : ChanId) (f : Channel → Channel) : (s.modCh c f).retiredLog = s.retiredLog := by unfold State.modCh; rfl
@[simp] theorem State.modCh_dram (c : ChanId) (f : Channel → Channel) : (s.modCh c f).dram = s.dram := by unfold State.modCh; rfl
@[simp] theorem State.modCh_media (c : ChanId) (f : Channel → Channel) : (s.modCh c f).media = s.media := by unfold State.modCh; rfl
@[simp] theorem State.modCh_quads (c : ChanId) (f : Channel → Channel) : (s.modCh c f).quads = s.quads := by unfold State.modCh; rfl
@[simp] theorem State.modCh_sram (c : ChanId) (f : Channel → Channel) : (s.modCh c f).sram = s.sram := by unfold State.modCh; rfl
@[simp] theorem State.modCh_flash (c : ChanId) (f : Channel → Channel) : (s.modCh c f).flash = s.flash := by unfold State.modCh; rfl
@[simp] theorem State.modCh_life (c : ChanId) (f : Channel → Channel) : (s.modCh c f).life = s.life := by unfold State.modCh; rfl
@[simp] theorem State.modCh_lifeAt (c : ChanId) (f : Channel → Channel) : (s.modCh c f).lifeAt = s.lifeAt := by unfold State.modCh; rfl
@[simp] theorem State.modCh_zqQ (c : ChanId) (f : Channel → Channel) : (s.modCh c f).zqQ = s.zqQ := by unfold State.modCh; rfl
@[simp] theorem State.modCh_awlStep (c : ChanId) (f : Channel → Channel) : (s.modCh c f).awlStep = s.awlStep := by unfold State.modCh; rfl
@[simp] theorem State.modCh_awlLfsr (c : ChanId) (f : Channel → Channel) : (s.modCh c f).awlLfsr = s.awlLfsr := by unfold State.modCh; rfl
@[simp] theorem State.modCh_beam (c : ChanId) (f : Channel → Channel) : (s.modCh c f).beam = s.beam := by unfold State.modCh; rfl
@[simp] theorem State.modCh_beamCtx (c : ChanId) (f : Channel → Channel) : (s.modCh c f).beamCtx = s.beamCtx := by unfold State.modCh; rfl
@[simp] theorem State.modCh_beamClear (c : ChanId) (f : Channel → Channel) : (s.modCh c f).beamClear = s.beamClear := by unfold State.modCh; rfl
@[simp] theorem State.modCh_clears (c : ChanId) (f : Channel → Channel) : (s.modCh c f).clears = s.clears := by unfold State.modCh; rfl
@[simp] theorem State.modCh_tagCap (c : ChanId) (f : Channel → Channel) : (s.modCh c f).tagCap = s.tagCap := by unfold State.modCh; rfl
@[simp] theorem State.modCh_pseqStaged (c : ChanId) (f : Channel → Channel) : (s.modCh c f).pseqStaged = s.pseqStaged := by unfold State.modCh; rfl
@[simp] theorem State.modCh_tseqStaged (c : ChanId) (f : Channel → Channel) : (s.modCh c f).tseqStaged = s.tseqStaged := by unfold State.modCh; rfl
@[simp] theorem State.modCh_out (c : ChanId) (f : Channel → Channel) : (s.modCh c f).out = s.out := by unfold State.modCh; rfl
@[simp] theorem State.modCh_freeCtr (c : ChanId) (f : Channel → Channel) : (s.modCh c f).freeCtr = s.freeCtr := by unfold State.modCh; rfl

/-! ### modCtx -/

@[simp] theorem State.modCtx_pending (c : Nat) (f : Ctx → Ctx) : (s.modCtx c f).pending = s.pending := by unfold State.modCtx; rfl
@[simp] theorem State.modCtx_regs (c : Nat) (f : Ctx → Ctx) : (s.modCtx c f).regs = s.regs := by unfold State.modCtx; rfl
@[simp] theorem State.modCtx_pend (c : Nat) (f : Ctx → Ctx) : (s.modCtx c f).pend = s.pend := by unfold State.modCtx; rfl
@[simp] theorem State.modCtx_holdRelease (c : Nat) (f : Ctx → Ctx) : (s.modCtx c f).holdRelease = s.holdRelease := by unfold State.modCtx; rfl
@[simp] theorem State.modCtx_mode (c : Nat) (f : Ctx → Ctx) : (s.modCtx c f).mode = s.mode := by unfold State.modCtx; rfl
@[simp] theorem State.modCtx_prev (c : Nat) (f : Ctx → Ctx) : (s.modCtx c f).prev = s.prev := by unfold State.modCtx; rfl
@[simp] theorem State.modCtx_warm (c : Nat) (f : Ctx → Ctx) : (s.modCtx c f).warm = s.warm := by unfold State.modCtx; rfl
@[simp] theorem State.modCtx_warmFlush (c : Nat) (f : Ctx → Ctx) : (s.modCtx c f).warmFlush = s.warmFlush := by unfold State.modCtx; rfl
@[simp] theorem State.modCtx_held (c : Nat) (f : Ctx → Ctx) : (s.modCtx c f).held = s.held := by unfold State.modCtx; rfl
@[simp] theorem State.modCtx_modeAt (c : Nat) (f : Ctx → Ctx) : (s.modCtx c f).modeAt = s.modeAt := by unfold State.modCtx; rfl
@[simp] theorem State.modCtx_resume (c : Nat) (f : Ctx → Ctx) : (s.modCtx c f).resume = s.resume := by unfold State.modCtx; rfl
@[simp] theorem State.modCtx_testFrom (c : Nat) (f : Ctx → Ctx) : (s.modCtx c f).testFrom = s.testFrom := by unfold State.modCtx; rfl
@[simp] theorem State.modCtx_start (c : Nat) (f : Ctx → Ctx) : (s.modCtx c f).start = s.start := by unfold State.modCtx; rfl
@[simp] theorem State.modCtx_mpWaits (c : Nat) (f : Ctx → Ctx) : (s.modCtx c f).mpWaits = s.mpWaits := by unfold State.modCtx; rfl
@[simp] theorem State.modCtx_pins (c : Nat) (f : Ctx → Ctx) : (s.modCtx c f).pins = s.pins := by unfold State.modCtx; rfl
@[simp] theorem State.modCtx_timeBase (c : Nat) (f : Ctx → Ctx) : (s.modCtx c f).timeBase = s.timeBase := by unfold State.modCtx; rfl
@[simp] theorem State.modCtx_tickFrac (c : Nat) (f : Ctx → Ctx) : (s.modCtx c f).tickFrac = s.tickFrac := by unfold State.modCtx; rfl
@[simp] theorem State.modCtx_uptime (c : Nat) (f : Ctx → Ctx) : (s.modCtx c f).uptime = s.uptime := by unfold State.modCtx; rfl
@[simp] theorem State.modCtx_epoch (c : Nat) (f : Ctx → Ctx) : (s.modCtx c f).epoch = s.epoch := by unfold State.modCtx; rfl
@[simp] theorem State.modCtx_evq (c : Nat) (f : Ctx → Ctx) : (s.modCtx c f).evq = s.evq := by unfold State.modCtx; rfl
@[simp] theorem State.modCtx_flt (c : Nat) (f : Ctx → Ctx) : (s.modCtx c f).flt = s.flt := by unfold State.modCtx; rfl
@[simp] theorem State.modCtx_ports (c : Nat) (f : Ctx → Ctx) : (s.modCtx c f).ports = s.ports := by unfold State.modCtx; rfl
@[simp] theorem State.modCtx_ctxWin (c : Nat) (f : Ctx → Ctx) : (s.modCtx c f).ctxWin = s.ctxWin := by unfold State.modCtx; rfl
@[simp] theorem State.modCtx_ingressPtr (c : Nat) (f : Ctx → Ctx) : (s.modCtx c f).ingressPtr = s.ingressPtr := by unfold State.modCtx; rfl
@[simp] theorem State.modCtx_ledger (c : Nat) (f : Ctx → Ctx) : (s.modCtx c f).ledger = s.ledger := by unfold State.modCtx; rfl
@[simp] theorem State.modCtx_nextId (c : Nat) (f : Ctx → Ctx) : (s.modCtx c f).nextId = s.nextId := by unfold State.modCtx; rfl
@[simp] theorem State.modCtx_tags (c : Nat) (f : Ctx → Ctx) : (s.modCtx c f).tags = s.tags := by unfold State.modCtx; rfl
@[simp] theorem State.modCtx_caches (c : Nat) (f : Ctx → Ctx) : (s.modCtx c f).caches = s.caches := by unfold State.modCtx; rfl
@[simp] theorem State.modCtx_fetches (c : Nat) (f : Ctx → Ctx) : (s.modCtx c f).fetches = s.fetches := by unfold State.modCtx; rfl
@[simp] theorem State.modCtx_lfsr (c : Nat) (f : Ctx → Ctx) : (s.modCtx c f).lfsr = s.lfsr := by unfold State.modCtx; rfl
@[simp] theorem State.modCtx_lost (c : Nat) (f : Ctx → Ctx) : (s.modCtx c f).lost = s.lost := by unfold State.modCtx; rfl
@[simp] theorem State.modCtx_pidx (c : Nat) (f : Ctx → Ctx) : (s.modCtx c f).pidx = s.pidx := by unfold State.modCtx; rfl
@[simp] theorem State.modCtx_allocs (c : Nat) (f : Ctx → Ctx) : (s.modCtx c f).allocs = s.allocs := by unfold State.modCtx; rfl
@[simp] theorem State.modCtx_drain (c : Nat) (f : Ctx → Ctx) : (s.modCtx c f).drain = s.drain := by unfold State.modCtx; rfl
@[simp] theorem State.modCtx_drainFrom (c : Nat) (f : Ctx → Ctx) : (s.modCtx c f).drainFrom = s.drainFrom := by unfold State.modCtx; rfl
@[simp] theorem State.modCtx_drainOpen (c : Nat) (f : Ctx → Ctx) : (s.modCtx c f).drainOpen = s.drainOpen := by unfold State.modCtx; rfl
@[simp] theorem State.modCtx_retiring (c : Nat) (f : Ctx → Ctx) : (s.modCtx c f).retiring = s.retiring := by unfold State.modCtx; rfl
@[simp] theorem State.modCtx_retiredLog (c : Nat) (f : Ctx → Ctx) : (s.modCtx c f).retiredLog = s.retiredLog := by unfold State.modCtx; rfl
@[simp] theorem State.modCtx_dram (c : Nat) (f : Ctx → Ctx) : (s.modCtx c f).dram = s.dram := by unfold State.modCtx; rfl
@[simp] theorem State.modCtx_media (c : Nat) (f : Ctx → Ctx) : (s.modCtx c f).media = s.media := by unfold State.modCtx; rfl
@[simp] theorem State.modCtx_chs (c : Nat) (f : Ctx → Ctx) : (s.modCtx c f).chs = s.chs := by unfold State.modCtx; rfl
@[simp] theorem State.modCtx_quads (c : Nat) (f : Ctx → Ctx) : (s.modCtx c f).quads = s.quads := by unfold State.modCtx; rfl
@[simp] theorem State.modCtx_sram (c : Nat) (f : Ctx → Ctx) : (s.modCtx c f).sram = s.sram := by unfold State.modCtx; rfl
@[simp] theorem State.modCtx_flash (c : Nat) (f : Ctx → Ctx) : (s.modCtx c f).flash = s.flash := by unfold State.modCtx; rfl
@[simp] theorem State.modCtx_life (c : Nat) (f : Ctx → Ctx) : (s.modCtx c f).life = s.life := by unfold State.modCtx; rfl
@[simp] theorem State.modCtx_lifeAt (c : Nat) (f : Ctx → Ctx) : (s.modCtx c f).lifeAt = s.lifeAt := by unfold State.modCtx; rfl
@[simp] theorem State.modCtx_zqQ (c : Nat) (f : Ctx → Ctx) : (s.modCtx c f).zqQ = s.zqQ := by unfold State.modCtx; rfl
@[simp] theorem State.modCtx_awlStep (c : Nat) (f : Ctx → Ctx) : (s.modCtx c f).awlStep = s.awlStep := by unfold State.modCtx; rfl
@[simp] theorem State.modCtx_awlLfsr (c : Nat) (f : Ctx → Ctx) : (s.modCtx c f).awlLfsr = s.awlLfsr := by unfold State.modCtx; rfl
@[simp] theorem State.modCtx_beam (c : Nat) (f : Ctx → Ctx) : (s.modCtx c f).beam = s.beam := by unfold State.modCtx; rfl
@[simp] theorem State.modCtx_beamCtx (c : Nat) (f : Ctx → Ctx) : (s.modCtx c f).beamCtx = s.beamCtx := by unfold State.modCtx; rfl
@[simp] theorem State.modCtx_beamClear (c : Nat) (f : Ctx → Ctx) : (s.modCtx c f).beamClear = s.beamClear := by unfold State.modCtx; rfl
@[simp] theorem State.modCtx_clears (c : Nat) (f : Ctx → Ctx) : (s.modCtx c f).clears = s.clears := by unfold State.modCtx; rfl
@[simp] theorem State.modCtx_tagCap (c : Nat) (f : Ctx → Ctx) : (s.modCtx c f).tagCap = s.tagCap := by unfold State.modCtx; rfl
@[simp] theorem State.modCtx_pseqStaged (c : Nat) (f : Ctx → Ctx) : (s.modCtx c f).pseqStaged = s.pseqStaged := by unfold State.modCtx; rfl
@[simp] theorem State.modCtx_tseqStaged (c : Nat) (f : Ctx → Ctx) : (s.modCtx c f).tseqStaged = s.tseqStaged := by unfold State.modCtx; rfl
@[simp] theorem State.modCtx_out (c : Nat) (f : Ctx → Ctx) : (s.modCtx c f).out = s.out := by unfold State.modCtx; rfl
@[simp] theorem State.modCtx_freeCtr (c : Nat) (f : Ctx → Ctx) : (s.modCtx c f).freeCtr = s.freeCtr := by unfold State.modCtx; rfl

/-! ### drive -/

@[simp] theorem State.drive_pending (o : Out) : (s.drive o).pending = s.pending := by unfold State.drive; rfl
@[simp] theorem State.drive_regs (o : Out) : (s.drive o).regs = s.regs := by unfold State.drive; rfl
@[simp] theorem State.drive_pend (o : Out) : (s.drive o).pend = s.pend := by unfold State.drive; rfl
@[simp] theorem State.drive_holdRelease (o : Out) : (s.drive o).holdRelease = s.holdRelease := by unfold State.drive; rfl
@[simp] theorem State.drive_mode (o : Out) : (s.drive o).mode = s.mode := by unfold State.drive; rfl
@[simp] theorem State.drive_prev (o : Out) : (s.drive o).prev = s.prev := by unfold State.drive; rfl
@[simp] theorem State.drive_warm (o : Out) : (s.drive o).warm = s.warm := by unfold State.drive; rfl
@[simp] theorem State.drive_warmFlush (o : Out) : (s.drive o).warmFlush = s.warmFlush := by unfold State.drive; rfl
@[simp] theorem State.drive_held (o : Out) : (s.drive o).held = s.held := by unfold State.drive; rfl
@[simp] theorem State.drive_modeAt (o : Out) : (s.drive o).modeAt = s.modeAt := by unfold State.drive; rfl
@[simp] theorem State.drive_resume (o : Out) : (s.drive o).resume = s.resume := by unfold State.drive; rfl
@[simp] theorem State.drive_testFrom (o : Out) : (s.drive o).testFrom = s.testFrom := by unfold State.drive; rfl
@[simp] theorem State.drive_start (o : Out) : (s.drive o).start = s.start := by unfold State.drive; rfl
@[simp] theorem State.drive_mpWaits (o : Out) : (s.drive o).mpWaits = s.mpWaits := by unfold State.drive; rfl
@[simp] theorem State.drive_pins (o : Out) : (s.drive o).pins = s.pins := by unfold State.drive; rfl
@[simp] theorem State.drive_timeBase (o : Out) : (s.drive o).timeBase = s.timeBase := by unfold State.drive; rfl
@[simp] theorem State.drive_tickFrac (o : Out) : (s.drive o).tickFrac = s.tickFrac := by unfold State.drive; rfl
@[simp] theorem State.drive_uptime (o : Out) : (s.drive o).uptime = s.uptime := by unfold State.drive; rfl
@[simp] theorem State.drive_epoch (o : Out) : (s.drive o).epoch = s.epoch := by unfold State.drive; rfl
@[simp] theorem State.drive_evq (o : Out) : (s.drive o).evq = s.evq := by unfold State.drive; rfl
@[simp] theorem State.drive_flt (o : Out) : (s.drive o).flt = s.flt := by unfold State.drive; rfl
@[simp] theorem State.drive_ports (o : Out) : (s.drive o).ports = s.ports := by unfold State.drive; rfl
@[simp] theorem State.drive_ctxs (o : Out) : (s.drive o).ctxs = s.ctxs := by unfold State.drive; rfl
@[simp] theorem State.drive_ctxWin (o : Out) : (s.drive o).ctxWin = s.ctxWin := by unfold State.drive; rfl
@[simp] theorem State.drive_ingressPtr (o : Out) : (s.drive o).ingressPtr = s.ingressPtr := by unfold State.drive; rfl
@[simp] theorem State.drive_ledger (o : Out) : (s.drive o).ledger = s.ledger := by unfold State.drive; rfl
@[simp] theorem State.drive_nextId (o : Out) : (s.drive o).nextId = s.nextId := by unfold State.drive; rfl
@[simp] theorem State.drive_tags (o : Out) : (s.drive o).tags = s.tags := by unfold State.drive; rfl
@[simp] theorem State.drive_caches (o : Out) : (s.drive o).caches = s.caches := by unfold State.drive; rfl
@[simp] theorem State.drive_fetches (o : Out) : (s.drive o).fetches = s.fetches := by unfold State.drive; rfl
@[simp] theorem State.drive_lfsr (o : Out) : (s.drive o).lfsr = s.lfsr := by unfold State.drive; rfl
@[simp] theorem State.drive_lost (o : Out) : (s.drive o).lost = s.lost := by unfold State.drive; rfl
@[simp] theorem State.drive_pidx (o : Out) : (s.drive o).pidx = s.pidx := by unfold State.drive; rfl
@[simp] theorem State.drive_allocs (o : Out) : (s.drive o).allocs = s.allocs := by unfold State.drive; rfl
@[simp] theorem State.drive_drain (o : Out) : (s.drive o).drain = s.drain := by unfold State.drive; rfl
@[simp] theorem State.drive_drainFrom (o : Out) : (s.drive o).drainFrom = s.drainFrom := by unfold State.drive; rfl
@[simp] theorem State.drive_drainOpen (o : Out) : (s.drive o).drainOpen = s.drainOpen := by unfold State.drive; rfl
@[simp] theorem State.drive_retiring (o : Out) : (s.drive o).retiring = s.retiring := by unfold State.drive; rfl
@[simp] theorem State.drive_retiredLog (o : Out) : (s.drive o).retiredLog = s.retiredLog := by unfold State.drive; rfl
@[simp] theorem State.drive_dram (o : Out) : (s.drive o).dram = s.dram := by unfold State.drive; rfl
@[simp] theorem State.drive_media (o : Out) : (s.drive o).media = s.media := by unfold State.drive; rfl
@[simp] theorem State.drive_chs (o : Out) : (s.drive o).chs = s.chs := by unfold State.drive; rfl
@[simp] theorem State.drive_quads (o : Out) : (s.drive o).quads = s.quads := by unfold State.drive; rfl
@[simp] theorem State.drive_sram (o : Out) : (s.drive o).sram = s.sram := by unfold State.drive; rfl
@[simp] theorem State.drive_flash (o : Out) : (s.drive o).flash = s.flash := by unfold State.drive; rfl
@[simp] theorem State.drive_life (o : Out) : (s.drive o).life = s.life := by unfold State.drive; rfl
@[simp] theorem State.drive_lifeAt (o : Out) : (s.drive o).lifeAt = s.lifeAt := by unfold State.drive; rfl
@[simp] theorem State.drive_zqQ (o : Out) : (s.drive o).zqQ = s.zqQ := by unfold State.drive; rfl
@[simp] theorem State.drive_awlStep (o : Out) : (s.drive o).awlStep = s.awlStep := by unfold State.drive; rfl
@[simp] theorem State.drive_awlLfsr (o : Out) : (s.drive o).awlLfsr = s.awlLfsr := by unfold State.drive; rfl
@[simp] theorem State.drive_beam (o : Out) : (s.drive o).beam = s.beam := by unfold State.drive; rfl
@[simp] theorem State.drive_beamCtx (o : Out) : (s.drive o).beamCtx = s.beamCtx := by unfold State.drive; rfl
@[simp] theorem State.drive_beamClear (o : Out) : (s.drive o).beamClear = s.beamClear := by unfold State.drive; rfl
@[simp] theorem State.drive_clears (o : Out) : (s.drive o).clears = s.clears := by unfold State.drive; rfl
@[simp] theorem State.drive_tagCap (o : Out) : (s.drive o).tagCap = s.tagCap := by unfold State.drive; rfl
@[simp] theorem State.drive_pseqStaged (o : Out) : (s.drive o).pseqStaged = s.pseqStaged := by unfold State.drive; rfl
@[simp] theorem State.drive_tseqStaged (o : Out) : (s.drive o).tseqStaged = s.tseqStaged := by unfold State.drive; rfl
@[simp] theorem State.drive_freeCtr (o : Out) : (s.drive o).freeCtr = s.freeCtr := by unfold State.drive; rfl

/-! ### setTag -/

@[simp] theorem State.setTag_pending (c x w : Nat) (t : Tag) : (s.setTag c x w t).pending = s.pending := by unfold State.setTag; rfl
@[simp] theorem State.setTag_regs (c x w : Nat) (t : Tag) : (s.setTag c x w t).regs = s.regs := by unfold State.setTag; rfl
@[simp] theorem State.setTag_pend (c x w : Nat) (t : Tag) : (s.setTag c x w t).pend = s.pend := by unfold State.setTag; rfl
@[simp] theorem State.setTag_holdRelease (c x w : Nat) (t : Tag) : (s.setTag c x w t).holdRelease = s.holdRelease := by unfold State.setTag; rfl
@[simp] theorem State.setTag_mode (c x w : Nat) (t : Tag) : (s.setTag c x w t).mode = s.mode := by unfold State.setTag; rfl
@[simp] theorem State.setTag_prev (c x w : Nat) (t : Tag) : (s.setTag c x w t).prev = s.prev := by unfold State.setTag; rfl
@[simp] theorem State.setTag_warm (c x w : Nat) (t : Tag) : (s.setTag c x w t).warm = s.warm := by unfold State.setTag; rfl
@[simp] theorem State.setTag_warmFlush (c x w : Nat) (t : Tag) : (s.setTag c x w t).warmFlush = s.warmFlush := by unfold State.setTag; rfl
@[simp] theorem State.setTag_held (c x w : Nat) (t : Tag) : (s.setTag c x w t).held = s.held := by unfold State.setTag; rfl
@[simp] theorem State.setTag_modeAt (c x w : Nat) (t : Tag) : (s.setTag c x w t).modeAt = s.modeAt := by unfold State.setTag; rfl
@[simp] theorem State.setTag_resume (c x w : Nat) (t : Tag) : (s.setTag c x w t).resume = s.resume := by unfold State.setTag; rfl
@[simp] theorem State.setTag_testFrom (c x w : Nat) (t : Tag) : (s.setTag c x w t).testFrom = s.testFrom := by unfold State.setTag; rfl
@[simp] theorem State.setTag_start (c x w : Nat) (t : Tag) : (s.setTag c x w t).start = s.start := by unfold State.setTag; rfl
@[simp] theorem State.setTag_mpWaits (c x w : Nat) (t : Tag) : (s.setTag c x w t).mpWaits = s.mpWaits := by unfold State.setTag; rfl
@[simp] theorem State.setTag_pins (c x w : Nat) (t : Tag) : (s.setTag c x w t).pins = s.pins := by unfold State.setTag; rfl
@[simp] theorem State.setTag_timeBase (c x w : Nat) (t : Tag) : (s.setTag c x w t).timeBase = s.timeBase := by unfold State.setTag; rfl
@[simp] theorem State.setTag_tickFrac (c x w : Nat) (t : Tag) : (s.setTag c x w t).tickFrac = s.tickFrac := by unfold State.setTag; rfl
@[simp] theorem State.setTag_uptime (c x w : Nat) (t : Tag) : (s.setTag c x w t).uptime = s.uptime := by unfold State.setTag; rfl
@[simp] theorem State.setTag_epoch (c x w : Nat) (t : Tag) : (s.setTag c x w t).epoch = s.epoch := by unfold State.setTag; rfl
@[simp] theorem State.setTag_evq (c x w : Nat) (t : Tag) : (s.setTag c x w t).evq = s.evq := by unfold State.setTag; rfl
@[simp] theorem State.setTag_flt (c x w : Nat) (t : Tag) : (s.setTag c x w t).flt = s.flt := by unfold State.setTag; rfl
@[simp] theorem State.setTag_ports (c x w : Nat) (t : Tag) : (s.setTag c x w t).ports = s.ports := by unfold State.setTag; rfl
@[simp] theorem State.setTag_ctxs (c x w : Nat) (t : Tag) : (s.setTag c x w t).ctxs = s.ctxs := by unfold State.setTag; rfl
@[simp] theorem State.setTag_ctxWin (c x w : Nat) (t : Tag) : (s.setTag c x w t).ctxWin = s.ctxWin := by unfold State.setTag; rfl
@[simp] theorem State.setTag_ingressPtr (c x w : Nat) (t : Tag) : (s.setTag c x w t).ingressPtr = s.ingressPtr := by unfold State.setTag; rfl
@[simp] theorem State.setTag_ledger (c x w : Nat) (t : Tag) : (s.setTag c x w t).ledger = s.ledger := by unfold State.setTag; rfl
@[simp] theorem State.setTag_nextId (c x w : Nat) (t : Tag) : (s.setTag c x w t).nextId = s.nextId := by unfold State.setTag; rfl
@[simp] theorem State.setTag_fetches (c x w : Nat) (t : Tag) : (s.setTag c x w t).fetches = s.fetches := by unfold State.setTag; rfl
@[simp] theorem State.setTag_lfsr (c x w : Nat) (t : Tag) : (s.setTag c x w t).lfsr = s.lfsr := by unfold State.setTag; rfl
@[simp] theorem State.setTag_lost (c x w : Nat) (t : Tag) : (s.setTag c x w t).lost = s.lost := by unfold State.setTag; rfl
@[simp] theorem State.setTag_pidx (c x w : Nat) (t : Tag) : (s.setTag c x w t).pidx = s.pidx := by unfold State.setTag; rfl
@[simp] theorem State.setTag_allocs (c x w : Nat) (t : Tag) : (s.setTag c x w t).allocs = s.allocs := by unfold State.setTag; rfl
@[simp] theorem State.setTag_drain (c x w : Nat) (t : Tag) : (s.setTag c x w t).drain = s.drain := by unfold State.setTag; rfl
@[simp] theorem State.setTag_drainFrom (c x w : Nat) (t : Tag) : (s.setTag c x w t).drainFrom = s.drainFrom := by unfold State.setTag; rfl
@[simp] theorem State.setTag_drainOpen (c x w : Nat) (t : Tag) : (s.setTag c x w t).drainOpen = s.drainOpen := by unfold State.setTag; rfl
@[simp] theorem State.setTag_retiring (c x w : Nat) (t : Tag) : (s.setTag c x w t).retiring = s.retiring := by unfold State.setTag; rfl
@[simp] theorem State.setTag_retiredLog (c x w : Nat) (t : Tag) : (s.setTag c x w t).retiredLog = s.retiredLog := by unfold State.setTag; rfl
@[simp] theorem State.setTag_dram (c x w : Nat) (t : Tag) : (s.setTag c x w t).dram = s.dram := by unfold State.setTag; rfl
@[simp] theorem State.setTag_media (c x w : Nat) (t : Tag) : (s.setTag c x w t).media = s.media := by unfold State.setTag; rfl
@[simp] theorem State.setTag_chs (c x w : Nat) (t : Tag) : (s.setTag c x w t).chs = s.chs := by unfold State.setTag; rfl
@[simp] theorem State.setTag_quads (c x w : Nat) (t : Tag) : (s.setTag c x w t).quads = s.quads := by unfold State.setTag; rfl
@[simp] theorem State.setTag_sram (c x w : Nat) (t : Tag) : (s.setTag c x w t).sram = s.sram := by unfold State.setTag; rfl
@[simp] theorem State.setTag_flash (c x w : Nat) (t : Tag) : (s.setTag c x w t).flash = s.flash := by unfold State.setTag; rfl
@[simp] theorem State.setTag_life (c x w : Nat) (t : Tag) : (s.setTag c x w t).life = s.life := by unfold State.setTag; rfl
@[simp] theorem State.setTag_lifeAt (c x w : Nat) (t : Tag) : (s.setTag c x w t).lifeAt = s.lifeAt := by unfold State.setTag; rfl
@[simp] theorem State.setTag_zqQ (c x w : Nat) (t : Tag) : (s.setTag c x w t).zqQ = s.zqQ := by unfold State.setTag; rfl
@[simp] theorem State.setTag_awlStep (c x w : Nat) (t : Tag) : (s.setTag c x w t).awlStep = s.awlStep := by unfold State.setTag; rfl
@[simp] theorem State.setTag_awlLfsr (c x w : Nat) (t : Tag) : (s.setTag c x w t).awlLfsr = s.awlLfsr := by unfold State.setTag; rfl
@[simp] theorem State.setTag_beam (c x w : Nat) (t : Tag) : (s.setTag c x w t).beam = s.beam := by unfold State.setTag; rfl
@[simp] theorem State.setTag_beamCtx (c x w : Nat) (t : Tag) : (s.setTag c x w t).beamCtx = s.beamCtx := by unfold State.setTag; rfl
@[simp] theorem State.setTag_beamClear (c x w : Nat) (t : Tag) : (s.setTag c x w t).beamClear = s.beamClear := by unfold State.setTag; rfl
@[simp] theorem State.setTag_clears (c x w : Nat) (t : Tag) : (s.setTag c x w t).clears = s.clears := by unfold State.setTag; rfl
@[simp] theorem State.setTag_tagCap (c x w : Nat) (t : Tag) : (s.setTag c x w t).tagCap = s.tagCap := by unfold State.setTag; rfl
@[simp] theorem State.setTag_pseqStaged (c x w : Nat) (t : Tag) : (s.setTag c x w t).pseqStaged = s.pseqStaged := by unfold State.setTag; rfl
@[simp] theorem State.setTag_tseqStaged (c x w : Nat) (t : Tag) : (s.setTag c x w t).tseqStaged = s.tseqStaged := by unfold State.setTag; rfl
@[simp] theorem State.setTag_out (c x w : Nat) (t : Tag) : (s.setTag c x w t).out = s.out := by unfold State.setTag; rfl
@[simp] theorem State.setTag_freeCtr (c x w : Nat) (t : Tag) : (s.setTag c x w t).freeCtr = s.freeCtr := by unfold State.setTag; rfl

/-! ### putPend -/

@[simp] theorem State.putPend_pending (o : Nat) (w : Word) : (s.putPend o w).pending = s.pending := by unfold State.putPend; split <;> rfl
@[simp] theorem State.putPend_regs (o : Nat) (w : Word) : (s.putPend o w).regs = s.regs := by unfold State.putPend; split <;> rfl
@[simp] theorem State.putPend_holdRelease (o : Nat) (w : Word) : (s.putPend o w).holdRelease = s.holdRelease := by unfold State.putPend; split <;> rfl
@[simp] theorem State.putPend_mode (o : Nat) (w : Word) : (s.putPend o w).mode = s.mode := by unfold State.putPend; split <;> rfl
@[simp] theorem State.putPend_prev (o : Nat) (w : Word) : (s.putPend o w).prev = s.prev := by unfold State.putPend; split <;> rfl
@[simp] theorem State.putPend_warm (o : Nat) (w : Word) : (s.putPend o w).warm = s.warm := by unfold State.putPend; split <;> rfl
@[simp] theorem State.putPend_warmFlush (o : Nat) (w : Word) : (s.putPend o w).warmFlush = s.warmFlush := by unfold State.putPend; split <;> rfl
@[simp] theorem State.putPend_held (o : Nat) (w : Word) : (s.putPend o w).held = s.held := by unfold State.putPend; split <;> rfl
@[simp] theorem State.putPend_modeAt (o : Nat) (w : Word) : (s.putPend o w).modeAt = s.modeAt := by unfold State.putPend; split <;> rfl
@[simp] theorem State.putPend_resume (o : Nat) (w : Word) : (s.putPend o w).resume = s.resume := by unfold State.putPend; split <;> rfl
@[simp] theorem State.putPend_testFrom (o : Nat) (w : Word) : (s.putPend o w).testFrom = s.testFrom := by unfold State.putPend; split <;> rfl
@[simp] theorem State.putPend_start (o : Nat) (w : Word) : (s.putPend o w).start = s.start := by unfold State.putPend; split <;> rfl
@[simp] theorem State.putPend_mpWaits (o : Nat) (w : Word) : (s.putPend o w).mpWaits = s.mpWaits := by unfold State.putPend; split <;> rfl
@[simp] theorem State.putPend_pins (o : Nat) (w : Word) : (s.putPend o w).pins = s.pins := by unfold State.putPend; split <;> rfl
@[simp] theorem State.putPend_timeBase (o : Nat) (w : Word) : (s.putPend o w).timeBase = s.timeBase := by unfold State.putPend; split <;> rfl
@[simp] theorem State.putPend_tickFrac (o : Nat) (w : Word) : (s.putPend o w).tickFrac = s.tickFrac := by unfold State.putPend; split <;> rfl
@[simp] theorem State.putPend_uptime (o : Nat) (w : Word) : (s.putPend o w).uptime = s.uptime := by unfold State.putPend; split <;> rfl
@[simp] theorem State.putPend_epoch (o : Nat) (w : Word) : (s.putPend o w).epoch = s.epoch := by unfold State.putPend; split <;> rfl
@[simp] theorem State.putPend_evq (o : Nat) (w : Word) : (s.putPend o w).evq = s.evq := by unfold State.putPend; split <;> rfl
@[simp] theorem State.putPend_flt (o : Nat) (w : Word) : (s.putPend o w).flt = s.flt := by unfold State.putPend; split <;> rfl
@[simp] theorem State.putPend_ports (o : Nat) (w : Word) : (s.putPend o w).ports = s.ports := by unfold State.putPend; split <;> rfl
@[simp] theorem State.putPend_ctxs (o : Nat) (w : Word) : (s.putPend o w).ctxs = s.ctxs := by unfold State.putPend; split <;> rfl
@[simp] theorem State.putPend_ctxWin (o : Nat) (w : Word) : (s.putPend o w).ctxWin = s.ctxWin := by unfold State.putPend; split <;> rfl
@[simp] theorem State.putPend_ingressPtr (o : Nat) (w : Word) : (s.putPend o w).ingressPtr = s.ingressPtr := by unfold State.putPend; split <;> rfl
@[simp] theorem State.putPend_ledger (o : Nat) (w : Word) : (s.putPend o w).ledger = s.ledger := by unfold State.putPend; split <;> rfl
@[simp] theorem State.putPend_nextId (o : Nat) (w : Word) : (s.putPend o w).nextId = s.nextId := by unfold State.putPend; split <;> rfl
@[simp] theorem State.putPend_tags (o : Nat) (w : Word) : (s.putPend o w).tags = s.tags := by unfold State.putPend; split <;> rfl
@[simp] theorem State.putPend_caches (o : Nat) (w : Word) : (s.putPend o w).caches = s.caches := by unfold State.putPend; split <;> rfl
@[simp] theorem State.putPend_fetches (o : Nat) (w : Word) : (s.putPend o w).fetches = s.fetches := by unfold State.putPend; split <;> rfl
@[simp] theorem State.putPend_lfsr (o : Nat) (w : Word) : (s.putPend o w).lfsr = s.lfsr := by unfold State.putPend; split <;> rfl
@[simp] theorem State.putPend_lost (o : Nat) (w : Word) : (s.putPend o w).lost = s.lost := by unfold State.putPend; split <;> rfl
@[simp] theorem State.putPend_pidx (o : Nat) (w : Word) : (s.putPend o w).pidx = s.pidx := by unfold State.putPend; split <;> rfl
@[simp] theorem State.putPend_allocs (o : Nat) (w : Word) : (s.putPend o w).allocs = s.allocs := by unfold State.putPend; split <;> rfl
@[simp] theorem State.putPend_drain (o : Nat) (w : Word) : (s.putPend o w).drain = s.drain := by unfold State.putPend; split <;> rfl
@[simp] theorem State.putPend_drainFrom (o : Nat) (w : Word) : (s.putPend o w).drainFrom = s.drainFrom := by unfold State.putPend; split <;> rfl
@[simp] theorem State.putPend_drainOpen (o : Nat) (w : Word) : (s.putPend o w).drainOpen = s.drainOpen := by unfold State.putPend; split <;> rfl
@[simp] theorem State.putPend_retiring (o : Nat) (w : Word) : (s.putPend o w).retiring = s.retiring := by unfold State.putPend; split <;> rfl
@[simp] theorem State.putPend_retiredLog (o : Nat) (w : Word) : (s.putPend o w).retiredLog = s.retiredLog := by unfold State.putPend; split <;> rfl
@[simp] theorem State.putPend_dram (o : Nat) (w : Word) : (s.putPend o w).dram = s.dram := by unfold State.putPend; split <;> rfl
@[simp] theorem State.putPend_media (o : Nat) (w : Word) : (s.putPend o w).media = s.media := by unfold State.putPend; split <;> rfl
@[simp] theorem State.putPend_chs (o : Nat) (w : Word) : (s.putPend o w).chs = s.chs := by unfold State.putPend; split <;> rfl
@[simp] theorem State.putPend_quads (o : Nat) (w : Word) : (s.putPend o w).quads = s.quads := by unfold State.putPend; split <;> rfl
@[simp] theorem State.putPend_sram (o : Nat) (w : Word) : (s.putPend o w).sram = s.sram := by unfold State.putPend; split <;> rfl
@[simp] theorem State.putPend_flash (o : Nat) (w : Word) : (s.putPend o w).flash = s.flash := by unfold State.putPend; split <;> rfl
@[simp] theorem State.putPend_life (o : Nat) (w : Word) : (s.putPend o w).life = s.life := by unfold State.putPend; split <;> rfl
@[simp] theorem State.putPend_lifeAt (o : Nat) (w : Word) : (s.putPend o w).lifeAt = s.lifeAt := by unfold State.putPend; split <;> rfl
@[simp] theorem State.putPend_zqQ (o : Nat) (w : Word) : (s.putPend o w).zqQ = s.zqQ := by unfold State.putPend; split <;> rfl
@[simp] theorem State.putPend_awlStep (o : Nat) (w : Word) : (s.putPend o w).awlStep = s.awlStep := by unfold State.putPend; split <;> rfl
@[simp] theorem State.putPend_awlLfsr (o : Nat) (w : Word) : (s.putPend o w).awlLfsr = s.awlLfsr := by unfold State.putPend; split <;> rfl
@[simp] theorem State.putPend_beam (o : Nat) (w : Word) : (s.putPend o w).beam = s.beam := by unfold State.putPend; split <;> rfl
@[simp] theorem State.putPend_beamCtx (o : Nat) (w : Word) : (s.putPend o w).beamCtx = s.beamCtx := by unfold State.putPend; split <;> rfl
@[simp] theorem State.putPend_beamClear (o : Nat) (w : Word) : (s.putPend o w).beamClear = s.beamClear := by unfold State.putPend; split <;> rfl
@[simp] theorem State.putPend_clears (o : Nat) (w : Word) : (s.putPend o w).clears = s.clears := by unfold State.putPend; split <;> rfl
@[simp] theorem State.putPend_tagCap (o : Nat) (w : Word) : (s.putPend o w).tagCap = s.tagCap := by unfold State.putPend; split <;> rfl
@[simp] theorem State.putPend_pseqStaged (o : Nat) (w : Word) : (s.putPend o w).pseqStaged = s.pseqStaged := by unfold State.putPend; split <;> rfl
@[simp] theorem State.putPend_tseqStaged (o : Nat) (w : Word) : (s.putPend o w).tseqStaged = s.tseqStaged := by unfold State.putPend; split <;> rfl
@[simp] theorem State.putPend_out (o : Nat) (w : Word) : (s.putPend o w).out = s.out := by unfold State.putPend; split <;> rfl
@[simp] theorem State.putPend_freeCtr (o : Nat) (w : Word) : (s.putPend o w).freeCtr = s.freeCtr := by unfold State.putPend; split <;> rfl

/-! ### Reading the window after an update -/

@[simp] theorem State.rd_event (a b c : Nat) (x y : Word) (j : Nat) : (s.event a b c x y).rd j = s.rd j := by unfold State.rd; rw [State.event_regs]
@[simp] theorem State.fld_event (a b c : Nat) (x y : Word) (g : Fld) (i j : Nat) : (s.event a b c x y).fld g i j = s.fld g i j := by simp only [State.fld, State.rd_event]
@[simp] theorem State.flag_event (a b c : Nat) (x y : Word) (g : Fld) (i j : Nat) : (s.event a b c x y).flag g i j = s.flag g i j := by simp only [State.flag, State.fld_event]
@[simp] theorem State.rd_info (a b : Nat) (x y : Word) (j : Nat) : (s.info a b x y).rd j = s.rd j := by unfold State.rd; rw [State.info_regs]
@[simp] theorem State.fld_info (a b : Nat) (x y : Word) (g : Fld) (i j : Nat) : (s.info a b x y).fld g i j = s.fld g i j := by simp only [State.fld, State.rd_info]
@[simp] theorem State.flag_info (a b : Nat) (x y : Word) (g : Fld) (i j : Nat) : (s.info a b x y).flag g i j = s.flag g i j := by simp only [State.flag, State.fld_info]
@[simp] theorem State.rd_report (n : Nat) (o : Option Nat) (j : Nat) : (s.report n o).rd j = s.rd j := by unfold State.rd; rw [State.report_regs]
@[simp] theorem State.fld_report (n : Nat) (o : Option Nat) (g : Fld) (i j : Nat) : (s.report n o).fld g i j = s.fld g i j := by simp only [State.fld, State.rd_report]
@[simp] theorem State.flag_report (n : Nat) (o : Option Nat) (g : Fld) (i j : Nat) : (s.report n o).flag g i j = s.flag g i j := by simp only [State.flag, State.fld_report]
@[simp] theorem State.rd_eventOf (a b n : Nat) (x y : Word) (o : Option Nat) (j : Nat) : (s.eventOf a b n x y o).rd j = s.rd j := by unfold State.rd; rw [State.eventOf_regs]
@[simp] theorem State.fld_eventOf (a b n : Nat) (x y : Word) (o : Option Nat) (g : Fld) (i j : Nat) : (s.eventOf a b n x y o).fld g i j = s.fld g i j := by simp only [State.fld, State.rd_eventOf]
@[simp] theorem State.flag_eventOf (a b n : Nat) (x y : Word) (o : Option Nat) (g : Fld) (i j : Nat) : (s.eventOf a b n x y o).flag g i j = s.flag g i j := by simp only [State.flag, State.fld_eventOf]
@[simp] theorem State.rd_free (w : Nat) (j : Nat) : ((s.free w).2).rd j = s.rd j := by unfold State.rd; rw [State.free_regs]
@[simp] theorem State.fld_free (w : Nat) (g : Fld) (i j : Nat) : ((s.free w).2).fld g i j = s.fld g i j := by simp only [State.fld, State.rd_free]
@[simp] theorem State.flag_free (w : Nat) (g : Fld) (i j : Nat) : ((s.free w).2).flag g i j = s.flag g i j := by simp only [State.flag, State.fld_free]
@[simp] theorem State.rd_fresh  (j : Nat) : (s.fresh.2).rd j = s.rd j := by unfold State.rd; rw [State.fresh_regs]
@[simp] theorem State.fld_fresh  (g : Fld) (i j : Nat) : (s.fresh.2).fld g i j = s.fld g i j := by simp only [State.fld, State.rd_fresh]
@[simp] theorem State.flag_fresh  (g : Fld) (i j : Nat) : (s.fresh.2).flag g i j = s.flag g i j := by simp only [State.flag, State.fld_fresh]
@[simp] theorem State.rd_modPort (p : PortId) (f : Port → Port) (j : Nat) : (s.modPort p f).rd j = s.rd j := by unfold State.rd; rw [State.modPort_regs]
@[simp] theorem State.fld_modPort (p : PortId) (f : Port → Port) (g : Fld) (i j : Nat) : (s.modPort p f).fld g i j = s.fld g i j := by simp only [State.fld, State.rd_modPort]
@[simp] theorem State.flag_modPort (p : PortId) (f : Port → Port) (g : Fld) (i j : Nat) : (s.modPort p f).flag g i j = s.flag g i j := by simp only [State.flag, State.fld_modPort]
@[simp] theorem State.rd_modCh (c : ChanId) (f : Channel → Channel) (j : Nat) : (s.modCh c f).rd j = s.rd j := by unfold State.rd; rw [State.modCh_regs]
@[simp] theorem State.fld_modCh (c : ChanId) (f : Channel → Channel) (g : Fld) (i j : Nat) : (s.modCh c f).fld g i j = s.fld g i j := by simp only [State.fld, State.rd_modCh]
@[simp] theorem State.flag_modCh (c : ChanId) (f : Channel → Channel) (g : Fld) (i j : Nat) : (s.modCh c f).flag g i j = s.flag g i j := by simp only [State.flag, State.fld_modCh]
@[simp] theorem State.rd_modCtx (c : Nat) (f : Ctx → Ctx) (j : Nat) : (s.modCtx c f).rd j = s.rd j := by unfold State.rd; rw [State.modCtx_regs]
@[simp] theorem State.fld_modCtx (c : Nat) (f : Ctx → Ctx) (g : Fld) (i j : Nat) : (s.modCtx c f).fld g i j = s.fld g i j := by simp only [State.fld, State.rd_modCtx]
@[simp] theorem State.flag_modCtx (c : Nat) (f : Ctx → Ctx) (g : Fld) (i j : Nat) : (s.modCtx c f).flag g i j = s.flag g i j := by simp only [State.flag, State.fld_modCtx]
@[simp] theorem State.rd_drive (o : Out) (j : Nat) : (s.drive o).rd j = s.rd j := by unfold State.rd; rw [State.drive_regs]
@[simp] theorem State.fld_drive (o : Out) (g : Fld) (i j : Nat) : (s.drive o).fld g i j = s.fld g i j := by simp only [State.fld, State.rd_drive]
@[simp] theorem State.flag_drive (o : Out) (g : Fld) (i j : Nat) : (s.drive o).flag g i j = s.flag g i j := by simp only [State.flag, State.fld_drive]
@[simp] theorem State.rd_setTag (c x w : Nat) (t : Tag) (j : Nat) : (s.setTag c x w t).rd j = s.rd j := by unfold State.rd; rw [State.setTag_regs]
@[simp] theorem State.fld_setTag (c x w : Nat) (t : Tag) (g : Fld) (i j : Nat) : (s.setTag c x w t).fld g i j = s.fld g i j := by simp only [State.fld, State.rd_setTag]
@[simp] theorem State.flag_setTag (c x w : Nat) (t : Tag) (g : Fld) (i j : Nat) : (s.setTag c x w t).flag g i j = s.flag g i j := by simp only [State.flag, State.fld_setTag]
@[simp] theorem State.rd_putPend (o : Nat) (w : Word) (j : Nat) : (s.putPend o w).rd j = s.rd j := by unfold State.rd; rw [State.putPend_regs]
@[simp] theorem State.fld_putPend (o : Nat) (w : Word) (g : Fld) (i j : Nat) : (s.putPend o w).fld g i j = s.fld g i j := by simp only [State.fld, State.rd_putPend]
@[simp] theorem State.flag_putPend (o : Nat) (w : Word) (g : Fld) (i j : Nat) : (s.putPend o w).flag g i j = s.flag g i j := by simp only [State.flag, State.fld_putPend]

/-- Reading a word after writing one, on a window in canonical form. -/
theorem State.rd_wr (h : kRising s.regs = true) (o : Nat) (w : Word) (j : Nat) :
    (s.wr o w).rd j = if o = j then w else s.rd j := by
  unfold State.rd State.wr
  by_cases hj : o = j
  · subst hj
    simp [kGet_kSet h]
  · simp only [hj, if_false]
    unfold kGet
    rw [show kFind (kSet (resetWord o) s.regs o w) j = kFind s.regs j from ?_]
    unfold kSet
    split
    · rw [kFind_kErase ((kRising_iff _).1 h)]; simp [hj]
    · rw [kFind_kPut]; simp [hj]

/-- The words' canonical form outlasts a write. -/
theorem State.wr_rising (h : kRising s.regs = true) (o : Nat) (w : Word) : kRising (s.wr o w).regs = true := by
  unfold State.wr kSet
  split
  · exact kRising_sublist (kErase_sublist _ _) h
  · exact kRising_kPut _ _ h

/-- A field's word after the field has been changed, and every other word. -/
theorem State.rd_setFld (h : kRising s.regs = true) (f : Fld) (v i k j : Nat) :
    (s.setFld f v i k).rd j = if f.reg.at i k = j then putBits (s.rd (f.reg.at i k)) f.lo f.w v else s.rd j :=
  State.rd_wr s h _ _ j

theorem State.setFld_rising (h : kRising s.regs = true) (f : Fld) (v i k : Nat) :
    kRising (s.setFld f v i k).regs = true := State.wr_rising s h _ _

theorem State.rd_count (h : kRising s.regs = true) (r : RegDef) (n i k j : Nat) :
    (s.count r n i k).rd j = if r.at i k = j then satAdd32 (s.rd (r.at i k)) n else s.rd j :=
  State.rd_wr s h _ _ j

theorem State.count_rising (h : kRising s.regs = true) (r : RegDef) (n i k : Nat) :
    kRising (s.count r n i k).regs = true := State.wr_rising s h _ _

/-! ### Reading a unit after it has been changed -/

@[simp] theorem State.modCh_self (c : ChanId) (f : Channel → Channel) : (s.modCh c f).chs[c] = f s.chs[c] := by
  simp [State.modCh]

theorem State.modCh_other (c d : ChanId) (f : Channel → Channel) (h : d ≠ c) : (s.modCh c f).chs[d] = s.chs[d] := by
  simp only [State.modCh, Fin.getElem_fin]
  exact Vector.getElem_set_ne _ _ (fun e => h (Fin.ext e.symm))

@[simp] theorem State.modPort_self (p : PortId) (f : Port → Port) : (s.modPort p f).ports[p] = f s.ports[p] := by
  simp [State.modPort]

theorem State.modPort_other (p q : PortId) (f : Port → Port) (h : q ≠ p) : (s.modPort p f).ports[q] = s.ports[q] := by
  simp only [State.modPort, Fin.getElem_fin]
  exact Vector.getElem_set_ne _ _ (fun e => h (Fin.ext e.symm))

/-- A context's entry after one entry has been changed, on a table in canonical form. -/
theorem State.ctx_modCtx (h : kRising s.ctxs = true) (c d : Nat) (f : Ctx → Ctx) :
    (s.modCtx c f).ctx d = if c = d then f (s.ctx c) else s.ctx d := by
  unfold State.modCtx State.ctx
  rw [kGet_kSet h]

/-- A tag entry after one entry has been changed, on a table in canonical form. -/
theorem State.tagK_setTag (h : kRising s.tags = true) (c x w k : Nat) (t : Tag) :
    (s.setTag c x w t).tagK k = if frameKey c x w = k then t else s.tagK k := by
  unfold State.setTag State.tagK
  rw [kGet_kSet h]

end Sys2Proof.Machine
end

