-- ==== Sys2Proof/Laws/Fields.lean ====
section
/-! SUPPORT. Fields of register words: what a field reads after a field of the same word, or of another one, has been
changed. -/

namespace Sys2Proof.Machine

theorem fieldMask_bit (lo n i : Nat) (h : lo + n ≤ 32) :
    (fieldMask lo n).getLsbD i = (decide (lo ≤ i) && decide (i < lo + n)) := by
  simp only [fieldMask, BitVec.getLsbD_shiftLeft, BitVec.getLsbD_ofNat, Nat.testBit_two_pow_sub_one]
  by_cases h1 : lo ≤ i <;> by_cases h2 : i < lo + n <;> simp [h1, h2] <;> omega

theorem putBits_bit (w : Word) (lo n v i : Nat) (h : lo + n ≤ 32) :
    (putBits w lo n v).getLsbD i = if lo ≤ i ∧ i < lo + n then v.testBit (i - lo) else w.getLsbD i := by
  simp only [putBits, BitVec.getLsbD_or, BitVec.getLsbD_and, BitVec.getLsbD_not, fieldMask_bit lo n i h,
    BitVec.getLsbD_shiftLeft, BitVec.getLsbD_ofNat]
  by_cases h1 : lo ≤ i <;> by_cases h2 : i < lo + n <;> simp [h1, h2]
  · have h3 : i < 32 := by omega
    have h4 : i - lo < 32 := by omega
    simp only [h3, h4, decide_true, Bool.true_and]
    simp [h1]
  all_goals (intro hb; exact BitVec.lt_of_getLsbD hb)

theorem getBits_bit (w : Word) (lo n i : Nat) : (getBits w lo n).testBit i = (decide (i < n) && w.getLsbD (lo + i)) := by
  simp [getBits, Nat.testBit_mod_two_pow, Nat.testBit_shiftRight, BitVec.getLsbD]

/-- A field reads what was put into it. -/
theorem getBits_putBits (w : Word) (lo n v : Nat) (h : lo + n ≤ 32) : getBits (putBits w lo n v) lo n = v % 2 ^ n := by
  apply Nat.eq_of_testBit_eq
  intro i
  rw [getBits_bit, putBits_bit _ _ _ _ _ h, Nat.testBit_mod_two_pow]
  by_cases hi : i < n
  · have h1 : lo ≤ lo + i ∧ lo + i < lo + n := by omega
    simp [hi]
  · simp [hi]

/-- A field that does not overlap the changed one reads as before. -/
theorem getBits_putBits_other (w : Word) (lo n v lo' n' : Nat) (h : lo + n ≤ 32) (hd : lo + n ≤ lo' ∨ lo' + n' ≤ lo) :
    getBits (putBits w lo n v) lo' n' = getBits w lo' n' := by
  apply Nat.eq_of_testBit_eq
  intro i
  rw [getBits_bit, getBits_bit, putBits_bit _ _ _ _ _ h]
  by_cases hi : i < n'
  · have h1 : ¬(lo ≤ lo' + i ∧ lo' + i < lo + n) := by omega
    simp [hi, h1]
  · simp [hi]

/-- A field of a register, after it has been changed by the hardware. -/
theorem State.fld_setFld (s : State) (hr : kRising s.regs = true) (f : Fld) (v i k : Nat) (h : f.lo + f.w ≤ 32) :
    (s.setFld f v i k).fld f i k = v % 2 ^ f.w := by
  unfold State.fld
  rw [State.rd_setFld s hr]
  simp [getBits_putBits _ _ _ _ h]

/-- A field of another register, after a field has been changed. -/
theorem State.fld_setFld_other (s : State) (hr : kRising s.regs = true) (f g : Fld) (v i k i' k' : Nat)
    (h : f.reg.at i k ≠ g.reg.at i' k') : (s.setFld f v i k).fld g i' k' = s.fld g i' k' := by
  unfold State.fld
  rw [State.rd_setFld s hr]
  simp [h]

/-- Another field of the same register, after a field has been changed. -/
theorem State.fld_setFld_beside (s : State) (hr : kRising s.regs = true) (f g : Fld) (v i k i' k' : Nat)
    (h : f.reg.at i k = g.reg.at i' k') (hw : f.lo + f.w ≤ 32) (hd : f.lo + f.w ≤ g.lo ∨ g.lo + g.w ≤ f.lo) :
    (s.setFld f v i k).fld g i' k' = s.fld g i' k' := by
  unfold State.fld
  rw [State.rd_setFld s hr]
  simp [h, getBits_putBits_other _ _ _ _ _ _ hw hd]

end Sys2Proof.Machine
end

