-- ==== Sys2Proof/Tests/Slice0.lean ====
section
/-! SUPPORT. Checks of the model on fixed values: the check codes' published values, an ill-formed command for each check of
`Instr.wf`, and for every statement with hypotheses a state and operands that meet them, clause by clause. -/

namespace Sys2Proof.Tests

open Sys2Proof Sys2Proof.Machine

set_option Elab.async false

/-! ### Values that the manual publishes -/

/-- "123456789". -/
def checkString : List (BitVec 8) := [0x31, 0x32, 0x33, 0x34, 0x35, 0x36, 0x37, 0x38, 0x39]

/-- R18: the check value of HCRC's code. -/
theorem test_header_crc : crc16 0xFFFF checkString = 0x29B1 := by decide +kernel

/-- R23: the check value of the line check code. -/
theorem test_line_crc : crc32c checkString = 0xE3069283 := by decide +kernel

/-! ### Ill-formed commands, one for each check -/

/-- A header or message whose OPCODE is 0x0B, and one whose OPCODE is 1. -/
def rawCas : BitVec 256 := 0x0B
def rawRd : BitVec 256 := 0x01

/-- An IDENT frame and a BEAD frame. -/
def frameIdent : List (BitVec 8) := [0, 6, 0, 0]
def frameBead : List (BitVec 8) := [0, 1, 0, 0]

/-- A read of the window of a size that no master has, and one whose data do not fit. -/
def badSize : Access := { chain := false, off := 0, size := 3, write := false, data := 0, parityBad := false }
def badData : Access := { chain := false, off := 0, size := 1, write := true, data := 0x100, parityBad := false }

def illFormed : List Instr :=
  [.rd 0 rawCas, .wr 0 rawCas, .wrm 0 rawCas, .zero 0 rawCas, .flush 0 rawCas, .drop 0 rawCas, .prefetch 0 rawCas,
   .barrier 0 rawCas, .fetchAdd 0 rawCas, .swap 0 rawCas, .cas 0 rawRd, .fillData rawRd [], .accept rawRd, .decline rawRd,
   .defer rawRd, .credit rawRd, .resyncAck rawRd, .mpResyncReceived rawRd, .bead frameIdent, .chainRead frameIdent,
   .chainWrite frameIdent, .evqPopFrame frameIdent, .chainSafe frameIdent, .ident frameBead, .bead [0, 1, 1, 0],
   .fillData 0x81 (List.replicate 65 (0, 0)), .completionCreditReturn 0 0, .commandIssue 0 0 0, .operationOverdue 131072,
   .wayRetireDrained 0 (2 ^ 24) 0, .mpDeferLong 1024, .calPassEnd 0 .read [{ lane := 256, rank := 0, value := 0, eye := 0, bad := false }],
   .calPassEnd 0 .read [{ lane := 0, rank := 4, value := 0, eye := 0, bad := false }], .recoverRelockDone 0 [131072],
   .regWrite badSize, .regAccessError badSize, .regWrite badData, .regAccessError badData]

theorem test_ill_formed_refused : (illFormed.all (fun c => !c.wf)) = true := by decide +kernel

def wellFormedOnes : List Instr :=
  [.rd 0 rawRd, .cas 7 rawCas, .rd 0 0, .accept 0x82, .ident frameIdent, .completionCreditReturn 0 1, .commandIssue 15 1 1,
   .operationOverdue 131071, .mpDeferLong 1023, .regWrite { badSize with size := 8 }]

theorem test_well_formed_taken : (wellFormedOnes.all (fun c => c.wf)) = true := by decide +kernel

/-! ### States for the statements -/

/-- A running block in a mode: clock up, nothing in it. -/
def running (m : Mode) : State :=
  { State.reset with mode := m, prev := .train, start := .running, pins := { coldRstN := true, refclk := true, safeN := true } }

/-- One without a start, in a mode: the state right after reset but for the mode. -/
def bare (m : Mode) : State := { State.reset with mode := m }

/-- A port as it stands OPEN with its advertisement taken. -/
def openPort : Port := { st := .opened, adv := some 65, hFab := 2048, dFab := 64, cAvail := 65 }

/-- A request header of context 5, one line at address 64, budget 100. -/
def hdr (op : BitVec 8) (tag : BitVec 16) : Header :=
  { opcode := op, flags := 0, context := 5, tag := tag, length := 1, cls := 0, budget := 100, address := 64, operand := 0 }

/-- A request as its port holds it. -/
def req (tag : BitVec 16) : Req :=
  { rid := 0, opcode := Op.rd, ctx := 5, tag := tag, len := 1, addr := 64, operand := 0, pmap := false, cls := .v, plain := false,
    deadline := 100, arrival := 0, rdRun := 1, rights := false, ended := true }

/-- TIERED with port 0 OPEN, context 5 enabled, and a channel map. -/
def serving : State :=
  let s := (running .tiered).modPort 0 (fun _ => openPort)
  (s.setFlag Fld.wpCtlEnable true 0)

/-! ### Witnesses: requests and ports -/

theorem test_step_takes_the_front :
    ∃ t, step { running .tiered with pending := [.evqFlush, .evqPop] } = .next t ∧ t.pending = [.evqPop] :=
  ⟨_, rfl, by decide +kernel⟩

theorem witness_idle : (running .tiered).pending = [] ∧ clockRuns (running .tiered) = true
    ∧ (running .tiered).timeBase.toNat % 1024 ≠ 1023 := by decide +kernel

/-- A request packet that is taken. -/
theorem witness_request_becomes_outstanding :
    let u := packetStart serving 0
    let h := Header.parse (hdr Op.rd 7).pack
    serving.mode ≠ .reset ∧ u.mode ≠ .safe ∧ u.modeNow ≠ .recover ∧ hcrcOk (hdr Op.rd 7).pack = true ∧ u.ports[0].hFab ≠ 0
      ∧ (∀ r ∈ u.ports[0].reqs, r.tag ≠ h.tag) ∧ h.malformed = false ∧ admissionCheck u h = none := by decide +kernel

/-- A malformed packet, one of context 0, and one whose tag is outstanding. -/
theorem witness_request_turned_away :
    let u := packetStart serving 0
    let bad := { hdr Op.rd 7 with length := 0 }
    let zero := { hdr Op.rd 7 with context := 0 }
    let busy := serving.modPort 0 (fun q => { q with reqs := [req 7] })
    hcrcOk bad.pack = true ∧ (Header.parse bad.pack).malformed = true
      ∧ hcrcOk zero.pack = true ∧ (Header.parse zero.pack).malformed = false
      ∧ admissionCheck u (Header.parse zero.pack) = some Status.denied
      ∧ u.ports[0].hFab ≠ 0 ∧ (∀ p : PortId, ∀ r ∈ u.ports[p].reqs, r.rid < u.nextId)
      ∧ (∃ r ∈ (packetStart busy 0).ports[0].reqs, r.tag = (Header.parse (hdr Op.rd 7).pack).tag)
      ∧ (packetStart busy 0).ports[0].hFab ≠ 0 ∧ kRising (packetStart busy 0).regs = true := by decide +kernel

theorem witness_port_resynchronises :
    serving.mode ≠ .reset ∧ serving.mode ≠ .safe ∧ serving.modeNow ≠ .recover := by decide +kernel

theorem witness_payload_line :
    let s := serving.modPort 0 (fun q => { q with rx := some { rid := some 0, opcode := Op.wr, tag := 7, ctx := 5, len := 1 }, dFab := 1 })
    s.mode ≠ .reset ∧ s.ports[0].rx.isSome = true ∧ s.ports[0].dFab ≠ 0 := by decide +kernel

/-- A return to an OPEN port, and advertisements of 65 and of 64 to a CLOSED one. -/
theorem witness_completion_credits :
    serving.mode ≠ .reset ∧ serving.ports[0].adv.isSome = true ∧ serving.ports[0].txq = []
      ∧ serving.ports[1].st = .closed ∧ 65 ≤ 65 ∧ 64 < 65 ∧ kRising serving.regs = true := by decide +kernel

/-! ### Witnesses: the ledger, arbiters, issue -/

/-- A ledger entry of a host read. -/
def entry (i : Nat) : LEntry :=
  { idx := i, kind := .rd, st := .run, pool := .host, ctx := 5, port := 0, deadline := 0, key := .host 1, rid := some 0 }

/-- TIERED with one request waiting at the head of port 0. -/
def waiting : State := serving.modPort 0 (fun q => { q with reqs := [req 7], hPort := 1 })

theorem witness_ingress_admits :
    nextHead waiting = some (0, req 7) ∧ waiting.mode = .tiered ∧ uncleanStop waiting (req 7) = false
      ∧ uncleanPrefetch waiting (req 7) = false ∧ (req 7).entries ≤ hostFree waiting ∧ kindOf (req 7).opcode = .rd := by
  decide +kernel

/-- A request longer than the free host entries: the entries of a request are its lines, and no length is beyond the pool,
so the pool is taken up by a borrowed count of the same size. -/
def longReq : Req := { req 7 with len := 122881 }

theorem witness_ingress_holds :
    let s := serving.modPort 0 (fun q => { q with reqs := [longReq] })
    nextHead s = some (0, longReq) ∧ uncleanStop s longReq = false ∧ uncleanPrefetch s longReq = false
      ∧ hostFree s < longReq.entries := by decide +kernel

theorem witness_ingress_idle : nextHead serving = none := by decide +kernel

/-- Overdue by exactly 2^22 ticks, and an entry selected in the inspection window. -/
theorem witness_ledger_entry_watched :
    let s : State := { serving with ledger := [entry 3], timeBase := 0x400000 }
    entry? s 3 = some (entry 3) ∧ (entry 3).overdue = false ∧ (s.timeBase - (entry 3).deadline).toNat = 2 ^ 22
      ∧ s.mode ≠ .reset ∧ kRising s.regs = true ∧ entry? s ((3 : Word).toNat % 2 ^ 17) = some (entry 3) := by decide +kernel

/-- An accepted offer whose data go to media, of page 1. -/
def offer (st : OfferSt) (dirty : Bool) : Offer :=
  { id := 9, why := .drain, dirty := dirty, ch := 0, set := 0, way := 0, page := 1, smap := 1, data := [(0, 0)], st := st, ctx := 5,
    deadline := 0 }

/-- TIERED with the media port UP and its credits at the block. -/
def mediaUp : State :=
  let s := (serving.setFlag Fld.mpCtlEnable true)
  { s with media := { st := .up, awaitCredit := false, reqBlock := 2047, reqEngine := 1, offBlock := 1023, offEngine := 1 } }

theorem witness_arbiters_decide :
    let s : State := { mediaUp with media := { mediaUp.media with offers := [offer .accepted true] } }
    dataFrozen ((mediaUp.modCh 0 (fun q => { q with st := .online })).setFlag Fld.chArbCtlFreezeData true 0) 0 = true
      ∧ s.media.xfer = none ∧ s.media.st = .up ∧ s.flag Fld.mpArbCtlFreeze = false
      ∧ mediaBest s = some (.offerData 9)
      ∧ (mediaUp.setFlag Fld.mpArbCtlFreeze true).flag Fld.mpArbCtlFreeze = true ∧ serving.media.st ≠ .up := by decide +kernel

theorem witness_freeze_bits : serving.mode ≠ .reset ∧ kRising serving.regs = true := by decide +kernel

/-- An ACT at the head of an issue queue. -/
def act : QCmd := { cmd := .act, loc := { sub := 0, rank := 0, bank := 0, row := 5, col := 0 } }

theorem witness_command_issues : issuable serving 0 0 [] [act] = some act := by decide +kernel

/-! ### Witnesses: contexts, time, registers -/

/-- The context window, with context 5 selected and with context 0, in eyelet mode with a capture, in beam mode. -/
theorem witness_context_window :
    let e : State := { serving.setFlag Fld.lastStatusWide true with ctxWin := { captured := [0, 0, 0, 0, 0, 0, 0, 0] } }
    serving.mode ≠ .reset ∧ serving.wf = true ∧ e.wf = true ∧ eyeletMode e = true ∧ e.ctxWin.captured ≠ []
      ∧ selCtx (serving.setFld Fld.ctxSelContext 5) ≠ 0 ∧ selCtx (serving.setFld Fld.ctxSelContext 0) = 0 := by decide +kernel

/-- Context 5 throttled, with as many tokens as the bucket holds. -/
def throttled : State := { serving with ctxs := [(5, { step := 1, tokens := serving.fld Fld.thrCtlDepth })] }

theorem witness_throttle_buckets :
    throttled.wf = true ∧ (5 : BitVec 12) ≠ 0 ∧ (throttled.ctx 5).step ≠ 0
      ∧ (throttled.ctx 5).tokens ≤ throttled.fld Fld.thrCtlDepth := by decide +kernel

theorem witness_time_clock_awl :
    let h := serving.setFlag Fld.refclkStatusHoldover true
    let one : State := { serving with awlStep := 1 }
    clockRuns serving = true ∧ serving.wf = true ∧ serving.flag Fld.refclkStatusHoldover = false
      ∧ h.wf = true ∧ h.flag Fld.refclkStatusHoldover = true
      ∧ Fld.awlKeyKey.of 0x5A3C = 0x5A3C ∧ Fld.awlKeyKey.of 0xC3A5 = 0xC3A5 ∧ one.awlStep = 1
      ∧ Fld.awlKeyKey.of 0x5A3D ≠ 0x5A3C ∧ Fld.awlKeyKey.of 0x5A3D ≠ 0xC3A5 := by decide +kernel

/-- A read in order, a write of TIER_CTL, and a read of an offset at which no register stands. -/
def readOf (off : Nat) : Access := { chain := false, off := off, size := 4, write := false, data := 0, parityBad := false }

theorem witness_register_accesses :
    accessReason serving Reg.tierCtl.at 4 false false = none ∧ (readOf Reg.tierCtl.at).size ∈ [1, 2, 4]
      ∧ Reg.tierCtl ∈ [Reg.tierCtl, Reg.fillGran, Reg.tierHashSeedLo, Reg.tierHashSeedHi, Reg.tierLfsrSeed, Reg.dirtyBudget, Reg.dirtyCtl]
      ∧ (accessReason serving 0xFFFFC 4 false false).isSome = true ∧ serving.wf = true := by decide +kernel

theorem witness_clears :
    serving.clears = [] ∧ serving.wf = true ∧ ({ serving with clears := [1] } : State).clears ≠ []
      ∧ isTakeMark 2 = false ∧ ({ serving with clears := [1, 2] } : State).clears = [1, 2] := by decide +kernel

/-- CFG_HOLD set and clear; a value that DIRTY_BUDGET's group takes and one that a register rejects; an idle channel. -/
theorem witness_buffered_values :
    let held := serving.setFlag Fld.cfgHoldHold true
    let p : State := { serving with pend := [(Reg.fltQuiet.at, 10)] }
    let bad : State := { serving with pend := [(Reg.fltQuiet.at, 9)] }
    held.wf = true ∧ held.holding = true ∧ serving.holding = false
      ∧ p.wf = true ∧ kFind p.pend Reg.fltQuiet.at = some 10 ∧ valueOk p Reg.fltQuiet.at 10 = true
      ∧ bad.wf = true ∧ valueOk bad Reg.fltQuiet.at 9 = false
      ∧ serving.chs[0].jobs = [] ∧ serving.chs[0].queue = [] ∧ unitMayApply serving = true := by decide +kernel

theorem witness_counters : kRising serving.regs = true ∧ Reg.wpCntReq.at 0 ≠ Reg.wpCntReq.at 1 := by decide +kernel

/-! ### Witnesses: beam, eyelet, events -/

theorem witness_beam_takes :
    let busy := serving.setFlag Fld.beamStatusBusy true
    let off : State := serving.modPort 0 (fun q => { q with hPort := 1 })
    serving.mode ≠ .reset ∧ serving.wf = true ∧ eyeletMode serving = false ∧ serving.flag Fld.beamStatusBusy = false
      ∧ serving.clears = [] ∧ booksOut serving = 0 ∧ booksOut off ≠ 0 ∧ off.wf = true
      ∧ busy.wf = true ∧ busy.flag Fld.beamStatusBusy = true ∧ busy.clears.any isTakeMark = false := by decide +kernel

/-- Eyelet mode: an item, a code that names none, a capture in progress, and one shown. -/
def eyelet : State := serving.setFlag Fld.lastStatusWide true

theorem witness_eyelet_captures :
    let busy := eyelet.setFlag Fld.eyeletStatusBusy true
    let shown := eyelet.setFlag Fld.eyeletStatusValid true
    eyelet.mode ≠ .reset ∧ eyelet.wf = true ∧ eyeletMode eyelet = true
      ∧ (eyeletOffs (Fld.eyeletSelItem.of 0)).isSome = true ∧ (eyeletOffs (Fld.eyeletSelItem.of 0x10)).isSome = true
      ∧ booksOut eyelet = 0 ∧ eyeletOffs (Fld.eyeletSelItem.of 0x02) = none
      ∧ busy.wf = true ∧ busy.flag Fld.eyeletStatusBusy = true
      ∧ shown.wf = true ∧ shown.flag Fld.eyeletStatusValid = true ∧ shown.flag Fld.eyeletStatusBad = false
      ∧ (eyeletOffs (shown.fld Fld.eyeletSelItem)).isSome = true := by decide +kernel

/-- An item of a priority and a number. -/
def item (prio n : Nat) : EvItem := { prio := prio, gap := false, code := 1, seq := n, tick := 0, source := 1, d0 := 0, d1 := 0 }

theorem witness_event_queue :
    let s : State := { serving with evq := { items := [item 3 0, item 1 1, item 1 2] } }
    let m : State := { serving with evq := { stage := [{ prio := 3, code := 1, tick := 0, source := 9, d0 := 0, d1 := 0 }] } }
    s.evq.first = some (item 1 1) ∧ (item 1 1).bad = 0 ∧ s.wf = true ∧ s.mode ≠ .reset ∧ serving.evq.items = []
      ∧ m.evq.general + m.evq.stage.length ≤ 1020 ∧ m.evq.stage ≠ []
      ∧ s.evq.general ≤ 1020 ∧ (∀ n < 5, s.evq.items.countP (fun i => i.gap && i.prio == n) ≤ 1) := by decide +kernel

/-! ### Witnesses: the tier -/

/-- TIERED with channel 0 trained and ONLINE: DDR5, one rank, eight sets, its supply in range. -/
def withChannel (m : Mode) (st : ChSt) : State :=
  let s := (running m).modCh 0 (fun q => { q with st := st, empty := false, trained := true, powered := true, rankUnits := 3 })
  let s := (s.setFld Fld.phyPopGen 2 0).setFld Fld.phyPopRanks 1 0
  let s := ((s.setFld Fld.tierGeomSets 8 0).setFld Fld.tierGeomRanks 1 0).setFld Fld.phyVddqMv 1100 0
  let s := ((s.setFlag Fld.phyStatusDimmPwr true 0).setFlag Fld.phyStatusDrvOn true 0).setFlag Fld.phyStatusLocked true 0
  s.setFld Fld.trimValidValid 1 0

def tiered0 : State := withChannel .tiered .online

theorem witness_tag_window :
    let far := tiered0.setFld Fld.tagSelSet 8
    let cap : State := { tiered0 with tagCap := some (0, 7, 15) }
    tiered0.mode ≠ .reset ∧ tiered0.wf = true ∧ (tagSelected tiered0).2.1 < tiered0.sets (tagSelected tiered0).1
      ∧ far.wf = true ∧ far.sets (tagSelected far).1 ≤ (tagSelected far).2.1 ∧ cap.wf = true ∧ cap.tagCap = some (0, 7, 15)
      ∧ (tiered0.tag 0 0 0).retired = false ∧ (tiered0.tag 0 0 0).retirePend = false
      ∧ tiered0.retiring.any (fun r => r.1 == 0 && r.2.1 == 0 && r.2.2.1 == 0) = false
      ∧ (tiered0.ch (tagSelected tiered0).1).st = .online ∧ waysUsed tiered0 < 8192 ∧ logOpen tiered0 = true := by decide +kernel

theorem witness_drained_way :
    let s : State := { tiered0 with retiring := [(0, 7, 15, 1)] }
    s.retiring.contains (0, 7, 15, 1) = true ∧ wayBusy s 0 7 15 = false
      ∧ tiered0.retiring.contains (0, 7, 15, 1) = false := by decide +kernel

theorem witness_lost_set : tiered0.mode ≠ .reset ∧ tiered0.wf = true ∧ Fld.tierLostSelRelease.of (Fld.tierLostSelRelease.into 1 0) = 1 := by
  decide +kernel

/-- The sweep at its last set. -/
theorem witness_sweep :
    let s := (tiered0.setFlag Fld.tierSweepActive true 0).setFld Fld.tierSweepFrontier 7 0
    s.wf = true ∧ s.mode = .tiered ∧ s.flag Fld.tierSweepActive 0 = true ∧ s.chs[(0 : ChanId)].st = .online
      ∧ s.fld Fld.tierSweepFrontier 0 < s.sets 0 := by decide +kernel

theorem witness_walkers :
    let d : State := { withChannel .drain .online with drain := [(0, 7)] }
    let f : State := tiered0.modCh 0 (fun q => { q with walker := some 7 })
    kFind d.drain 0 = some 7 ∧ d.mode = .drain ∧ kRising d.drain = true ∧ f.chs[(0 : ChanId)].walker = some 7
      ∧ kFind tiered0.drain 0 = none ∧ tiered0.chs[(0 : ChanId)].walker = none
      ∧ (tiered0.setFld Fld.dirtyBudgetMib 0).flag Fld.tierCtlCleaner = false
        ∨ budgetUnits (tiered0.setFld Fld.dirtyBudgetMib 0) = 0 := by decide +kernel

/-- The scrub at the last unit but one. -/
theorem witness_scrub :
    let s := (tiered0.setFld Fld.chScrubPeriod 1 0).setFld Fld.chScrubPosUnit 1 0
    s.wf = true ∧ scrubRuns s 0 = true ∧ s.chs[(0 : ChanId)].rankUnits ≤ 2 ^ 25 ∧ s.fld Fld.phyPopRanks 0 ≠ 0
      ∧ s.fld Fld.chScrubPosUnit 0 + 1 < s.chs[(0 : ChanId)].rankUnits
      ∧ poolCount s .moveRes + ((unitLines s 0 0 1).filter (fun x => (chain s x.1).isEmpty)).length ≤ 1024 := by decide +kernel

/-! ### Witnesses: the media port -/

/-- A message of an opcode, for slot 0 of generation 0. -/
def message (op lines : Nat) (flags : BitVec 8) (smap : BitVec 64) : MediaHdr :=
  { opcode := op, flags := flags, mtag := BitVec.ofNat 16 (offerTag 0 0), deadline := 0, status := 0, page := 1, lines := lines, dsect := 0,
    smap := smap, pmap := 0 }

/-- A fill of two sectors that has been sent. -/
def fill : Fill :=
  { id := 4, buf := 0, gen := 0, page := 1, ch := 0, set := 0, want := 3, demand := 1, ctx := 5, deadline := 0, sent := true }

def mediaHeard (f : Media → Media) : State := { mediaUp with media := f mediaUp.media }

theorem witness_media_answers :
    let s := mediaHeard (fun m => { m with fills := [fill], offers := [offer .sent false] })
    let d := mediaHeard (fun m => { m with offers := [offer .deferred true] })
    let m := MediaHdr.parse { message 0x81 2 1 3 with mtag := BitVec.ofNat 16 fill.tag }.pack
    s.mode ≠ .reset ∧ s.media.st ≠ .stopped ∧ s.flag Fld.mpCtlEnable = true
      ∧ hcrcOk { message 0x81 2 1 3 with mtag := BitVec.ofNat 16 fill.tag }.pack = true
      ∧ s.media.awaitAck = false ∧ s.media.awaitCredit = false
      ∧ m.opcode = 0x81 ∧ m.lines = popcount m.smap ∧ m.lines = 2 ∧ m.pmap &&& ~~~m.smap = 0 ∧ m.smap ≠ 0
      ∧ m.smap &&& ~~~(fill.want &&& ~~~fill.landed) = 0
      ∧ s.media.fills.find? (fun f => f.sent && !f.last && f.tag == m.mtag.toNat) = some fill
      ∧ m.flags.getLsbD 0 = true ∧ fill.landed ||| m.smap = fill.want ∧ s.media.holdup = .none
      ∧ (∀ op ∈ [0x82, 0x83, 0x84], hcrcOk (message op 0 0 0).pack = true
          ∧ (MediaHdr.parse (message op 0 0 0).pack).opcode = op ∧ (MediaHdr.parse (message op 0 0 0).pack).status = 0
          ∧ (MediaHdr.parse (message op 0 0 0).pack).lines = 0
          ∧ openOffer s (MediaHdr.parse (message op 0 0 0).pack).mtag.toNat = some (offer .sent false)
          ∧ openOffer d (MediaHdr.parse (message op 0 0 0).pack).mtag.toNat = some (offer .deferred true))
      ∧ (offer .sent false).dirty = false := by decide +kernel

theorem witness_media_port_comes_up :
    let a := mediaHeard (fun m => { m with awaitAck := true })
    let c := mediaHeard (fun m => { m with awaitCredit := true })
    let full := (message 0x85 0 0 (BitVec.ofNat 64 (2048 + 1024 * 65536))).pack
    a.wf = true ∧ a.flag Fld.mpCtlEnable = true ∧ a.media.awaitAck = true ∧ hcrcOk (message 0x8E 0 0 0).pack = true
      ∧ (MediaHdr.parse (message 0x8E 0 0 0).pack).opcode = 0x8E ∧ (MediaHdr.parse (message 0x8E 0 0 0).pack).lines = 0
      ∧ (MediaHdr.parse full).opcode ≠ 0x8E
      ∧ c.wf = true ∧ c.media.awaitAck = false ∧ c.media.awaitCredit = true ∧ hcrcOk full = true
      ∧ (MediaHdr.parse full).opcode = 0x85 ∧ (MediaHdr.parse full).lines = 0
      ∧ (MediaHdr.parse full).smap.toNat % 4096 = 2048 ∧ (MediaHdr.parse full).smap.toNat / 65536 % 4096 = 1024
      ∧ hcrcOk (message 0x0E 0 0 0).pack = true ∧ (MediaHdr.parse (message 0x0E 0 0 0).pack).opcode = 0x0E := by decide +kernel

theorem witness_media_port_events :
    let d := mediaHeard (fun m => { m with offers := [offer .deferred true] })
    d.wf = true ∧ d.fld Fld.mpDeferWarn ≠ 0
      ∧ d.media.offers.find? (fun o => o.st == .deferred && o.slot == 0) = some (offer .deferred true)
      ∧ (offer .deferred true).warned = false
      ∧ mediaUp.wf = true ∧ mediaUp.mode = .tiered ∧ mediaUp.media.xfer = none ∧ mediaUp.holding = false
      ∧ mediaUp.holdRelease = false ∧ mediaUp.media.st ≠ .stopped ∧ mediaUp.flag Fld.mpCtlEnable = true
      ∧ (mediaUp.setFlag Fld.mpCtlEnable false).wf = true ∧ (mediaUp.setFlag Fld.mpCtlEnable false).flag Fld.mpCtlEnable = false
      ∧ mediaUp.flt.finishing = false ∧ mediaUp.warmFlush = false ∧ (running .safe).mode = .safe := by decide +kernel

/-! ### Witnesses: channels -/

/-- A channel of `s` changed. -/
def onCh (f : Channel → Channel) : State := tiered0.modCh 0 f

/-- A host read of one line whose access has been issued, and a host write likewise. -/
def hostJob (write : Bool) : State :=
  let l : Loc := { sub := 0, rank := 0, bank := 0, row := 5, col := 0 }
  let j : Job := { id := 8, why := .host 3, write := write, ctx := 5, deadline := 0, lines := [{ loc := l, key := 64, step := 2 }] }
  { onCh (fun q => { q with jobs := [j] }) with ledger := [{ entry 3 with phase := .dram 8 }] }

theorem witness_host_access_ends :
    (∀ w : Bool, (hostJob w).wf = true ∧ (job? (hostJob w) 0 8).map (fun j => (j.why, j.write, j.lines.map (fun l => (l.step, l.fin))))
        = some (.host 3, w, [(2, false)]) ∧ (entry? (hostJob w) 3).map (fun e => e.phase) = some (.dram 8))
      ∧ (hostJob false).mode ≠ .safe ∧ (hostJob false).modeNow ≠ .recover := by decide +kernel

theorem witness_refresh_pages_temperature :
    let due := onCh (fun q => { q with debt := [(0, 1)] })
    let opened := onCh (fun q => { q with book := [(0, 6)] })
    let l : Loc := { sub := 0, rank := 0, bank := 0, row := 0, col := 0 }
    let polls := tiered0.setFld Fld.chTempPoll 1 0
    refreshes tiered0 0 = true ∧ tiered0.wf = true ∧ due.wf = true ∧ refreshes due 0 = true ∧ sameBank due 0 = false
      ∧ 0 ∈ debtKeys due 0 ∧ unitWanted due 0 0 = false ∧ debtOf due 0 0 ≠ 0
      ∧ kGet 0 opened.chs[(0 : ChanId)].book (bankKey l) = 6 ∧ opened.chs[(0 : ChanId)].jobs = [] ∧ cmdFrozen opened 0 = false
      ∧ (candsOf opened 0 0).any (eligibleCmd opened 0) = false ∧ (grantPre opened 0 l).isSome = true ∧ opened.wf = true
      ∧ polls.wf = true ∧ polls.mode ≠ .reset ∧ polls.fld Fld.chTempPoll 0 ≠ 0
      ∧ (tiered0.setFld Fld.chTempPoll 0 0).fld Fld.chTempPoll 0 = 0 := by decide +kernel

/-! ### Witnesses: images and the Last -/

/-- A copy of the Last with one record, whose copy check, type, argument, length, content and blob check are these. -/
def copyBytes (len : BitVec 8) (check record : List (BitVec 8)) : List (BitVec 8) :=
  [0x56, 0x4C, 0x53, 0x54, 1, 0, 0, 0, len, 0, 0, 0, 1, 0, 0, 0, 1, 0, 0, 0, 0, 0, 0, 0, 0, 0, 0, 0] ++ check ++ record

/-- Copies with an empty timing blob of set point 1 of DDR5, and with a PSEQ image and a TSEQ image of version 5 for
interface revision 0 that run on every part and media engine. -/
def timedCopy : List (BitVec 8) := copyBytes 44 [16, 41, 67, 115] [0x13, 0, 9, 0, 4, 0, 0, 0, 0, 0, 0, 0]
def pseqCopy : List (BitVec 8) :=
  copyBytes 52 [48, 141, 105, 33] [0x11, 0, 0, 0, 12, 0, 0, 0, 5, 0, 0, 0, 0, 255, 0, 255, 57, 53, 113, 216]
def tseqCopy : List (BitVec 8) :=
  copyBytes 52 [141, 122, 42, 22] [0x10, 0, 0, 0, 12, 0, 0, 0, 5, 0, 0, 0, 0, 255, 0, 255, 57, 53, 113, 216]

/-- A state with these bytes at the flash's start, and copy A chosen. -/
def flashed (s : State) (l : List (BitVec 8)) : State :=
  let s : State := { s with flash := { s.flash with bytes := (List.range l.length).filterMap (fun i =>
    if l.getD i 0xFF = 0xFF then none else some (i, l.getD i 0xFF)) } }
  (s.setFlag Fld.lfInfoFound true).setFld Fld.blkStatusLast 1

def timed : State := (flashed tiered0 timedCopy).setFld (Fld.chFspRateRate 1) 48 0
def withPseq : State := flashed tiered0 pseqCopy
def withTseq : State := flashed tiered0 tseqCopy

/-- An image whose range of parts is whole runs on every part. -/
theorem imageOf_fits (s : State) (l : List LastRec) (typ : Nat) (want : Option Nat) (r : LastRec) (v rev : Nat) (mp : Nat × Nat)
    (hf : lastFind s l typ 0 = some r) (hh : imageHead s r = (v, rev, (0, 255), mp)) (hw : want.any (fun x => x != rev) = false)
    (hm : ¬(s.fld Fld.mpIfrevIfrev < mp.1 ∨ mp.2 < s.fld Fld.mpIfrevIfrev)) : imageOf s l typ want = .inl (v, rev) := by
  have hlt : ¬ (255 < Config.hwRev.toNat) := by have := Config.hwRev.isLt; omega
  simp [imageOf, hf, hh, hw, hm, hlt]

theorem pseq_fits : imageOf withPseq (imgRecords withPseq 0) 0x11 (some 0) = .inl (5, 0) :=
  imageOf_fits withPseq _ 0x11 (some 0) { typ := 0x11, arg := 0, at_ := 40, len := 12 } 5 0 (0, 255)
    (by decide +kernel) (by decide +kernel) (by decide +kernel) (by decide +kernel)

theorem tseq_fits : imageOf withTseq (imgRecords withTseq 0) 0x10 (some 0) = .inl (5, 0) :=
  imageOf_fits withTseq _ 0x10 (some 0) { typ := 0x10, arg := 0, at_ := 40, len := 12 } 5 0 (0, 255)
    (by decide +kernel) (by decide +kernel) (by decide +kernel) (by decide +kernel)

theorem witness_images_load :
    withPseq.wf = true ∧ withPseq.mode ≠ .reset ∧ tseqRev withPseq = some 0 ∧ withTseq.wf = true ∧ withTseq.mode ≠ .reset
      ∧ withTseq.fld Fld.imgPseqVerIfrev = 0
      ∧ tseqRev tiered0 = some 0 ∧ imageOf tiered0 (imgRecords tiered0 0) 0x11 (some 0) = .inr 1
      ∧ imageOf tiered0 (imgRecords tiered0 0) 0x10 (some (tiered0.fld Fld.imgPseqVerIfrev)) = .inr 1
      ∧ tseqRev (tiered0.setFld Fld.imgTseqVerIfrev 1 3) = none := by decide +kernel

theorem witness_frequency_change :
    let go := (timed.setFld Fld.phyPopMaxrate 88 0)
    let at_ (f : FreqSt) (sr : SrSt) := onCh (fun q => { q with freq := f, sr := sr })
    let j : Job := { id := 8, why := .host 3, write := false, ctx := 5, deadline := 0, lines := [] }
    let busy := onCh (fun q => { q with freq := .minWait, sr := .inside, jobs := [j] })
    tiered0.wf = true ∧ freqRefusal (tiered0.setFld Fld.chFreqTarget (1 : BitVec 2).toNat 0) 0 (1 : BitVec 2).toNat = some 1
      ∧ go.wf = true ∧ freqRefusal (go.setFld Fld.chFreqTarget (1 : BitVec 2).toNat 0) 0 (1 : BitVec 2).toNat = none
      ∧ go.chs[(0 : ChanId)].freq = .none ∧ go.chs[(0 : ChanId)].trn = .idle
      ∧ (at_ .waitIdle .active).wf = true ∧ (at_ .waitIdle .active).chs[(0 : ChanId)].jobs = []
      ∧ (at_ .minWait .inside).chs[(0 : ChanId)].jobs.any (fun j => !j.background) = false
      ∧ busy.chs[(0 : ChanId)].jobs.any (fun j => !j.background) = true
      ∧ trainRelock (at_ .relocking .inside) 0 = false ∧ (at_ .centring .active).chs[(0 : ChanId)].freqNext = none := by
  decide +kernel

theorem witness_supply_and_channel_faults :
    let again := onCh (fun q => { q with vddqBad := 1 })
    let prep := onCh (fun q => { q with trn := .prep })
    let parity := onCh (fun q => { q with alerts := 1 })
    let low := prep.setFld Fld.phyVddqMv 900 0
    let retrain := onCh (fun q => { q with trn := .prep, st := .retrain })
    let dark := retrain.setFlag Fld.phyStatusDimmPwr false 0
    let dimm := tiered0.setFld Fld.sbStatusPresent 1 0
    tiered0.wf = true ∧ tiered0.mode = .tiered ∧ tiered0.flt.finishing = false ∧ tiered0.chs[(0 : ChanId)].st = .online
      ∧ vddqIn (tiered0.fld Fld.phyPopGen 0) 1100 = true ∧ vddqIn (tiered0.fld Fld.phyPopGen 0) 900 = false
      ∧ again.wf = true ∧ 1 ≤ again.chs[(0 : ChanId)].vddqBad ∧ again.chs[(0 : ChanId)].phyCause.getLsbD 0 = false
      ∧ phyTrained again 0 = true
      ∧ low.wf = true ∧ low.chs[(0 : ChanId)].trn = .prep ∧ low.fld Fld.phyPopGen 0 ≠ 0 ∧ vddqOk low 0 = false
      ∧ (retrain.setFld Fld.phyVddqMv 900 0).wf = true ∧ vddqOk (retrain.setFld Fld.phyVddqMv 900 0) 0 = false
      ∧ dark.wf = true ∧ dark.chs[(0 : ChanId)].trn = .prep ∧ dark.chs[(0 : ChanId)].st = .retrain
      ∧ vddqOk dark 0 = true ∧ dark.fld Fld.phyPopGen 0 ≠ 0 ∧ dark.flag Fld.phyStatusDimmPwr 0 = false
      ∧ dimm.wf = true ∧ present dimm 0 0 = true ∧ dimm.flag Fld.phyStatusDrvOn 0 = true ∧ dimm.flag Fld.phyStatusDimmPwr 0 = true
      ∧ dimm.chs[(0 : ChanId)].alerts = 0 ∧ 1 ≤ parity.chs[(0 : ChanId)].alerts
      ∧ tiered0.flag Fld.phyStatusLocked 0 = true
      ∧ phyTrained (tiered0.setFld Fld.trimValidValid 0 0) 0 = false := by decide +kernel

theorem witness_tap_size_and_impedance :
    let q := { tiered0.setFld Fld.phyZqCtlPeriod 1 0 with zqQ := [0] }
    let z := (tiered0.setFld Fld.phyZqCtlPeriod 1 0)
    tiered0.fld Fld.phyTapSize 0 = 0 ∧ 512 ≤ (52 : BitVec 16).toNat * 10 ∧ (52 : BitVec 16).toNat ≤ 192 ∧ vddqOk tiered0 0 = true
      ∧ tiered0.flag Fld.phyStatusLocked 0 = true ∧ ¬(512 ≤ (51 : BitVec 16).toNat * 10)
      ∧ z.wf = true ∧ z.fld Fld.phyZqCtlPeriod 0 ≠ 0 ∧ 0 ∉ z.zqQ
      ∧ q.wf = true ∧ q.zqQ.head? = some 0 ∧ phyTrained (tiered0.setFld Fld.trimValidValid 0 0) 0 = false
      ∧ tiered0.zqQ.head? ≠ some 0 := by decide +kernel

/-- A firmware read of a module's SPD in progress. -/
def sbRead : SbTxn := { who := .firmware, ch := 0, slot := 0, dev := 0, write := false, len := 4, offset := 0 }

theorem witness_sideband_transfers :
    let on (tries : Nat) : State := { tiered0 with quads := tiered0.quads.set 0 { cur := some sbRead, tries := tries } }
    let rd := Fld.sbXferGo.into 1 0
    let wr := Fld.sbXferWrite.into 1 rd
    sbBusy (on 0) 0 = true ∧ sbBusy tiered0 0 = false ∧ Fld.sbXferGo.of rd = 1 ∧ Fld.sbXferWrite.of rd = 0 ∧ Fld.sbXferDev.of rd = 0
      ∧ Fld.sbXferGo.of wr = 1 ∧ Fld.sbXferWrite.of wr = 1 ∧ Fld.sbXferDev.of wr ≠ 1
      ∧ (on 0).wf = true ∧ (on 0).quads[(0 : QuadId)].cur = some sbRead ∧ (on 1).quads[(0 : QuadId)].tries < 2
      ∧ 2 ≤ (on 2).quads[(0 : QuadId)].tries := by decide +kernel

theorem witness_training_proceeds :
    let at_ (p : Nat) : State := (withChannel .train .fenced).modCh 0 (fun q => { q with trn := .running p 0 })
    let own := (at_ 4).setFld Fld.trnStatusSource 3 0
    (at_ 4).wf = true ∧ (at_ 4).chs[(0 : ChanId)].trnTarget = none ∧ kFind (at_ 4).tseqStaged 0 = none
      ∧ nextPhase (at_ 4) 0 4 ≤ 11 ∧ 11 < nextPhase (at_ 11) 0 11
      ∧ own.wf = true ∧ own.fld Fld.trnStatusSource 0 = 3
      ∧ (own.setFld Fld.trnCtlRetries 1 0).fld Fld.trnCtlRetries 0 ≤ own.chs[(0 : ChanId)].trnRetries + 1 := by decide +kernel

/-- A pass of kind 2, with one good result, with an eye too small, and with pending corrections. -/
def good : CalRes := { lane := 3, rank := 0, value := 0, eye := 511, bad := false }

theorem witness_calibration_passes :
    let free := tiered0.setFld Fld.calPeriodRead 1 0
    let p : CalPass := { kind := 2, check := 0 }
    let s := onCh (fun q => { q with passes := [p] })
    let tight := onCh (fun q => { q with passes := [{ p with check := Fld.calCheckPlaus.into 4 0 }] })
    calCode .read = 2 ∧ free.wf = true ∧ calRuns free 0 = true ∧ free.chs[(0 : ChanId)].freq = .none ∧ kindRuns free 0 2 = true
      ∧ calPeriodOn free 0 2 = true ∧ free.chs[(0 : ChanId)].passes = []
      ∧ s.wf = true ∧ calRuns s 0 = true ∧ s.chs[(0 : ChanId)].passes.find? (fun p => p.kind == 2) = some p
      ∧ vddqOk s 0 = true ∧ s.chs[(0 : ChanId)].sr = .active ∧ s.tseqStaged = [] ∧ calCheckRes s 0 p good = 0
      ∧ calCheckRes tight 0 { p with check := Fld.calCheckPlaus.into 4 0 } { good with value := 5 } ≠ 0
      ∧ calCheckRes tight 0 { p with check := Fld.calCheckPlaus.into 4 0 } { good with value := 4 } = 0
      ∧ s.fld Fld.calStatusConsec 0 < 2 := by decide +kernel

theorem witness_corrections_move :
    let s := onCh (fun q => { q with corr := [{ kind := 2, lane := 3, rank := 0, delta := -4, since := 0 }] })
    s.wf = true ∧ calRuns s 0 = true ∧ s.chs[(0 : ChanId)].corr.any (fun x => decide (4 ≤ x.delta.natAbs)) = true
      ∧ (∀ x ∈ s.chs[(0 : ChanId)].corr, x.delta.natAbs ≤ 1023) ∧ kFind s.pend (Reg.phyZq.at 0) = none := by decide +kernel

/-! ### Witnesses: the machine as a whole -/

/-- Pages 0 and 127 of eight sets of channel 0, to which every map entry points. -/
theorem witness_plain_frames :
    0 < 64 * tiered0.plainQ ∧ 127 < 64 * tiered0.plainQ ∧ ¬ 128 < 64 * tiered0.plainQ := by decide +kernel

theorem witness_step_next :
    let s : State := { serving with pending := [.evqFlush] }
    s.wf = true ∧ (∀ p : PortId, ∀ r ∈ s.ports[p].reqs, r.rid < s.nextId)
      ∧ (match step s with | .next t => t.wf | _ => false) = true := by decide +kernel

/-- PLAIN and TIERED stay as they are, and a TEST entered from each mode that can enter it. -/
theorem witness_plain_and_tier :
    let s : State := { tiered0 with pending := [.evqFlush] }
    let test (m : Mode) : State := { running .test with testFrom := m }
    s.wf = true ∧ (match step s with | .next t => s.tier? == some true && t.tier? == some true | _ => false) = true
      ∧ modeEdge (test .plain) .plain = true
      ∧ modeEdge { test .tiered with media := mediaUp.media } .tiered = true
      ∧ modeEdge { test .bypass with media := mediaUp.media } .bypass = true
      ∧ modeEdge (test .reset) .plain = true := by decide +kernel

theorem witness_what_follows :
    serving.warmFlush = false ∧ (running .safe).mode = .safe ∧ (running .safe).warmFlush = false ∧ State.reset.mode = .reset
      ∧ State.reset.start = .off ∧ State.reset.flt.raised = [] := by decide +kernel

/-! ### Witnesses: resets, power, start -/

/-- A quiesce in HOLDUP that has ended, with lines of a channel in self-refresh and of one that is not. -/
theorem witness_warm_reset :
    let q := { (withChannel .holdup .online).modCh 0 (fun q => { q with sr := .inside }) with
      warmFlush := true, media := { holdup := .done }, dram := [(64, 7), (2 ^ 34, 7)] }
    State.reset.mode = .reset ∧ (running .safe).warmFlush = false ∧ (running .safe).modeNow = .safe
      ∧ tiered0.warmFlush = false ∧ tiered0.flt.finishing = false ∧ (running .load).flt.finishing = false
      ∧ q.wf = true ∧ quiesced q = true ∧ keepsDram q 0 = true ∧ keepsDram q 1 = false
      ∧ State.reset.start = .off ∧ (running .reset).pins.coldRstN = true := by decide +kernel

/-- A start at each of its steps. -/
def starting (m : Mode) (st : StartStep) : State := { running m with start := st }

theorem witness_start_proceeds :
    State.reset.pins.coldRstN = false ∧ (starting .reset .refclk).wf = true ∧ (starting .reset .otp).wf = true
      ∧ (starting .load .load).wf = true ∧ (chooseLast (readHeaders (starting .load .load))).1 = 0
      ∧ (starting .train .waitMp).start = .waitMp ∧ (running .tiered).pins.coldRstN = true ∧ (starting .reset .refclk).warm = false
      ∧ (running .tiered).start ≠ .refclk ∧ (running .tiered).start ≠ .otp ∧ (running .tiered).start ≠ .load
      ∧ (running .tiered).start ≠ .waitMp := by decide +kernel

/-- Group 3, channel 0's, asked for and granted, asked for only, and neither. -/
theorem witness_power_grants :
    let asked : State := { tiered0 with pins := { tiered0.pins with pwrReq := 8 } }
    let granted : State := { tiered0 with pins := { tiered0.pins with pwrReq := 8, pwrAck := 8 } }
    asked.wf = true ∧ asked.pins.pwrReq.getLsbD 3 = true ∧ asked.pins.pwrAck.getLsbD 3 = false ∧ asked.pins.holdupDone = false
      ∧ asked.start ≠ .power ∧ asked.start ≠ .last ∧ granted.wf = true ∧ granted.pins.pwrAck.getLsbD 3 = true
      ∧ waitsGrants granted = false ∧ tiered0.pins.pwrReq.getLsbD 3 = false
      ∧ (tiered0.setFld Fld.phyPopGen 1 0).fld Fld.phyPopGen 0 = 1 := by decide +kernel

/-! ### Witnesses: the chain -/

/-- A frame with its check code. -/
def frame (b : List (BitVec 8)) : List (BitVec 8) := b ++ [crc8 0 b]

/-- TIERED with chain address 5, shown by a BEAD. -/
def chained : State := (tiered0.setFlag Fld.chainStatusValid true).setFld Fld.chainStatusAddr 5

def isFor (cmd : Nat) (f : List (BitVec 8)) : Bool :=
  frameOk f && frameWellFormed f && frameByte f 1 == cmd && !frameBcast f && addressed chained f && !frameResp f

theorem witness_chain_frames :
    let read := frame ([5, 2, 8, 0, 0, 0] ++ List.replicate 5 0)
    let write := frame ([5, 3, 8, 0, 0, 0] ++ List.replicate 5 0)
    let pop := frame ([5, 4, 17] ++ List.replicate 17 0)
    let wren := chained.setFlag Fld.chainCtlWrEn true
    let held : State := { chained with evq := { items := [item 3 0] } }
    chained.pins.coldRstN = true ∧ chained.wf = true ∧ frameOk [0, 1, 1, 0] = false
      ∧ (frameOk (frame [0x80, 1, 1, 0]) && frameWellFormed (frame [0x80, 1, 1, 0])) = true
      ∧ frameByte (frame [0x80, 1, 1, 0]) 1 = 1 ∧ frameByte (frame [0x80, 1, 1, 63]) 3 < 64 ∧ 64 ≤ frameByte (frame [0x80, 1, 1, 64]) 3
      ∧ (frameOk (frame [0x80, 5, 1, 0]) && frameWellFormed (frame [0x80, 5, 1, 0]) && frameBcast (frame [0x80, 5, 1, 0])) = true
      ∧ addressed tiered0 (frame [5, 5, 1, 0]) = false ∧ frameWellFormed (frame [5, 5, 1, 0]) = true
      ∧ isFor 2 read = true ∧ isFor 3 write = true ∧ isFor 4 pop = true ∧ isFor 5 (frame [5, 5, 1, 0]) = true
      ∧ isFor 6 (frame [5, 6, 6, 0, 0, 0, 0, 0, 0]) = true ∧ frameResp (frame [0x45, 5, 1, 0]) = true
      ∧ accessReason (chained.count Reg.chainCntFrame) 0 4 false false = none ∧ inMirror 0 = false
      ∧ (chained.setFlag Fld.chainCtlWrEn false).flag Fld.chainCtlWrEn = false ∧ wren.wf = true ∧ wren.flag Fld.chainCtlWrEn = true
      ∧ accessReason (wren.count Reg.chainCntFrame) 0 4 true false = none
      ∧ held.evq.first = some (item 3 0) ∧ (item 3 0).bad = 0 ∧ chained.evq.first = none
      ∧ (running .enumerate).wf = true ∧ (running .enumerate).mode = .enumerate := by decide +kernel

/-! ### Witnesses: modes -/

theorem witness_mode_requests :
    let ask (m : Mode) (n : Nat) : State := ((running m).setFlag Fld.blkModeReqPending true).setFld Fld.blkModeReqTarget n
    (running .tiered).wf = true ∧ (running .tiered).mode ≠ .reset ∧ State.reset.mode = .reset
      ∧ (ask .tiered 5).wf = true ∧ (ask .tiered 5).flag Fld.blkModeReqPending = true
      ∧ Mode.ofCode ((ask .tiered 5).fld Fld.blkModeReqTarget) = some (ask .tiered 5).modeNow
      ∧ Mode.ofCode ((ask .tiered 6).fld Fld.blkModeReqTarget) = some .drain ∧ modeEdge (ask .tiered 6) .drain = true
      ∧ startFresh { ask .tiered 6 with epoch := 2 } = false
      ∧ Mode.ofCode ((ask .plain 5).fld Fld.blkModeReqTarget) = some .tiered ∧ modeEdge (ask .plain 5) .tiered = false
      ∧ startFresh (ask .tiered 6) = true := by decide +kernel

/-! ### Witnesses: service -/

theorem witness_channel_commands :
    let at_ (st : ChSt) (f : Channel → Channel) : State := (withChannel .tiered st).modCh 0 f
    let dimm (st : ChSt) : State := (withChannel .tiered st).setFld Fld.sbStatusPresent 1 0
    tiered0.wf = true ∧ tiered0.modeNow.noChCmd = false ∧ chBusy tiered0 0 = false ∧ chAllowed tiered0 0 .retire = false
      ∧ (running .train).modeNow.noChCmd = true ∧ chBusy (at_ .retrain id) 0 = true
      ∧ tiered0.chs[(0 : ChanId)].st = .online ∧ tiered0.chs[(0 : ChanId)].freq = .none ∧ tiered0.retiring = []
      ∧ (at_ .online (fun q => { q with freq := .entering })).chs[(0 : ChanId)].freq ≠ .none
      ∧ chAllowed (at_ .fenced id) 0 (.service false) = true ∧ chAllowed (at_ .fenced id) 0 (.service true) = true
      ∧ chAllowed (at_ .retired id) 0 (.service true) = true ∧ chAllowed (dimm .fenced) 0 .retrain = true
      ∧ chBusy (at_ .fenced id) 0 = false ∧ chBusy (dimm .service) 0 = false ∧ chAllowed (dimm .service) 0 .retrain = true
      ∧ chAllowed (at_ .fenced id) 0 .ret = true ∧ chAllowed (at_ .returning id) 0 .ret = true
      ∧ chAllowed (at_ .fenced id) 0 .retire = true ∧ (at_ .fenced (fun q => { q with unclean := true })).chs[(0 : ChanId)].unclean = true
      ∧ chBusy (at_ .fenced (fun q => { q with unclean := true })) 0 = false := by decide +kernel

theorem witness_channel_timers :
    let slow := (tiered0.setFld Fld.svcPolicyFenceWarn 1).modCh 0 (fun q => { q with st := .fencing })
    let taps := (tiered0.setFlag Fld.svcPolicyRetrainEndtap true).setFld Fld.phyEndtapReleased 1 0
    slow.wf = true ∧ slow.chs[(0 : ChanId)].st = .fencing ∧ slow.chs[(0 : ChanId)].fenceWarned = false
      ∧ slow.fld Fld.svcPolicyFenceWarn ≠ 0 ∧ tiered0.chs[(0 : ChanId)].st ≠ .fencing ∧ tiered0.mode ≠ .reset
      ∧ taps.wf = true ∧ taps.modeNow.noChCmd = false ∧ taps.chs[(0 : ChanId)].st = .online
      ∧ taps.flag Fld.svcPolicyRetrainEndtap = true ∧ taps.fld Fld.phyEndtapReleased 0 ≠ 0 ∧ taps.chs[(0 : ChanId)].freq = .none
      ∧ taps.retiring = [] ∧ (tiered0.setFlag Fld.svcPolicyRetrainEndtap false).flag Fld.svcPolicyRetrainEndtap = false := by
  decide +kernel

theorem witness_marks_and_repairs :
    let fenced := withChannel .tiered .fenced
    let service := withChannel .tiered .service
    let room := service.modCh 0 (fun q => { q with pprFree := [(0, 1)] })
    tiered0.wf = true ∧ tiered0.mode ≠ .reset ∧ svcOpen tiered0 0 = true ∧ mayMark tiered0 0 (Fld.chSvcRank.of 0) = true
      ∧ mayMark tiered0 0 (Fld.chSvcRank.of (Fld.chSvcRank.into 1 0)) = false
      ∧ fenced.wf = true ∧ svcOpen fenced 0 = true ∧ fenced.chs[(0 : ChanId)].st = .fenced
      ∧ fenced.fld (Fld.chMarkValid 0) 0 = 0 ∧ (fenced.setFld (Fld.chMarkValid 0) 1 0).fld (Fld.chMarkValid 0) 0 = 1
      ∧ softAble tiered0 = true ∧ pprState tiered0 0 = true ∧ pprState fenced 0 = false
      ∧ room.wf = true ∧ svcOpen room 0 = true ∧ room.chs[(0 : ChanId)].powered = true
      ∧ kGet 0 room.chs[(0 : ChanId)].pprFree (pprGroup room 0 (svcRow room 0)) ≠ 0
      ∧ kGet 0 service.chs[(0 : ChanId)].pprFree (pprGroup service 0 (svcRow service 0)) = 0
      ∧ svcOpen (running .train) 0 = false := by decide +kernel

/-- A slot of the lock record that locks record 3. -/
def lockSlot : KMap (BitVec 8) := [(0xDA0, 0xA5), (0xDA1, 0x08), (0xDA6, 0x14), (0xDA7, 0xAE)]

theorem witness_otp_burns :
    let burning : State := { tiered0 with flash := { tiered0.flash with burn := some (3, 0, [0xA5]) } }
    let locked : State := { tiered0 with flash := { tiered0.flash with otp := lockSlot } }
    let full : State := { tiered0 with flash := { tiered0.flash with otpSpoiled := [(3, 3)] } }
    tiered0.wf = true ∧ tiered0.mode ≠ .reset ∧ tiered0.modeNow.noChCmd = false ∧ tiered0.flash.burn = none
      ∧ otpFree tiered0 3 ≠ 0 ∧ otpLocked tiered0 3 = false ∧ otpFree full 3 = 0 ∧ full.wf = true
      ∧ locked.wf = true ∧ otpLocked locked 3 = true ∧ (running .train).modeNow.noChCmd = true
      ∧ Fld.otpCtlRecord.of (Fld.otpCtlRecord.into 7 0) = 7 ∧ Fld.otpCtlRecord.of 0 = 0 ∧ otpFree tiered0 0 ≠ 0
      ∧ otpLocked tiered0 0 = false ∧ burning.wf = true ∧ burning.flash.burn = some (3, 0, [0xA5]) := by decide +kernel

/-! ### Witnesses: faults -/

theorem witness_collector_takes_errors :
    let stuck : State := { tiered0 with flt := { tiered0.flt with err := 1 } }
    tiered0.wf = true ∧ tiered0.inError 0 = false ∧ tiered0.mode ≠ .reset ∧ stuck.wf = true ∧ stuck.inError 0 = true
      ∧ faultClass 0 = .contained ∧ faultClass 10 = .corrected ∧ faultClass 63 = .fatal ∧ tiered0.modeNow ≠ .reset
      ∧ tiered0.modeNow ≠ .safe ∧ tiered0.modeNow ≠ .recover ∧ (running .safe).wf = true ∧ (running .safe).modeNow = .safe
      ∧ (running .safe).inError 10 = false := by decide +kernel

theorem witness_fault_pairs_and_forces :
    let stuck : State := { tiered0 with flt := { tiered0.flt with err := 1 } }
    tiered0.wf = true ∧ tiered0.mode ≠ .reset ∧ faultClass 10 = .corrected
      ∧ ({ tiered0 with flt := { tiered0.flt with err := 1024 } } : State).inError 10 = true
      ∧ State.reset.mode = .reset ∧ pairsHeld State.reset = true ∧ State.reset.wf = true
      ∧ tiered0.flt.broken.getLsbD 0 = false ∧ stuck.wf = true
      ∧ causeHolds { stuck with flt := { stuck.flt with broken := stuck.flt.broken &&& ~~~(1#96 <<< 0) } } 0 = false
      ∧ forceActs stuck 0 = false ∧ tiered0.inError 42 = false ∧ tiered0.chs[(0 : ChanId)].st = .online
      ∧ forced tiered0 0 = false ∧ (1 : Word).getLsbD 0 = true ∧ faultClass 0 ≠ .fatal
      ∧ (List.range 96).all (fun n => !forced tiered0 n) = true ∧ (60 : Fin 64).val < 61 ∧ ¬ (61 : Fin 64).val < 61 := by
  decide +kernel

theorem witness_episode_ends :
    let quiet := (running .safe).setFld Fld.fltRlimitLimit 0
    let often : State := { (running .safe).setFld Fld.fltRlimitWindow 1 with flt := { (running .safe).flt with episodes := [0] } }
    let once : State := { often.setFld Fld.fltRlimitLimit 0 with start := .running }
    let recover : State := { running .recover with resume := .tiered }
    let last : State := { running .tiered with resume := .tiered, flt := { (running .tiered).flt with finishing := true } }
    quiet.wf = true ∧ quietRuns quiet = true ∧ quiet.warmFlush = false ∧ quiet.flt.fromHoldup = false
      ∧ episodesIn quiet ≤ quiet.fld Fld.fltRlimitLimit
      ∧ once.wf = true ∧ quietRuns once = true ∧ once.fld Fld.fltRlimitLimit < episodesIn once ∧ quietRuns tiered0 = false
      ∧ recover.wf = true ∧ recover.mode = .recover ∧ recover.warmFlush = false ∧ keepsLedger recover.resume = true
      ∧ last.wf = true ∧ last.flt.finishing = true ∧ keptOpen last = false ∧ last.pins.holdupReq = false := by decide +kernel

/-! ### Witnesses: SRAM test, flash, log -/

theorem witness_sram_tests :
    let bgt (p : Nat) : State := (tiered0.setFlag Fld.sramBgtCtlEnable true).setFld Fld.sramBgtPosPhase p
    let march (keep : Bool) (n : Nat) : State := { tiered0 with sram := { tiered0.sram with march := some (122, keep), marchStep := n } }
    let copy : State := { tiered0 with sram := { tiered0.sram with copying := some (5, 123) } }
    let spare := Fld.sramMtCtlGroup.into 122 0
    (bgt 0).wf = true ∧ bgtRuns (bgt 0) = true ∧ (bgt 0).sram.urgent = [] ∧ freeRegion (bgt 0) 128 (bgt 0).sram.bgtNext < allRegions
      ∧ bgtRuns (bgt 1) = false ∧ (∀ p < 5, bgtIs (bgt p) p = true) ∧ (bgt 4).sram.abandoned = false
      ∧ kGet 0 (bgt 1).sram.retry (regionNow (bgt 1)) + 1 < ((bgt 1).setFld Fld.sramBgtCtlAbandonMax 2).fld Fld.sramBgtCtlAbandonMax
      ∧ (∀ p < 5, p ≠ 0 → bgtIs (bgt 0) p = false)
      ∧ tiered0.mode ≠ .reset ∧ tiered0.modeNow ≠ .recover ∧ tiered0.sram.march = none ∧ tiered0.sram.copying = none
      ∧ tiered0.sram.waiting = [] ∧ marchMode tiered0 (Fld.sramMtCtlGroup.of 0) false = false
      ∧ marchMode tiered0 (Fld.sramMtCtlGroup.of spare) false = true
      ∧ marchMode tiered0 (Fld.sramMtCtlGroup.of 0) true = true ∧ (freeGroup tiered0).isSome = true
      ∧ (march false 0).wf = true ∧ (march false 0).sram.atStart = false ∧ (march true 2).sram.marchStep = 2
      ∧ copy.wf = true ∧ copy.sram.march = none ∧ copy.sram.copying = some (5, 123) := by decide +kernel

theorem witness_flash_operations :
    let found := (tiered0.setFlag Fld.lfInfoFound true)
    let wr := (found.setFlag Fld.lfCtlWrEn true)
    let doing (op : FlashOp) (n : Nat) : State := { found with flash := { found.flash with op := some op, failRun := n } }
    found.wf = true ∧ found.mode ≠ .reset ∧ found.inError 83 = false ∧ found.flash.op = none ∧ found.flash.writing = false
      ∧ wr.wf = true ∧ rawMayWrite wr 1 0 256 = true ∧ rawMayWrite wr 1 1 256 = false ∧ rawMayWrite wr 2 0 4096 = true
      ∧ rawMayWrite wr 2 256 4096 = false ∧ rawMayWrite found 1 0 1 = false ∧ tiered0.flag Fld.lfInfoFound = false
      ∧ (doing (.rawRead 0 256) 0).wf = true ∧ (doing (.rawProgram 0 [0]) 1).flash.failRun < 2
      ∧ 2 ≤ (doing (.rawErase 0) 2).flash.failRun := by decide +kernel

theorem witness_log_updates :
    let u : LogUpdate := { kind := 1, commitAt := 64, commit := 5, runs := [], copy := 1, seq := 1, page := 1 }
    let r : LogRec := { kind := 1, body := [] }
    let s : State := { tiered0 with flash := { tiered0.flash with update := some u, log := [r], writing := true } }
    let due := tiered0.setFld Fld.calPeriodLog 1 0
    s.wf = true ∧ s.flash.update = some u ∧ s.flash.log = [r] ∧ tiered0.flash.update = none
      ∧ clockRuns tiered0 = true ∧ logOpen tiered0 = true ∧ clockRuns State.reset = false
      ∧ due.mode ≠ .reset ∧ logOpen due = true ∧ summaryDue due ≠ [] ∧ summaryDue (running .tiered) = [] := by decide +kernel

/-! ### The manual's worked cases, one step or one function each -/

/-- R436: the check value of the chain's code. -/
theorem test_chain_crc : crc8 0 checkString = 0xF4 := by decide +kernel

/-- 01, a 4 KiB write: its header's first words, and the deadline stamped at tick 0x12_3400 with context 17's budget of
1,600. -/
def pageWrite : Header :=
  { opcode := 2, flags := 0, context := 17, tag := 0x0A21, length := 64, cls := 0, budget := 0, address := 0x0123456000, operand := 0 }

theorem test_page_write_words :
    (pageWrite.pack.extractLsb' 0 32, pageWrite.pack.extractLsb' 32 32, pageWrite.pack.extractLsb' 96 32,
      pageWrite.pack.extractLsb' 128 32) = (0x00110002#32, 0x00400A21#32, 0x23456000#32, 0x00000001#32) := by decide +kernel

theorem test_page_write_deadline :
    let s : State := { serving.modPort 2 (fun _ => openPort) with timeBase := 0x123400 }
    let s := s.setFlag Fld.wpCtlEnable true 2
    (match exec (.wr 2 pageWrite.pack) s with
      | .next t => t.ports[(2 : PortId)].reqs.map (fun r => (r.tag, r.deadline, r.cls)) | _ => []) = [(0x0A21, 0x123A40, .v)] := by
  decide +kernel

/-- 02, a throttle episode: a budget of 400 ticks at steps 1 and 4. -/
theorem test_throttled_budgets : (effBudget 400 1, effBudget 400 4) = (800, 6400) := by decide +kernel

/-- 04, a page miss: frames of channels 0 to 11 and of 12 to 15, the map's weights, and the place of page 0x02A6_F318. -/
def mixedBoard : State :=
  let s := (List.range 16).foldl (fun s c =>
    (s.setFld Fld.tierGeomSets (if c < 12 then 2080768 else 1040384) c).setFld Fld.tierGeomRanks 4 c) (running .tiered)
  let s := (s.setFld Fld.tierHashSeedHiSeed 2).setFld Fld.tierHashSeedLoSeed 0x9C3E71B5
  ((buildMap s).setFld Fld.phyPopGen 1 13).setFld Fld.phyPopRanks 4 13

theorem test_map_weights : (List.range 16).map mixedBoard.mapWeight = [5, 5, 5, 5, 5, 5, 5, 5, 4, 4, 4, 4, 2, 2, 2, 2] := by
  decide +kernel

theorem test_page_place : mixedBoard.place 0x02A6F318 = (13, 975893) := by decide +kernel

theorem test_lfsr_draws :
    (lfsr32 0x6B2D40E3, lfsr32 0xD65A81C7, lfsr32 0xACB5038F) = (0xD65A81C7, 0xACB5038F, 0x596A071E) := by decide +kernel

theorem test_frame_place :
    mixedBoard.frameLoc 13 975893 14 41 = { sub := 0, rank := 3, bank := 9, row := 121986, col := 328 }
      ∧ (mixedBoard.tagLoc 13 975893 0).rank = 1 := by decide +kernel

theorem test_tag_words :
    let ws := tagWords { valid := 0x0000FF0000000000, page := 0x02A6F318, live := true } 13 975893
    (ws.take 7, ws.getD 7 0 % 65536) = ([0, 0xFF00, 0, 0, 0, 0, 0x02A6F318], 4) := by decide +kernel

/-- 05, a deferred eviction: the offer tag of slot 45 in generation 3. -/
theorem test_offer_tag : offerTag 45 3 = 0x0C2D := by decide +kernel

/-- 07, a spare lane: lane 37 is slice lane 5 of slice 2. -/
theorem test_slice_lane : sliceOf 37 = (2, 5) := by decide +kernel

/-- 08, a rejected read centring: a result 14 taps off is rejected for reason 1, one 4 taps off with an eye of 36 passes, and
an eye of 17 taps is too small where 18 suffice. -/
theorem test_read_centring :
    let s := (tiered0.setFld Fld.phyTapUiTaps 71 0).modCh 0 (fun q => { q with trims := [] })
    let p : CalPass := { kind := 2, check := Fld.calCheckEyeMin.into 16 (Fld.calCheckPlaus.into 8 0) }
    let at0 := calTarget s 0 2 13
    [calCheckRes s 0 p { lane := 13, rank := 0, value := at0 + 14, eye := 38, bad := false },
      calCheckRes s 0 p { lane := 13, rank := 0, value := at0 + 4, eye := 36, bad := false },
      calCheckRes s 0 p { lane := 13, rank := 0, value := at0 + 4, eye := 18, bad := false },
      calCheckRes s 0 p { lane := 13, rank := 0, value := at0 + 4, eye := 17, bad := false }] = [1, 0, 0, 3] := by decide +kernel

/-- 11, fencing a channel: two ranks of 32 GiB have T0 at unit 8,323,072 and 1,040,384 sets. -/
theorem test_geometry :
    let s := ((running .train).setFld Fld.phyPopRanks 2 5).modCh 5 (fun q => { q with rankUnits := 2 ^ 23 })
    (s.tagUnit0 5, (setGeom s 5).sets 5) = (8323072, 1040384) := by decide +kernel

/-- 12, an injection: the force bit of source 47 fences channel 5 at once, without UNCLEAN in BYPASS, and counts one contained
error; 1,031 mV is out of range for DDR5 and 1,102 mV is in. -/
theorem test_injection_fences :
    let s := (running .bypass).modCh 5 (fun q => { q with st := .online, trained := true })
    (match exec (.fltForceWrite 1 0x8000) s with
      | .next t => (t.chs[(5 : ChanId)].st, t.chs[(5 : ChanId)].unclean, t.inError 47, (t.rd Reg.fltCntCont.at).toNat, t.mode)
      | _ => (.online, true, false, 0, .reset)) = (.fenced, false, true, 1, .bypass)
      ∧ (vddqIn 2 1031, vddqIn 2 1102) = (false, true) := by decide +kernel

/-- 14, a torn counter: copy 1 of the lifetime record on a 64 MiB part. -/
theorem test_lifetime_copy :
    slotAt ((tiered0.setFlag Fld.lfInfoFound true).setFld Fld.lfInfoSize 6) 1 1 = 0x02014000 := by decide +kernel

/-- 15, an event storm, on a queue with two general slots left: two of five row alerts are taken, three are lost in one
information marker, the corrected event in a corrected one, and the corrected marker is popped first. -/
def stormed : State :=
  let alert : EvPush := { prio := 3, code := 0x062, tick := 0, source := 2, d0 := 0, d1 := 0 }
  let items := (List.range 1018).map (fun i => item 3 (0x3EA + i))
  { tiered0 with evq := { items := items, seq := 0x7E4, stage := List.replicate 5 alert ++ [{ alert with prio := 2, code := 0x060 }] } }

theorem test_event_storm :
    (match exec .evqPushHandshake stormed with
      | .next t => ((t.evq.items.drop 1018).map (fun i => (i.gap, i.prio, i.seq, i.d0.toNat)), (t.rd Reg.evqCntDrop.at).toNat,
          (t.evq.first.map (fun i => i.seq)))
      | _ => ([], 0, none))
      = ([(false, 3, 0x7E4, 0), (false, 3, 0x7E5, 0), (true, 3, 0x7E6, 3), (true, 2, 0x7E7, 1)], 4, some 0x7E7) := by
  decide +kernel

/-- 16, one counter, four ways: its address, and the chain's answer of unit 9. -/
theorem test_chain_read :
    let s := ((tiered0.setFlag Fld.chainStatusValid true).setFld Fld.chainStatusAddr 9).wr 0x1602C 3
    Reg.chCntPprSoft.at 6 = 0x1602C ∧
    (match exec (.chainRead (frame [0x09, 2, 8, 1, 0x60, 0x2C, 0, 0, 0, 0, 0])) s with
      | .next t => t.out | _ => []) = [.chain (frame [0x49, 2, 8, 1, 0x60, 0x2C, 0, 0, 0, 3, 0])] := by decide +kernel

end Sys2Proof.Tests
end

/-! SUPPORT. What no turn of the block and no boundary moves: the queue, time, and what the register path has captured.
One projection, `State.standing`, carries all of it, so that each function of the model needs one frame lemma. -/

section

namespace Sys2Proof.Machine

/-! ### The standing part of the state -/

/-- The fields that only rows of their own move: the queue, time (R397, R399), the windows, captures, clears and the beam of
the register path, and the progress of the Awl's key (R404). -/
structure Standing where
  pending : List Instr
  held : Bool
  timeBase : Tick
  tickFrac : Nat
  uptime : BitVec 48
  epoch : Nat
  ctxWin : CtxWin
  ingressPtr : Nat
  awlStep : Nat
  beam : KMap Word
  beamCtx : KMap (List Nat)
  beamClear : Bool
  clears : List Word
  tagCap : Option (Nat × Nat × Nat)

/-- The standing part of a state. -/
def State.standing (s : State) : Standing :=
  { pending := s.pending, held := s.held, timeBase := s.timeBase, tickFrac := s.tickFrac, uptime := s.uptime,
    epoch := s.epoch, ctxWin := s.ctxWin, ingressPtr := s.ingressPtr, awlStep := s.awlStep, beam := s.beam,
    beamCtx := s.beamCtx, beamClear := s.beamClear, clears := s.clears, tagCap := s.tagCap }

/-- An update of any of the other fields leaves the standing part. -/
@[simp] theorem State.update_standing (s : State) (regs pend : KMap Word) (holdRelease : Bool) (mode prev : Mode)
    (warm warmFlush : Bool) (modeAt : Nat) (resume testFrom : Mode) (start : StartStep) (mpWaits : Nat) (pins : Pins)
    (evq : EvQueue) (flt : FaultNet) (ports : Vector Port 8) (ctxs : KMap Ctx) (ledger : List LEntry) (nextId : Nat)
    (tags : KMap Tag) (caches : Vector (List CachedSet) 16) (fetches : List TagFetch) (lfsr : Vector (BitVec 32) 16)
    (lost : List (Option LostSet)) (pidx : List Nat) (allocs : List Alloc) (drain : KMap Nat) (drainFrom : Nat)
    (drainOpen : Bool) (retiring : List (Nat × Nat × Nat × Nat)) (retiredLog : List (Nat × Nat × Nat))
    (dram : KMap Line) (media : Media) (chs : Vector Channel 16) (quads : Vector Quad 4) (sram : Sram) (flash : Flash)
    (life : KMap Nat) (lifeAt : Nat) (zqQ : List Nat) (awlLfsr : Vector (BitVec 16) 9)
    (pseqStaged : Option (Nat × Nat)) (tseqStaged : KMap Nat) (out : List Out) (freeCtr : Nat) :
    State.standing { s with
      regs := regs, pend := pend, holdRelease := holdRelease, mode := mode, prev := prev, warm := warm,
      warmFlush := warmFlush, modeAt := modeAt, resume := resume, testFrom := testFrom, start := start,
      mpWaits := mpWaits, pins := pins, evq := evq, flt := flt, ports := ports, ctxs := ctxs, ledger := ledger,
      nextId := nextId, tags := tags, caches := caches, fetches := fetches, lfsr := lfsr, lost := lost, pidx := pidx,
      allocs := allocs, drain := drain, drainFrom := drainFrom, drainOpen := drainOpen, retiring := retiring,
      retiredLog := retiredLog, dram := dram, media := media, chs := chs, quads := quads, sram := sram, flash := flash,
      life := life, lifeAt := lifeAt, zqQ := zqQ, awlLfsr := awlLfsr, pseqStaged := pseqStaged,
      tseqStaged := tseqStaged, out := out, freeCtr := freeCtr } = s.standing := rfl

/-- A fold of turns keeps the standing part where each of them does. -/
@[simp] theorem foldl_standing {α : Type} (f : State → α → State) (l : List α) (s : State)
    (h : ∀ u a, (f u a).standing = u.standing) : (l.foldl f s).standing = s.standing := by
  induction l generalizing s with
  | nil => rfl
  | cons a l ih => rw [List.foldl_cons, ih, h]

/-- The standing part goes through a choice, so that both branches are judged by their own lemmas. -/
@[simp] theorem ite_standing (c : Prop) [Decidable c] (s t : State) :
    (if c then s else t).standing = if c then s.standing else t.standing := apply_ite ..

/-! ### The basic updates -/

section
variable (s : State)

@[simp] theorem State.wr_standing (o : Nat) (w : Word) : (s.wr o w).standing = s.standing := by unfold State.wr; rfl
@[simp] theorem State.setFld_standing (f : Fld) (v i k : Nat) : (s.setFld f v i k).standing = s.standing := State.wr_standing ..
@[simp] theorem State.setFlag_standing (f : Fld) (b : Bool) (i k : Nat) : (s.setFlag f b i k).standing = s.standing :=
  State.setFld_standing ..
@[simp] theorem State.count_standing (r : RegDef) (n i k : Nat) : (s.count r n i k).standing = s.standing := State.wr_standing ..
@[simp] theorem State.count64_standing (a b : RegDef) (n i : Nat) : (s.count64 a b n i).standing = s.standing :=
  (State.wr_standing ..).trans (State.wr_standing ..)
@[simp] theorem State.event_standing (a b c : Nat) (x y : Word) : (s.event a b c x y).standing = s.standing := by
  unfold State.event; rfl
@[simp] theorem State.info_standing (a b : Nat) (x y : Word) : (s.info a b x y).standing = s.standing := State.event_standing ..
@[simp] theorem State.report_standing (n : Nat) (o : Option Nat) : (s.report n o).standing = s.standing := by
  unfold State.report; rfl
@[simp] theorem State.reject_standing (o : Nat) (v : Word) : (s.reject o v).standing = s.standing :=
  (State.info_standing ..).trans (State.count_standing ..)
@[simp] theorem State.modPort_standing (p : PortId) (f : Port → Port) : (s.modPort p f).standing = s.standing := by
  unfold State.modPort; rfl
@[simp] theorem State.modCh_standing (c : ChanId) (f : Channel → Channel) : (s.modCh c f).standing = s.standing := by
  unfold State.modCh; rfl
@[simp] theorem State.modCtx_standing (c : Nat) (f : Ctx → Ctx) : (s.modCtx c f).standing = s.standing := by
  unfold State.modCtx; rfl
@[simp] theorem State.modQuad_standing (q : Nat) (f : Quad → Quad) : (s.modQuad q f).standing = s.standing := by
  unfold State.modQuad; rfl
@[simp] theorem State.drive_standing (o : Out) : (s.drive o).standing = s.standing := by unfold State.drive; rfl

end

/-! ### Ports: completions, aborts, openings -/

@[simp] theorem returnData_standing (s : State) (p : PortId) (n : Nat) : (returnData s p n).standing = s.standing := by
  simp [returnData]

@[simp] theorem modEntry_standing (s : State) (i : Nat) (f : LEntry → LEntry) : (modEntry s i f).standing = s.standing := by
  simp [modEntry]

@[simp] theorem freeStaging_standing (s : State) (e : LEntry) : (freeStaging s e).standing = s.standing := by
  simp [freeStaging]

@[simp] theorem endJob_standing (s : State) (c id : Nat) : (endJob s c id).standing = s.standing := by
  simp [endJob]

@[simp] theorem withdrawJob_standing (s : State) (c id : Nat) : (withdrawJob s c id).standing = s.standing := by
  simp [withdrawJob]

@[simp] theorem dropEntries_standing (s : State) (p : LEntry → Bool) : (dropEntries s p).standing = s.standing := by
  simp [dropEntries]

@[simp] theorem releaseEntry_standing (s : State) (e : LEntry) : (releaseEntry s e).standing = s.standing := by
  unfold releaseEntry
  split <;> simp

@[simp] theorem releaseRequest_standing (s : State) (rid : Nat) : (releaseRequest s rid).standing = s.standing := by
  simp [releaseRequest]

@[simp] theorem modReq_standing (s : State) (p : PortId) (rid : Nat) (f : Req → Req) :
    (modReq s p rid f).standing = s.standing := by
  simp [modReq]

@[simp] theorem returnHdr_standing (s : State) (p : PortId) : (returnHdr s p).standing = s.standing := by
  simp [returnHdr]

@[simp] theorem settlePort_standing (s : State) (p : PortId) : (settlePort s p).standing = s.standing := by
  simp [settlePort]

@[simp] theorem finishTag_standing (s : State) (p : PortId) (c : Completion) (late : Nat) :
    (finishTag s p c late).standing = s.standing := by
  unfold finishTag
  extract_lets
  split <;> simp +zetaDelta

@[simp] theorem sendOne_standing (s : State) (p : PortId) (c : Completion) : (sendOne s p c).standing = s.standing := by
  simp [sendOne]

@[simp] theorem drainTx_standing (n : Nat) (s : State) (p : PortId) : (drainTx n s p).standing = s.standing := by
  induction n generalizing s with
  | zero => rfl
  | succ n ih =>
    unfold drainTx
    split
    · rfl
    · simp [ih]

@[simp] theorem pushTx_standing (s : State) (p : PortId) (c : Completion) : (pushTx s p c).standing = s.standing := by
  simp [pushTx]

@[simp] theorem finishReq_standing (s : State) (p : PortId) (rid : Nat) (op : BitVec 8) (st : Nat) (x : BitVec 64) :
    (finishReq s p rid op st x).standing = s.standing := by
  unfold finishReq
  split <;> simp

@[simp] theorem failReq_standing (s : State) (p : PortId) (rid st : Nat) : (failReq s p rid st).standing = s.standing := by
  unfold failReq
  split <;> simp

@[simp] theorem abortPort_standing (s : State) (p : PortId) : (abortPort s p).2.standing = s.standing := by
  simp [abortPort]

@[simp] theorem openPort_standing (s : State) (p : PortId) : (openPort s p).standing = s.standing := by
  simp [openPort]

@[simp] theorem updatePort_standing (s : State) (p : PortId) : (updatePort s p).standing = s.standing := by
  unfold updatePort
  split <;> simp

/-! ### The collector's reactions (R517) -/

@[simp] theorem setMode_standing (s : State) (m : Mode) : (setMode s m).standing = s.standing := by
  simp [setMode]

@[simp] theorem enterMode_standing (s : State) (m : Mode) : (enterMode s m).standing = s.standing := by
  simp [enterMode]

@[simp] theorem cutXfer_standing (s : State) : (cutXfer s).standing = s.standing := by
  simp [cutXfer]

@[simp] theorem safeChannel_standing (s : State) (c : Nat) : (safeChannel s c).standing = s.standing := by
  simp [safeChannel]

@[simp] theorem safePort_standing (s : State) (p : PortId) : (safePort s p).standing = s.standing := by
  simp [safePort]

@[simp] theorem startSr_standing (s : State) (c : Nat) (why : SrWhy) : (startSr s c why).standing = s.standing := by
  simp [startSr]

@[simp] theorem retainAll_standing (s : State) (why : SrWhy) : (retainAll s why).standing = s.standing := by
  simp [retainAll]

@[simp] theorem backToSafe_standing (s : State) : (backToSafe s).standing = s.standing := by
  simp [backToSafe]

@[simp] theorem lifeUp_standing (s : State) (k n : Nat) : (lifeUp s k n).standing = s.standing := by
  simp [lifeUp]

@[simp] theorem noteStart_standing (s : State) : (noteStart s).standing = s.standing := by
  simp [noteStart]

@[simp] theorem abandonImages_standing (s : State) : (abandonImages s).standing = s.standing := by
  simp [abandonImages]

@[simp] theorem cutBurn_standing (s : State) : (cutBurn s).standing = s.standing := by
  unfold cutBurn
  split <;> simp

@[simp] theorem enterSafe_standing (s : State) : (enterSafe s).standing = s.standing := by
  simp [enterSafe]

@[simp] theorem setSrcBit_standing (s : State) (f : Fld) (src : Nat) (v : Bool) :
    (setSrcBit s f src v).standing = s.standing := by
  simp [setSrcBit]

@[simp] theorem bookError_standing (s : State) (src : Nat) (broken : Bool) :
    (bookError s src broken).standing = s.standing := by
  unfold bookError
  cases reactClass src broken <;> simp

@[simp] theorem blockReact_standing (s : State) (src : Nat) (broken : Bool) :
    (blockReact s src broken).standing = s.standing := by
  unfold blockReact
  extract_lets
  split <;> simp +zetaDelta

@[simp] theorem collectOne_standing (s : State) (src : Nat) : (collectOne s src).standing = s.standing := by
  simp [collectOne]

@[simp] theorem collectAll_standing (s : State) : (collectAll s).standing = s.standing := by
  simp [collectAll]

@[simp] theorem causeEnds_standing (s : State) (src : Nat) : (causeEnds s src).standing = s.standing := by
  simp [causeEnds]

/-! ### Buffered values at their boundaries (R612, R614, R616) -/

@[simp] theorem dropPend_standing (s : State) (o : Nat) : (dropPend s o).standing = s.standing := by
  simp [dropPend]

@[simp] theorem loadLfsrs_standing (s : State) : (loadLfsrs s).standing = s.standing := by
  simp [loadLfsrs]

@[simp] theorem loadAwl_standing (s : State) : (loadAwl s).standing = s.standing := by
  simp [loadAwl]

@[simp] theorem cutBuckets_standing (s : State) : (cutBuckets s).standing = s.standing := by
  simp [cutBuckets]

@[simp] theorem resumeCheck_standing (s : State) : (resumeCheck s).standing = s.standing := by
  simp [resumeCheck]

@[simp] theorem afterApply_standing (s : State) (o : Nat) : (afterApply s o).standing = s.standing := by
  simp [afterApply]

@[simp] theorem applyReg_standing (s : State) (o : Nat) : (applyReg s o).standing = s.standing := by
  unfold applyReg
  split <;> simp

@[simp] theorem applyMap_standing (s : State) (start : Bool) : (applyMap s start).standing = s.standing := by
  simp [applyMap]

@[simp] theorem applyAll_standing (s : State) (p : Nat → Bool) : (applyAll s p).standing = s.standing := by
  simp [applyAll]

@[simp] theorem setLimit_standing (s : State) (n lim : Nat) : (setLimit s n lim).standing = s.standing := by
  simp [setLimit]

@[simp] theorem applyLimits_standing (s : State) : (applyLimits s).standing = s.standing := by
  simp [applyLimits]

@[simp] theorem applyTimings_standing (s : State) (c : Nat) : (applyTimings s c).standing = s.standing := by
  simp [applyTimings]

@[simp] theorem applyContexts_standing (s : State) : (applyContexts s).standing = s.standing := by
  simp [applyContexts]

@[simp] theorem epochApply_standing (s : State) : (epochApply s).standing = s.standing := by
  simp [epochApply]

@[simp] theorem calBooks_standing (s : State) (c : Nat) : (calBooks s c).standing = s.standing := by
  simp [calBooks]

@[simp] theorem zqInstall_standing (s : State) (c : Nat) : (zqInstall s c).standing = s.standing := by
  simp [zqInstall]

@[simp] theorem channelBoundary_standing (s : State) (c : Nat) : (channelBoundary s c).standing = s.standing := by
  simp [channelBoundary]

@[simp] theorem mediaBoundary_standing (s : State) : (mediaBoundary s).standing = s.standing := by
  simp [mediaBoundary]

@[simp] theorem quadBoundary_standing (s : State) (q : Nat) : (quadBoundary s q).standing = s.standing := by
  simp [quadBoundary]

/-! ### The boundary of step 12 (R426, R430) -/

@[simp] theorem driveMedia_standing (s : State) (opcode : Nat) (flags : BitVec 8) (mtag page : Nat) (deadline : Tick)
    (smap pmap : BitVec 64) (dsect : Nat) (lines : List Line) :
    (driveMedia s opcode flags mtag page deadline smap pmap dsect lines).standing = s.standing := by
  simp [driveMedia]

@[simp] theorem startResync_standing (s : State) : (startResync s).standing = s.standing := by
  simp [startResync]

@[simp] theorem enableChange_standing (s : State) (v was : Bool) : (enableChange s v was).standing = s.standing := by
  simp [enableChange]

@[simp] theorem stepTwelve_standing (s : State) : (stepTwelve s).standing = s.standing := by
  simp [stepTwelve]

@[simp] theorem sbNext_standing (s : State) (q : Nat) : (sbNext s q).standing = s.standing := by
  unfold sbNext
  extract_lets
  split <;> simp +zetaDelta

@[simp] theorem sbQueue_standing (s : State) (q : Nat) (t : SbTxn) : (sbQueue s q t).standing = s.standing := by
  simp [sbQueue]

@[simp] theorem pmicPower_standing (s : State) (c : Nat) (on : Bool) : (pmicPower s c on).standing = s.standing := by
  simp [pmicPower]

@[simp] theorem powerOn_standing (s : State) (c : Nat) : (powerOn s c).standing = s.standing := by
  simp [powerOn]

@[simp] theorem prepChannel_standing (s : State) (c : Nat) : (prepChannel s c).standing = s.standing := by
  simp [prepChannel]

@[simp] theorem spareBooks_standing (s : State) (c : Nat) : (spareBooks s c).standing = s.standing := by
  simp [spareBooks]

@[simp] theorem putSpare_standing (s : State) (c k lane : Nat) : (putSpare s c k lane).standing = s.standing := by
  simp [putSpare]

@[simp] theorem storedSpares_standing (s : State) : (storedSpares s).standing = s.standing := by
  refine foldl_standing _ _ _ fun u e => ?_
  dsimp only
  split
  · rfl
  · split <;> simp

@[simp] theorem beginTrain_standing (s : State) : (beginTrain s).standing = s.standing := by
  simp [beginTrain]

@[simp] theorem queueLog_standing (s : State) (kind : Nat) (body : List Nat) :
    (queueLog s kind body).standing = s.standing := by
  simp [queueLog]

@[simp] theorem queueLife_standing (s : State) (march : Nat) : (queueLife s march).standing = s.standing := by
  simp [queueLife]

@[simp] theorem startRecord_standing (s : State) : (startRecord s).standing = s.standing := by
  simp [startRecord]

/-! ### The parts of an epoch boundary (R399) -/

@[simp] theorem speedMonitors_standing (s : State) (m : EpochMeas) : (speedMonitors s m).standing = s.standing := by
  simp [speedMonitors]

@[simp] theorem levelSource_standing (s : State) (src : Nat) (bad : Bool) :
    (levelSource s src bad).standing = s.standing := by
  simp [levelSource]

@[simp] theorem coreMonitors_standing (s : State) (m : EpochMeas) : (coreMonitors s m).standing = s.standing := by
  simp [coreMonitors]

@[simp] theorem markerApply_standing (s : State) : (markerApply s).standing = s.standing := by
  unfold markerApply
  split <;> simp

@[simp] theorem imgBooks_standing (s : State) : (imgBooks s).standing = s.standing := by
  simp [imgBooks]

@[simp] theorem switchPseq_standing (s : State) : (switchPseq s).standing = s.standing := by
  unfold switchPseq
  split <;> simp

@[simp] theorem startSweep_standing (s : State) (c : Nat) : (startSweep s c).standing = s.standing := by
  simp [startSweep]

@[simp] theorem sweepAll_standing (s : State) : (sweepAll s).standing = s.standing := by
  refine foldl_standing _ _ _ fun u c => ?_
  cases (u.ch c).st <;> simp

@[simp] theorem beginDrain_standing (s : State) : (beginDrain s).standing = s.standing := by
  simp [beginDrain]

@[simp] theorem changeMode_standing (s : State) (t : Mode) : (changeMode s t).standing = s.standing := by
  simp [changeMode]

@[simp] theorem refuseMode_standing (s : State) (n : Nat) : (refuseMode s n).standing = s.standing := by
  simp [refuseMode]

@[simp] theorem modeBoundary_standing (s : State) : (modeBoundary s).standing = s.standing := by
  unfold modeBoundary
  split
  · rfl
  · dsimp only
    split <;> simp

@[simp] theorem buildMap_standing (s : State) : (buildMap s).standing = s.standing := by
  simp [buildMap]

@[simp] theorem enterStart_standing (s : State) : (enterStart s).standing = s.standing := by
  simp [enterStart]

@[simp] theorem startBoundary_standing (s : State) : (startBoundary s).standing = s.standing := by
  unfold startBoundary
  split <;> simp

@[simp] theorem awlBoundary_standing (s : State) : (awlBoundary s).standing = s.standing := by
  simp [awlBoundary]

end Sys2Proof.Machine

end

/-! SUPPORT. Words and flags after an update, and what the canonical form says of the register words. -/

section

namespace Sys2Proof.Machine

variable {s t u : State}

/-- In a state whose tables are canonical, the register words are. -/
theorem State.wf_regs_rising (h : s.wf = true) : kRising s.regs = true := by
  have hk : kWf resetWord s.regs = true := by
    simp only [State.wf, Bool.and_eq_true] at h
    tauto
  exact (kRising_iff _).2 ((kWf_iff _ _).1 hk).1

/-- A one-bit field reads what it was set to. -/
theorem State.flag_setFlag (hr : kRising s.regs = true) (f : Fld) {b : Bool} {i k : Nat} (hw : f.w = 1) (hl : f.lo < 32) :
    (s.setFlag f b i k).flag f i k = b := by
  have hf : (s.setFlag f b i k).fld f i k = b.toNat % 2 ^ f.w := State.fld_setFld s hr f b.toNat i k (by omega)
  cases b <;> simp [State.flag, hf, hw]

/-- Another field of the same register, after a one-bit field has been set. -/
theorem State.flag_setFlag_beside (hr : kRising s.regs = true) (f g : Fld) {b : Bool} {i k i' k' : Nat}
    (h : f.reg.at i k = g.reg.at i' k') (hw : f.lo + f.w ≤ 32) (hd : f.lo + f.w ≤ g.lo ∨ g.lo + g.w ≤ f.lo) :
    (s.setFlag f b i k).flag g i' k' = s.flag g i' k' := by
  unfold State.flag State.setFlag
  rw [State.fld_setFld_beside s hr f g b.toNat i k i' k' h hw hd]

theorem State.flag_count_other (hr : kRising s.regs = true) (r : RegDef) (n i k : Nat) (g : Fld) (i' k' : Nat)
    (h : r.at i k ≠ g.reg.at i' k') : (s.count r n i k).flag g i' k' = s.flag g i' k' := by
  simp [State.flag, State.fld, State.rd_count s hr, h]

theorem State.setFlag_rising (hr : kRising s.regs = true) (f : Fld) (b : Bool) (i k : Nat) :
    kRising (s.setFlag f b i k).regs = true := State.setFld_rising s hr f b.toNat i k

/-! ### Frames of words -/

theorem WordsKept.trans {l : List Nat} (h : WordsKept s t l) (h' : WordsKept t u l) : WordsKept s u l :=
  fun o ho => (h' o ho).trans (h o ho)

theorem WordsKept.setFlag {l : List Nat} (h : WordsKept s t l) (hr : kRising t.regs = true) (f : Fld) (b : Bool) (i k : Nat)
    (hm : f.reg.at i k ∈ l) : WordsKept s (t.setFlag f b i k) l := fun o ho => by
  have hne : f.reg.at i k ≠ o := fun e => ho (e ▸ hm)
  rw [State.setFlag, State.rd_setFld t hr, if_neg hne, h o ho]

theorem WordsKept.count {l : List Nat} (h : WordsKept s t l) (hr : kRising t.regs = true) (r : RegDef) (n i k : Nat)
    (hm : r.at i k ∈ l) : WordsKept s (t.count r n i k) l := fun o ho => by
  have hne : r.at i k ≠ o := fun e => ho (e ▸ hm)
  rw [State.rd_count t hr, if_neg hne, h o ho]

theorem WordsKept.of_regs {l : List Nat} (h : t.regs = s.regs) : WordsKept s t l := fun o _ => by
  simp only [State.rd, h]

end Sys2Proof.Machine

end

/-! SUPPORT. The block's time, REFCLK and the Awl (R397 to R409). -/

section

namespace Sys2Proof.Machine

/-! ### Idling (R397; log entries 1 and 44) -/

theorem step_of_empty {s : State} (h : s.pending = []) : step s = .next (idleTick s) := by
  simp [step, h]

/-- The clock stands before its first lock, and the tick of an epoch boundary has its own command. -/
theorem idleTick_stays {s : State} (h : clockRuns s = false ∨ s.timeBase.toNat % 1024 = 1023) : idleTick s = s := by
  unfold idleTick
  rcases h with h | h <;> simp [h]

theorem idleTick_ticks {s : State} (hc : clockRuns s = true) (hb : s.timeBase.toNat % 1024 ≠ 1023) :
    (idleTick s).timeBase = s.timeBase + 1 := by
  simp [idleTick, hc, hb]

theorem idleTick_frame (s : State) :
    { idleTick s with timeBase := s.timeBase, tickFrac := s.tickFrac, uptime := s.uptime } = s := by
  unfold idleTick
  split <;> rfl

/-! ### Epoch boundaries (R399; log entry 17) -/

/-- The next multiple of 1,024 ticks, modulo the 24 bits of the time base. -/
theorem nextEpoch_aligned (b : Tick) : (b + BitVec.ofNat 24 (1024 - b.toNat % 1024)).toNat % 1024 = 0 := by
  simp only [BitVec.toNat_add, BitVec.toNat_ofNat]
  omega

theorem opEpoch_of_reset {s : State} (m : EpochMeas) (hc : clockRuns s = true) (hm : s.mode = .reset) :
    opEpoch s m = toBoundary s := by
  simp [opEpoch, hc, toBoundary, hm]

/-- Nothing that a boundary does moves time, or the queue, beyond the move to the boundary itself. -/
theorem opEpoch_standing {s : State} (m : EpochMeas) (hc : clockRuns s = true) :
    (opEpoch s m).standing = (toBoundary s).standing := by
  simp [opEpoch, hc]

theorem opEpoch_timeBase {s : State} (m : EpochMeas) (hc : clockRuns s = true) :
    (opEpoch s m).timeBase = s.timeBase + BitVec.ofNat 24 (1024 - s.timeBase.toNat % 1024) :=
  congrArg Standing.timeBase (opEpoch_standing m hc)

theorem opEpoch_epoch {s : State} (m : EpochMeas) (hc : clockRuns s = true) : (opEpoch s m).epoch = s.epoch + 1 :=
  congrArg Standing.epoch (opEpoch_standing m hc)

theorem opEpoch_frame_of_reset {s : State} (m : EpochMeas) (hc : clockRuns s = true) (hm : s.mode = .reset) :
    { opEpoch s m with timeBase := s.timeBase, tickFrac := s.tickFrac, uptime := s.uptime, epoch := s.epoch } = s := by
  rw [opEpoch_of_reset m hc hm]
  rfl

/-! ### REFCLK (R400, R401) -/

/-- A loss of REFCLK in its word: absent, in holdover, and lost in the history. -/
def lossFlags (s : State) : State :=
  ((s.setFlag Fld.refclkStatusPresent false).setFlag Fld.refclkStatusHoldover true).setFlag Fld.refclkStatusLost true

theorem lossFlags_rising {s : State} (hr : kRising s.regs = true) : kRising (lossFlags s).regs = true :=
  State.setFlag_rising (State.setFlag_rising (State.setFlag_rising hr ..) ..) ..

theorem lossFlags_flags {s : State} (hr : kRising s.regs = true) :
    (lossFlags s).flag Fld.refclkStatusHoldover = true ∧ (lossFlags s).flag Fld.refclkStatusPresent = false
      ∧ (lossFlags s).flag Fld.refclkStatusLost = true := by
  have hr1 := State.setFlag_rising hr Fld.refclkStatusPresent false 0 0
  have hr2 := State.setFlag_rising hr1 Fld.refclkStatusHoldover true 0 0
  refine ⟨?_, ?_, State.flag_setFlag hr2 Fld.refclkStatusLost rfl (by decide)⟩
  · calc (lossFlags s).flag Fld.refclkStatusHoldover
      _ = ((s.setFlag Fld.refclkStatusPresent false).setFlag Fld.refclkStatusHoldover true).flag Fld.refclkStatusHoldover :=
        State.flag_setFlag_beside hr2 Fld.refclkStatusLost Fld.refclkStatusHoldover rfl (by decide) (by decide)
      _ = true := State.flag_setFlag hr1 Fld.refclkStatusHoldover rfl (by decide)
  · calc (lossFlags s).flag Fld.refclkStatusPresent
      _ = ((s.setFlag Fld.refclkStatusPresent false).setFlag Fld.refclkStatusHoldover true).flag Fld.refclkStatusPresent :=
        State.flag_setFlag_beside hr2 Fld.refclkStatusLost Fld.refclkStatusPresent rfl (by decide) (by decide)
      _ = (s.setFlag Fld.refclkStatusPresent false).flag Fld.refclkStatusPresent :=
        State.flag_setFlag_beside hr1 Fld.refclkStatusHoldover Fld.refclkStatusPresent rfl (by decide) (by decide)
      _ = false := State.flag_setFlag hr Fld.refclkStatusPresent rfl (by decide)

theorem lossFlags_words {s : State} (hr : kRising s.regs = true) {l : List Nat} (hm : Reg.refclkStatus.at ∈ l) :
    WordsKept s (lossFlags s) l := by
  have hr1 := State.setFlag_rising hr Fld.refclkStatusPresent false 0 0
  have hr2 := State.setFlag_rising hr1 Fld.refclkStatusHoldover true 0 0
  exact (((WordsKept.of_regs rfl).setFlag hr _ _ _ _ hm).setFlag hr1 _ _ _ _ hm).setFlag hr2 _ _ _ _ hm

theorem opRefclkLost_eq {s : State} (b : Bool) (hc : clockRuns s = true) (hh : s.flag Fld.refclkStatusHoldover = false) :
    opRefclkLost s b
      = ((lossFlags s).count Reg.tbCntRefclk).eventOf Ev.refclkLost Src.core 84 (dw (if b then 1 else 2)) := by
  simp [opRefclkLost, hc, hh, lossFlags]

/-- The loss shows in the flags of its word. -/
theorem opRefclkLost_flags {s : State} (b : Bool) (hr : kRising s.regs = true) (hc : clockRuns s = true)
    (hh : s.flag Fld.refclkStatusHoldover = false) :
    (opRefclkLost s b).flag Fld.refclkStatusHoldover = true ∧ (opRefclkLost s b).flag Fld.refclkStatusPresent = false
      ∧ (opRefclkLost s b).flag Fld.refclkStatusLost = true := by
  obtain ⟨hhold, hpres, hlost⟩ := lossFlags_flags hr
  have other (g : Fld) (hg : Reg.tbCntRefclk.at ≠ g.reg.at) :
      (opRefclkLost s b).flag g = (lossFlags s).flag g := by
    rw [opRefclkLost_eq b hc hh, State.flag_eventOf, State.flag_count_other (lossFlags_rising hr) _ _ _ _ _ _ _ hg]
  exact ⟨(other _ (by decide)).trans hhold, (other _ (by decide)).trans hpres, (other _ (by decide)).trans hlost⟩

/-- The loss is counted, and moves no other word. -/
theorem opRefclkLost_words {s : State} (b : Bool) (hr : kRising s.regs = true) (hc : clockRuns s = true)
    (hh : s.flag Fld.refclkStatusHoldover = false) :
    (opRefclkLost s b).rd Reg.tbCntRefclk.at = satAdd32 (s.rd Reg.tbCntRefclk.at) 1
      ∧ WordsKept s (opRefclkLost s b) [Reg.refclkStatus.at, Reg.tbCntRefclk.at] := by
  rw [opRefclkLost_eq b hc hh]
  constructor
  · rw [State.rd_eventOf, State.rd_count _ (lossFlags_rising hr), if_pos rfl,
      lossFlags_words hr (List.mem_singleton_self _) Reg.tbCntRefclk.at (by decide)]
  · have hk := (lossFlags_words hr (List.mem_cons_self ..)).count (lossFlags_rising hr) Reg.tbCntRefclk 1 0 0
      (l := [Reg.refclkStatus.at, Reg.tbCntRefclk.at]) (by simp)
    exact fun o ho => (State.rd_eventOf ..).trans (hk o ho)

theorem opRefclkLost_frame {s : State} (b : Bool) (hc : clockRuns s = true)
    (hh : s.flag Fld.refclkStatusHoldover = false) :
    { opRefclkLost s b with regs := s.regs, evq := s.evq, flt := s.flt } = s := by
  rw [opRefclkLost_eq b hc hh]
  simp [lossFlags]

/-- The end of a cause moves the fault net alone. -/
theorem causeEnds_eq (s : State) (n : Nat) : ∃ f, causeEnds s n = { s with flt := f } := by
  unfold causeEnds
  split
  · exact ⟨s.flt, rfl⟩
  · exact ⟨_, rfl⟩

theorem opRefclkBack_eq {s : State} (hh : s.flag Fld.refclkStatusHoldover = true) :
    opRefclkBack s
      = causeEnds ((s.setFlag Fld.refclkStatusPresent true).setFlag Fld.refclkStatusHoldover false) 84 := by
  simp [opRefclkBack, hh]

/-- REFCLK's return ends the holdover, and touches no store of data, no entry and no port. -/
theorem opRefclkBack_ends {s : State} (hr : kRising s.regs = true) (hh : s.flag Fld.refclkStatusHoldover = true) :
    (opRefclkBack s).flag Fld.refclkStatusHoldover = false ∧ (opRefclkBack s).flag Fld.refclkStatusPresent = true
      ∧ DataKept s (opRefclkBack s) ∧ (opRefclkBack s).ledger = s.ledger ∧ (opRefclkBack s).ports = s.ports := by
  have hr1 := State.setFlag_rising hr Fld.refclkStatusPresent true 0 0
  obtain ⟨f, hf⟩ := causeEnds_eq ((s.setFlag Fld.refclkStatusPresent true).setFlag Fld.refclkStatusHoldover false) 84
  rw [opRefclkBack_eq hh, hf]
  refine ⟨State.flag_setFlag hr1 Fld.refclkStatusHoldover rfl (by decide), ?_, ⟨by simp, by simp, by simp, by simp⟩,
    by simp, by simp⟩
  exact (State.flag_setFlag_beside hr1 Fld.refclkStatusHoldover Fld.refclkStatusPresent rfl (by decide) (by decide)).trans
    (State.flag_setFlag hr Fld.refclkStatusPresent rfl (by decide))

/-! ### The Awl (R404, R405, R409) -/

section
variable {s : State} {w : Word}

theorem opAwlKey_first (hm : s.mode ≠ .reset) (hk : Fld.awlKeyKey.of w = 0x5A3C) :
    opAwlKey s w = { s with awlStep := 1 } := by
  simp [opAwlKey, hm, hk]

theorem opAwlKey_second (hm : s.mode ≠ .reset) (hk : Fld.awlKeyKey.of w = 0xC3A5) (hs : s.awlStep = 1) :
    opAwlKey s w = ({ s with awlStep := 0 }.setFlag Fld.awlStatusUnlocked true).info Ev.awlUnlock Src.awl := by
  simp [opAwlKey, hm, hk, hs]

theorem opAwlKey_other (hm : s.mode ≠ .reset) (h1 : Fld.awlKeyKey.of w ≠ 0x5A3C)
    (h2 : Fld.awlKeyKey.of w ≠ 0xC3A5 ∨ s.awlStep ≠ 1) : opAwlKey s w = awlLock s := by
  have h : ¬(Fld.awlKeyKey.of w = 0xC3A5 ∧ s.awlStep = 1) := by tauto
  simp [opAwlKey, hm, h1, h]

/-- A word written to the key is its first half, its second half after the first, or any other. -/
theorem awlKey_cases (s : State) (w : Word) :
    Fld.awlKeyKey.of w = 0x5A3C ∨ (Fld.awlKeyKey.of w = 0xC3A5 ∧ s.awlStep = 1)
      ∨ (Fld.awlKeyKey.of w ≠ 0x5A3C ∧ (Fld.awlKeyKey.of w ≠ 0xC3A5 ∨ s.awlStep ≠ 1)) := by
  tauto

theorem awlLock_locks (hr : kRising s.regs = true) :
    (awlLock s).awlOpen = false ∧ (awlLock s).awlStep = 0
      ∧ ∀ e ∈ (awlLock s).pend, e ∈ s.pend ∧ ¬(0x30000 ≤ e.1 ∧ e.1 < 0x31000) := by
  refine ⟨?_, by simp [awlLock], fun e he => ?_⟩
  · exact State.flag_setFlag (s := { s with awlStep := 0, pend := _ }) hr Fld.awlStatusUnlocked rfl (by decide)
  · obtain ⟨hmem, hout⟩ : e ∈ s.pend ∧ (e.1 < 0x30000 ∨ 0x31000 ≤ e.1) := by simpa [awlLock] using he
    exact ⟨hmem, by omega⟩

/-- The key's unlocking word. -/
theorem opAwlKey_unlocks (hr : kRising s.regs = true) (hm : s.mode ≠ .reset) (hk : Fld.awlKeyKey.of w = 0xC3A5)
    (hs : s.awlStep = 1) :
    (opAwlKey s w).awlOpen = true ∧ (opAwlKey s w).awlStep = 0 ∧ (opAwlKey s w).pend = s.pend := by
  rw [opAwlKey_second hm hk hs]
  refine ⟨?_, by simp, by simp⟩
  rw [State.awlOpen, State.flag_info]
  exact State.flag_setFlag (s := { s with awlStep := 0 }) hr Fld.awlStatusUnlocked rfl (by decide)

/-- No word but the Awl's status moves at a write of the key, and no store of data, entry or port. -/
theorem opAwlKey_frame (hr : kRising s.regs = true) (hm : s.mode ≠ .reset) :
    WordsKept s (opAwlKey s w) [Reg.awlStatus.at] ∧ DataKept s (opAwlKey s w) ∧ (opAwlKey s w).ledger = s.ledger
      ∧ (opAwlKey s w).ports = s.ports := by
  have words (u : State) (hu : u.regs = s.regs) (b : Bool) :
      WordsKept s (u.setFlag Fld.awlStatusUnlocked b) [Reg.awlStatus.at] :=
    (WordsKept.of_regs hu).setFlag (hu ▸ hr) _ _ _ _ (List.mem_singleton_self _)
  rcases awlKey_cases s w with hk | ⟨hk, hs⟩ | ⟨h1, h2⟩
  · rw [opAwlKey_first hm hk]
    exact ⟨WordsKept.of_regs rfl, ⟨rfl, rfl, rfl, rfl⟩, rfl, rfl⟩
  · rw [opAwlKey_second hm hk hs]
    refine ⟨fun o ho => ?_, ⟨by simp, by simp, by simp, by simp⟩, by simp, by simp⟩
    rw [State.rd_info, words { s with awlStep := 0 } rfl true o ho]
  · rw [opAwlKey_other hm h1 h2]
    exact ⟨words _ rfl false, ⟨by simp [awlLock], by simp [awlLock], by simp [awlLock], by simp [awlLock]⟩,
      by simp [awlLock], by simp [awlLock]⟩

theorem opBpRun_target (s : State) (b : Fin 9) : (opBpRun s b).awlLfsr[b] = lfsr16 s.awlLfsr[b] := by
  simp [opBpRun]

theorem opBpRun_other (s : State) {b o : Fin 9} (h : o ≠ b) : (opBpRun s b).awlLfsr[o] = s.awlLfsr[o] := by
  simp only [opBpRun, Fin.getElem_fin]
  exact Vector.getElem_set_ne _ _ (fun e => h (Fin.ext e.symm))

end

end Sys2Proof.Machine

end

/-! SUPPORT. The statements about idling, time, REFCLK and the Awl. -/

section

open Sys2Proof Sys2Proof.Machine

/-- Settles O2: an empty queue runs the idle tick, which moves time alone (log entries 1 and 44). -/
theorem emptyQueueIdles : Obligations.EmptyQueueIdles := by
  intro s hq
  refine ⟨idleTick s, step_of_empty hq, idleTick_frame s, ?_, idleTick_ticks⟩
  by_cases h : clockRuns s = false ∨ s.timeBase.toNat % 1024 = 1023
  · exact .inl (congrArg State.timeBase (idleTick_stays h))
  · obtain ⟨hc, hb⟩ := not_or.1 h
    exact .inr (idleTick_ticks (by simpa using hc) hb)

/-- Settles O16: time and the queue stand still through all that an epoch boundary does after its move (log entry 17), and
REFCLK's and the Awl's commands change words of their own registers (R400, R401, R404, R405, R409). -/
theorem timeClockAndAwl : Obligations.TimeClockAndAwl := by
  refine ⟨fun m s hc => ?_, fun b s hw hc hh => ?_, fun s hw hh => ?_, fun w s hw hm => ?_, fun b s => ?_⟩
  · refine ⟨opEpoch s m, rfl, ?_, opEpoch_timeBase m hc, opEpoch_epoch m hc, opEpoch_frame_of_reset m hc⟩
    rw [opEpoch_timeBase m hc, nextEpoch_aligned]
  · have hr := State.wf_regs_rising hw
    obtain ⟨hhold, hpres, hlost⟩ := opRefclkLost_flags b hr hc hh
    obtain ⟨hcnt, hwords⟩ := opRefclkLost_words b hr hc hh
    exact ⟨opRefclkLost s b, rfl, hhold, hpres, hlost, hcnt, hwords, opRefclkLost_frame b hc hh⟩
  · exact ⟨opRefclkBack s, rfl, opRefclkBack_ends (State.wf_regs_rising hw) hh⟩
  · have hr := State.wf_regs_rising hw
    refine ⟨opAwlKey s w, rfl, opAwlKey_first hm, fun ⟨hk, hs⟩ => opAwlKey_unlocks hr hm hk hs, fun ⟨h1, h2⟩ => ?_,
      opAwlKey_frame hr hm⟩
    rw [opAwlKey_other hm h1 h2]
    exact awlLock_locks hr
  · exact ⟨opBpRun s b, rfl, opBpRun_target s b, fun o h => opBpRun_other s h, rfl⟩

end

/-! SUPPORT. Where the block stands: its mode, the step of its start, the ports that receive a packet and the staging lines
that ENUMERATE keeps. One projection, `State.stance`, carries them, so that each function of the turns needs one frame lemma;
a function that frees staging lines leaves the part `toCourse`. -/

section

namespace Sys2Proof.Machine

/-- The mode, the step of the start, and the ports that are receiving a packet. -/
structure Course where
  mode : Mode
  start : StartStep
  receiving : PortId → Bool

/-- The same with the staging lines of every port, as far as ENUMERATE keeps them. -/
structure Stance extends Course where
  staged : PortId → Nat

/-- The stance of a state. -/
def State.stance (s : State) : Stance :=
  { mode := s.mode, start := s.start, receiving := fun p => s.ports[p].rx.isSome,
    staged := fun p => if s.mode = .enumerate then s.ports[p].staged else 0 }

/-- An update of any field but the mode, the start and the ports leaves the stance. -/
@[simp] theorem State.update_stance (s : State) (pending : List Instr) (regs pend : KMap Word) (holdRelease : Bool)
    (prev : Mode) (warm warmFlush held : Bool) (modeAt : Nat) (resume testFrom : Mode) (mpWaits : Nat) (pins : Pins)
    (timeBase : Tick) (tickFrac : Nat) (uptime : BitVec 48) (epoch : Nat) (evq : EvQueue) (flt : FaultNet)
    (ctxs : KMap Ctx) (ctxWin : CtxWin) (ingressPtr : Nat) (ledger : List LEntry) (nextId : Nat)
    (tags : KMap Tag) (caches : Vector (List CachedSet) 16) (fetches : List TagFetch) (lfsr : Vector (BitVec 32) 16)
    (lost : List (Option LostSet)) (pidx : List Nat) (allocs : List Alloc) (drain : KMap Nat) (drainFrom : Nat)
    (drainOpen : Bool) (retiring : List (Nat × Nat × Nat × Nat)) (retiredLog : List (Nat × Nat × Nat))
    (dram : KMap Line) (media : Media) (chs : Vector Channel 16) (quads : Vector Quad 4) (sram : Sram) (flash : Flash)
    (life : KMap Nat) (lifeAt : Nat) (zqQ : List Nat) (awlStep : Nat) (awlLfsr : Vector (BitVec 16) 9)
    (beam : KMap Word) (beamCtx : KMap (List Nat)) (beamClear : Bool) (clears : List Word)
    (tagCap : Option (Nat × Nat × Nat)) (pseqStaged : Option (Nat × Nat)) (tseqStaged : KMap Nat) (out : List Out)
    (freeCtr : Nat) :
    State.stance { s with
      pending := pending, regs := regs, pend := pend, holdRelease := holdRelease, prev := prev, warm := warm,
      warmFlush := warmFlush, held := held, modeAt := modeAt, resume := resume, testFrom := testFrom, mpWaits := mpWaits,
      pins := pins, timeBase := timeBase, tickFrac := tickFrac, uptime := uptime, epoch := epoch, evq := evq, flt := flt,
      ctxs := ctxs, ctxWin := ctxWin, ingressPtr := ingressPtr, ledger := ledger, nextId := nextId, tags := tags,
      caches := caches, fetches := fetches, lfsr := lfsr, lost := lost, pidx := pidx, allocs := allocs, drain := drain,
      drainFrom := drainFrom, drainOpen := drainOpen, retiring := retiring, retiredLog := retiredLog, dram := dram,
      media := media, chs := chs, quads := quads, sram := sram, flash := flash, life := life, lifeAt := lifeAt, zqQ := zqQ,
      awlStep := awlStep, awlLfsr := awlLfsr, beam := beam, beamCtx := beamCtx, beamClear := beamClear, clears := clears,
      tagCap := tagCap, pseqStaged := pseqStaged, tseqStaged := tseqStaged, out := out, freeCtr := freeCtr } = s.stance := rfl

/-- A fold keeps whatever each of its steps keeps. -/
theorem foldl_frame {α β : Type} (g : State → β) (f : State → α → State) (l : List α) (s : State)
    (h : ∀ u a, g (f u a) = g u) : g (l.foldl f s) = g s := by
  induction l generalizing s with
  | nil => rfl
  | cons a l ih => rw [List.foldl_cons, ih, h]

@[simp] theorem foldl_stance {α : Type} (f : State → α → State) (l : List α) (s : State)
    (h : ∀ u a, (f u a).stance = u.stance) : (l.foldl f s).stance = s.stance := foldl_frame State.stance f l s h

@[simp] theorem foldl_course {α : Type} (f : State → α → State) (l : List α) (s : State)
    (h : ∀ u a, (f u a).stance.toCourse = u.stance.toCourse) : (l.foldl f s).stance.toCourse = s.stance.toCourse :=
  foldl_frame (fun u => u.stance.toCourse) f l s h

@[simp] theorem ite_stance (c : Prop) [Decidable c] (s t : State) :
    (if c then s else t).stance = if c then s.stance else t.stance := apply_ite ..

@[simp] theorem ite_course (c : Prop) [Decidable c] (a b : Stance) :
    (if c then a else b).toCourse = if c then a.toCourse else b.toCourse := apply_ite ..

@[simp] theorem foldl_snd_stance {α β : Type} (f : β × State → α → β × State) (l : List α) (x : β × State)
    (h : ∀ y a, (f y a).2.stance = y.2.stance) : (l.foldl f x).2.stance = x.2.stance := by
  induction l generalizing x with
  | nil => rfl
  | cons a l ih => rw [List.foldl_cons, ih, h]

/-- Both branches of a choice keep the course. -/
theorem ite_course_eq {c : Prop} [Decidable c] {s t : State} {x : Course} (hs : s.stance.toCourse = x)
    (ht : t.stance.toCourse = x) : (if c then s else t).stance.toCourse = x := by
  split <;> assumption

/-- Outside ENUMERATE the course is the whole stance. -/
theorem stance_eq_of_course {s t : State} (h : t.stance.toCourse = s.stance.toCourse) (hm : s.mode ≠ .enumerate) :
    t.stance = s.stance := by
  have hmode : t.mode = s.mode := congrArg Course.mode h
  have hstaged (u : State) (hu : u.mode ≠ .enumerate) : u.stance.staged = fun _ => 0 := funext fun _ => if_neg hu
  calc t.stance
    _ = { toCourse := t.stance.toCourse, staged := t.stance.staged } := rfl
    _ = { toCourse := s.stance.toCourse, staged := s.stance.staged } := by
      rw [h, hstaged t (hmode ▸ hm), hstaged s hm]
    _ = s.stance := rfl

/-- A change of a port that neither begins nor ends a packet. -/
@[simp] theorem State.modPort_course (s : State) (p : PortId) (f : Port → Port) (h : ∀ q, (f q).rx.isSome = q.rx.isSome) :
    (s.modPort p f).stance.toCourse = s.stance.toCourse := by
  have hr : (fun q : PortId => (s.modPort p f).ports[q].rx.isSome) = fun q => s.ports[q].rx.isSome := funext fun q => by
    by_cases hq : q = p
    · subst hq
      rw [State.modPort_self, h]
    · rw [State.modPort_other _ _ _ _ hq]
  simp only [State.stance, hr, State.modPort_mode]
  rfl

/-! ### The basic updates -/

section
variable (s : State)

@[simp] theorem State.wr_stance (o : Nat) (w : Word) : (s.wr o w).stance = s.stance := by unfold State.wr; rfl
@[simp] theorem State.setFld_stance (f : Fld) (v i k : Nat) : (s.setFld f v i k).stance = s.stance := State.wr_stance ..
@[simp] theorem State.setFlag_stance (f : Fld) (b : Bool) (i k : Nat) : (s.setFlag f b i k).stance = s.stance :=
  State.setFld_stance ..
@[simp] theorem State.count_stance (r : RegDef) (n i k : Nat) : (s.count r n i k).stance = s.stance := State.wr_stance ..
@[simp] theorem State.count64_stance (a b : RegDef) (n i : Nat) : (s.count64 a b n i).stance = s.stance :=
  (State.wr_stance ..).trans (State.wr_stance ..)
@[simp] theorem State.event_stance (a b c : Nat) (x y : Word) : (s.event a b c x y).stance = s.stance := by
  unfold State.event; rfl
@[simp] theorem State.info_stance (a b : Nat) (x y : Word) : (s.info a b x y).stance = s.stance := State.event_stance ..
@[simp] theorem State.report_stance (n : Nat) (o : Option Nat) : (s.report n o).stance = s.stance := by
  unfold State.report; rfl
@[simp] theorem State.reject_stance (o : Nat) (v : Word) : (s.reject o v).stance = s.stance :=
  (State.info_stance ..).trans (State.count_stance ..)
@[simp] theorem State.modCh_stance (c : ChanId) (f : Channel → Channel) : (s.modCh c f).stance = s.stance := by
  unfold State.modCh; rfl
@[simp] theorem State.modCtx_stance (c : Nat) (f : Ctx → Ctx) : (s.modCtx c f).stance = s.stance := by
  unfold State.modCtx; rfl
@[simp] theorem State.modQuad_stance (q : Nat) (f : Quad → Quad) : (s.modQuad q f).stance = s.stance := by
  unfold State.modQuad; rfl
@[simp] theorem State.drive_stance (o : Out) : (s.drive o).stance = s.stance := by unfold State.drive; rfl
@[simp] theorem State.setTag_stance (c x w : Nat) (t : Tag) : (s.setTag c x w t).stance = s.stance := by
  unfold State.setTag; rfl
@[simp] theorem State.free_stance (w : Nat) : (s.free w).2.stance = s.stance := by unfold State.free; rfl
@[simp] theorem State.fresh_stance : s.fresh.2.stance = s.stance := by unfold State.fresh; rfl

end

/-! ### The full state (R195) -/

@[simp] theorem resumeCheck_stance (s : State) : (resumeCheck s).stance = s.stance := by
  simp [resumeCheck]

@[simp] theorem enterFull_stance (s : State) : (enterFull s).stance = s.stance := by
  simp [enterFull]

/-! ### Buffered values at their boundaries (R611 to R616) -/

@[simp] theorem loadLfsrs_stance (s : State) : (loadLfsrs s).stance = s.stance := by
  simp [loadLfsrs]

@[simp] theorem loadAwl_stance (s : State) : (loadAwl s).stance = s.stance := by
  simp [State.stance, loadAwl]

@[simp] theorem cutBuckets_stance (s : State) : (cutBuckets s).stance = s.stance := by
  simp [cutBuckets]

@[simp] theorem afterApply_stance (s : State) (off : Nat) : (afterApply s off).stance = s.stance := by
  simp [afterApply]

@[simp] theorem dropPend_stance (s : State) (off : Nat) : (dropPend s off).stance = s.stance := by
  simp [dropPend]

@[simp] theorem applyReg_stance (s : State) (off : Nat) : (applyReg s off).stance = s.stance := by
  unfold applyReg
  split <;> simp

@[simp] theorem mediaBoundary_stance (s : State) : (mediaBoundary s).stance = s.stance := by
  simp [mediaBoundary]

@[simp] theorem quadBoundary_stance (s : State) (q : Nat) : (quadBoundary s q).stance = s.stance := by
  simp [quadBoundary]

/-! ### Entries, accesses and the tag cache -/

@[simp] theorem addEntry_stance (s : State) (e : LEntry) : (addEntry s e).stance = s.stance := by
  simp [addEntry]

@[simp] theorem modEntry_stance (s : State) (idx : Nat) (f : LEntry → LEntry) : (modEntry s idx f).stance = s.stance := by
  simp [modEntry]

@[simp] theorem dropEntries_stance (s : State) (p : LEntry → Bool) : (dropEntries s p).stance = s.stance := by
  simp [dropEntries]

@[simp] theorem freqRefuse_stance (s : State) (c target code : Nat) : (freqRefuse s c target code).stance = s.stance := by
  simp [freqRefuse]

@[simp] theorem freqRetry_stance (s : State) (c : Nat) : (freqRetry s c).stance = s.stance := by
  simp [freqRetry]

@[simp] theorem wakeChannel_stance (s : State) (c : Nat) : (wakeChannel s c).stance = s.stance := by
  unfold wakeChannel
  split <;> simp

@[simp] theorem newJob_stance (s : State) (c : Nat) (why : JobFor) (write : Bool) (lines : List JobLine) (ctx : Nat)
    (deadline : Tick) (rights overdue : Bool) :
    (newJob s c why write lines ctx deadline rights overdue).2.stance = s.stance := by
  simp [newJob]

@[simp] theorem endJob_stance (s : State) (c id : Nat) : (endJob s c id).stance = s.stance := by
  simp [endJob]

@[simp] theorem withdrawJob_stance (s : State) (c id : Nat) : (withdrawJob s c id).stance = s.stance := by
  simp [withdrawJob]

@[simp] theorem touchSet_stance (s : State) (c set : Nat) : (touchSet s c set).stance = s.stance := by
  simp [touchSet]

@[simp] theorem takeTagEntries_stance (s : State) (kind : LKind) (c set id ctx : Nat) (deadline : Tick) :
    (takeTagEntries s kind c set id ctx deadline).stance = s.stance := by
  simp [takeTagEntries]

@[simp] theorem startFetch_stance (s : State) (c set ctx : Nat) (deadline : Tick) :
    (startFetch s c set ctx deadline).stance = s.stance := by
  simp [startFetch]

@[simp] theorem wantSet_stance (s : State) (c set ctx : Nat) (deadline : Tick) :
    (wantSet s c set ctx deadline).2.stance = s.stance := by
  unfold wantSet
  dsimp only
  split
  · simp
  · split <;> simp

theorem stance_of_wantSet {s t : State} {c set ctx : Nat} {d : Tick} {b : Bool} (h : wantSet s c set ctx d = (b, t)) :
    t.stance = s.stance := by
  rw [← wantSet_stance s c set ctx d, h]

@[simp] theorem startFetches_stance (s : State) : (startFetches s).stance = s.stance := by
  simp [startFetches]

@[simp] theorem putTag_stance (s : State) (c set way : Nat) (t : Tag) : (putTag s c set way t).stance = s.stance := by
  simp [putTag]

@[simp] theorem invalidate_stance (s : State) (c set way : Nat) (m : BitVec 64) :
    (invalidate s c set way m).stance = s.stance := by
  simp [invalidate]

@[simp] theorem putLine_stance (s : State) (c set way sector : Nat) (l : Line) :
    (putLine s c set way sector l).stance = s.stance := by
  simp [putLine]

/-! ### Ports: credits, completions, openings (R33 to R56) -/

@[simp] theorem returnHdr_course (s : State) (p : PortId) : (returnHdr s p).stance.toCourse = s.stance.toCourse := by
  simp [returnHdr]

@[simp] theorem returnData_course (s : State) (p : PortId) (n : Nat) :
    (returnData s p n).stance.toCourse = s.stance.toCourse := by
  simp [returnData]

@[simp] theorem freeStaging_course (s : State) (e : LEntry) : (freeStaging s e).stance.toCourse = s.stance.toCourse := by
  simp [freeStaging]

@[simp] theorem releaseEntry_course (s : State) (e : LEntry) : (releaseEntry s e).stance.toCourse = s.stance.toCourse := by
  unfold releaseEntry
  split <;> simp

@[simp] theorem releaseRequest_course (s : State) (rid : Nat) :
    (releaseRequest s rid).stance.toCourse = s.stance.toCourse := by
  simp [releaseRequest]

@[simp] theorem modReq_course (s : State) (p : PortId) (rid : Nat) (f : Req → Req) :
    (modReq s p rid f).stance.toCourse = s.stance.toCourse := by
  simp [modReq]

@[simp] theorem settlePort_course (s : State) (p : PortId) : (settlePort s p).stance.toCourse = s.stance.toCourse := by
  simp [settlePort]

@[simp] theorem finishTag_course (s : State) (p : PortId) (c : Completion) (late : Nat) :
    (finishTag s p c late).stance.toCourse = s.stance.toCourse := by
  unfold finishTag
  extract_lets
  split <;> simp +zetaDelta

@[simp] theorem sendOne_course (s : State) (p : PortId) (c : Completion) :
    (sendOne s p c).stance.toCourse = s.stance.toCourse := by
  simp [sendOne]

@[simp] theorem drainTx_course (n : Nat) (s : State) (p : PortId) :
    (drainTx n s p).stance.toCourse = s.stance.toCourse := by
  induction n generalizing s with
  | zero => rfl
  | succ n ih =>
    unfold drainTx
    split
    · rfl
    · simp [ih]

@[simp] theorem pushTx_course (s : State) (p : PortId) (c : Completion) :
    (pushTx s p c).stance.toCourse = s.stance.toCourse := by
  simp [pushTx]

@[simp] theorem finishReq_course (s : State) (p : PortId) (rid : Nat) (opcode : BitVec 8) (status : Nat)
    (operand : BitVec 64) :
    (finishReq s p rid opcode status operand).stance.toCourse = s.stance.toCourse := by
  unfold finishReq
  split <;> simp

@[simp] theorem failReq_course (s : State) (p : PortId) (rid status : Nat) :
    (failReq s p rid status).stance.toCourse = s.stance.toCourse := by
  unfold failReq
  split <;> simp

@[simp] theorem lineDone_course (s : State) (p : PortId) (rid : Nat) :
    (lineDone s p rid).stance.toCourse = s.stance.toCourse := by
  unfold lineDone
  extract_lets
  split <;> simp +zetaDelta

@[simp] theorem sendChunks_course (s : State) (p : PortId) (rid : Nat) :
    (sendChunks s p rid).stance.toCourse = s.stance.toCourse := by
  unfold sendChunks
  split
  · rfl
  · refine foldl_course _ _ _ fun u k => ?_
    split
    · rfl
    · extract_lets
      split
      · rfl
      · rw [pushTx_course, foldl_snd_stance _ _ _ (fun y l => by dsimp only; split <;> rfl), modReq_course]

@[simp] theorem openPort_course (s : State) (p : PortId) : (openPort s p).stance.toCourse = s.stance.toCourse := by
  simp [openPort]

@[simp] theorem updatePort_course (s : State) (p : PortId) : (updatePort s p).stance.toCourse = s.stance.toCourse := by
  unfold updatePort
  split <;> simp

@[simp] theorem abortPort_course (s : State) (p : PortId) : (abortPort s p).2.stance.toCourse = s.stance.toCourse := by
  simp [abortPort]

/-! ### The ledger's turns -/

@[simp] theorem holdEntry_stance (s : State) (e : LEntry) : (holdEntry s e).stance = s.stance := by
  simp [holdEntry]

@[simp] theorem startOffer_stance (s : State) (why : OfferFor) (dirty : Bool) (c set way : Nat) (smap : BitVec 64)
    (ctx : Nat) (deadline : Tick) (rights : Bool) :
    (startOffer s why dirty c set way smap ctx deadline rights).stance = s.stance := by
  simp [startOffer]

@[simp] theorem startClean_stance (s : State) (why : OfferFor) (c set way ctx : Nat) (deadline : Tick) (rights : Bool) :
    (startClean s why c set way ctx deadline rights).2.stance = s.stance := by
  unfold startClean
  extract_lets
  split <;> simp +zetaDelta

theorem stance_of_startClean {s t : State} {why : OfferFor} {c set way ctx : Nat} {d : Tick} {r b : Bool}
    (h : startClean s why c set way ctx d r = (b, t)) : t.stance = s.stance := by
  rw [← startClean_stance s why c set way ctx d r, h]

@[simp] theorem modOffer_stance (s : State) (id : Nat) (f : Offer → Offer) : (modOffer s id f).stance = s.stance := by
  simp [modOffer]

@[simp] theorem freeOfferEntries_stance (s : State) (id : Nat) : (freeOfferEntries s id).stance = s.stance := by
  simp [freeOfferEntries]

@[simp] theorem endOffer_stance (s : State) (id : Nat) (done : Bool) : (endOffer s id done).stance = s.stance := by
  simp [endOffer]

@[simp] theorem driveMedia_stance (s : State) (opcode : Nat) (flags : BitVec 8) (mtag page : Nat) (deadline : Tick)
    (smap pmap : BitVec 64) (dsect : Nat) (lines : List Line) :
    (driveMedia s opcode flags mtag page deadline smap pmap dsect lines).stance = s.stance := by
  simp [driveMedia]

@[simp] theorem withdrawOffer_stance (s : State) (o : Offer) : (withdrawOffer s o).stance = s.stance := by
  unfold withdrawOffer
  split <;> simp

@[simp] theorem modAlloc_stance (s : State) (id : Nat) (f : Alloc → Alloc) : (modAlloc s id f).stance = s.stance := by
  simp [modAlloc]

@[simp] theorem endAlloc_stance (s : State) (id : Nat) : (endAlloc s id).stance = s.stance := by
  simp [endAlloc]

@[simp] theorem chooseWay_stance (s : State) (c set : Nat) : (chooseWay s c set).2.stance = s.stance := by
  unfold chooseWay
  dsimp only
  repeat' split
  all_goals simp

@[simp] theorem chooseVictim_stance (s : State) (a : Alloc) : (chooseVictim s a).stance = s.stance := by
  have hway {w : Option Nat} {t : State} (h : chooseWay s a.ch a.set = (w, t)) : t.stance = s.stance := by
    rw [← chooseWay_stance s a.ch a.set, h]
  unfold chooseVictim
  split
  · simp
  · split
    · next h => simp [hway h]
    · next h => simp [hway h]

@[simp] theorem startAlloc_stance (s : State) (c set page ctx : Nat) (deadline : Tick) (byWrite : Bool) :
    (startAlloc s c set page ctx deadline byWrite).2.stance = s.stance := by
  simp [startAlloc]

@[simp] theorem takeFillEntries_stance (s : State) (id c set page ctx : Nat) (deadline : Tick) (l : List Nat)
    (m : BitVec 64) (nar : Bool) :
    (takeFillEntries s id c set page ctx deadline l m nar).2.2.stance = s.stance := by
  induction l generalizing s m nar with
  | nil => rfl
  | cons x xs ih =>
    unfold takeFillEntries
    dsimp only
    split <;> simp [ih]

@[simp] theorem startFill_stance (s : State) (c set page : Nat) (demand : BitVec 64) (g : Nat) (valid : BitVec 64)
    (ctx : Nat) (deadline : Tick) (way alloc : Option Nat) (noInstall spec : Bool) :
    (startFill s c set page demand g valid ctx deadline way alloc noInstall spec).2.stance = s.stance := by
  simp [startFill]

@[simp] theorem modFill_stance (s : State) (id : Nat) (f : Fill → Fill) : (modFill s id f).stance = s.stance := by
  simp [modFill]

@[simp] theorem deliver_stance (s : State) (idx : Nat) (l : Line) (bad : Bool) :
    (deliver s idx l bad).stance = s.stance := by
  simp [deliver]

@[simp] theorem attach_stance (s : State) (es : List LEntry) (id : Nat) : (attach s es id).stance = s.stance := by
  simp [attach]

@[simp] theorem mediaRead_stance (s : State) (e : LEntry) : (mediaRead s e).stance = s.stance := by
  simp [mediaRead]

@[simp] theorem hostAccess_stance (s : State) (e : LEntry) (way : Nat) (write : Bool) :
    (hostAccess s e way write).stance = s.stance := by
  simp [hostAccess]

@[simp] theorem readLookup_course (s : State) (e : LEntry) : (readLookup s e).stance.toCourse = s.stance.toCourse := by
  unfold readLookup
  refine ite_course_eq (by simp) (ite_course_eq (by simp) ?_)
  split
  · next h => simp [stance_of_wantSet h]
  · next t h =>
    rw [← stance_of_wantSet h]
    refine ite_course_eq (ite_course_eq ?_ (ite_course_eq (by simp) (by simp))) ?_
    · split <;> simp
    · split
      · dsimp only
        split <;> simp
      · split
        · exact ite_course_eq (ite_course_eq (by simp) (by simp)) (ite_course_eq (by simp) (by simp))
        · refine ite_course_eq (by simp) (ite_course_eq (by simp) ?_)
          dsimp only
          split <;> simp

@[simp] theorem readReady_course (s : State) (e : LEntry) (v : Line × Bool) :
    (readReady s e v).stance.toCourse = s.stance.toCourse := by
  unfold readReady
  split <;> simp

@[simp] theorem turnRead_course (s : State) (e : LEntry) : (turnRead s e).stance.toCourse = s.stance.toCourse := by
  unfold turnRead
  repeat' split
  all_goals simp

@[simp] theorem judge_stance (s : State) (e : LEntry) : (judge s e).stance = s.stance := by
  unfold judge
  dsimp only
  repeat' split
  all_goals simp

@[simp] theorem finishLine_course (s : State) (e : LEntry) : (finishLine s e).stance.toCourse = s.stance.toCourse := by
  unfold finishLine
  dsimp only
  split
  · simp
  · split <;> simp

@[simp] theorem queueThrough_stance (s : State) (e : LEntry) : (queueThrough s e).stance = s.stance := by
  simp [queueThrough]

@[simp] theorem skipFill_stance (s : State) (page sector : Nat) : (skipFill s page sector).stance = s.stance := by
  simp [skipFill]

@[simp] theorem placeWrite_course (s : State) (e : LEntry) : (placeWrite s e).stance.toCourse = s.stance.toCourse := by
  unfold placeWrite
  refine ite_course_eq (by simp) (ite_course_eq rfl ?_)
  split
  · next h => rw [stance_of_wantSet h]
  · next t h =>
    rw [← stance_of_wantSet h]
    refine ite_course_eq (ite_course_eq ?_ (by simp)) ?_
    · split <;> simp
    · dsimp only
      split
      · simp
      · split <;> simp

@[simp] theorem markRewritten_stance (s : State) (page sector idx : Nat) :
    (markRewritten s page sector idx).stance = s.stance := by
  simp [markRewritten]

@[simp] theorem settleWrite_course (s : State) (e : LEntry) (way : Nat) :
    (settleWrite s e way).stance.toCourse = s.stance.toCourse := by
  unfold settleWrite
  split
  · next h => rw [stance_of_wantSet h]
  · next h => simp [stance_of_wantSet h]

@[simp] theorem makeResult_course (s : State) (e : LEntry) (base : Line × Bool) :
    (makeResult s e base).stance.toCourse = s.stance.toCourse := by
  unfold makeResult
  dsimp only
  repeat' split
  all_goals simp

@[simp] theorem seekBase_course (s : State) (e : LEntry) : (seekBase s e).stance.toCourse = s.stance.toCourse := by
  unfold seekBase
  repeat' split
  all_goals simp

@[simp] theorem turnWrite_course (s : State) (e : LEntry) : (turnWrite s e).stance.toCourse = s.stance.toCourse := by
  unfold turnWrite
  extract_lets a b c d g
  have ha : a.stance.toCourse = s.stance.toCourse := by unfold a; split <;> simp
  have hb : b.stance.toCourse = a.stance.toCourse := by
    unfold b
    split
    · split <;> simp
    · rfl
  have hc : c.stance.toCourse = b.stance.toCourse := by
    unfold c
    split
    · extract_lets u
      have hu : u.stance.toCourse = b.stance.toCourse := by unfold u; split <;> simp
      rw [← hu]
      split
      · split <;> simp
      · rfl
    · rfl
  have hd : d.stance.toCourse = c.stance.toCourse := by
    unfold d
    split
    · split <;> simp
    · rfl
  have hg : g.stance = d.stance := State.count_stance ..
  rw [← ha, ← hb, ← hc, ← hd]
  split
  · rfl
  · split
    case h_3 | h_4 | h_5 => simp [hg]
    · simp
    · simp
    · split <;> simp
    · simp

@[simp] theorem endLine_course (s : State) (e : LEntry) : (endLine s e).stance.toCourse = s.stance.toCourse := by
  unfold endLine
  split <;> simp

@[simp] theorem turnFlush_course (s : State) (e : LEntry) : (turnFlush s e).stance.toCourse = s.stance.toCourse := by
  unfold turnFlush
  split
  · simp
  · rfl
  · refine ite_course_eq (by simp) (ite_course_eq (by simp) (ite_course_eq (by simp) (ite_course_eq (by simp) ?_)))
    split
    · next h => simp [stance_of_wantSet h]
    · next t h =>
      rw [← stance_of_wantSet h]
      split
      · simp
      · refine ite_course_eq (by simp) (ite_course_eq (by simp) (ite_course_eq (by simp) ?_))
        split
        · next h => rw [stance_of_startClean h]
        · next h =>
          rw [← stance_of_startClean h]
          split <;> simp

@[simp] theorem turnDrop_course (s : State) (e : LEntry) : (turnDrop s e).stance.toCourse = s.stance.toCourse := by
  unfold turnDrop
  refine ite_course_eq (by simp) (ite_course_eq (by simp) (ite_course_eq (by simp) (ite_course_eq (by simp) ?_)))
  split
  · next h => simp [stance_of_wantSet h]
  · next h => split <;> simp [stance_of_wantSet h]

@[simp] theorem prefetchDone_course (s : State) (e : LEntry) : (prefetchDone s e).stance.toCourse = s.stance.toCourse := by
  unfold prefetchDone
  repeat' split
  all_goals simp

@[simp] theorem turnPrefetch_course (s : State) (e : LEntry) : (turnPrefetch s e).stance.toCourse = s.stance.toCourse := by
  unfold turnPrefetch
  split
  case h_1 | h_2 =>
    split
    · simp
    · dsimp only
      split
      · simp
      · split
        · next h => simp [stance_of_wantSet h]
        · next t h =>
          rw [← prefetchDone_course s e, ← stance_of_wantSet h]
          refine ite_course_eq (by simp) (ite_course_eq (by simp) ?_)
          split <;> simp
  · simp
  · simp

@[simp] theorem turnBarrier_course (s : State) (e : LEntry) : (turnBarrier s e).stance.toCourse = s.stance.toCourse := by
  unfold turnBarrier
  split <;> simp

@[simp] theorem turnEntry_course (s : State) (idx : Nat) : (turnEntry s idx).stance.toCourse = s.stance.toCourse := by
  unfold turnEntry
  split
  · rfl
  · simp only [ite_stance, ite_course]
    split
    · simp
    · split <;> simp

@[simp] theorem turnAlloc_stance (s : State) (id : Nat) : (turnAlloc s id).stance = s.stance := by
  unfold turnAlloc
  split
  · rfl
  · dsimp only
    split
    · split <;> simp
    · split
      · rfl
      · split
        · split <;> rfl
        · split
          · next h => exact stance_of_wantSet h
          · next h => simp [stance_of_wantSet h]

@[simp] theorem endFill_stance (s : State) (id : Nat) : (endFill s id).stance = s.stance := by
  simp [endFill]

@[simp] theorem turnFill_stance (s : State) (id : Nat) : (turnFill s id).stance = s.stance := by
  unfold turnFill
  split
  · rfl
  · split
    · split <;> simp
    · split
      · rfl
      · split
        · rfl
        · extract_lets t new u
          split
          · simp
          · have hu : u.stance = s.stance := by
              unfold u
              split
              · rfl
              · split
                · next h => exact stance_of_wantSet h
                · next h => simp [stance_of_wantSet h]
            split
            · rfl
            · rw [← hu]
              split
              · rfl
              · dsimp only
                split
                · rfl
                · split <;> simp

@[simp] theorem lateClean_stance (s : State) (k : Nat) : (lateClean s k).stance = s.stance := by
  simp [lateClean]

@[simp] theorem lateCleans_stance (s : State) : (lateCleans s).stance = s.stance := by
  simp [lateCleans]

@[simp] theorem drainCheck_stance (s : State) : (drainCheck s).stance = s.stance := by
  simp [drainCheck]

/-! ### The media port -/

@[simp] theorem takeSlot_stance (s : State) : (takeSlot s).2.2.stance = s.stance := by
  simp [takeSlot]

@[simp] theorem modWt_stance (s : State) (id : Nat) (f : WriteThru → WriteThru) : (modWt s id f).stance = s.stance := by
  simp [modWt]

@[simp] theorem sendFills_stance (s : State) : (sendFills s).stance = s.stance := by
  simp [sendFills]

@[simp] theorem sendOffers_stance (s : State) : (sendOffers s).stance = s.stance := by
  simp [sendOffers]

@[simp] theorem readyThroughs_stance (s : State) : (readyThroughs s).stance = s.stance := by
  simp [readyThroughs]

@[simp] theorem mediaPump_stance (s : State) : (mediaPump s).stance = s.stance := by
  simp [mediaPump]

@[simp] theorem cutXfer_stance (s : State) : (cutXfer s).stance = s.stance := by
  simp [cutXfer]

@[simp] theorem startResync_stance (s : State) : (startResync s).stance = s.stance := by
  simp [startResync]

@[simp] theorem sendHoldupStart_stance (s : State) : (sendHoldupStart s).stance = s.stance := by
  simp [sendHoldupStart]

@[simp] theorem flushStaged_stance (s : State) : (flushStaged s).stance = s.stance := by
  unfold flushStaged
  refine (foldl_stance _ _ _ fun u e => ?_).trans (foldl_stance _ _ _ fun u e => modEntry_stance ..)
  split
  · rfl
  · split <;> simp

@[simp] theorem flushFrames_stance (s : State) : (flushFrames s).stance = s.stance := by
  refine foldl_stance _ _ _ fun u k => ?_
  dsimp only
  split
  · rfl
  · split <;> simp

@[simp] theorem flushConvert_stance (s : State) : (flushConvert s).stance = s.stance := by
  simp [flushConvert]

/-! ### Channels and the collector -/

@[simp] theorem lifeUp_stance (s : State) (k n : Nat) : (lifeUp s k n).stance = s.stance := by
  simp [lifeUp]

@[simp] theorem queueLog_stance (s : State) (kind : Nat) (body : List Nat) : (queueLog s kind body).stance = s.stance := by
  simp [queueLog]

@[simp] theorem setChSt_stance (s : State) (c : Nat) (st : ChSt) (why : Nat) : (setChSt s c st why).stance = s.stance := by
  simp [setChSt]

@[simp] theorem setFreeze_stance (s : State) (c : Nat) (v : Bool) : (setFreeze s c v).stance = s.stance := by
  simp [setFreeze]

@[simp] theorem beginFence_stance (s : State) (c why : Nat) : (beginFence s c why).stance = s.stance := by
  simp [beginFence]

@[simp] theorem orderlyFence_stance (s : State) (c why : Nat) : (orderlyFence s c why).stance = s.stance := by
  unfold orderlyFence
  split <;> simp

@[simp] theorem dropAccesses_stance (s : State) (c : Nat) (all : Bool) : (dropAccesses s c all).stance = s.stance := by
  simp [dropAccesses]

@[simp] theorem writeBackTags_stance (s : State) (c : Nat) : (writeBackTags s c).stance = s.stance := by
  simp [writeBackTags]

@[simp] theorem fenceTurn_stance (s : State) (c : Nat) : (fenceTurn s c).stance = s.stance := by
  simp [fenceTurn]

@[simp] theorem pendTurn_stance (s : State) (c : Nat) : (pendTurn s c).stance = s.stance := by
  simp [pendTurn]

@[simp] theorem startSr_stance (s : State) (c : Nat) (why : SrWhy) : (startSr s c why).stance = s.stance := by
  simp [startSr]

@[simp] theorem retainAll_stance (s : State) (why : SrWhy) : (retainAll s why).stance = s.stance := by
  simp [retainAll]

@[simp] theorem noteStart_stance (s : State) : (noteStart s).stance = s.stance := by
  simp [noteStart]

@[simp] theorem cutBurn_stance (s : State) : (cutBurn s).stance = s.stance := by
  unfold cutBurn
  split <;> simp

@[simp] theorem abandonImages_stance (s : State) : (abandonImages s).stance = s.stance := by
  simp [abandonImages]

@[simp] theorem safePort_course (s : State) (p : PortId) : (safePort s p).stance.toCourse = s.stance.toCourse := by
  simp [safePort]

@[simp] theorem safeChannel_stance (s : State) (c : Nat) : (safeChannel s c).stance = s.stance := by
  simp [safeChannel]

@[simp] theorem setSrcBit_stance (s : State) (f : Fld) (src : Nat) (v : Bool) :
    (setSrcBit s f src v).stance = s.stance := by
  simp [setSrcBit]

@[simp] theorem bookError_stance (s : State) (src : Nat) (broken : Bool) : (bookError s src broken).stance = s.stance := by
  unfold bookError
  split <;> simp

/-! ### Hold-up (R249, R455) -/

@[simp] theorem abortUnstaged_course (plain : Bool) (s : State) (p : PortId) :
    (abortUnstaged plain s p).stance.toCourse = s.stance.toCourse := by
  simp [abortUnstaged]

@[simp] theorem flushStart_stance (s : State) : (flushStart s).stance = s.stance := by
  unfold flushStart
  split <;> simp

@[simp] theorem bgtAbandon_stance (s : State) : (bgtAbandon s).stance = s.stance := by
  unfold bgtAbandon
  split <;> simp

@[simp] theorem holdupStops_stance (s : State) : (holdupStops s).stance = s.stance := by
  simp [holdupStops]

@[simp] theorem holdupTurn_stance (s : State) : (holdupTurn s).stance = s.stance := by
  unfold holdupTurn
  split <;> simp

/-! ### The log's writer -/

@[simp] theorem programAt_stance (s : State) (a : Nat) (l : List (BitVec 8)) : (programAt s a l).stance = s.stance := by
  simp [programAt]

@[simp] theorem eraseAt_stance (s : State) (a n : Nat) : (eraseAt s a n).stance = s.stance := by
  simp [eraseAt]

@[simp] theorem writeIntent_stance (s : State) (bytes : List (BitVec 8)) : (writeIntent s bytes).stance = s.stance := by
  simp [writeIntent]

@[simp] theorem writeBase_stance (s : State) (kind copy seq isq : Nat) (content : KMap Nat) :
    (writeBase s kind copy seq isq content).2.stance = s.stance := by
  simp [writeBase]

@[simp] theorem writeEntry_stance (s : State) (kind copy page isq : Nat) (runs : List (Nat × List Nat)) :
    (writeEntry s kind copy page isq runs).2.stance = s.stance := by
  simp [writeEntry]

@[simp] theorem beginUpdate_stance (s : State) (kind : Nat) (runs : List (Nat × List Nat)) :
    (beginUpdate s kind runs).stance = s.stance := by
  unfold beginUpdate
  dsimp only
  split <;> simp

@[simp] theorem logTurn_stance (s : State) : (logTurn s).stance = s.stance := by
  unfold logTurn
  dsimp only
  split
  · simp
  · split <;> simp

/-! ### Self-refresh exits -/

@[simp] theorem setDebt_stance (s : State) (c k v : Nat) : (setDebt s c k v).stance = s.stance := by
  simp [setDebt]

@[simp] theorem exited_stance (s : State) (c : Nat) : (exited s c).stance = s.stance := by
  simp [exited]

/-! ### The sideband, training and power -/

@[simp] theorem sbNext_stance (s : State) (q : Nat) : (sbNext s q).stance = s.stance := by
  unfold sbNext
  extract_lets
  split <;> simp +zetaDelta

@[simp] theorem sbQueue_stance (s : State) (q : Nat) (t : SbTxn) : (sbQueue s q t).stance = s.stance := by
  simp [sbQueue]

@[simp] theorem readSpd_stance (s : State) (c : Nat) : (readSpd s c).stance = s.stance := by
  simp [readSpd]

@[simp] theorem pmicPower_stance (s : State) (c : Nat) (on : Bool) : (pmicPower s c on).stance = s.stance := by
  simp [pmicPower]

@[simp] theorem setTempLimit_stance (s : State) (c : Nat) : (setTempLimit s c).stance = s.stance := by
  simp [setTempLimit]

@[simp] theorem putTimings_stance (s : State) (c : Nat) (ws : List Nat) : (putTimings s c ws).stance = s.stance := by
  simp [putTimings]

@[simp] theorem loadTimings_stance (s : State) (c sp : Nat) : (loadTimings s c sp).stance = s.stance := by
  unfold loadTimings
  split <;> simp

@[simp] theorem spareBooks_stance (s : State) (c : Nat) : (spareBooks s c).stance = s.stance := by
  simp [spareBooks]

@[simp] theorem putSpare_stance (s : State) (c k lane : Nat) : (putSpare s c k lane).stance = s.stance := by
  simp [putSpare]

@[simp] theorem storedSpares_stance (s : State) : (storedSpares s).stance = s.stance := by
  refine foldl_stance _ _ _ fun u e => ?_
  dsimp only
  split
  · rfl
  · split <;> simp

@[simp] theorem showTraining_stance (s : State) (c phase : Nat) (gather : Bool) (sp : Nat) :
    (showTraining s c phase gather sp).stance = s.stance := by
  simp [showTraining]

@[simp] theorem startTraining_stance (s : State) (c sp : Nat) : (startTraining s c sp).stance = s.stance := by
  simp [startTraining]

@[simp] theorem imgBooks_stance (s : State) : (imgBooks s).stance = s.stance := by
  simp [imgBooks]

@[simp] theorem switchTseq_stance (s : State) (c : Nat) : (switchTseq s c).stance = s.stance := by
  unfold switchTseq
  dsimp only
  split
  · simp
  · split <;> simp

@[simp] theorem trainPoint_stance (s : State) (c : Nat) : (trainPoint s c).2.stance = s.stance := by
  unfold trainPoint
  extract_lets
  split <;> simp +zetaDelta

@[simp] theorem newModule_stance (s : State) (c d serial : Nat) : (newModule s c d serial).stance = s.stance := by
  simp [newModule]

@[simp] theorem applyJournal_stance (s : State) (c : Nat) : (applyJournal s c).stance = s.stance := by
  simp [applyJournal]

@[simp] theorem beginTraining_stance (s : State) (c : Nat) : (beginTraining s c).stance = s.stance := by
  simp [beginTraining]

@[simp] theorem prepTurn_stance (s : State) (c : Nat) : (prepTurn s c).stance = s.stance := by
  simp [prepTurn]

@[simp] theorem applyKept_course (s : State) (c : Nat) : (applyKept s c).stance.toCourse = s.stance.toCourse := by
  refine foldl_course _ _ _ fun u e => ?_
  rw [releaseEntry_course, State.setTag_stance, putLine_stance]

@[simp] theorem leaveRetrain_stance (s : State) (c : Nat) : (leaveRetrain s c).stance = s.stance := by
  unfold leaveRetrain
  extract_lets u v w x
  have hu : u.stance = s.stance := State.modCh_stance ..
  have hx : x.stance = u.stance := by simp [x, w, v]
  have hkept : (if u.mode = .plain then applyKept u c else u).stance = u.stance := by
    split
    · next hp => exact stance_eq_of_course (applyKept_course ..) (by simp [hp])
    · rfl
  split
  · split
    · rw [State.modCh_stance, hx, hu]
    · rw [setChSt_stance, hkept, hu]
  · rfl

@[simp] theorem powerOff_stance (s : State) (c : Nat) : (powerOff s c).stance = s.stance := by
  unfold powerOff
  extract_lets pins u v w x
  have hw : w.stance = s.stance := by simp [w, v, u]
  have hx : x.stance = w.stance := by
    unfold x
    split
    · next hp => exact stance_eq_of_course (by simp) (by simp [hp])
    · rfl
  exact hx.trans hw

@[simp] theorem powerOn_stance (s : State) (c : Nat) : (powerOn s c).stance = s.stance := by
  simp [powerOn]

/-! ### Repairs, way retirement and the repair policy -/

@[simp] theorem retireRefuse_stance (s : State) (c set way why : Nat) :
    (retireRefuse s c set way why).stance = s.stance := by
  simp [retireRefuse]

@[simp] theorem retireWay_stance (s : State) (c set way : Nat) : (retireWay s c set way).stance = s.stance := by
  simp [retireWay]

@[simp] theorem setRetireStep_stance (s : State) (c set way step : Nat) :
    (setRetireStep s c set way step).stance = s.stance := by
  simp [setRetireStep]

@[simp] theorem retireClean_stance (s : State) (c set way : Nat) : (retireClean s c set way).stance = s.stance := by
  simp [retireClean]

@[simp] theorem retireTurn_stance (s : State) (r : Nat × Nat × Nat × Nat) : (retireTurn s r).stance = s.stance := by
  obtain ⟨c, set, way, step⟩ := r
  dsimp only [retireTurn]
  split
  · split
    · next h => exact stance_of_wantSet h
    · next h => simp [stance_of_wantSet h]
  · split
    · simp
    · split <;> simp
  · split <;> simp
  · rfl

@[simp] theorem retirePass_stance (s : State) : (retirePass s).stance = s.stance := by
  simp [retirePass]

@[simp] theorem wayLogged_stance (s : State) (c set way : Nat) : (wayLogged s c set way).stance = s.stance := by
  simp [wayLogged]

@[simp] theorem pprNone_stance (s : State) (c : Nat) (l : Loc) (why : Nat) : (pprNone s c l why).stance = s.stance := by
  simp [pprNone]

@[simp] theorem startPpr_stance (s : State) (c : Nat) (l : Loc) : (startPpr s c l).stance = s.stance := by
  simp [startPpr]

@[simp] theorem pprJob_stance (s : State) (c : Nat) (l : Loc) (write : Bool) : (pprJob s c l write).stance = s.stance := by
  simp [pprJob]

@[simp] theorem pprTurn_stance (s : State) (c : Nat) : (pprTurn s c).stance = s.stance := by
  unfold pprTurn
  dsimp only
  repeat' split
  all_goals simp

@[simp] theorem usePpr_stance (s : State) (c : Nat) (l : Loc) : (usePpr s c l).stance = s.stance := by
  simp [usePpr]

@[simp] theorem pprLogged_stance (s : State) (c : Nat) (l : Loc) (hard : Bool) :
    (pprLogged s c l hard).stance = s.stance := by
  simp [pprLogged]

@[simp] theorem hardenTurn_stance (s : State) (c : Nat) : (hardenTurn s c).stance = s.stance := by
  unfold hardenTurn
  dsimp only
  split
  · simp
  · split <;> simp

@[simp] theorem countRetrain_stance (s : State) (c : Nat) : (countRetrain s c).stance = s.stance := by
  simp [countRetrain]

@[simp] theorem enterRetrain_stance (s : State) (c why : Nat) : (enterRetrain s c why).stance = s.stance := by
  simp [enterRetrain]

@[simp] theorem enterReturn_stance (s : State) (c why : Nat) : (enterReturn s c why).stance = s.stance := by
  simp [enterReturn]

@[simp] theorem enterRetired_stance (s : State) (c why : Nat) : (enterRetired s c why).stance = s.stance := by
  simp [enterRetired]

@[simp] theorem planTurn_stance (s : State) (c : Nat) : (planTurn s c).stance = s.stance := by
  simp [planTurn]

@[simp] theorem recordDone_stance (s : State) (r : LogRec) : (recordDone s r).stance = s.stance := by
  unfold recordDone
  repeat' split
  all_goals simp

@[simp] theorem logPass_stance (s : State) : (logPass s).stance = s.stance := by
  unfold logPass
  dsimp only
  split
  · simp
  · split <;> simp

@[simp] theorem returnTurn_stance (s : State) (c : Nat) : (returnTurn s c).stance = s.stance := by
  simp [returnTurn]

/-! ### SRAM group copies -/

@[simp] theorem copyTurn_stance (s : State) : (copyTurn s).stance = s.stance := by
  unfold copyTurn
  split <;> simp

/-! ### The start -/

@[simp] theorem prepChannel_stance (s : State) (c : Nat) : (prepChannel s c).stance = s.stance := by
  simp [prepChannel]

/-! ### The turns of a mode -/

@[simp] theorem ledgerPass_course (s : State) : (ledgerPass s).stance.toCourse = s.stance.toCourse := by
  simp [ledgerPass]

@[simp] theorem throughPass_stance (s : State) : (throughPass s).stance = s.stance := by
  refine foldl_stance _ _ _ fun u e => ?_
  split
  · split <;> simp
  · rfl

@[simp] theorem imageTurn_stance (s : State) (c : Nat) : (imageTurn s c).stance = s.stance := by
  simp [imageTurn]

@[simp] theorem channelPass_stance (s : State) : (channelPass s).stance = s.stance := by
  simp [channelPass]

end Sys2Proof.Machine

end

/-! SUPPORT. Packets of the Welt ports: payload lines and end marks (R22, R24, R43, R705). -/

section

namespace Sys2Proof.Machine

variable {s : State} {p : PortId}

/-! ### A payload line (R24, R43) -/

/-- What a payload line's arrival fixes: the port's data-line credits and staging lines, its packet's count of lines, the
other ports, the stores of lines and tags, and the media port. -/
structure LineView where
  credits : Nat
  staged : Nat
  lines : Option Nat
  others : PortId → Option Port
  dram : KMap Line
  tags : KMap Tag
  media : Media

/-- The view of a state from port `p`. -/
def State.lineView (s : State) (p : PortId) : LineView :=
  { credits := s.ports[p].dFab, staged := s.ports[p].staged, lines := s.ports[p].rx.map (fun x => x.lines),
    others := fun q => if q = p then none else some s.ports[q], dram := s.dram, tags := s.tags, media := s.media }

theorem lineView_modPort (f : Port → Port)
    (h : ∀ q, (f q).dFab = q.dFab ∧ (f q).staged = q.staged
      ∧ (f q).rx.map (fun x => x.lines) = q.rx.map (fun x => x.lines)) :
    (s.modPort p f).lineView p = s.lineView p := by
  obtain ⟨hd, hs, hl⟩ := h s.ports[p]
  have ho : (fun q => if q = p then none else some (s.modPort p f).ports[q])
      = fun q => if q = p then none else some s.ports[q] := funext fun q => by
    split
    · rfl
    · next hq => rw [State.modPort_other _ _ _ _ hq]
  unfold State.lineView
  rw [State.modPort_self, hd, hs, hl, ho]
  simp only [State.modPort_dram, State.modPort_tags, State.modPort_media]

@[simp] theorem lineView_modReq (rid : Nat) (f : Req → Req) : (modReq s p rid f).lineView p = s.lineView p :=
  lineView_modPort _ fun _ => ⟨rfl, rfl, rfl⟩

@[simp] theorem lineView_modEntry (i : Nat) (f : LEntry → LEntry) : (modEntry s i f).lineView p = s.lineView p := rfl

@[simp] theorem lineView_wr (o : Nat) (w : Word) : (s.wr o w).lineView p = s.lineView p := by
  simp [State.lineView]

@[simp] theorem lineView_count64 (a b : RegDef) (n i : Nat) : (s.count64 a b n i).lineView p = s.lineView p :=
  (lineView_wr ..).trans (lineView_wr ..)

@[simp] theorem lineView_info (a b : Nat) (x y : Word) : (s.info a b x y).lineView p = s.lineView p := by
  simp [State.lineView]

@[simp] theorem lineView_lastErr (tag : BitVec 16) (op : BitVec 8) (kind : Nat) :
    (lastErr s p tag op kind).lineView p = s.lineView p := by
  simp [lastErr, State.lineView]

@[simp] theorem lineView_setFlag (f : Fld) (b : Bool) (i k : Nat) : (s.setFlag f b i k).lineView p = s.lineView p :=
  lineView_wr ..

@[simp] theorem lineView_count (r : RegDef) (n i k : Nat) : (s.count r n i k).lineView p = s.lineView p := lineView_wr ..

@[simp] theorem ite_lineView (c : Prop) [Decidable c] (s t : State) :
    (if c then s else t).lineView p = if c then s.lineView p else t.lineView p := apply_ite (State.lineView · p) ..

/-- A line of a packet that is being discarded holds its staging line until the end mark. -/
@[simp] theorem lineView_hold :
    (s.modPort p (fun q => { q with rx := q.rx.map (fun x => { x with held := x.held + 1 }) })).lineView p = s.lineView p :=
  lineView_modPort _ fun q => ⟨rfl, rfl, by cases q.rx <;> rfl⟩

/-- A line has arrived: its credit is spent, its staging line taken, its packet counts it. -/
def lineArrived (s : State) (p : PortId) (x : Rx) : State :=
  s.modPort p (fun q => { q with dFab := q.dFab - 1, staged := q.staged + 1, rx := some { x with lines := x.lines + 1 } })

/-- Whatever becomes of the line (its packet is discarded, its request has ended or counts enough lines, or it joins its
request before or after admission), the view is that of its arrival. -/
theorem takeLine_view {x : Rx} (hx : s.ports[p].rx = some x) (hd : s.ports[p].dFab ≠ 0) (data : Line) (crc : BitVec 32) :
    (takeLine s p data crc).lineView p = (lineArrived s p x).lineView p := by
  unfold takeLine
  rw [hx]
  dsimp only
  rw [if_neg hd]
  split
  · simp [lineArrived]
  · split
    · simp [lineArrived]
    · simp only [ite_lineView]
      split
      · simp [lineArrived]
      · split
        · split <;> simp [lineArrived]
        · simp [lineArrived]

/-- The port's part of the view after a line's arrival. -/
theorem lineArrived_port (s : State) (p : PortId) (x : Rx) : (lineArrived s p x).ports[p] =
    { s.ports[p] with dFab := s.ports[p].dFab - 1, staged := s.ports[p].staged + 1,
                      rx := some { x with lines := x.lines + 1 } } := State.modPort_self ..

/-- Equal views show equal other ports. -/
theorem otherPorts_of_lineView {t u : State} (h : t.lineView p = u.lineView p) : OtherPorts u t p := fun q hq => by
  simpa [State.lineView, hq] using congrFun (congrArg LineView.others h) q

/-! ### An end mark (R705) -/

@[simp] theorem recordMalformed_stance (s : State) (p : PortId) (tag : BitVec 16) (op : BitVec 8) (len lines : Nat) :
    (recordMalformed s p tag op len lines).stance = s.stance := by
  simp [recordMalformed, lastErr]

@[simp] theorem portBoundary_stance (s : State) (p : PortId) : (portBoundary s p).stance = s.stance := by
  simp [portBoundary]

/-- Nothing that happens at a packet boundary begins a packet. -/
theorem portEdge_course (s : State) (p : PortId) : (portEdge s p).stance.toCourse = s.stance.toCourse := by
  simp [portEdge]

theorem receiving_eq_false : s.stance.receiving p = false ↔ s.ports[p].rx = none := by
  simp [State.stance]

/-- The packet in progress is gone, whatever its end brings about. -/
theorem endPacket_receiving (s : State) (p : PortId) : (endPacket s p).stance.receiving p = false := by
  unfold endPacket
  split
  · next h => exact receiving_eq_false.2 h
  · extract_lets u v w m
    have hu : u.stance.receiving p = false := receiving_eq_false.2 (by rw [State.modPort_self])
    have hw : w.stance.toCourse = u.stance.toCourse := by simp [w, v]
    have hend (t : State) (ht : t.stance.toCourse = w.stance.toCourse) : t.stance.receiving p = false := by
      rw [ht, hw, hu]
    split
    · exact hend w rfl
    · split
      · exact hend w rfl
      · have hmal : m.stance.toCourse = w.stance.toCourse := congrArg _ (recordMalformed_stance ..)
        exact hend _ (ite_course_eq rfl (ite_course_eq (by simp) (by rw [failReq_course, hmal])))

theorem opEndMark_rx (hm : s.mode ≠ .reset) : (opEndMark s p).ports[p].rx = none := by
  rw [← receiving_eq_false, opEndMark, if_neg hm, portEdge_course, endPacket_receiving]

end Sys2Proof.Machine

end

/-! SUPPORT. Completion credits of the Welt ports (R45, R46, R52, R675). -/

section

namespace Sys2Proof.Machine

variable {s : State} {p : PortId} {n : Nat}

/-- The port's enable, the mode in force and its advertisement let it be OPEN (R52). -/
theorem mayOpen_iff : mayOpen s p = true
    ↔ s.flag Fld.wpCtlEnable p.val = true ∧ s.modeNow.serves = true ∧ 65 ≤ s.ports[p].adv.getD 0 := by
  simp [mayOpen, and_assoc]

theorem openPort_self (s : State) (p : PortId) : (openPort s p).ports[p] =
    { s.ports[p] with st := .opened, hPort := 0, hFab := 2048,
                      dFab := s.fld Fld.wpDcredLimit p.val - s.ports[p].staged, dOver := 0 } := by
  simp [openPort, State.modPort]

theorem openPort_other (s : State) (p : PortId) : OtherPorts s (openPort s p) p := fun q hq => by
  rw [openPort, State.modPort_other _ _ _ _ hq, State.setFld_ports]

theorem updatePort_of_closed (h : s.ports[p].st = .closed) :
    updatePort s p = if mayOpen s p then openPort s p else s := by
  rw [updatePort, h]

/-- No completion waits, so the returned credits stay on hand. -/
theorem opCreditReturn_eq (hm : s.mode ≠ .reset) (ha : s.ports[p].adv.isSome = true) (hq : s.ports[p].txq = []) :
    opCreditReturn s p n = s.modPort p (fun q => { q with cAvail := q.cAvail + n, cOut := q.cOut - n }) := by
  have hadv : s.ports[p].adv.isNone = false := by simpa [Option.isSome_iff_ne_none] using ha
  simp [opCreditReturn, hm, hadv, hq, drainTx, -Fin.getElem_fin, -Option.isNone_eq_false_iff]

/-- An advertisement of `n` completion credits in the port's book (R46). -/
def advertised (s : State) (p : PortId) (n : Nat) : State :=
  s.modPort p (fun q => { q with adv := some n, cAvail := n, cOut := 0 })

theorem advertised_self (s : State) (p : PortId) (n : Nat) :
    (advertised s p n).ports[p] = { s.ports[p] with adv := some n, cAvail := n, cOut := 0 } := State.modPort_self ..

theorem advertised_other (s : State) (p : PortId) (n : Nat) : OtherPorts s (advertised s p n) p := fun _ hq =>
  State.modPort_other _ _ _ _ hq

theorem mayOpen_advertised (hn : 65 ≤ n) :
    mayOpen (advertised s p n) p = true ↔ s.flag Fld.wpCtlEnable p.val = true ∧ s.modeNow.serves = true := by
  rw [mayOpen_iff, advertised_self]
  simp [advertised, State.modeNow, hn]

theorem opAdvertise_enough (hm : s.mode ≠ .reset) (hc : s.ports[p].st = .closed) (hn : 65 ≤ n) :
    opAdvertise s p n = if mayOpen (advertised s p n) p then openPort (advertised s p n) p else advertised s p n := by
  rw [← updatePort_of_closed (by rw [advertised_self, hc])]
  simp [opAdvertise, hm, hc, Nat.not_lt.2 hn, advertised, -Fin.getElem_fin]

theorem opAdvertise_short (hm : s.mode ≠ .reset) (hc : s.ports[p].st = .closed) (hn : n < 65) :
    opAdvertise s p n
      = (s.setFlag Fld.wpHistCredit true p.val).eventOf Ev.wpCredit (Src.port p.val) p.val (dw p.val) (dw n) := by
  simp [opAdvertise, hm, hc, hn, -Fin.getElem_fin]

end Sys2Proof.Machine

end

/-! SUPPORT. What follows from a command (log entry 2) frees no staging line in ENUMERATE once the start is over. -/

section

namespace Sys2Proof.Machine

@[simp] theorem setMode_course (s : State) (m : Mode) :
    (setMode s m).stance.toCourse = { s.stance.toCourse with mode := m } := by
  simp [setMode, State.stance]

@[simp] theorem enterMode_course (s : State) (m : Mode) :
    (enterMode s m).stance.toCourse = { s.stance.toCourse with mode := m } := by
  simp [enterMode]

@[simp] theorem backToSafe_course (s : State) :
    (backToSafe s).stance.toCourse = { s.stance.toCourse with mode := .safe } := by
  simp [backToSafe]

@[simp] theorem enterSafe_course (s : State) :
    (enterSafe s).stance.toCourse = { s.stance.toCourse with mode := .safe } := by
  simp [enterSafe]

theorem enterSafe_mode (s : State) : (enterSafe s).stance.mode ≠ .enumerate := by simp

/-- A change of the start's step. -/
@[simp] theorem State.update_start_course (s : State) (b : StartStep) :
    ({ s with start := b } : State).stance.toCourse = { s.stance.toCourse with start := b } := rfl

/-! ### ENUMERATE with the start over -/

/-- ENUMERATE with the start over, and `n` staging lines held by port `q`. A start that enters ENUMERATE has steps to come. -/
def Stance.lingers (a : Stance) (q : PortId) (n : Nat) : Prop :=
  a.mode = .enumerate ∧ a.start = .running ∧ a.staged q = n

variable {s : State} {q : PortId} {n : Nat}

theorem not_lingers_of_mode {a : Stance} (h : a.mode ≠ .enumerate) : ¬a.lingers q n := fun hl => h hl.1

theorem not_lingers_of_start {a : Stance} (h : a.start ≠ .running) : ¬a.lingers q n := fun hl => h hl.2.1

theorem lingers_of_foldl {α : Type} {f : State → α → State}
    (hf : ∀ u a, (f u a).stance.lingers q n → u.stance.lingers q n) (l : List α)
    (h : (l.foldl f s).stance.lingers q n) : s.stance.lingers q n := by
  induction l generalizing s with
  | nil => exact h
  | cons a l ih => exact hf s a (ih h)

theorem beginHoldup_mode (s : State) : (beginHoldup s).stance.mode = .holdup := by
  have hstop : (holdupStops (enterMode s .holdup)).stance.mode = .holdup := by simp
  unfold beginHoldup
  dsimp only
  split
  case h_6 =>
    rw [retainAll_stance]
    exact hstop
  all_goals simp

theorem beginLoad_mode (s : State) : (beginLoad s).stance.mode = .load := by
  simp [beginLoad]

theorem beginTrain_mode (s : State) : (beginTrain s).stance.mode = .train := by
  simp [beginTrain]

/-- The end of RESET begins a start or a hold-up. -/
theorem not_lingers_endReset (s : State) : ¬(endReset s).stance.lingers q n := by
  unfold endReset
  split
  · exact not_lingers_of_mode (by simp [beginHoldup_mode])
  · dsimp only
    split
    · exact not_lingers_of_mode (by simp [beginLoad_mode])
    · exact not_lingers_of_start (by simp)

theorem closeTraining_start (s : State) : (closeTraining s).stance.start = .enter := rfl

theorem lingers_of_startTurn (h : (startTurn s).stance.lingers q n) : s.stance.lingers q n := by
  unfold startTurn at h
  split at h
  · split at h
    · exact absurd h (not_lingers_of_start (by simp))
    · exact h
  · split at h
    · exact absurd h (not_lingers_endReset s)
    · exact h
  · split at h
    · exact absurd h (not_lingers_of_start (by simp [closeTraining_start]))
    · exact h
  · exact h

theorem warmReset_mode (s : State) : (warmReset s).stance.mode = .reset := by
  simp [warmReset, State.stance, cleared]

theorem lingers_of_quiesceTurn (h : (quiesceTurn s).stance.lingers q n) : s.stance.lingers q n := by
  unfold quiesceTurn at h
  split at h
  · exact absurd h (not_lingers_of_mode (by simp [warmReset_mode]))
  · exact h

/-- Mode and start alone. -/
def Course.phase (a : Course) : Mode × StartStep := (a.mode, a.start)

theorem not_lingers_of_phase {a : Stance} (h : a.phase ≠ (.enumerate, .running)) : ¬a.lingers q n := fun hl =>
  h (Prod.ext hl.1 hl.2.1)

@[simp] theorem State.modPort_phase (s : State) (p : PortId) (f : Port → Port) :
    (s.modPort p f).stance.phase = s.stance.phase := rfl

/-- A resynchronisation ends packets, and moves neither mode nor start. -/
theorem resyncPort_phase (s : State) (p : PortId) (k : Nat) : (resyncPort s p k).stance.phase = s.stance.phase := by
  unfold resyncPort
  dsimp only
  split <;> simp

/-- RECOVER ends in the mode that SAFE was entered from: a start's mode begins again, and no other is ENUMERATE. -/
theorem not_lingers_recoverEnd (s : State) : ¬(recoverEnd s).stance.lingers q n := by
  unfold recoverEnd
  extract_lets m pins flt c d e f g back ports told logged
  clear_value m
  have hback : back.stance.phase ≠ (.enumerate, .running) := by
    unfold back
    split
    · split
      · simp [Course.phase, beginLoad_mode]
      · simp [Course.phase, g]
    · simp [Course.phase, beginLoad_mode]
    · simp [Course.phase, beginTrain_mode]
    · next h _ _ => exact fun hp => h (by simpa [Course.phase] using congrArg Prod.fst hp)
  have hports : ports.stance.phase = back.stance.phase :=
    foldl_frame (fun u => u.stance.phase) _ _ _ fun u p => by
      split
      · rfl
      · exact resyncPort_phase ..
  split
  · exact not_lingers_of_mode (by simp [beginHoldup_mode])
  · have hlogged : logged.stance = ports.stance := by simp [logged, told]
    exact not_lingers_of_phase (by rwa [hlogged, hports])

theorem lingers_of_recoverTurn (h : (recoverTurn s).stance.lingers q n) : s.stance.lingers q n := by
  unfold recoverTurn at h
  split at h
  · exact absurd h (not_lingers_recoverEnd s)
  · exact h

/-- The collector's reaction to an error is SAFE, or leaves the stance. -/
theorem lingers_of_blockReact {src : Nat} {b : Bool} (h : (blockReact s src b).stance.lingers q n) :
    s.stance.lingers q n := by
  unfold blockReact at h
  dsimp only at h
  split at h
  · simpa using h
  · split at h
    · exact absurd h (not_lingers_of_mode (by simp))
    · simpa using h
  · simpa using h
  · split at h
    · exact absurd h (not_lingers_of_mode (by rw [State.update_stance]; exact enterSafe_mode _))
    · simpa using h

theorem lingers_of_collectOne (src : Nat) (h : (collectOne s src).stance.lingers q n) : s.stance.lingers q n := by
  unfold collectOne at h
  split at h
  · exact h
  · simpa using lingers_of_blockReact h

theorem lingers_of_collectAll (h : (collectAll s).stance.lingers q n) : s.stance.lingers q n := by
  unfold collectAll at h
  have hl := lingers_of_foldl (fun u (e : Nat × Option Nat) => lingers_of_collectOne (s := u) e.1) _ h
  simpa using hl

/-- The ledger's turns run in the serving modes and TEST, never in ENUMERATE. -/
theorem ledgerPass_stance (hr : ledgerRuns s = true) : (ledgerPass s).stance = s.stance :=
  stance_eq_of_course (ledgerPass_course s) fun hm => by simp [ledgerRuns, hm] at hr

theorem ite_ledgerPass_stance (s : State) :
    (if ledgerRuns s then (ledgerPass s).stance else s.stance) = s.stance := by
  split
  · next hr => exact ledgerPass_stance hr
  · rfl

theorem lingers_of_turn (h : (turn s).stance.lingers q n) : s.stance.lingers q n := by
  unfold turn at h
  split at h
  · exact lingers_of_startTurn h
  · simpa using lingers_of_quiesceTurn h
  · simpa using lingers_of_quiesceTurn h
  · simpa [ite_ledgerPass_stance] using lingers_of_quiesceTurn h
  · simpa [ite_ledgerPass_stance] using lingers_of_startTurn (lingers_of_quiesceTurn (lingers_of_recoverTurn h))

/-- What follows from a command neither leads into the state nor frees a staging line in it. -/
theorem lingers_of_settle (h : (settle s).stance.lingers q n) : s.stance.lingers q n := by
  have round {u : State} (hu : (collectAll (turn u)).stance.lingers q n) : u.stance.lingers q n :=
    lingers_of_turn (lingers_of_collectAll hu)
  exact lingers_of_collectAll (round (round (round h)))

end Sys2Proof.Machine

end

/-! SUPPORT. A state in which a refused request frees a staging line of another port. -/

section

namespace Sys2Proof.Machine

/-- A staged line of port 1 under the number that the next request gets. -/
def strayEntry : LEntry :=
  { idx := 0, kind := .wr, st := .staged, pool := .host, ctx := 5, port := 1, deadline := 0, key := .none, rid := some 0,
    stg := some (0, false) }

/-- ENUMERATE with the start over, a header credit of port 0 at the fabric, one staging line of port 1 held, and the stray
entry. The statement's premises number the requests of the ports (`State.numbered`), not the entries of the ledger. -/
def strayState : State :=
  { State.reset with
    mode := .enumerate, start := .running, ledger := [strayEntry]
    ports := (State.reset.ports.set 0 { hFab := 1 }).set 1 { staged := 1 } }

/-- A request header without an opcode of R26. -/
def strayHeader : BitVec 256 := Header.pack
  { opcode := 0, flags := 0, context := 5, tag := 7, length := 1, cls := 0, budget := 100, address := 64, operand := 0 }

theorem strayState_packetStart :
    (packetStart strayState 0).mode = .enumerate ∧ (packetStart strayState 0).modeNow = .enumerate
    ∧ (packetStart strayState 0).ports[(0 : PortId)].hFab = 1 ∧ (packetStart strayState 0).ports[(1 : PortId)].staged = 1
    ∧ ∀ p : PortId, (packetStart strayState 0).ports[p].reqs = [] := by
  decide +kernel

theorem strayHeader_malformed : hcrcOk strayHeader = true ∧ (Header.parse strayHeader).malformed = true := by decide +kernel

theorem stray_settles :
    (settle (opHeader strayState 0 strayHeader)).mode = .enumerate
      ∧ (settle (opHeader strayState 0 strayHeader)).start = .running
      ∧ (settle (opHeader strayState 0 strayHeader)).ports[(1 : PortId)].staged = 0 := by
  decide +kernel

end Sys2Proof.Machine

end

/-! SUPPORT. The statements about request packets, payload lines and credits. -/

section

open Sys2Proof Sys2Proof.Machine

/-- Refutes O5, by its clause `OtherPorts`: nothing is assumed of the ledger, so an entry may stand under the number that the
refused request is given. Its release frees a staging line of another port, and no state with that port untouched settles to
the same end: in ENUMERATE with the start over, what follows from a command (log entry 2) frees no staging line. -/
theorem not_requestTurnedAway : ¬Obligations.RequestTurnedAway := by
  rintro ⟨h, -⟩
  obtain ⟨hmode, hnow, hfab, hstaged, hreqs⟩ := strayState_packetStart
  obtain ⟨hcrc, hbad⟩ := strayHeader_malformed
  have noReqs {p : PortId} {r : Req} (hr : r ∈ (packetStart strayState 0).ports[p].reqs) : False := by
    rw [hreqs p] at hr
    exact List.not_mem_nil hr
  obtain ⟨t, hexec, -, -, -, -, hother⟩ := h .rd (List.mem_cons_self ..) 0 strayHeader strayState Status.aborted
    (by decide) hcrc (by rw [hfab]; decide) (fun _ hr => (noReqs hr).elim)
    ⟨by rw [hmode]; decide, by rw [hnow]; decide, .inl ⟨hbad, rfl⟩⟩ (fun _ _ hr => (noReqs hr).elim)
  have hsettle : settle (opHeader strayState 0 strayHeader) = settle t := Host.Outcome.next.inj hexec
  have hend := stray_settles
  rw [hsettle] at hend
  obtain ⟨hm, hs, hn⟩ := hend
  obtain ⟨htm, -, htn⟩ := lingers_of_settle (s := t) ⟨hm, hs, (if_pos hm).trans hn⟩
  have hzero : t.ports[(1 : PortId)].staged = 0 := (if_pos htm).symm.trans htn
  rw [hother 1 (by decide), hstaged] at hzero
  exact absurd hzero (by decide)

/-- Settles O7: the view that a payload line fixes is that of its arrival (R24, R43), and an end mark ends the packet before
anything that follows from it (R705). -/
theorem payloadLinesAndEndMarks : Obligations.PayloadLinesAndEndMarks := by
  refine ⟨fun p data crc s x hm hx hd => ⟨opPayload s p data crc, rfl, ?_⟩,
    fun p s hm => ⟨opEndMark s p, rfl, opEndMark_rx hm⟩⟩
  have hview : (opPayload s p data crc).lineView p = (lineArrived s p x).lineView p := by
    rw [opPayload, if_neg hm, takeLine_view hx hd]
  have hport := lineArrived_port s p x
  refine ⟨(congrArg LineView.credits hview).trans ?_, (congrArg LineView.staged hview).trans ?_,
    (congrArg LineView.lines hview).trans ?_, fun q hq => ?_, congrArg LineView.dram hview, congrArg LineView.tags hview,
    congrArg LineView.media hview⟩
  · exact congrArg Port.dFab hport
  · exact congrArg Port.staged hport
  · exact congrArg (fun y : Port => y.rx.map (fun x => x.lines)) hport
  · exact (otherPorts_of_lineView hview q hq).trans (State.modPort_other _ _ _ _ hq)

/-- Settles O8: each of the three events is one update of the port's book (R45, R46), and an advertisement is followed by the
opening that R52 lets the port have. -/
theorem completionCredits : Obligations.CompletionCredits := by
  refine ⟨fun p n s hm ha hq => ?_, fun p n s hm hc hn => ?_, fun p n s hm hc hn hr => ?_⟩
  · refine ⟨opCreditReturn s p n, rfl, ?_⟩
    rw [opCreditReturn_eq hm ha hq]
    exact ⟨State.modPort_self .., fun q hne => State.modPort_other _ _ _ _ hne, rfl⟩
  · refine ⟨opAdvertise s p n, rfl, ?_⟩
    rw [opAdvertise_enough hm hc hn, ← mayOpen_advertised (p := p) hn]
    split
    · next ho =>
      simp only [openPort_self, advertised_self, ho, true_and]
      exact fun q hne => (openPort_other _ p q hne).trans (advertised_other s p n q hne)
    · next hcl =>
      simpa only [advertised_self, hc, hcl, true_and, reduceCtorEq] using advertised_other s p n
  · refine ⟨opAdvertise s p n, rfl, ?_⟩
    rw [opAdvertise_short hm hc hn]
    refine ⟨by simp, ?_, fun o ho => ?_⟩
    · rw [State.flag_eventOf]
      exact State.flag_setFlag hr Fld.wpHistCredit rfl (by decide)
    · rw [State.rd_eventOf]
      exact (WordsKept.of_regs rfl).setFlag hr _ _ _ _ (List.mem_singleton_self _) o ho

end

/-! SUPPORT. The order of deadlines (R74), and words written one after another. -/

section

namespace Sys2Proof.Machine

/-! ### Deadlines (R74) -/

/-- The two distances between deadlines add up to 0 modulo 2^24. -/
theorem tickDistance_swap (a b : Tick) : (a - b).toNat = (2 ^ 24 - (b - a).toNat) % 2 ^ 24 := by
  simp only [BitVec.toNat_sub]
  omega

theorem precedes_iff (a b : Tick) : precedes a b = true ↔ 1 ≤ (b - a).toNat ∧ (b - a).toNat < 2 ^ 23 := by
  simp [precedes]

/-! ### Words and tables -/

variable {s t : State}

/-- In a state whose tables are canonical, the contexts are. -/
theorem State.wf_ctxs_rising (h : s.wf = true) : kRising s.ctxs = true := by
  have hk : kWf (fun _ => ({} : Ctx)) s.ctxs = true := by
    simp only [State.wf, Bool.and_eq_true] at h
    tauto
  exact (kRising_iff _).2 ((kWf_iff _ _).1 hk).1

theorem WordsKept.wr {l : List Nat} (h : WordsKept s t l) (hr : kRising t.regs = true) (o : Nat) (w : Word) (hm : o ∈ l) :
    WordsKept s (t.wr o w) l := fun j hj => by
  have hne : o ≠ j := fun e => hj (e ▸ hm)
  rw [State.rd_wr t hr, if_neg hne, h j hj]

theorem OnlyWords.setFlag (hr : kRising s.regs = true) (f : Fld) (b : Bool) (i k : Nat) :
    OnlyWords s (s.setFlag f b i k) [f.reg.at i k] :=
  ⟨rfl, (WordsKept.of_regs rfl).setFlag hr f b i k (List.mem_singleton_self _)⟩

/-- A row of words written one after another at different offsets. -/
def State.wrRow (s : State) (off : Nat → Nat) (g : Nat → Word) (n : Nat) : State :=
  (List.range n).foldl (fun u i => u.wr (off i) (g i)) s

theorem State.wrRow_succ (s : State) (off : Nat → Nat) (g : Nat → Word) (n : Nat) :
    s.wrRow off g (n + 1) = (s.wrRow off g n).wr (off n) (g n) := by
  simp [State.wrRow, List.range_succ]

theorem State.wrRow_rising (hr : kRising s.regs = true) (off : Nat → Nat) (g : Nat → Word) (n : Nat) :
    kRising (s.wrRow off g n).regs = true := by
  induction n with
  | zero => exact hr
  | succ n ih =>
    rw [State.wrRow_succ]
    exact State.wr_rising _ ih _ _

theorem State.rd_wrRow (hr : kRising s.regs = true) {off : Nat → Nat} (hoff : Function.Injective off) (g : Nat → Word)
    {n i : Nat} (hi : i < n) : (s.wrRow off g n).rd (off i) = g i := by
  induction n with
  | zero => omega
  | succ n ih =>
    rw [State.wrRow_succ, State.rd_wr _ (State.wrRow_rising hr ..)]
    split
    · next h => rw [hoff h]
    · next h =>
      have hne : i ≠ n := fun e => h (e ▸ rfl)
      exact ih (by omega)

theorem State.wrRow_frame (s : State) (off : Nat → Nat) (g : Nat → Word) (n : Nat) (r : KMap Word) :
    { s.wrRow off g n with regs := r } = { s with regs := r } := by
  induction n with
  | zero => rfl
  | succ n ih =>
    rw [State.wrRow_succ]
    exact ih

/-- A channel's own number names it. -/
@[simp] theorem chan_val (c : ChanId) : chan c.val = c := Fin.ext (Nat.mod_eq_of_lt c.isLt)

@[simp] theorem State.ch_val (s : State) (c : ChanId) : s.ch c.val = s.chs[c] :=
  congrArg (fun d : ChanId => s.chs[d]) (chan_val c)

end Sys2Proof.Machine

end

/-! SUPPORT. The statement about the order of deadlines. -/

section

open Sys2Proof Sys2Proof.Machine

/-- Settles O42: the two distances between different deadlines add up to 2^24 (R74). -/
theorem deadlineOrder : Obligations.DeadlineOrder := by
  intro a b d
  have hlt : d < 2 ^ 24 := (b - a).isLt
  have hswap : (a - b).toNat = (2 ^ 24 - d) % 2 ^ 24 := tickDistance_swap a b
  simp only [← Bool.not_eq_true, precedes_iff, hswap]
  change (1 ≤ d ∧ d < 2 ^ 23 ↔ _) ∧ (¬(1 ≤ d ∧ d < 2 ^ 23) ∧ _ ↔ _)
  omega

end

/-! SUPPORT. The freezes of the arbiters (R89 to R91). -/

section

namespace Sys2Proof.Machine

variable {s : State}

theorem opFreeze_eq (hm : s.mode ≠ .reset) (c : Nat) (v : Bool) :
    opFreeze s c v = s.setFlag Fld.chArbCtlFreeze v c := by
  simp [opFreeze, hm]

theorem opMpFreeze_eq (hm : s.mode ≠ .reset) (v : Bool) : opMpFreeze s v = s.setFlag Fld.mpArbCtlFreeze v := by
  simp [opMpFreeze, hm]

theorem opFreezeData_release (hm : s.mode ≠ .reset) (c : ChanId) :
    opFreezeData s c false = s.setFlag Fld.chArbCtlFreezeData false c := by
  simp [opFreezeData, hm]

/-- Every grant decided and not begun is withdrawn, and counted as a dead slot (R89). -/
theorem opFreezeData_freeze (hm : s.mode ≠ .reset) (c : ChanId) :
    opFreezeData s c true = ((s.setFlag Fld.chArbCtlFreezeData true c).count Reg.chCntDead s.chs[c].busNext.length c).modCh c
      (fun q => { q with busNext := [] }) := by
  simp [opFreezeData, hm]

theorem opFreezeData_flag (hm : s.mode ≠ .reset) (hr : kRising s.regs = true) (c : ChanId) (v : Bool) :
    (opFreezeData s c v).flag Fld.chArbCtlFreezeData c = v := by
  have hset : (s.setFlag Fld.chArbCtlFreezeData v c).flag Fld.chArbCtlFreezeData c = v :=
    State.flag_setFlag hr _ rfl (by decide)
  have hreg : Reg.chCntDead.at c ≠ Fld.chArbCtlFreezeData.reg.at c := by
    simp [RegDef.at, Reg.chCntDead, Fld.chArbCtlFreezeData, Reg.chArbCtl]
  cases v with
  | false => rw [opFreezeData_release hm, hset]
  | true =>
    rw [opFreezeData_freeze hm, State.flag_modCh, State.flag_count_other (State.setFlag_rising hr ..) _ _ _ _ _ _ _ hreg, hset]

/-- Beside its own words, the freeze moves the grants of its channel alone. -/
theorem opFreezeData_frame (hm : s.mode ≠ .reset) (c : ChanId) (v : Bool) :
    OtherChannels s (opFreezeData s c v) c ∧ { opFreezeData s c v with regs := s.regs, chs := s.chs } = s := by
  cases v with
  | false =>
    rw [opFreezeData_release hm]
    exact ⟨fun d _ => by rw [State.setFlag_chs], rfl⟩
  | true =>
    rw [opFreezeData_freeze hm]
    exact ⟨fun d hd => by rw [State.modCh_other _ _ _ _ hd, State.count_chs, State.setFlag_chs], rfl⟩

end Sys2Proof.Machine

end

/-! SUPPORT. The statement about the freezes. -/

section

open Sys2Proof Sys2Proof.Machine

/-- Settles O12: a freeze is one flag, and that of a data-bus arbiter also empties its channel's list of grants (R89). -/
theorem freezeBits : Obligations.FreezeBits := by
  refine ⟨fun c v s hm hr => ?_, fun c v s hm hr => ?_, fun v s hm hr => ?_⟩
  · refine ⟨opFreeze s c v, rfl, ?_⟩
    rw [opFreeze_eq hm]
    exact ⟨State.flag_setFlag hr _ rfl (by decide), OnlyWords.setFlag hr ..⟩
  · refine ⟨opFreezeData s c v, rfl, opFreezeData_flag hm hr c v, ?_, ?_, opFreezeData_frame hm c v⟩
    · rintro rfl
      rw [opFreezeData_freeze hm, State.modCh_self]
    · rintro rfl
      rw [opFreezeData_release hm, State.setFlag_chs]
  · refine ⟨opMpFreeze s v, rfl, ?_⟩
    rw [opMpFreeze_eq hm]
    exact ⟨State.flag_setFlag hr _ rfl (by decide), OnlyWords.setFlag hr ..⟩

end

/-! SUPPORT. The context window (R62, R68 to R70, R102) and the throttle's buckets (R94 to R96). -/

section

namespace Sys2Proof.Machine

variable {s : State}

/-! ### The window (R68, R69) -/

/-- The words of the window with context `n` selected (R68). -/
def ctxShown (s : State) (n : Nat) : State :=
  (((s.setFld Fld.ctxSelContext n).wr Reg.ctxCfg.at (s.ctx n).cfg).wr Reg.ctxBudget.at (s.ctx n).budget).wr Reg.ctxThr.at
    (dw (s.ctx n).step)

theorem ctxShown_rising (hr : kRising s.regs = true) (n : Nat) : kRising (ctxShown s n).regs = true :=
  State.wr_rising _ (State.wr_rising _ (State.wr_rising _ (State.setFld_rising s hr ..) ..) ..) ..

/-- Every word after a selection: the four of the window, and the others. -/
theorem rd_ctxShown (hr : kRising s.regs = true) (n o : Nat) : (ctxShown s n).rd o =
    if Reg.ctxThr.at = o then dw (s.ctx n).step else if Reg.ctxBudget.at = o then (s.ctx n).budget
    else if Reg.ctxCfg.at = o then (s.ctx n).cfg
    else if Reg.ctxSel.at = o then putBits (s.rd Reg.ctxSel.at) 0 12 n else s.rd o := by
  have h1 := State.setFld_rising s hr Fld.ctxSelContext n 0 0
  have h2 := State.wr_rising _ h1 Reg.ctxCfg.at (s.ctx n).cfg
  have h3 := State.wr_rising _ h2 Reg.ctxBudget.at (s.ctx n).budget
  rw [ctxShown, State.rd_wr _ h3, State.rd_wr _ h2, State.rd_wr _ h1, State.rd_setFld s hr]
  rfl

/-- A selection leaves the mode of the capture. -/
theorem eyeletMode_ctxShown (hr : kRising s.regs = true) (n : Nat) : eyeletMode (ctxShown s n) = eyeletMode s := by
  have hrd : (ctxShown s n).rd Reg.lastStatus.at = s.rd Reg.lastStatus.at := by
    rw [rd_ctxShown hr, if_neg (by decide), if_neg (by decide), if_neg (by decide), if_neg (by decide)]
  exact congrArg (fun w => getBits w 3 1 == 1) hrd

theorem opCtxSel_eq (hm : s.mode ≠ .reset) (hr : kRising s.regs = true) (w : Word) :
    opCtxSel s w = { (ctxShown s (w.toNat % 4096)).setFlag Fld.ctxStatusCaptured (!eyeletMode s) with
      ctxWin := { thrWritten := false, captured := if eyeletMode s then (s.ctx (w.toNat % 4096)).counters else [] } } := by
  rw [← eyeletMode_ctxShown hr (w.toNat % 4096), opCtxSel, if_neg hm]
  rfl

/-- A word outside CTX_STATUS after a selection. -/
theorem rd_opCtxSel (hm : s.mode ≠ .reset) (hr : kRising s.regs = true) (w : Word) {o : Nat} (ho : Reg.ctxStatus.at ≠ o) :
    (opCtxSel s w).rd o = (ctxShown s (w.toNat % 4096)).rd o := by
  rw [opCtxSel_eq hm hr]
  exact (State.rd_setFld _ (ctxShown_rising hr _) ..).trans (if_neg ho)

/-- The window's words name the selected context and show its applied entry. -/
theorem opCtxSel_words (hm : s.mode ≠ .reset) (hr : kRising s.regs = true) (w : Word) :
    (opCtxSel s w).fld Fld.ctxSelContext = w.toNat % 4096 ∧ (opCtxSel s w).rd Reg.ctxCfg.at = (s.ctx (w.toNat % 4096)).cfg
      ∧ (opCtxSel s w).rd Reg.ctxBudget.at = (s.ctx (w.toNat % 4096)).budget
      ∧ (opCtxSel s w).rd Reg.ctxThr.at = dw (s.ctx (w.toNat % 4096)).step := by
  have word {o : Nat} (ho : Reg.ctxStatus.at ≠ o) := (rd_opCtxSel hm hr w ho).trans (rd_ctxShown hr _ o)
  refine ⟨?_, (word (by decide)).trans rfl, (word (by decide)).trans rfl, (word (by decide)).trans rfl⟩
  have hsel : (opCtxSel s w).rd Reg.ctxSel.at = putBits (s.rd Reg.ctxSel.at) 0 12 (w.toNat % 4096) :=
    (word (by decide)).trans rfl
  calc (opCtxSel s w).fld Fld.ctxSelContext
    _ = getBits ((opCtxSel s w).rd Reg.ctxSel.at) 0 12 := rfl
    _ = w.toNat % 4096 % 2 ^ 12 := by rw [hsel, getBits_putBits _ _ _ _ (by decide)]
    _ = w.toNat % 4096 := Nat.mod_mod ..

theorem opCtxSel_captured (hm : s.mode ≠ .reset) (hr : kRising s.regs = true) (w : Word) :
    (opCtxSel s w).flag Fld.ctxStatusCaptured = !eyeletMode s := by
  rw [opCtxSel_eq hm hr]
  exact State.flag_setFlag (ctxShown_rising hr _) Fld.ctxStatusCaptured rfl (by decide)

/-- No word but the window's moves at a selection. -/
theorem opCtxSel_wordsKept (hm : s.mode ≠ .reset) (hr : kRising s.regs = true) (w : Word) :
    WordsKept s (opCtxSel s w) [Reg.ctxSel.at, Reg.ctxCfg.at, Reg.ctxBudget.at, Reg.ctxThr.at, Reg.ctxStatus.at] := by
  intro o ho
  simp only [List.mem_cons, List.not_mem_nil, or_false, not_or] at ho
  obtain ⟨hsel, hcfg, hbud, hthr, hst⟩ := ho
  rw [rd_opCtxSel hm hr w (Ne.symm hst), rd_ctxShown hr, if_neg (Ne.symm hthr), if_neg (Ne.symm hbud), if_neg (Ne.symm hcfg),
    if_neg (Ne.symm hsel)]

theorem opCtxCaptured_eq (hm : s.mode ≠ .reset) (he : eyeletMode s = true) (hc : s.ctxWin.captured ≠ []) :
    opCtxCaptured s = s.setFlag Fld.ctxStatusCaptured true := by
  simp [opCtxCaptured, hm, he, hc]

/-! ### The commands of the window (R62, R70, R102) -/

theorem opCtxWrite_eq (hm : s.mode ≠ .reset) (hn : selCtx s ≠ 0) :
    opCtxWrite s = s.modCtx (selCtx s) (fun c => { c with pend := some (s.rd Reg.ctxCfg.at, s.rd Reg.ctxBudget.at,
      if s.ctxWin.thrWritten then some (s.fld Fld.ctxThrStep) else none) }) := by
  simp [opCtxWrite, hm, hn]

theorem opCtxWrite_zero (hm : s.mode ≠ .reset) (hn : selCtx s = 0) : opCtxWrite s = s.reject Reg.ctxCmd.at 1 := by
  simp [opCtxWrite, hm, hn]

theorem opCtxClear_eq (hm : s.mode ≠ .reset) : opCtxClear s = s.modCtx (selCtx s) clearCtx := by
  simp [opCtxClear, hm]

/-- A rejected value is counted, and moves no other word. -/
theorem reject_words (hr : kRising s.regs = true) (o : Nat) (v : Word) :
    (s.reject o v).rd Reg.regCntReject.at = satAdd32 (s.rd Reg.regCntReject.at) 1
      ∧ WordsKept s (s.reject o v) [Reg.regCntReject.at] := by
  have hrd (j : Nat) : (s.reject o v).rd j = (s.count Reg.regCntReject).rd j := State.rd_info ..
  refine ⟨?_, fun j hj => ?_⟩
  · rw [hrd, State.rd_count _ hr, if_pos rfl]
  · rw [hrd]
    exact (WordsKept.of_regs rfl).count hr _ _ _ _ (List.mem_singleton_self _) j hj

/-! ### One context's entry -/

theorem State.ctx_modCtx_self (h : kRising s.ctxs = true) (c : Nat) (f : Ctx → Ctx) : (s.modCtx c f).ctx c = f (s.ctx c) := by
  rw [State.ctx_modCtx s h, if_pos rfl]

theorem State.ctx_modCtx_other (h : kRising s.ctxs = true) {c d : Nat} (f : Ctx → Ctx) (hd : d ≠ c) :
    (s.modCtx c f).ctx d = s.ctx d := by
  rw [State.ctx_modCtx s h, if_neg (Ne.symm hd)]

/-! ### The throttle (R95, R96) -/

theorem opToken_eq (hm : s.mode ≠ .reset) {n : Nat} (hs : (s.ctx n).step ≠ 0) (hn : n ≠ 0) :
    opToken s n = s.modCtx n (fun c => { c with tokens := min (c.tokens + 1) (max (s.fld Fld.thrCtlDepth) c.tokens),
                                                refillAt := some (nextToken s (s.ctx n).step) }) := by
  simp [opToken, hm, hs, hn]

/-- A table after a change of every value: where the default stays the default, each key reads as changed. -/
theorem kGet_map {β : Type} [DecidableEq β] {d : β} {f : β → β} (hd : f d = d) {m : KMap β} (hm : kRising m = true) (k : Nat) :
    kGet d ((m.map (fun e => (e.1, f e.2))).filter (fun e => e.2 != d)) k = f (kGet d m k) := by
  rw [kRising_iff] at hm
  induction m with
  | nil => exact hd.symm
  | cons e m ih =>
    obtain ⟨a, b⟩ := e
    rw [List.pairwise_cons] at hm
    obtain ⟨hlt, hm⟩ := hm
    have htail := ih hm
    by_cases hk : a = k
    · subst hk
      by_cases hb : f b = d
      · have hnone : kFind m a = none := kFind_none_of_lt hlt
        have hgone : kGet d m a = d := by rw [kGet, hnone]; rfl
        have hhead : kGet d ((a, b) :: m) a = b := by simp [kGet, kFind]
        rw [hhead, hb]
        simpa [hb, hgone, hd] using htail
      · simp [hb, kGet, kFind]
    · have hskip (l : KMap β) (v : β) : kGet d ((a, v) :: l) k = kGet d l k := by simp [kGet, kFind, hk]
      rw [hskip, ← htail]
      by_cases hb : f b = d
      · simp [hb]
      · simp [hb, hskip]

theorem ctx_opWindowEnd (hm : s.mode ≠ .reset) (hc : kRising s.ctxs = true) (n : Nat) :
    (opWindowEnd s).ctx n = windowEnd (s.ctx n) := by
  rw [opWindowEnd, if_neg hm]
  exact kGet_map (by decide) hc n

theorem opWindowEnd_frame (s : State) : { opWindowEnd s with ctxs := s.ctxs } = s := by
  unfold opWindowEnd
  split <;> rfl

/-- A window's end takes the step down where no alert named the context, forgets the name, and keeps entry and counters. -/
theorem windowEnd_fields (c : Ctx) :
    (windowEnd c).step = (if c.named then c.step else c.step - 1) ∧ (windowEnd c).named = false
      ∧ (windowEnd c).cfg = c.cfg ∧ (windowEnd c).pend = c.pend ∧ (windowEnd c).counters = c.counters := by
  unfold windowEnd
  split
  · simp [Ctx.counters]
  · next hn =>
    split
    · next h0 => simp [hn, h0]
    · split
      · next h1 => simp [hn, h1, Ctx.counters]
      · simp [hn, Ctx.counters]

end Sys2Proof.Machine

end

/-! SUPPORT. The statements about the context window and the throttle. -/

section

open Sys2Proof Sys2Proof.Machine

/-- Settles O14: the window's words are written and its capture taken at the select itself (log entry 20), and each command
of CTX_CMD changes one entry (R70, R102), or is rejected for context 0 (R62). -/
theorem contextWindow : Obligations.ContextWindow := by
  intro s hm hw
  have hr := State.wf_regs_rising hw
  have hc := State.wf_ctxs_rising hw
  refine ⟨fun w => ?_, fun he hcap => ?_, fun hn => ?_, fun hn => ?_, ?_⟩
  · obtain ⟨hsel, hcfg, hbud, hthr⟩ := opCtxSel_words hm hr w
    refine ⟨opCtxSel s w, rfl, hsel, hcfg, hbud, hthr, opCtxSel_captured hm hr w, ?_, ?_, opCtxSel_wordsKept hm hr w⟩
    · rw [opCtxSel_eq hm hr]
    · rw [opCtxSel_eq hm hr]
      rfl
  · refine ⟨opCtxCaptured s, rfl, ?_⟩
    rw [opCtxCaptured_eq hm he hcap]
    exact ⟨State.flag_setFlag hr _ rfl (by decide), OnlyWords.setFlag hr ..⟩
  · refine ⟨opCtxWrite s, rfl, ?_⟩
    rw [opCtxWrite_eq hm hn]
    exact ⟨State.ctx_modCtx_self hc .., fun m => State.ctx_modCtx_other hc _, rfl⟩
  · refine ⟨opCtxWrite s, rfl, ?_⟩
    rw [opCtxWrite_zero hm hn]
    exact ⟨State.reject_ctxs .., rfl, reject_words hr ..⟩
  · refine ⟨opCtxClear s, rfl, ?_⟩
    rw [opCtxClear_eq hm]
    exact ⟨State.ctx_modCtx_self hc .., fun m => State.ctx_modCtx_other hc _, rfl⟩

/-- Settles O15: a refill changes one entry (R95), and a window's end each entry by itself, an unlisted one included (R96). -/
theorem throttleBuckets : Obligations.ThrottleBuckets := by
  intro s hm hw
  have hc := State.wf_ctxs_rising hw
  refine ⟨fun n hn hs => ?_, opWindowEnd s, rfl, opWindowEnd_frame s, fun n => ?_⟩
  · have hn : n.toNat ≠ 0 := fun h => hn (BitVec.eq_of_toNat_eq h)
    refine ⟨opToken s n.toNat, rfl, ?_⟩
    rw [opToken_eq hm hs hn, State.ctx_modCtx_self hc]
    exact ⟨fun hle => by rw [max_eq_left hle], rfl, fun m => State.ctx_modCtx_other hc _, rfl⟩
  · rw [ctx_opWindowEnd hm hc]
    exact windowEnd_fields _

end

/-! SUPPORT. The ledger under watch: overdue operations (R75) and the inspection window (R152, R153). -/

section

namespace Sys2Proof.Machine

variable {s : State} {idx : Nat} {e : LEntry}

/-! ### Overdue operations -/

/-- What an operation that becomes overdue moves outside the ledger: its accesses at the channel and the media port (marked
overdue), a counter and the event. -/
theorem opOverdue_eq (he : entry? s idx = some e) (ho : e.overdue = false) (hlo : 2 ^ 22 ≤ (s.timeBase - e.deadline).toNat)
    (hhi : (s.timeBase - e.deadline).toNat ≤ 2 ^ 23) :
    ∃ regs evq chs media, opOverdue s idx = { modEntry s idx (fun x => { x with overdue := true }) with
      regs := regs, evq := evq, chs := chs, media := media } := by
  have hdue : (e.overdue || !decide (2 ^ 22 ≤ (s.timeBase - e.deadline).toNat ∧ (s.timeBase - e.deadline).toNat ≤ 2 ^ 23))
      = false := by rw [ho, decide_eq_true ⟨hlo, hhi⟩]; rfl
  unfold opOverdue
  rw [he]
  dsimp only
  rw [hdue, if_neg Bool.false_ne_true]
  split
  · exact ⟨_, _, _, _, rfl⟩
  · split <;> exact ⟨_, _, _, _, rfl⟩

/-! ### The inspection window -/

/-- The state that the inspection words are taken from: the entry is selected, and VALID is 0. -/
def inspSelected (s : State) (w : Word) : State :=
  (s.setFld Fld.ldgInspSelEntry (w.toNat % 2 ^ 17)).setFlag Fld.ldgInspStatusValid false

theorem opInspSel_eq (hm : s.mode ≠ .reset) {w : Word} (he : entry? s (w.toNat % 2 ^ 17) = some e) :
    opInspSel s w = (inspSelected s w).wrRow (fun i => Reg.ldgInspData.at i)
      (fun i => dw ((inspWords (inspSelected s w) e).getD i 0)) 4 := by
  have he' : entry? ((s.setFld Fld.ldgInspSelEntry (w.toNat % 2 ^ 17)).setFlag Fld.ldgInspStatusValid false)
      (w.toNat % 2 ^ 17) = some e := he
  rw [opInspSel, if_neg hm]
  dsimp only
  rw [he']
  rfl

theorem ldgInspData_injective : Function.Injective (fun i => Reg.ldgInspData.at i) := fun i j h => by
  simpa [RegDef.at, Reg.ldgInspData] using h

theorem inspSelected_rising (hr : kRising s.regs = true) (w : Word) : kRising (inspSelected s w).regs = true :=
  State.setFlag_rising (State.setFld_rising s hr ..) ..

end Sys2Proof.Machine

end

/-! SUPPORT. The statement about the ledger under watch. -/

section

open Sys2Proof Sys2Proof.Machine

/-- Settles O10: becoming overdue marks the entries of one index alone (R75), and the inspection words show at the select
itself (R152; log entry 20). -/
theorem ledgerEntryWatched : Obligations.LedgerEntryWatched := by
  refine ⟨fun idx s e he ho hlo hhi => ?_, fun w s e hm hr he => ?_, fun s hm hr => ?_⟩
  · refine ⟨opOverdue s idx, rfl, ?_⟩
    obtain ⟨regs, evq, chs, media, h⟩ := opOverdue_eq he ho hlo hhi
    rw [h]
    exact ⟨rfl, rfl, rfl, rfl, rfl, rfl⟩
  · refine ⟨opInspSel s w, rfl, ?_⟩
    rw [opInspSel_eq hm he]
    exact ⟨fun i => State.rd_wrRow (inspSelected_rising hr w) ldgInspData_injective _ i.isLt, State.wrRow_frame ..⟩
  · refine ⟨s.setFlag Fld.ldgInspStatusValid true, ?_, State.flag_setFlag hr _ rfl (by decide), OnlyWords.setFlag hr ..⟩
    exact congrArg (fun t => Host.Outcome.next (settle t)) (if_neg hm)

end

/-! SUPPORT. Admission at the ingress stage (R78, R79, R115). -/

section

namespace Sys2Proof.Machine

variable {s : State} {p : PortId} {r : Req}

/-! ### New entries (R108, R141) -/

/-- The ledger never uses every index below its length plus one. -/
theorem exists_unused_idx (s : State) : ∃ i ∈ List.range (s.ledger.length + 1), ∀ e ∈ s.ledger, e.idx ≠ i := by
  have hcard : (s.ledger.map LEntry.idx).toFinset.card < (Finset.range (s.ledger.length + 1)).card := by
    calc (s.ledger.map LEntry.idx).toFinset.card
      _ ≤ (s.ledger.map LEntry.idx).length := List.toFinset_card_le _
      _ < (Finset.range (s.ledger.length + 1)).card := by simp
  obtain ⟨i, hi, hno⟩ := Finset.exists_mem_notMem_of_card_lt_card hcard
  refine ⟨i, by simpa using hi, fun e he h => hno ?_⟩
  simpa using ⟨e, he, h⟩

theorem freeIdx_unused (s : State) : ∀ e ∈ s.ledger, e.idx ≠ freeIdx s := by
  obtain ⟨i, hi, hno⟩ := exists_unused_idx s
  have hsome : ((List.range (s.ledger.length + 1)).find? (fun i => s.ledger.all (fun e => e.idx != i))).isSome = true :=
    List.find?_isSome.2 ⟨i, hi, by simpa using hno⟩
  obtain ⟨j, hj⟩ := Option.isSome_iff_exists.1 hsome
  have hall := List.find?_some hj
  have hfree : freeIdx s = j := by rw [freeIdx, hj]; rfl
  simpa [hfree] using hall

/-- The new entry is the one that its index names. -/
theorem entry?_addEntry (s : State) (e : LEntry) : entry? (addEntry s e) (freeIdx s) = some { e with idx := freeIdx s } := by
  have hnone : s.ledger.find? (fun x => x.idx == freeIdx s) = none :=
    List.find?_eq_none.2 fun x hx => by simpa using freeIdx_unused s x hx
  simp [entry?, addEntry, List.find?_append, hnone]

/-- Entries taken one after another stand behind the ledger, each with an index of its own. -/
theorem foldl_addEntry (s : State) (es : List LEntry) : ∃ new, es.foldl addEntry s = { s with ledger := s.ledger ++ new }
    ∧ new.length = es.length ∧ ∀ x ∈ new, ∃ e ∈ es, ∃ i, x = { e with idx := i } := by
  induction es generalizing s with
  | nil => exact ⟨[], by simp, rfl, by simp⟩
  | cons e es ih =>
    obtain ⟨new, hnew, hlen, hof⟩ := ih (addEntry s e)
    refine ⟨{ e with idx := freeIdx s } :: new, ?_, congrArg (· + 1) hlen, fun x hx => ?_⟩
    · rw [List.foldl_cons, hnew]
      simp [addEntry]
    · rcases List.mem_cons.1 hx with rfl | hx
      · exact ⟨e, List.mem_cons_self, _, rfl⟩
      · obtain ⟨e', he', hi⟩ := hof x hx
        exact ⟨e', List.mem_cons_of_mem _ he', hi⟩

/-! ### The admitted head -/

/-- The count of an admission leaves ledger, lines and directory. -/
theorem noteAdmitted_stores (s : State) (p : PortId) (r : Req) :
    (noteAdmitted s p r).ledger = s.ledger ∧ (noteAdmitted s p r).dram = s.dram ∧ (noteAdmitted s p r).tags = s.tags := by
  simp [noteAdmitted, modReq, returnHdr]

theorem noteAdmitted_otherPorts (s : State) (p : PortId) (r : Req) : OtherPorts s (noteAdmitted s p r) p := fun q hq => by
  simp [noteAdmitted, modReq, returnHdr, State.modPort_other _ _ _ _ hq, -Fin.getElem_fin]

theorem returnHdr_reqs (s : State) (p : PortId) : (returnHdr s p).ports[p].reqs = s.ports[p].reqs := by
  rw [returnHdr, State.modPort_self]

/-- After a change of the requests of one number, those that have the number are changed ones. -/
theorem exists_of_mem_modReq {rid : Nat} {f : Req → Req} {x : Req} (hx : x ∈ (modReq s p rid f).ports[p].reqs)
    (hrid : x.rid = rid) : ∃ y, x = f y := by
  rw [modReq, State.modPort_self] at hx
  obtain ⟨y, -, hy⟩ := List.mem_map.1 hx
  split at hy
  · exact ⟨y, hy.symm⟩
  · next hne => exact absurd (hy ▸ hrid) hne

theorem noteAdmitted_admitted (s : State) (p : PortId) (r : Req) :
    ∀ x ∈ (noteAdmitted s p r).ports[p].reqs, x.rid = r.rid → x.admitted = true := by
  intro x hx hrid
  have hx : x ∈ (returnHdr (modReq _ p r.rid _) p).ports[p].reqs := hx
  rw [returnHdr_reqs] at hx
  obtain ⟨y, rfl⟩ := exists_of_mem_modReq hx hrid
  rfl

/-- The entries that a head takes, as they are before they have an index. -/
def headEntries (s : State) (p : PortId) (r : Req) : List LEntry := (List.range r.entries).map (newEntry s p r)

/-- A head whose lines carry no write and no DROP takes its entries and does nothing else. -/
theorem admitReq_of_quiet (hw : (kindOf r.opcode).writes = false) (hd : kindOf r.opcode ≠ .drop) :
    admitReq s p r = (headEntries s p r).foldl addEntry (noteAdmitted s p r) := by
  refine List.foldl_ext _ _ _ fun u e he => ?_
  obtain ⟨i, -, rfl⟩ := List.mem_map.1 he
  have hkind : (newEntry s p r i).kind = kindOf r.opcode := rfl
  dsimp only
  rw [entry?_addEntry]
  simp [hkind, hw, hd]

theorem opIngress_serving (hm : s.mode = .tiered ∨ s.mode = .drain ∨ s.mode = .bypass) (hn : nextHead s = some (p, r))
    (hu : uncleanStop s r = false) (hf : uncleanPrefetch s r = false) :
    opIngress s = if r.entries ≤ hostFree s then admitReq s p r
      else if s.ports[p].headHeld then s
      else (s.modPort p (fun q => { q with headHeld := true })).count Reg.ldgCntHeadHold := by
  rcases hm with hm | hm | hm <;> simp [opIngress, hm, hn, hu, hf]

/-- Too few free entries: the head waits, held once and for all (R79). -/
theorem opIngress_holds (hm : s.mode = .tiered ∨ s.mode = .drain ∨ s.mode = .bypass) (hn : nextHead s = some (p, r))
    (hu : uncleanStop s r = false) (hf : uncleanPrefetch s r = false) (hfull : hostFree s < r.entries) :
    (opIngress s).ledger = s.ledger ∧ (opIngress s).ports[p].headHeld = true ∧ OtherPorts s (opIngress s) p := by
  rw [opIngress_serving hm hn hu hf, if_neg (Nat.not_le.2 hfull)]
  by_cases hh : s.ports[p].headHeld = true
  · rw [if_pos hh]
    exact ⟨rfl, hh, fun _ _ => rfl⟩
  · rw [if_neg hh]
    exact ⟨rfl, by simp [-Fin.getElem_fin], fun q hq => by rw [State.count_ports, State.modPort_other _ _ _ _ hq]⟩

theorem opIngress_idle (hn : nextHead s = none) : opIngress s = s := by
  unfold opIngress
  rw [hn]
  split <;> rfl

end Sys2Proof.Machine

end

/-! SUPPORT. The statement about admission. -/

section

open Sys2Proof Sys2Proof.Machine

/-- Settles O9: a read, a FLUSH or a PREFETCH does nothing at its admission but take its entries (R79, R115), each with an
index that no entry uses. -/
theorem ingressAdmitsHead : Obligations.IngressAdmitsHead := by
  refine ⟨fun p r s hm hn hu hf hfree hk => ?_, fun p r s hm hn hu hf hfull => ?_, fun s hn => ?_⟩
  · obtain ⟨hw, hd⟩ : (kindOf r.opcode).writes = false ∧ kindOf r.opcode ≠ .drop := by
      rcases hk with hk | hk | hk <;> rw [hk] <;> decide
    obtain ⟨hledger, hdram, htags⟩ := noteAdmitted_stores s p r
    obtain ⟨new, hnew, hlen, hof⟩ := foldl_addEntry (noteAdmitted s p r) (headEntries s p r)
    have hop : opIngress s = { noteAdmitted s p r with ledger := (noteAdmitted s p r).ledger ++ new } := by
      rw [opIngress_serving hm hn hu hf, if_pos hfree, admitReq_of_quiet hw hd, hnew]
    refine ⟨opIngress s, new, rfl, ?_⟩
    rw [hop]
    refine ⟨by rw [hledger], ?_, fun e he => ?_, noteAdmitted_admitted s p r, hdram, htags, noteAdmitted_otherPorts s p r⟩
    · rw [hlen, headEntries, List.length_map, List.length_range]
    · obtain ⟨x, hx, i, rfl⟩ := hof e he
      obtain ⟨j, -, rfl⟩ := List.mem_map.1 hx
      exact ⟨rfl, rfl, rfl, rfl⟩
  · exact ⟨opIngress s, rfl, opIngress_holds hm hn hu hf hfull⟩
  · exact congrArg (fun t => Host.Outcome.next (settle t)) (opIngress_idle hn)

end

/-! SUPPORT. What the arbiters of a channel leave alone (R80 to R91). One projection, `State.beside`, carries it, so that each
function that a decision goes through needs one frame lemma. -/

section

namespace Sys2Proof.Machine

/-- What stands beside channel `c`: the ledger, the media port, the ports, the stores of data and the other channels. -/
structure Beside where
  ledger : List LEntry
  media : Media
  ports : Vector Port 8
  dram : KMap Line
  tags : KMap Tag
  flash : Flash
  others : ChanId → Option Channel

/-- The part of a state beside channel `c`. -/
def State.beside (s : State) (c : Nat) : Beside :=
  { ledger := s.ledger, media := s.media, ports := s.ports, dram := s.dram, tags := s.tags, flash := s.flash,
    others := fun d => if d = chan c then none else some s.chs[d] }

variable (s : State) (c : Nat)

@[simp] theorem State.wr_beside (o : Nat) (w : Word) : (s.wr o w).beside c = s.beside c := by
  simp [State.beside]

@[simp] theorem State.count_beside (r : RegDef) (n i k : Nat) : (s.count r n i k).beside c = s.beside c := State.wr_beside ..

@[simp] theorem State.modCtx_beside (n : Nat) (f : Ctx → Ctx) : (s.modCtx n f).beside c = s.beside c := by
  simp [State.beside]

/-- A change of the channel itself. -/
@[simp] theorem State.modCh_beside (f : Channel → Channel) : (s.modCh (chan c) f).beside c = s.beside c := by
  have ho : (fun d => if d = chan c then none else some (s.modCh (chan c) f).chs[d])
      = fun d => if d = chan c then none else some s.chs[d] := funext fun d => by
    split
    · rfl
    · next hd => rw [State.modCh_other _ _ _ _ hd]
  unfold State.beside
  rw [ho]
  simp only [State.modCh_ledger, State.modCh_media, State.modCh_ports, State.modCh_dram, State.modCh_tags, State.modCh_flash]

@[simp] theorem ite_beside (b : Prop) [Decidable b] (s t : State) :
    (if b then s else t).beside c = if b then s.beside c else t.beside c := apply_ite (State.beside · c) ..

@[simp] theorem modJob_beside (id : Nat) (f : Job → Job) : (modJob s c id f).beside c = s.beside c := State.modCh_beside ..

@[simp] theorem usedRank_beside (l : Loc) : (usedRank s c l).beside c = s.beside c := State.modCh_beside ..

@[simp] theorem enqueue_beside (x : QCmd) : (enqueue s c x).beside c = s.beside c := State.modCh_beside ..

@[simp] theorem setBook_beside (l : Loc) (v : Nat) : (setBook s c l v).beside c = s.beside c := State.modCh_beside ..

/-! ### The command arbiter's grant (R82, R94, R258) -/

@[simp] theorem grantCmd_beside (x : Cand) : (grantCmd s c x).beside c = s.beside c := by
  unfold grantCmd
  extract_lets
  split <;> simp +zetaDelta

@[simp] theorem noteHeld_beside (x : Cand) : (noteHeld s c x).beside c = s.beside c := by
  simp [noteHeld]

/-! ### Commands that bypass arbitration (R84) -/

/-- An attempt, where it succeeds, leaves what stands beside the channel. -/
def KeepsBeside (s : State) (c : Nat) (o : Option State) : Prop := ∀ t, o = some t → t.beside c = s.beside c

variable {s c}

theorem KeepsBeside.none : KeepsBeside s c none := fun _ h => (Option.some_ne_none _ h.symm).elim

theorem KeepsBeside.some {t : State} (h : t.beside c = s.beside c) : KeepsBeside s c (some t) := by
  rintro _ ⟨⟩
  exact h

theorem KeepsBeside.map {o : Option State} {f : State → State} (h : KeepsBeside s c o)
    (hf : ∀ t, (f t).beside c = t.beside c) : KeepsBeside s c (o.map f) := by
  intro t ht
  obtain ⟨u, hu, rfl⟩ := Option.map_eq_some_iff.1 ht
  rw [hf, h u hu]

/-- The first success of a list is one of its attempts. -/
theorem mem_of_firstSome {α : Type} {l : List (Option α)} {a : α} (h : firstSome l = some a) : some a ∈ l := by
  induction l with
  | nil => cases h
  | cons o l ih =>
    cases o with
    | none => exact List.mem_cons_of_mem _ (ih h)
    | some b =>
      cases h
      exact List.mem_cons_self

theorem KeepsBeside.firstSome {l : List (Option State)} (h : ∀ o ∈ l, KeepsBeside s c o) :
    KeepsBeside s c (firstSome l) := fun t ht => h _ (mem_of_firstSome ht) t rfl

theorem KeepsBeside.firstSome_map {α : Type} {f : α → Option State} (l : List α) (h : ∀ a, KeepsBeside s c (f a)) :
    KeepsBeside s c (Machine.firstSome (l.map f)) := KeepsBeside.firstSome fun o ho => by
  obtain ⟨a, -, rfl⟩ := List.mem_map.1 ho
  exact h a

/-- An attempt that is made under a condition only. -/
theorem KeepsBeside.ite {b : Prop} [Decidable b] {o o' : Option State} (h : KeepsBeside s c o) (h' : KeepsBeside s c o') :
    KeepsBeside s c (if b then o else o') := by
  split <;> assumption

variable (s c)

theorem grantPre_keeps (l : Loc) : KeepsBeside s c (grantPre s c l) :=
  .ite (.some (by simp)) .none

theorem grantRefresh_keeps (k : Nat) : KeepsBeside s c (grantRefresh s c k) := by
  unfold grantRefresh
  refine .ite (.firstSome_map _ (grantPre_keeps s c)) (.ite .none ?_)
  dsimp only
  split
  · exact .none
  · exact .ite (.some (by simp)) .none

theorem grantNbr_keeps (n : NbrRef) : KeepsBeside s c (grantNbr s c n) := by
  unfold grantNbr
  refine .ite .none ?_
  extract_lets row pop opened
  have hpop (u : State) : (pop u).beside c = u.beside c := by simp [pop]
  exact .ite (.ite (.firstSome_map _ (grantPre_keeps s c)) (.ite (.some (by simp [hpop])) .none))
    (.ite (.map (grantPre_keeps s c _) hpop) (.ite (grantPre_keeps s c _) (.ite (.some (by simp)) .none)))

theorem grantRfm_keeps (l : Loc) : KeepsBeside s c (grantRfm s c l) :=
  .ite .none (.ite (.firstSome_map _ (grantPre_keeps s c)) (.ite (.some (by simp)) .none))

/-- A self-refresh entry: what it owes first, then precharges, then an SRE for every rank (R299). -/
theorem grantEntry_keeps : KeepsBeside s c (grantEntry s c) := by
  unfold grantEntry
  extract_lets owed opened
  split
  · exact .firstSome_map _ (grantRefresh_keeps s c)
  · exact .firstSome_map _ (grantNbr_keeps s c)
  · exact .ite .none (.ite (.firstSome_map _ (grantPre_keeps s c))
      (.firstSome_map _ fun l => .ite (.some (by simp)) .none))

theorem grantExit_keeps : KeepsBeside s c (grantExit s c) :=
  .firstSome_map _ fun _ => .ite (.some (by simp)) .none

theorem bypassCmd_keeps : KeepsBeside s c (bypassCmd s c) := by
  unfold bypassCmd
  split
  · exact grantEntry_keeps s c
  · exact grantExit_keeps s c
  · exact .none
  · refine .firstSome fun o ho => ?_
    simp only [List.mem_append, List.mem_map] at ho
    obtain (⟨r, -, rfl⟩ | ⟨l, -, rfl⟩) | ⟨n, -, rfl⟩ := ho
    · exact grantRefresh_keeps s c _
    · exact grantRfm_keeps s c l
    · exact grantNbr_keeps s c n

/-! ### One decision of each arbiter (R80 to R88) -/

theorem cmdGrant_beside : (cmdGrant s c).beside c = s.beside c := by
  unfold cmdGrant
  split
  · rfl
  · split
    · next t ht => exact bypassCmd_keeps s c t ht
    · have hnoted : ((candsOf s c 0 ++ candsOf s c 1).foldl (fun s x => noteHeld s c x) s).beside c = s.beside c :=
        foldl_frame (State.beside · c) _ _ s fun u x => noteHeld_beside u c x
      dsimp only
      split
      · rw [grantCmd_beside, hnoted]
      · exact hnoted

@[simp] theorem grantBus_beside (sub : Nat) (x : Cand) : (grantBus s c sub x).beside c = s.beside c := State.modCh_beside ..

@[simp] theorem restartJob_beside (j : Job) : (restartJob s c j).beside c = s.beside c := by
  simp [restartJob]

theorem busArbitrate_of_frozen {sub : Nat} (h : dataFrozen s c = true) : busArbitrate s c sub = s := if_pos h

theorem busArbitrate_beside (sub : Nat) : (busArbitrate s c sub).beside c = s.beside c := by
  unfold busArbitrate
  extract_lets held cs
  clear_value held cs
  split
  · rfl
  · cases held with
    | none =>
      dsimp only
      split
      · exact grantBus_beside ..
      · rfl
    | some b =>
      dsimp only
      cases job? s c b.2 with
      | none => exact State.modCh_beside ..
      | some j =>
        dsimp only
        split
        · split
          · exact (grantBus_beside ..).trans (State.modCh_beside ..)
          · exact State.modCh_beside ..
        · split
          · rfl
          · split
            · rfl
            · split
              · rw [grantBus_beside, restartJob_beside]
              · rfl

variable {s c}

/-- What an equal part beside a channel says. -/
theorem frame_of_beside {t : State} {c : ChanId} (h : t.beside c = s.beside c) :
    t.ledger = s.ledger ∧ t.media = s.media ∧ t.ports = s.ports ∧ DataKept s t ∧ OtherChannels s t c := by
  have hflash : t.flash = s.flash := congrArg Beside.flash h
  refine ⟨congrArg Beside.ledger h, congrArg Beside.media h, congrArg Beside.ports h,
    ⟨congrArg Beside.dram h, congrArg Beside.tags h, congrArg Flash.bytes hflash, congrArg Flash.otp hflash⟩,
    fun d hd => ?_⟩
  simpa [State.beside, hd] using congrFun (congrArg Beside.others h) d

/-! ### The media-port arbiter (R90, R241) -/

theorem mediaArbitrate_idle (hx : s.media.xfer = none) : mediaArbitrate s = mediaGrant s := by
  unfold mediaArbitrate
  split
  · next h => simp [mediaGrant, h]
  · rw [hx]

theorem mediaGrant_of_stopped (h : s.media.st ≠ .up ∨ s.flag Fld.mpArbCtlFreeze = true) : mediaGrant s = s := by
  rcases h with h | h <;> simp [mediaGrant, h]

theorem mediaGrant_of_best {x : MpXfer} (hu : s.media.st = .up) (hf : s.flag Fld.mpArbCtlFreeze = false)
    (hb : mediaBest s = some x) :
    mediaGrant s = { s with media := { s.media with xfer := some (x, 0), ptr := ((xferKey s x).2.2.1 + 1) % 4096 } } := by
  simp [mediaGrant, hu, hf, hb]

end Sys2Proof.Machine

end

/-! SUPPORT. The statement about the arbiters' decisions. -/

section

open Sys2Proof Sys2Proof.Machine

/-- Settles O11: every function that a channel's decision goes through keeps what stands beside the channel; the data-bus
arbiter and the media-port arbiter ask for their freezes first (R90, R91). -/
theorem arbitersDecide : Obligations.ArbitersDecide := by
  refine ⟨⟨fun c s => ?_, fun c sub s => ?_⟩, fun s hx => ⟨fun hstop => ?_, fun x hu hf hb => ?_⟩⟩
  · exact ⟨cmdGrant s c, rfl, frame_of_beside (cmdGrant_beside s c)⟩
  · obtain ⟨hledger, hmedia, hports, hdata, hothers⟩ := frame_of_beside (busArbitrate_beside s c sub)
    exact ⟨busArbitrate s c sub, rfl, hledger, hmedia, hports, hdata, hothers, busArbitrate_of_frozen s c⟩
  · exact congrArg (fun t => Host.Outcome.next (settle t))
      ((mediaArbitrate_idle hx).trans (mediaGrant_of_stopped hstop))
  · refine ⟨mediaArbitrate s, rfl, ?_⟩
    rw [mediaArbitrate_idle hx, mediaGrant_of_best hu hf hb]
    exact ⟨rfl, rfl, rfl⟩

end

/-! SUPPORT. Tables written by a fold or changed entry by entry. -/

section

namespace Sys2Proof.Machine

variable {α β : Type} {m : KMap β} {k : Nat}

/-- Where keys rise, the value found for a key is the one listed with it. -/
theorem kFind_of_mem (hm : kRising m = true) {e : Nat × β} (he : e ∈ m) : kFind m e.1 = some e.2 := by
  rw [kRising_iff] at hm
  induction m with
  | nil => cases he
  | cons x m ih =>
    obtain ⟨hlt, hm⟩ := List.pairwise_cons.1 hm
    rcases List.mem_cons.1 he with rfl | he
    · exact if_pos rfl
    · rw [kFind, if_neg (hlt e he).ne, ih hm he]

theorem kFind_none_of_forall_ne (h : ∀ e ∈ m, e.1 ≠ k) : kFind m k = none := by
  induction m with
  | nil => rfl
  | cons x m ih =>
    obtain ⟨hne, h⟩ := List.forall_mem_cons.1 h
    rw [kFind, if_neg hne, ih h]

/-! ### Every value changed -/

theorem kRising_map (f : Nat → β → β) (hm : kRising m = true) : kRising (m.map (fun e => (e.1, f e.1 e.2))) = true := by
  rw [kRising_iff] at *
  exact List.pairwise_map.2 hm

theorem kFind_map (f : Nat → β → β) (m : KMap β) (k : Nat) :
    kFind (m.map (fun e => (e.1, f e.1 e.2))) k = (kFind m k).map (f k) := by
  induction m with
  | nil => rfl
  | cons x m ih =>
    by_cases hx : x.1 = k
    · simp [kFind, hx]
    · simp [kFind, hx, ih]

variable [DecidableEq β]

/-- Entries that say what an unlisted key reads may be left out. -/
theorem kGet_filter_default (d : Nat → β) (hm : kRising m = true) (k : Nat) :
    kGet (d k) (m.filter (fun e => e.2 != d e.1)) k = kGet (d k) m k := by
  rw [kRising_iff] at hm
  induction m with
  | nil => rfl
  | cons x m ih =>
    obtain ⟨hlt, hm⟩ := List.pairwise_cons.1 hm
    have htail := ih hm
    unfold kGet at *
    by_cases hk : x.1 = k
    · subst hk
      have hnone : kFind m x.1 = none := kFind_none_of_lt hlt
      by_cases hx : x.2 = d x.1
      · simp [kFind, hx, htail, hnone]
      · simp [kFind, hx]
    · by_cases hx : x.2 = d x.1 <;> simp [kFind, hx, hk, htail]

/-- A change of every value that leaves what an unlisted key reads: the key reads as changed. -/
theorem kGet_map_key {d : Nat → β} {f : Nat → β → β} (hf : f k (d k) = d k) (hm : kRising m = true) :
    kGet (d k) ((m.map (fun e => (e.1, f e.1 e.2))).filter (fun e => e.2 != d e.1)) k = f k (kGet (d k) m k) := by
  rw [kGet_filter_default d (kRising_map f hm), kGet, kFind_map, kGet]
  cases kFind m k with
  | none => exact hf.symm
  | some v => rfl

/-! ### Values written one after another -/

theorem kRising_kSet (hm : kRising m = true) (d : β) (k : Nat) (v : β) : kRising (kSet d m k v) = true := by
  unfold kSet
  split
  · exact kRising_sublist (kErase_sublist _ _) hm
  · exact kRising_kPut _ _ hm

theorem kRising_foldl_kSet (d : β) (key : α → Nat) (val : α → β) (l : List α) (hm : kRising m = true) :
    kRising (l.foldl (fun m a => kSet d m (key a) (val a)) m) = true :=
  List.foldlRecOn (motive := fun m => kRising m = true) l _ hm fun _ h _ _ => kRising_kSet h ..

/-- A key that no write of a fold names reads as before. -/
theorem kGet_foldl_kSet_other (d : β) (key : α → Nat) (val : α → β) {l : List α} (hm : kRising m = true)
    (hk : ∀ a ∈ l, key a ≠ k) : kGet d (l.foldl (fun m a => kSet d m (key a) (val a)) m) k = kGet d m k := by
  induction l generalizing m with
  | nil => rfl
  | cons a l ih =>
    obtain ⟨ha, hl⟩ := List.forall_mem_cons.1 hk
    rw [List.foldl_cons, ih (kRising_kSet hm ..) hl, kGet_kSet hm, if_neg ha]

/-- A key that one write of a fold names reads what is written there. -/
theorem kGet_foldl_kSet_of_mem (d : β) (key : α → Nat) (val : α → β) {l : List α} {a : α} (hm : kRising m = true)
    (hl : l.Pairwise (fun a b => key a ≠ key b)) (ha : a ∈ l) :
    kGet d (l.foldl (fun m a => kSet d m (key a) (val a)) m) (key a) = val a := by
  induction l generalizing m with
  | nil => cases ha
  | cons b l ih =>
    obtain ⟨hb, hl⟩ := List.pairwise_cons.1 hl
    have hm' := kRising_kSet hm d (key b) (val b)
    rw [List.foldl_cons]
    rcases List.mem_cons.1 ha with rfl | ha
    · rw [kGet_foldl_kSet_other d key val hm' fun c hc => (hb c hc).symm, kGet_kSet hm, if_pos rfl]
    · exact ih hm' hl ha

end Sys2Proof.Machine

end

/-! SUPPORT. Register words after an update, their counter and history bits (R619), and what a clear does (R620, R527). -/

section

namespace Sys2Proof.Machine

variable {s : State}

/-! ### Words after an update -/

theorem State.flag_wr_other (hr : kRising s.regs = true) {o : Nat} {w : Word} {f : Fld} {i k : Nat} (h : o ≠ f.reg.at i k) :
    (s.wr o w).flag f i k = s.flag f i k := by
  rw [State.flag, State.fld, State.rd_wr s hr, if_neg h]
  rfl

/-- A register's word after one of its fields has been changed. -/
theorem State.rd_setFld_reg (hr : kRising s.regs = true) {f : Fld} {r : RegDef} (h : f.reg = r) (v : Nat) :
    (s.setFld f v).rd r.at = putBits (s.rd r.at) f.lo f.w v := by
  rw [← h, State.rd_setFld s hr, if_pos rfl]

theorem OnlyWords.trans {t u : State} {l : List Nat} (h : OnlyWords s t l) (h' : OnlyWords t u l) : OnlyWords s u l :=
  ⟨(congrArg (fun x => { x with regs := s.regs }) h'.1).trans h.1, WordsKept.trans h.2 h'.2⟩

theorem OnlyWords.setFld (hr : kRising s.regs = true) (f : Fld) (v i k : Nat) :
    OnlyWords s (s.setFld f v i k) [f.reg.at i k] :=
  ⟨rfl, (WordsKept.of_regs rfl).wr hr _ _ (List.mem_singleton_self _)⟩

/-- A word that has no bit in common with the bits cleared stays as it is. -/
theorem and_not_of_and_eq_zero {w m : Word} (h : w &&& m = 0) : w &&& ~~~m = w := by
  have hsplit : w &&& m ||| w &&& ~~~m = w := by
    rw [← BitVec.and_or_distrib_left, BitVec.or_not_self, BitVec.and_allOnes]
  rw [h] at hsplit
  exact BitVec.zero_or.symm.trans hsplit

/-- A field beside the bits cleared reads as before. -/
theorem getBits_and_not {m : Word} {lo n : Nat} (h : getBits m lo n = 0) (w : Word) :
    getBits (w &&& ~~~m) lo n = getBits w lo n := by
  apply Nat.eq_of_testBit_eq
  intro i
  have hm := congrArg (fun v => v.testBit i) h
  simp only [getBits_bit, Nat.zero_testBit] at hm
  simp only [getBits_bit, BitVec.getLsbD_and, BitVec.getLsbD_not]
  rcases Bool.and_eq_false_iff.1 hm with hn | hm
  · simp [hn]
  · by_cases hi : lo + i < 32
    · simp [hi, BitVec.getLsbD_eq_getElem hi ▸ hm]
    · rw [BitVec.getLsbD_of_ge w _ (not_lt.1 hi), Bool.false_and]

/-! ### Counter and history bits -/

/-- No counter or history bit of the register is 1 after a cold reset (R654). -/
def RegDef.startsClear (r : RegDef) : Bool := r.reset &&& r.rc == 0 && r.reset &&& r.rh == 0

theorem pageRegs_startClear (p : Nat) : (pageRegs p).all RegDef.startsClear = true := by
  fun_cases pageRegs
  all_goals decide

theorem resetWord_and_clearMask (o : Nat) (rc rh : Bool) : resetWord o &&& clearMask o rc rh = 0 := by
  unfold resetWord clearMask
  cases h : findReg o with
  | none => simp
  | some r =>
    have hr : r.startsClear = true := List.all_eq_true.1 (pageRegs_startClear _) r (List.mem_of_find?_eq_some h)
    simp only [RegDef.startsClear, Bool.and_eq_true, beq_iff_eq] at hr
    obtain ⟨hc, hh⟩ := hr
    cases rc <;> cases rh <;> simp [BitVec.and_or_distrib_left, hc, hh]

/-! ### A clear -/

/-- What a clear makes of the word at an offset (R620). -/
def clearedWord (rc rh : Bool) (scope : Nat → Bool) (o : Nat) (w : Word) : Word :=
  if scope o then w &&& ~~~clearMask o rc rh else w

/-- The words as a clear leaves them, before the history bits of errors that last are set again. -/
def clearedRegs (s : State) (rc rh : Bool) (scope : Nat → Bool) : State :=
  { s with regs := (s.regs.map (fun e => (e.1, clearedWord rc rh scope e.1 e.2))).filter (fun e => e.2 != resetWord e.1) }

theorem clearedRegs_rising (hr : kRising s.regs = true) (rc rh : Bool) (scope : Nat → Bool) :
    kRising (clearedRegs s rc rh scope).regs = true :=
  kRising_sublist List.filter_sublist (kRising_map _ hr)

theorem rd_clearedRegs (hr : kRising s.regs = true) (rc rh : Bool) (scope : Nat → Bool) (o : Nat) :
    (clearedRegs s rc rh scope).rd o = clearedWord rc rh scope o (s.rd o) := by
  refine kGet_map_key ?_ hr
  unfold clearedWord
  split
  · exact and_not_of_and_eq_zero (resetWord_and_clearMask ..)
  · rfl

/-- A history bit of the fault net whose source is still in error is set again (R527). -/
def setHistoryAgain (scope : Nat → Bool) (rh : Bool) (s : State) (i : Nat) : State :=
  if rh && scope (Reg.fltHist.at i) then
    s.wr (Reg.fltHist.at i) (s.rd (Reg.fltHist.at i) ||| (s.flt.err ||| s.flt.broken).extractLsb' (32 * i) 32)
  else s

theorem clearFields_eq (s : State) (rc rh : Bool) (scope : Nat → Bool) :
    clearFields s rc rh scope = (List.range 3).foldl (setHistoryAgain scope rh) (clearedRegs s rc rh scope) := by
  unfold clearFields clearedRegs clearedWord
  simp only [apply_ite]
  rfl

/-- A clear moves register words alone. -/
theorem clearFields_frame (s : State) (rc rh : Bool) (scope : Nat → Bool) :
    ∃ regs, clearFields s rc rh scope = { s with regs := regs } := by
  rw [clearFields_eq]
  refine List.foldlRecOn (motive := fun t : State => ∃ regs, t = { s with regs := regs }) _ _ ⟨_, rfl⟩ ?_
  rintro _ ⟨regs, rfl⟩ i -
  unfold setHistoryAgain
  split <;> exact ⟨_, rfl⟩

/-- Every word outside the fault net's histories after a clear. -/
theorem rd_clearFields (hr : kRising s.regs = true) (rc rh : Bool) (scope : Nat → Bool) {o : Nat}
    (ho : ∀ i < 3, Reg.fltHist.at i ≠ o) :
    (clearFields s rc rh scope).rd o = clearedWord rc rh scope o (s.rd o) := by
  rw [clearFields_eq, ← rd_clearedRegs hr]
  refine (List.foldlRecOn (motive := fun t : State => kRising t.regs = true ∧ t.rd o = (clearedRegs s rc rh scope).rd o)
    _ _ ⟨clearedRegs_rising hr .., rfl⟩ ?_).2
  rintro t ⟨ht, hrd⟩ i hi
  unfold setHistoryAgain
  split
  · refine ⟨State.wr_rising t ht .., ?_⟩
    rw [State.rd_wr t ht, if_neg (ho i (List.mem_range.1 hi)), hrd]
  · exact ⟨ht, hrd⟩

end Sys2Proof.Machine

end

/-! SUPPORT. Takes in beam mode (R149, R629 to R633). -/

section

namespace Sys2Proof.Machine

variable {s : State}

/-! ### The copies (R629) -/

/-- A word that is copied for its counter and history bits alone. -/
theorem kGet_beamCopies (hr : kRising s.regs = true) {o : Nat} (ho : o ∉ satOffs ++ bookOffs ++ pairOffs) :
    kGet 0 (beamCopies s) o = s.rd o &&& clearMask o true true := by
  have hfields := kRising_foldl_kSet 0 Prod.fst (fun e : Nat × Word => e.2 &&& clearMask e.1 true true) s.regs
    (m := []) rfl
  have hne : ∀ a ∈ satOffs ++ bookOffs ++ pairOffs, a ≠ o := fun a ha h => ho (h ▸ ha)
  have hcopy := kGet_foldl_kSet_other 0 id (liveWord s) hfields hne
  rw [beamCopies]
  refine hcopy.trans ?_
  unfold State.rd
  by_cases hmem : ∃ e ∈ s.regs, e.1 = o
  · obtain ⟨e, he, rfl⟩ := hmem
    have hkeys : s.regs.Pairwise (fun a b => a.1 ≠ b.1) := ((kRising_iff _).1 hr).imp Nat.ne_of_lt
    rw [kGet_foldl_kSet_of_mem 0 Prod.fst _ rfl hkeys he, kGet, kFind_of_mem hr he, Option.getD_some]
  · have hout : ∀ e ∈ s.regs, e.1 ≠ o := fun e he h => hmem ⟨e, he, h⟩
    rw [kGet_foldl_kSet_other 0 Prod.fst _ rfl hout, kGet, kGet, kFind_none_of_forall_ne hout]
    exact (resetWord_and_clearMask o true true).symm

/-! ### A take (R630 to R633) -/

/-- A take is under way: BUSY set and DONE cleared. -/
def takeBusy (s : State) : State := (s.setFlag Fld.beamStatusBusy true).setFlag Fld.beamStatusDone false

/-- The marker's tick is shown. -/
def takeTicked (s : State) : State := (takeBusy s).wr Reg.beamTick.at (s.timeBase.setWidth 32)

/-- What TAKE_CLEAR does behind the copies, and TAKE does not (R631). -/
def takeCleared (s : State) (clear : Bool) : State :=
  if clear then clearContexts (clearFields s true true (fun _ => true)) else s

theorem takeCleared_false (s : State) : takeCleared s false = s := rfl

theorem rd_clearContexts (s : State) (o : Nat) : (clearContexts s).rd o = s.rd o := rfl

theorem takeCleared_frame (s : State) (clear : Bool) :
    ∃ regs ctxs, takeCleared s clear = { s with regs := regs, ctxs := ctxs } := by
  unfold takeCleared
  split
  · obtain ⟨regs, h⟩ := clearFields_frame s true true (fun _ => true)
    rw [h]
    exact ⟨_, _, rfl⟩
  · exact ⟨_, _, rfl⟩

/-- Behind the copies no store of data moves, neither ledger nor ports nor event queue, and the copies stay. -/
theorem takeCleared_kept (s : State) (clear : Bool) :
    let t := takeCleared s clear
    DataKept s t ∧ t.ledger = s.ledger ∧ t.ports = s.ports ∧ t.evq = s.evq ∧ t.beam = s.beam ∧ t.beamCtx = s.beamCtx
      ∧ t.beamClear = s.beamClear := by
  obtain ⟨regs, ctxs, h⟩ := takeCleared_frame s clear
  rw [h]
  exact ⟨⟨rfl, rfl, rfl, rfl⟩, rfl, rfl, rfl, rfl, rfl, rfl⟩

/-- Every word outside the fault net's histories, behind the copies. -/
theorem rd_takeCleared (hr : kRising s.regs = true) (clear : Bool) {o : Nat} (ho : ∀ i < 3, Reg.fltHist.at i ≠ o) :
    (takeCleared s clear).rd o = if clear then s.rd o &&& ~~~clearMask o true true else s.rd o := by
  cases clear with
  | false => rw [takeCleared_false, if_neg Bool.false_ne_true]
  | true =>
    have hrd : (takeCleared s true).rd o = (clearFields s true true (fun _ => true)).rd o := rd_clearContexts ..
    rw [hrd, rd_clearFields hr _ _ _ ho, if_pos rfl]
    rfl

/-- A one-bit field that is neither counter nor history reads the same behind a take that clears. -/
theorem flag_takeCleared (hr : kRising s.regs = true) (clear : Bool) (f : Fld)
    (ho : ∀ i < 3, Reg.fltHist.at i ≠ f.reg.at) (hf : getBits (clearMask f.reg.at true true) f.lo f.w = 0) :
    (takeCleared s clear).flag f = s.flag f := by
  unfold State.flag State.fld
  rw [rd_takeCleared hr clear ho]
  split
  · rw [getBits_and_not hf]
  · rfl

theorem takeBusy_rising (hr : kRising s.regs = true) : kRising (takeBusy s).regs = true :=
  State.setFlag_rising (State.setFlag_rising hr ..) ..

theorem takeTicked_rising (hr : kRising s.regs = true) : kRising (takeTicked s).regs = true :=
  State.wr_rising _ (takeBusy_rising hr) ..

theorem takeTicked_wordsKept (hr : kRising s.regs = true) :
    WordsKept s (takeTicked s) [Reg.beamStatus.at, Reg.beamTick.at] := by
  have hbusy := (WordsKept.of_regs (s := s) (t := s) (l := [Reg.beamStatus.at, Reg.beamTick.at]) rfl).setFlag hr
    Fld.beamStatusBusy true 0 0 (by decide)
  have hdone := hbusy.setFlag (State.setFlag_rising hr ..) Fld.beamStatusDone false 0 0 (by decide)
  exact hdone.wr (takeBusy_rising hr) _ _ (by decide)

/-- A take runs the management port's command, in beam mode outside RESET (R628). -/
theorem exec_take (hm : s.mode ≠ .reset) (he : eyeletMode s = false) (clear : Bool) :
    exec (if clear then .beamTakeClear else .beamTake) s = .next (settle (opTake s clear)) := by
  have hwide : wrongWide s Reg.beamCtl.at = false := by
    unfold wrongWide
    rw [he]
    rfl
  have hwrite (w : Word) : cmdWrite s Reg.beamCtl.at w =
      if Fld.beamCtlTakeClear.of w = 1 then opTake s true else if Fld.beamCtlTake.of w = 1 then opTake s false else s := by
    unfold cmdWrite writeWord
    rw [if_neg hm, hwide, if_neg Bool.false_ne_true, if_neg hm]
    rfl
  cases clear <;> exact congrArg (fun t => Host.Outcome.next (settle t)) (hwrite _)

theorem opTake_of_busy (hm : s.mode ≠ .reset) (hb : s.flag Fld.beamStatusBusy = true) (clear : Bool) :
    opTake s clear = s.setFlag Fld.beamStatusDropped true := by
  rw [opTake, if_neg hm, if_pos hb]

theorem opTake_of_idle (hm : s.mode ≠ .reset) (hb : s.flag Fld.beamStatusBusy = false) (hc : s.clears = []) (clear : Bool) :
    opTake s clear = launchTake (takeBusy s) clear := by
  have hempty : (takeBusy s).clears.isEmpty = true := by
    rw [takeBusy, State.setFlag_clears, State.setFlag_clears, hc]
    rfl
  rw [opTake, if_neg hm, hb, if_neg Bool.false_ne_true]
  exact if_pos hempty

/-! ### The launch of a take: the books (R149), the tick, the copies, the clear -/

/-- The copies are taken (R629). -/
def takeCopied (s : State) (clear : Bool) : State :=
  { s with beam := beamCopies s, beamCtx := beamContexts s, beamClear := clear }

theorem flag_takeCopied (s : State) (clear : Bool) (f : Fld) (i k : Nat) :
    (takeCopied s clear).flag f i k = s.flag f i k := rfl

theorem checkBooks_of_balance (h : booksOut s = 0) : checkBooks s = s := if_pos h

theorem checkBooks_of_imbalance (h : booksOut s ≠ 0) : checkBooks s =
    (s.setFlag Fld.consStatusImbalance true).eventOf Ev.consImbalance Src.ledger 64 (dw (booksOut s)) := if_neg h

theorem launchTake_eq (s : State) (clear : Bool) : launchTake s clear =
    takeCleared (takeCopied ((checkBooks s).wr Reg.beamTick.at ((checkBooks s).timeBase.setWidth 32)) clear) clear := rfl

/-- The books are no registers: a take that begins leaves them. -/
theorem booksOut_takeBusy (s : State) : booksOut (takeBusy s) = booksOut s := rfl

theorem launchTake_of_balance (h : booksOut s = 0) (clear : Bool) :
    launchTake (takeBusy s) clear = takeCleared (takeCopied (takeTicked s) clear) clear := by
  rw [launchTake_eq, checkBooks_of_balance ((booksOut_takeBusy s).trans h)]
  rfl

/-- Books out of balance are reported as source 64, whether or not the take clears. -/
theorem launchTake_reports (h : booksOut s ≠ 0) (clear : Bool) :
    (launchTake s clear).flt.raised = s.flt.raised ++ [(64, none)] := by
  obtain ⟨regs, ctxs, hclear⟩ := takeCleared_frame
    (takeCopied ((checkBooks s).wr Reg.beamTick.at ((checkBooks s).timeBase.setWidth 32)) clear) clear
  rw [launchTake_eq, hclear, checkBooks_of_imbalance h]
  rfl

theorem launchTake_imbalance (hr : kRising s.regs = true) (h : booksOut s ≠ 0) :
    (launchTake s false).flag Fld.consStatusImbalance = true := by
  have hset : (checkBooks s).flag Fld.consStatusImbalance = true := by
    rw [checkBooks_of_imbalance h, State.flag_eventOf, State.flag_setFlag hr _ rfl (by decide)]
  have hrising : kRising (checkBooks s).regs = true := by
    rw [checkBooks_of_imbalance h, State.eventOf_regs]
    exact State.setFlag_rising hr ..
  have htick : Reg.beamTick.at ≠ Fld.consStatusImbalance.reg.at := by decide
  rw [launchTake_eq, takeCleared_false, flag_takeCopied, State.flag_wr_other hrising htick, hset]

/-- BUSY and DONE as a take sets them, whatever its marker and its copies do. -/
theorem takeTicked_status (hr : kRising s.regs = true) :
    (takeTicked s).flag Fld.beamStatusBusy = true ∧ (takeTicked s).flag Fld.beamStatusDone = false := by
  have hset := State.setFlag_rising hr Fld.beamStatusBusy true 0 0
  have hbusy : (takeBusy s).flag Fld.beamStatusBusy = true := by
    rw [takeBusy, State.flag_setFlag_beside hset Fld.beamStatusDone Fld.beamStatusBusy rfl (by decide) (by decide),
      State.flag_setFlag hr _ rfl (by decide)]
  have hdone : (takeBusy s).flag Fld.beamStatusDone = false := State.flag_setFlag hset _ rfl (by decide)
  have htick (f : Fld) (hf : Reg.beamTick.at ≠ f.reg.at) : (takeTicked s).flag f = (takeBusy s).flag f :=
    State.flag_wr_other (takeBusy_rising hr) hf
  exact ⟨(htick _ (by decide)).trans hbusy, (htick _ (by decide)).trans hdone⟩

/-- A take of balanced books is BUSY and not DONE and shows its marker's tick, whether or not it clears. -/
theorem takeCleared_status (hr : kRising s.regs = true) (clear : Bool) :
    let t := takeCleared (takeCopied (takeTicked s) clear) clear
    t.flag Fld.beamStatusBusy = true ∧ t.flag Fld.beamStatusDone = false
      ∧ t.rd Reg.beamTick.at = s.timeBase.setWidth 32 := by
  intro t
  have hcopied : kRising (takeCopied (takeTicked s) clear).regs = true := takeTicked_rising hr
  obtain ⟨hbusy, hdone⟩ := takeTicked_status hr
  refine ⟨?_, ?_, ?_⟩
  · exact (flag_takeCleared hcopied clear _ (by decide) (by decide)).trans hbusy
  · exact (flag_takeCleared hcopied clear _ (by decide) (by decide)).trans hdone
  · have hmask : clearMask Reg.beamTick.at true true = 0 := by decide
    have htick : (takeTicked s).rd Reg.beamTick.at = s.timeBase.setWidth 32 := by
      rw [takeTicked, State.rd_wr _ (takeBusy_rising hr), if_pos rfl]
    have hspare : t.rd Reg.beamTick.at = (takeTicked s).rd Reg.beamTick.at := by
      refine (rd_takeCleared hcopied clear (by decide)).trans ?_
      split
      · rw [hmask]
        exact BitVec.and_allOnes
      · rfl
    rw [hspare, htick]

/-- The copies of counter and history bits are those of the words before the take. -/
theorem kGet_takeCopies (hr : kRising s.regs = true) {o : Nat} (ho : o ∉ satOffs ++ bookOffs ++ pairOffs)
    (hst : o ≠ Reg.beamStatus.at) : kGet 0 (beamCopies (takeTicked s)) o = s.rd o &&& clearMask o true true := by
  rw [kGet_beamCopies (takeTicked_rising hr) ho]
  by_cases htick : o = Reg.beamTick.at
  · have hmask : clearMask o true true = 0 := htick ▸ (by decide)
    rw [hmask]
    exact BitVec.and_zero.trans BitVec.and_zero.symm
  · have hout : o ∉ [Reg.beamStatus.at, Reg.beamTick.at] := by simp [hst, htick]
    rw [takeTicked_wordsKept hr o hout]

/-! ### The end of a take (R630) -/

/-- BUSY cleared and DONE set. -/
def takeDone (s : State) : State := (s.setFlag Fld.beamStatusBusy false).setFlag Fld.beamStatusDone true

/-- The take is counted in SEQ. -/
def takeCounted (s : State) : State := (takeDone s).setFld Fld.beamStatusSeq ((takeDone s).fld Fld.beamStatusSeq + 1)

/-- CLEARED says whether the take cleared. -/
def takeEnded (s : State) : State := (takeCounted s).setFlag Fld.beamStatusCleared s.beamClear

theorem opTakeDone_eq (hb : s.flag Fld.beamStatusBusy = true) (hc : s.clears.any isTakeMark = false) :
    opTakeDone s = takeEnded s := by
  rw [opTakeDone, hb, hc]
  rfl

theorem takeDone_rising (hr : kRising s.regs = true) : kRising (takeDone s).regs = true :=
  State.setFlag_rising (State.setFlag_rising hr ..) ..

theorem takeCounted_rising (hr : kRising s.regs = true) : kRising (takeCounted s).regs = true :=
  State.setFld_rising _ (takeDone_rising hr) ..

/-- BEAM_STATUS as the end of a take leaves it. -/
def endedWord (w : Word) (clear : Bool) : Word :=
  let done := putBits (putBits w 1 1 0) 0 1 1
  putBits (putBits done 8 8 (getBits done 8 8 + 1)) 3 1 clear.toNat

theorem rd_takeEnded (hr : kRising s.regs = true) :
    (takeEnded s).rd Reg.beamStatus.at = endedWord (s.rd Reg.beamStatus.at) s.beamClear := by
  have hbusy : (s.setFlag Fld.beamStatusBusy false).rd Reg.beamStatus.at = putBits (s.rd Reg.beamStatus.at) 1 1 0 :=
    State.rd_setFld_reg hr rfl _
  have hdone : (takeDone s).rd Reg.beamStatus.at = putBits ((s.setFlag Fld.beamStatusBusy false).rd Reg.beamStatus.at) 0 1 1 :=
    State.rd_setFld_reg (State.setFlag_rising hr ..) rfl _
  have hcounted : (takeCounted s).rd Reg.beamStatus.at = putBits ((takeDone s).rd Reg.beamStatus.at) 8 8
      (getBits ((takeDone s).rd Reg.beamStatus.at) 8 8 + 1) := State.rd_setFld_reg (takeDone_rising hr) rfl _
  have hended : (takeEnded s).rd Reg.beamStatus.at = putBits ((takeCounted s).rd Reg.beamStatus.at) 3 1 s.beamClear.toNat :=
    State.rd_setFld_reg (takeCounted_rising hr) rfl _
  rw [hended, hcounted, hdone, hbusy]
  rfl

/-- The fields of BEAM_STATUS stand beside each other. -/
theorem endedWord_fields (w : Word) (clear : Bool) :
    getBits (endedWord w clear) 1 1 = 0 ∧ getBits (endedWord w clear) 0 1 = 1
      ∧ getBits (endedWord w clear) 8 8 = (getBits w 8 8 + 1) % 2 ^ 8 ∧ getBits (endedWord w clear) 3 1 = clear.toNat := by
  have hclear : clear.toNat % 2 = clear.toNat := Nat.mod_eq_of_lt clear.toNat_lt
  simp [endedWord, getBits_putBits, getBits_putBits_other, hclear]

theorem takeEnded_status (hr : kRising s.regs = true) :
    (takeEnded s).flag Fld.beamStatusBusy = false ∧ (takeEnded s).flag Fld.beamStatusDone = true
      ∧ (takeEnded s).fld Fld.beamStatusSeq = (s.fld Fld.beamStatusSeq + 1) % 2 ^ Fld.beamStatusSeq.w
      ∧ (takeEnded s).flag Fld.beamStatusCleared = s.beamClear := by
  have hfld (f : Fld) (h : f.reg = Reg.beamStatus) :
      (takeEnded s).fld f = getBits (endedWord (s.rd Reg.beamStatus.at) s.beamClear) f.lo f.w := by
    rw [State.fld, h, rd_takeEnded hr]
  obtain ⟨hbusy, hdone, hseq, hcleared⟩ := endedWord_fields (s.rd Reg.beamStatus.at) s.beamClear
  refine ⟨?_, ?_, (hfld Fld.beamStatusSeq rfl).trans hseq, ?_⟩
  · exact congrArg (· == 1) ((hfld Fld.beamStatusBusy rfl).trans hbusy)
  · exact congrArg (· == 1) ((hfld Fld.beamStatusDone rfl).trans hdone)
  · refine (congrArg (· == 1) ((hfld Fld.beamStatusCleared rfl).trans hcleared)).trans ?_
    cases s.beamClear <;> rfl

theorem takeEnded_onlyWords (hr : kRising s.regs = true) : OnlyWords s (takeEnded s) [Reg.beamStatus.at] := by
  have hbusy : OnlyWords s (s.setFlag Fld.beamStatusBusy false) [Reg.beamStatus.at] := OnlyWords.setFlag hr ..
  have hdone : OnlyWords _ (takeDone s) [Reg.beamStatus.at] := OnlyWords.setFlag (State.setFlag_rising hr ..) ..
  have hcounted : OnlyWords _ (takeCounted s) [Reg.beamStatus.at] := OnlyWords.setFld (takeDone_rising hr) ..
  have hended : OnlyWords _ (takeEnded s) [Reg.beamStatus.at] := OnlyWords.setFlag (takeCounted_rising hr) ..
  exact ((hbusy.trans hdone).trans hcounted).trans hended

end Sys2Proof.Machine

end

/-! SUPPORT. The statement about takes. -/

section

open Sys2Proof Sys2Proof.Machine

/-- Settles O21: the books are judged and the copies taken at the launch itself (log entries 20 and 48), and the copies of the
counter and history bits hold also for the words that no write has moved, as a cold reset leaves those bits 0 (R654). -/
theorem beamTakes : Obligations.BeamTakes := by
  refine ⟨fun clear s hm hw he => ?_, fun s hw hb hc => ?_⟩
  · have hr := State.wf_regs_rising hw
    have hexec := exec_take hm he clear
    refine ⟨fun hb => ⟨_, hexec, ?_⟩, fun hb hc hbooks => ⟨_, hexec, ?_⟩, fun hb hc hbooks => ⟨_, hexec, ?_⟩⟩
    · rw [opTake_of_busy hm hb]
      exact ⟨State.flag_setFlag hr _ rfl (by decide), OnlyWords.setFlag hr ..⟩
    · rw [opTake_of_idle hm hb hc]
      have hout : booksOut (takeBusy s) ≠ 0 := (booksOut_takeBusy s).trans_ne hbooks
      refine ⟨launchTake_reports hout clear, ?_⟩
      rintro rfl
      exact launchTake_imbalance (takeBusy_rising hr) hout
    · rw [opTake_of_idle hm hb hc, launchTake_of_balance hbooks]
      obtain ⟨hbusy, hdone, htick⟩ := takeCleared_status hr clear
      obtain ⟨hdata, hledger, hports, hevq, hbeam, hctxs, hclear⟩ := takeCleared_kept (takeCopied (takeTicked s) clear) clear
      refine ⟨hbusy, hdone, htick, hclear, hctxs, fun o ho hst => ?_, ?_, hdata, hledger, hports, hevq⟩
      · rw [hbeam]
        exact kGet_takeCopies hr ho hst
      · rintro rfl
        rw [takeCleared_false]
        exact ⟨rfl, takeTicked_wordsKept hr⟩
  · have hr := State.wf_regs_rising hw
    obtain ⟨hbusy, hdone, hseq, hcleared⟩ := takeEnded_status hr
    exact ⟨takeEnded s, congrArg (fun t => Host.Outcome.next (settle t)) (opTakeDone_eq hb hc), hbusy, hdone, hseq, hcleared,
      takeEnded_onlyWords hr⟩

end

/-! SUPPORT. The places of PLAIN (R204, R205). -/

section

namespace Sys2Proof.Machine

variable {s : State}

/-- A field's value fits in the field. -/
theorem State.fld_lt (s : State) (f : Fld) (i k : Nat) : s.fld f i k < 2 ^ f.w := Nat.mod_lt _ (Nat.two_pow_pos _)

theorem State.mapEntry_lt (s : State) (e : Nat) : s.mapEntry e < 16 := s.fld_lt ..

/-- A map entry of a channel is counted below every entry that stands behind it. -/
theorem State.mapBelow_lt {m n : Nat} (hlt : m < n) : s.mapBelow (s.mapEntry m) m < s.mapBelow (s.mapEntry m) n := by
  have hsucc : s.mapBelow (s.mapEntry m) (m + 1) = s.mapBelow (s.mapEntry m) m + 1 := by
    simp [State.mapBelow, List.range_succ]
  have hle : s.mapBelow (s.mapEntry m) (m + 1) ≤ s.mapBelow (s.mapEntry m) n :=
    (List.range_sublist.2 hlt).countP_le
  omega

/-- The map entries of one channel are told apart by how many of them stand below. -/
theorem State.mapBelow_injective {m n : Nat} (he : s.mapEntry m = s.mapEntry n)
    (h : s.mapBelow (s.mapEntry m) m = s.mapBelow (s.mapEntry n) n) : m = n := by
  rcases Nat.lt_trichotomy m n with hlt | rfl | hlt
  · have hbelow := s.mapBelow_lt hlt
    rw [h, he] at hbelow
    omega
  · rfl
  · have hbelow := s.mapBelow_lt hlt
    rw [← h, ← he] at hbelow
    omega

/-- Q of R205 leaves 16 × SETS frames or fewer of every channel that the map names. -/
theorem State.plainQ_mul_le {c : Nat} (hc : c < 16) (hw : s.mapWeight c ≠ 0) : s.plainQ * s.mapWeight c ≤ 16 * s.sets c := by
  have hmem : 16 * s.sets c / s.mapWeight c ∈ (List.range 16).filterMap (fun c =>
      let w := s.mapWeight c
      if w = 0 then none else some (16 * s.sets c / w)) :=
    List.mem_filterMap.2 ⟨c, List.mem_range.2 hc, if_neg hw⟩
  refine (Nat.le_div_iff_mul_le (Nat.pos_of_ne_zero hw)).1 ?_
  unfold State.plainQ
  revert hmem
  generalize (List.range 16).filterMap _ = l
  intro hmem
  cases l with
  | nil => cases hmem
  | cons q r =>
    exact (List.min?_eq_some_iff.1 (List.min?_cons' (x := q) (xs := r))).2 _ hmem

/-- In PLAIN a frame's number in its channel lies below 16 × SETS (R204). -/
theorem State.plainFrame_lt {n : Nat} (hn : n < 64 * s.plainQ) :
    n / 64 * s.mapWeight (s.mapEntry (n % 64)) + s.mapBelow (s.mapEntry (n % 64)) (n % 64)
      < 16 * s.sets (s.mapEntry (n % 64)) := by
  have hbelow : s.mapBelow (s.mapEntry (n % 64)) (n % 64) < s.mapWeight (s.mapEntry (n % 64)) :=
    s.mapBelow_lt (Nat.mod_lt _ (by decide))
  calc n / 64 * s.mapWeight (s.mapEntry (n % 64)) + s.mapBelow (s.mapEntry (n % 64)) (n % 64)
    _ < (n / 64 + 1) * s.mapWeight (s.mapEntry (n % 64)) := by
      rw [Nat.succ_mul]
      omega
    _ ≤ s.plainQ * s.mapWeight (s.mapEntry (n % 64)) := Nat.mul_le_mul_right _ (by omega)
    _ ≤ 16 * s.sets (s.mapEntry (n % 64)) := State.plainQ_mul_le (s.mapEntry_lt _) (by omega)

/-- The page is read back from its channel and the frame's number there. -/
theorem State.plainPlace_injective {n m : Nat} (h : s.plainPlace n = s.plainPlace m) : n = m := by
  obtain ⟨hch, hset, hway⟩ : s.mapEntry (n % 64) = s.mapEntry (m % 64) ∧ _ ∧ _ := by
    simpa only [State.plainPlace, Prod.mk.injEq] using h
  have hn : s.mapBelow (s.mapEntry (n % 64)) (n % 64) < s.mapWeight (s.mapEntry (n % 64)) :=
    s.mapBelow_lt (Nat.mod_lt _ (by decide))
  have hm : s.mapBelow (s.mapEntry (m % 64)) (m % 64) < s.mapWeight (s.mapEntry (m % 64)) :=
    s.mapBelow_lt (Nat.mod_lt _ (by decide))
  have hframe : n / 64 * s.mapWeight (s.mapEntry (n % 64)) + s.mapBelow (s.mapEntry (n % 64)) (n % 64)
      = m / 64 * s.mapWeight (s.mapEntry (m % 64)) + s.mapBelow (s.mapEntry (m % 64)) (m % 64) := by omega
  have hrow : n / 64 = m / 64 := by
    have hdiv := congrArg (· / s.mapWeight (s.mapEntry (n % 64))) hframe
    rw [← hch] at hdiv hm
    simpa [Nat.add_div_of_dvd_right, Nat.div_eq_of_lt, hn, hm, Nat.zero_lt_of_lt hn] using hdiv
  have hslot : n % 64 = m % 64 := by
    refine State.mapBelow_injective hch ?_
    rw [hrow, hch] at hframe
    rw [hch]
    omega
  omega

end Sys2Proof.Machine

end

/-! SUPPORT. The statement about the places of PLAIN. -/

section

open Sys2Proof Sys2Proof.Machine

/-- Settles O43: a page is its row and its map entry; the row is the quotient of the frame's number by the channel's weight and
the entry, told by its rank among the channel's entries, the remainder (R204). -/
theorem plainFramesDisjoint : Obligations.PlainFramesDisjoint := by
  intro s n m hn _
  have hlt := State.plainFrame_lt hn
  exact ⟨s.mapEntry_lt _, Nat.div_lt_of_lt_mul hlt, Nat.mod_lt _ (by decide), State.plainPlace_injective⟩

end

/-! SUPPORT. The drain walkers, the fence walkers and the cleaner (R191, R199, R471). One projection, `State.stores`, carries what
none of them moves, so that each function that they go through needs one frame lemma. -/

section

namespace Sys2Proof.Machine

/-- The stores of data, the directory, the drain walkers' places and the ways that retire. -/
structure Stores where
  dram : KMap Line
  tags : KMap Tag
  flash : Flash
  pidx : List Nat
  drain : KMap Nat
  retiring : List (Nat × Nat × Nat × Nat)

/-- The same with the media port. -/
structure MediaStores extends Stores where
  media : Media

/-- The part of a state that an access asked for leaves alone. -/
def State.mediaStores (s : State) : MediaStores :=
  { dram := s.dram, tags := s.tags, flash := s.flash, pidx := s.pidx, drain := s.drain, retiring := s.retiring,
    media := s.media }

/-- The part of a state that an offer begun leaves alone too. -/
def State.stores (s : State) : Stores := s.mediaStores.toStores

theorem dataKept_of_stores {s t : State} (h : t.stores = s.stores) : DataKept s t :=
  ⟨congrArg Stores.dram h, congrArg Stores.tags h, congrArg (fun k => k.flash.bytes) h, congrArg (fun k => k.flash.otp) h⟩

section
variable (s : State) (c : Nat)

/-! ### Accesses (R257) -/

theorem freqRetry_mediaStores : (freqRetry s c).mediaStores = s.mediaStores := by
  unfold freqRetry
  dsimp only
  split <;> rfl

theorem wakeChannel_mediaStores : (wakeChannel s c).mediaStores = s.mediaStores := by
  unfold wakeChannel
  split
  · split
    · rfl
    · exact freqRetry_mediaStores ..
  all_goals rfl

theorem newJob_mediaStores (why : JobFor) (write : Bool) (lines : List JobLine) (ctx : Nat) (deadline : Tick)
    (rights overdue : Bool) :
    (newJob s c why write lines ctx deadline rights overdue).2.mediaStores = s.mediaStores := by
  have hwake : (if isBackground why ctx then s else wakeChannel s c).mediaStores = s.mediaStores := by
    split
    · rfl
    · exact wakeChannel_mediaStores ..
  exact hwake

variable (set ctx : Nat) (deadline : Tick)

theorem takeTagEntries_stores (kind : LKind) (id : Nat) :
    (takeTagEntries s kind c set id ctx deadline).stores = s.stores := foldl_frame State.stores _ _ _ fun _ _ => rfl

theorem startFetch_stores : (startFetch s c set ctx deadline).stores = s.stores := by
  have hjob := newJob_mediaStores s c (.tagRead set) false (tagLines s c set) ctx deadline (s.entryRights ctx) false
  unfold startFetch
  split
  · revert hjob
    generalize newJob s c (.tagRead set) false (tagLines s c set) ctx deadline (s.entryRights ctx) = x
    intro hjob
    exact (takeTagEntries_stores x.2 c set ctx deadline .tagRead x.1).trans (congrArg MediaStores.toStores hjob)
  · rfl

theorem wantSet_stores : (wantSet s c set ctx deadline).2.stores = s.stores := by
  unfold wantSet
  split
  · rfl
  · split
    · rfl
    · exact startFetch_stores ..

/-! ### Cleans (R125, R228) -/

variable (why : OfferFor) (way : Nat) (rights : Bool)

/-- An offer that is begun joins the offers, and moves nothing else. -/
theorem startOffer_frame (dirty : Bool) (smap : BitVec 64) :
    let t := startOffer s why dirty c set way smap ctx deadline rights
    t.stores = s.stores ∧ ∃ o, t.media.offers = s.media.offers ++ [o] := by
  have hjob := newJob_mediaStores s.fresh.2 c (.offerRead s.fresh.1) false
    ((sectors smap).map (fun x => ({ loc := s.fresh.2.frameLoc c set way x, key := lineKeyOf c set way x } : JobLine)))
    ctx deadline rights false
  revert hjob
  unfold startOffer
  dsimp only
  generalize newJob s.fresh.2 c _ false _ ctx deadline rights = x
  intro hjob
  generalize hu : List.foldl _ x.2 (sectors smap) = u
  have hall : u.mediaStores = s.mediaStores := by
    rw [← hu]
    refine (foldl_frame State.mediaStores _ _ _ ?_).trans hjob
    exact fun _ _ => rfl
  have hstores : u.stores = s.stores := congrArg MediaStores.toStores hall
  have hoffers : u.media.offers = s.media.offers := congrArg (fun k => k.media.offers) hall
  exact ⟨hstores, _, congrArg (· ++ [_]) hoffers⟩

/-- A clean begins one offer or none, and moves nothing else. -/
theorem startClean_frame :
    let t := (startClean s why c set way ctx deadline rights).2
    t.stores = s.stores ∧ t.media.offers.length ≤ s.media.offers.length + 1 := by
  unfold startClean
  dsimp only
  split
  · exact ⟨rfl, Nat.le_succ _⟩
  · obtain ⟨hstores, o, ho⟩ := startOffer_frame s c set ctx deadline why way rights true _
    exact ⟨hstores, by rw [ho, List.length_append, List.length_singleton]⟩

end

/-! ### Walkers (R191, R471) -/

variable (s : State) (why : OfferFor) (c set last : Nat)

theorem walkSet_stores : (walkSet s why c set).2.stores = s.stores := by
  refine List.foldlRecOn (motive := fun x : Bool × State => x.2.stores = s.stores) _ _ rfl ?_
  intro x hx w _
  dsimp only
  split
  · exact hx
  · split
    · exact hx
    · exact (startClean_frame ..).1.trans hx

/-- A step of a walker moves no line; the walker stays at its set, goes to the next, or has passed the last one. -/
theorem walkStep_stores : (walkStep s why c set last).2.stores = s.stores := by
  have hwant := wantSet_stores s c set 0 (s.farDeadline (s.fld Fld.arbFarRepair))
  unfold walkStep
  split
  · rfl
  · split
    · next h => rwa [h] at hwant
    · next u h =>
      have hwalk := walkSet_stores u why c set
      rw [h] at hwant
      split
      · next hu =>
        rw [hu] at hwalk
        exact hwalk.trans hwant
      · next hu =>
        rw [hu] at hwalk
        exact hwalk.trans hwant

theorem walkStep_place : (walkStep s why c set last).1 = some set ∨ (walkStep s why c set last).1 = some (set + 1)
    ∨ (walkStep s why c set last).1 = none := by
  unfold walkStep
  split
  · exact .inr (.inr rfl)
  · split
    · exact .inl rfl
    · split
      · exact .inl rfl
      · dsimp only
        split
        · exact .inr (.inl rfl)
        · exact .inr (.inr rfl)

/-! ### A command of a walker or of the cleaner (R191, R199, R471) -/

variable {s c set}

/-- A drain walker goes to a set, or has passed the last one. -/
def State.drainTo (s : State) (c : Nat) (place : Option Nat) : State :=
  match place with
  | none => { s with drain := kErase s.drain c }
  | some n => { s with drain := kPut s.drain c n }

theorem DataKept.drainTo {t : State} (h : DataKept s t) (place : Option Nat) : DataKept s (t.drainTo c place) := by
  cases place <;> exact h

theorem kFind_drainTo (hr : kRising s.drain = true) (place : Option Nat) : kFind (s.drainTo c place).drain c = place := by
  cases place with
  | none => exact (kFind_kErase ((kRising_iff _).1 hr) c c).trans (if_pos rfl)
  | some n => exact (kFind_kPut s.drain c c n).trans (if_pos rfl)

theorem opDrainWalk_of_idle (h : kFind s.drain c = none ∨ s.mode ≠ .drain) : opDrainWalk s c = s := by
  unfold opDrainWalk
  split
  · rfl
  · next hset => exact if_pos (h.resolve_left (hset ▸ Option.some_ne_none _))

theorem opDrainWalk_of_walking (hset : kFind s.drain c = some set) (hm : s.mode = .drain) :
    let walked := walkStep s .drain c set (s.sets c)
    opDrainWalk s c = walked.2.drainTo c walked.1 := by
  unfold opDrainWalk
  rw [hset]
  dsimp only
  rw [if_neg (not_not_intro hm)]
  split
  · next h => rw [h]; rfl
  · next h => rw [h]; rfl

theorem opDrainWalk_kept : DataKept s (opDrainWalk s c) := by
  by_cases h : kFind s.drain c = none ∨ s.mode ≠ .drain
  · rw [opDrainWalk_of_idle h]
    exact dataKept_of_stores rfl
  · obtain ⟨hset, hm⟩ := not_or.1 h
    obtain ⟨set, hset⟩ := Option.ne_none_iff_exists'.1 hset
    rw [opDrainWalk_of_walking hset (not_not.1 hm)]
    exact (dataKept_of_stores (walkStep_stores ..)).drainTo _

theorem opDrainWalk_place (hset : kFind s.drain c = some set) (hm : s.mode = .drain) (hr : kRising s.drain = true) :
    kFind (opDrainWalk s c).drain c = some set ∨ kFind (opDrainWalk s c).drain c = some (set + 1)
      ∨ kFind (opDrainWalk s c).drain c = none := by
  have hdrain : (walkStep s .drain c set (s.sets c)).2.drain = s.drain :=
    congrArg Stores.drain (walkStep_stores s .drain c set (s.sets c))
  rw [opDrainWalk_of_walking hset hm, kFind_drainTo (hdrain ▸ hr)]
  exact walkStep_place ..

theorem opFenceWalk_of_none (h : (s.ch c).walker = none) : opFenceWalk s c = s := by
  unfold opFenceWalk
  rw [h]

/-- A fence walker waits, or takes a step. -/
theorem opFenceWalk_of_some (h : (s.ch c).walker = some set) : opFenceWalk s c = s ∨ ∃ last,
    opFenceWalk s c = (walkStep s .fence c set last).2.modCh (chan c) (fun q =>
      { q with walker := (walkStep s .fence c set last).1 }) := by
  unfold opFenceWalk
  rw [h]
  dsimp only
  split
  · exact .inl rfl
  · exact .inr ⟨_, rfl⟩

theorem opFenceWalk_kept : DataKept s (opFenceWalk s c) := by
  cases h : (s.ch c).walker with
  | none =>
    rw [opFenceWalk_of_none h]
    exact dataKept_of_stores rfl
  | some set =>
    rcases opFenceWalk_of_some h with h | ⟨last, h⟩
    · rw [h]
      exact dataKept_of_stores rfl
    · have hwalk := walkStep_stores s .fence c set last
      rw [h]
      exact dataKept_of_stores hwalk

theorem opFenceWalk_place {c : ChanId} (h : s.chs[c].walker = some set) :
    (opFenceWalk s c).chs[c].walker = some set ∨ (opFenceWalk s c).chs[c].walker = some (set + 1)
      ∨ (opFenceWalk s c).chs[c].walker = none := by
  rcases opFenceWalk_of_some ((congrArg Channel.walker (s.ch_val c)).trans h) with ht | ⟨last, ht⟩
  · rw [ht]
    exact .inl h
  · rw [ht, chan_val, State.modCh_self]
    exact walkStep_place ..

/-- The cleaner does nothing, or begins one clean. -/
theorem opCleaner_cases (s : State) : opCleaner s = s ∨ ∃ c set way deadline,
    opCleaner s = (startClean s .cleaner c set way 0 deadline false).2 := by
  unfold opCleaner
  extract_lets budget due ready
  split
  · exact .inl rfl
  · split
    · exact .inl rfl
    · exact .inr ⟨_, _, _, _, rfl⟩

theorem opCleaner_frame (s : State) :
    (opCleaner s).stores = s.stores ∧ (opCleaner s).media.offers.length ≤ s.media.offers.length + 1 := by
  rcases opCleaner_cases s with h | ⟨c, set, way, deadline, h⟩
  · rw [h]
    exact ⟨rfl, Nat.le_succ _⟩
  · rw [h]
    exact startClean_frame ..

theorem opCleaner_of_off (h : s.flag Fld.tierCtlCleaner = false ∨ budgetUnits s = 0) : opCleaner s = s := by
  rcases h with h | h <;> simp [opCleaner, h]

end Sys2Proof.Machine

end

/-! SUPPORT. Sweeps (R173 to R175). -/

section

namespace Sys2Proof.Machine

variable {s : State} {c : Nat}

/-- A set's entries written by a sweep. -/
def sweptSet (s : State) (c set : Nat) : State :=
  (List.range 16).foldl (fun s w =>
    s.setTag c set w { poison := sweptPoison s c set w, retired := s.retiredLog.contains (c, set, w) }) s

/-- What a sweep leaves of an entry whose page keeps no poison: the retirement that the log holds. -/
def sweptEntry (s : State) (c set w : Nat) : Tag := { retired := s.retiredLog.contains (c, set, w) }

theorem sweptPoison_eq_zero (hm : s.mode ≠ .plain) (c set w : Nat) : sweptPoison s c set w = 0 := by
  simp [sweptPoison, hm]

/-- A sweep's writes move the tags and mark the cached set. -/
theorem sweptSet_frame (s : State) (c set : Nat) : ∃ tags caches, sweptSet s c set = { s with tags := tags, caches := caches } := by
  refine List.foldlRecOn (motive := fun t : State => ∃ tags caches, t = { s with tags := tags, caches := caches }) _ _
    ⟨_, _, rfl⟩ ?_
  rintro _ ⟨tags, caches, rfl⟩ w -
  exact ⟨_, _, rfl⟩

theorem sweptSet_tags (hm : s.mode ≠ .plain) (c set : Nat) : (sweptSet s c set).tags =
    (List.range 16).foldl (fun m w => kSet {} m (frameKey c set w) (sweptEntry s c set w)) s.tags := by
  unfold sweptSet
  generalize List.range 16 = l
  induction l generalizing s with
  | nil => rfl
  | cons w l ih =>
    rw [List.foldl_cons, ih (by simpa using hm), sweptPoison_eq_zero hm]
    rfl

theorem frameKey_way_injective (c set : Nat) {v w : Nat} (h : frameKey c set v = frameKey c set w) : v = w := by
  unfold frameKey at h
  omega

theorem State.wf_tags_rising (h : s.wf = true) : kRising s.tags = true := by
  have hk : kWf (fun _ => ({} : Tag)) s.tags = true := by
    simp only [State.wf, Bool.and_eq_true] at h
    tauto
  exact (kRising_iff _).2 ((kWf_iff _ _).1 hk).1

theorem sweptSet_tag (hm : s.mode ≠ .plain) (hr : kRising s.tags = true) (c set : Nat) (w : Fin 16) :
    (sweptSet s c set).tag c set w = sweptEntry s c set w := by
  rw [State.tag, sweptSet_tags hm]
  exact kGet_foldl_kSet_of_mem {} (frameKey c set) (sweptEntry s c set) hr
    (List.nodup_range.imp fun hne h => hne (frameKey_way_injective c set h)) (List.mem_range.2 w.isLt)

theorem sweptSet_tagK_other (hm : s.mode ≠ .plain) (hr : kRising s.tags = true) (c set : Nat) {k : Nat}
    (hk : ∀ w : Fin 16, k ≠ frameKey c set w) : (sweptSet s c set).tagK k = s.tagK k := by
  rw [State.tagK, sweptSet_tags hm]
  exact kGet_foldl_kSet_other {} (frameKey c set) (sweptEntry s c set) hr fun w hw =>
    (hk ⟨w, List.mem_range.1 hw⟩).symm

theorem State.tagK_congr {t : State} (h : t.tags = s.tags) (k : Nat) : t.tagK k = s.tagK k := by
  rw [State.tagK, h, State.tagK]

theorem State.tag_congr {t : State} (h : t.tags = s.tags) (c set way : Nat) : t.tag c set way = s.tag c set way :=
  State.tagK_congr h _

/-- The frontier moves on by one set. -/
def sweepMoved (s : State) (c : Nat) : State :=
  (sweptSet s c (s.fld Fld.tierSweepFrontier c)).setFld Fld.tierSweepFrontier (s.fld Fld.tierSweepFrontier c + 1) c

/-- The sweep of a channel has covered its last set. -/
def sweepEnded (s : State) (c : Nat) : State :=
  (s.setFlag Fld.tierSweepActive false c).modCh (chan c) (fun q =>
    { q with hardRows := if (s.ch c).st == .returning then [] else q.hardRows, warmLost := false })

/-- A step of a sweep that runs: the set at the frontier is written, and behind the last set the sweep ends. -/
theorem opSweep_cases {c : ChanId} (hm : s.mode = .tiered ∨ s.mode = .drain ∨ s.mode = .bypass)
    (ha : s.flag Fld.tierSweepActive c = true) (ho : s.chs[c].st = .online)
    (hf : s.fld Fld.tierSweepFrontier c < s.sets c) :
    opSweep s c = sweepMoved s c ∨ opSweep s c = sweepEnded (sweepMoved s c) c := by
  obtain ⟨tags, caches, hswept⟩ := sweptSet_frame s c (s.fld Fld.tierSweepFrontier c)
  have hsets : (sweptSet s c (s.fld Fld.tierSweepFrontier c)).sets c = s.sets c := by rw [hswept]; rfl
  have hch : s.ch c = s.chs[c] := s.ch_val c
  unfold opSweep
  extract_lets set runs modeOk swept moved off back
  have hruns : runs = true := by simp only [runs, hch, ho]
  have hmode : modeOk = true := by rcases hm with h | h | h <;> simp only [modeOk, h]
  have hmoved : moved = sweepMoved s c := by
    have hset : swept = sweptSet s c set := if_pos hf
    have hlast : min (set + 1) (swept.sets c) = set + 1 := by
      rw [hset, hsets]
      exact min_eq_left hf
    simp only [moved, hlast]
    rw [hset]
    rfl
  rw [ha, hruns, hmode, if_neg (by decide)]
  split
  · exact .inl hmoved
  · exact .inr (hmoved ▸ rfl)

theorem sweepMoved_kept (s : State) (c : Nat) : (sweepMoved s c).dram = s.dram ∧ (sweepMoved s c).ledger = s.ledger
    ∧ (sweepMoved s c).ports = s.ports ∧ (sweepMoved s c).chs = s.chs := by
  obtain ⟨tags, caches, h⟩ := sweptSet_frame s c (s.fld Fld.tierSweepFrontier c)
  rw [sweepMoved, h]
  exact ⟨rfl, rfl, rfl, rfl⟩

theorem sweptSet_regs (s : State) (c set : Nat) : (sweptSet s c set).regs = s.regs := by
  obtain ⟨tags, caches, h⟩ := sweptSet_frame s c set
  rw [h]

theorem sweepMoved_tags (s : State) (c : Nat) :
    (sweepMoved s c).tags = (sweptSet s c (s.fld Fld.tierSweepFrontier c)).tags := by
  rw [sweepMoved, State.setFld_tags]

theorem sweepEnded_kept (s : State) (c : Nat) : (sweepEnded s c).tags = s.tags ∧ (sweepEnded s c).dram = s.dram
    ∧ (sweepEnded s c).ledger = s.ledger ∧ (sweepEnded s c).ports = s.ports := ⟨rfl, rfl, rfl, rfl⟩

theorem sweptSet_rising (hr : kRising s.regs = true) (c set : Nat) : kRising (sweptSet s c set).regs = true := by
  rw [sweptSet_regs]
  exact hr

theorem sweepMoved_rising (hr : kRising s.regs = true) : kRising (sweepMoved s c).regs = true := by
  rw [sweepMoved]
  exact State.setFld_rising _ (sweptSet_rising hr ..) ..

theorem sweepMoved_frontier (hr : kRising s.regs = true) (hf : s.fld Fld.tierSweepFrontier c < s.sets c) :
    (sweepMoved s c).fld Fld.tierSweepFrontier c = s.fld Fld.tierSweepFrontier c + 1 := by
  have hlt : s.sets c < 2 ^ Fld.tierSweepFrontier.w := s.fld_lt Fld.tierGeomSets c 0
  rw [sweepMoved, State.fld_setFld _ (sweptSet_rising hr ..) _ _ _ _ (by decide)]
  exact Nat.mod_eq_of_lt (Nat.lt_of_le_of_lt hf hlt)

theorem sweepEnded_frontier (hr : kRising s.regs = true) :
    (sweepEnded s c).fld Fld.tierSweepFrontier c = s.fld Fld.tierSweepFrontier c :=
  State.fld_setFld_beside s hr Fld.tierSweepActive Fld.tierSweepFrontier _ c 0 c 0 rfl (by decide) (by decide)

theorem sweepEnded_otherChannels (s : State) (c : ChanId) : OtherChannels s (sweepEnded s c) c := fun d hd => by
  rw [sweepEnded, chan_val]
  exact State.modCh_other _ _ _ _ hd

/-- A step of a sweep that runs moves the tags of the set at the frontier, and the frontier. -/
theorem opSweep_kept {c : ChanId} (hr : kRising s.regs = true) (hm : s.mode = .tiered ∨ s.mode = .drain ∨ s.mode = .bypass)
    (ha : s.flag Fld.tierSweepActive c = true) (ho : s.chs[c].st = .online)
    (hf : s.fld Fld.tierSweepFrontier c < s.sets c) :
    (opSweep s c).tags = (sweptSet s c (s.fld Fld.tierSweepFrontier c)).tags
      ∧ (opSweep s c).fld Fld.tierSweepFrontier c = s.fld Fld.tierSweepFrontier c + 1
      ∧ (opSweep s c).dram = s.dram ∧ (opSweep s c).ledger = s.ledger ∧ (opSweep s c).ports = s.ports
      ∧ OtherChannels s (opSweep s c) c := by
  obtain ⟨hdram, hledger, hports, hchs⟩ := sweepMoved_kept s c
  have htags := sweepMoved_tags s c
  have hfrontier := sweepMoved_frontier hr hf
  have hother (d : ChanId) : (sweepMoved s c).chs[d] = s.chs[d] := congrArg (fun v => v[d]) hchs
  rcases opSweep_cases hm ha ho hf with h | h
  · rw [h]
    exact ⟨htags, hfrontier, hdram, hledger, hports, fun d _ => hother d⟩
  · obtain ⟨etags, edram, eledger, eports⟩ := sweepEnded_kept (sweepMoved s c) c
    rw [h]
    exact ⟨etags.trans htags, (sweepEnded_frontier (sweepMoved_rising hr)).trans hfrontier, edram.trans hdram,
      eledger.trans hledger, eports.trans hports, fun d hd => (sweepEnded_otherChannels _ c d hd).trans (hother d)⟩

end Sys2Proof.Machine

end

/-! SUPPORT. The statement about sweeps, walkers and the cleaner. -/

section

open Sys2Proof Sys2Proof.Machine

/-- Settles O25: a sweep's sixteen writes go to sixteen keys of one set (R175); whatever reads and offers a walker or the cleaner
asks for, the stores stay, and a walker's place follows the answer of its step (R191, R199, R471). -/
theorem sweepsAndWalkers : Obligations.SweepsAndWalkers := by
  refine ⟨fun c s hw hm ha ho hf => ?_, fun c s => ⟨?_, ?_, ?_, fun h => ?_, fun h => ?_, fun h => ?_⟩⟩
  · have hplain : s.mode ≠ .plain := by
      rintro h
      simp [h] at hm
    have htags := State.wf_tags_rising hw
    obtain ⟨hswept, hfrontier, hkept⟩ := opSweep_kept (State.wf_regs_rising hw) hm ha ho hf
    refine ⟨opSweep s c, rfl, fun w => ?_, fun k hk => ?_, hfrontier, hkept⟩
    · exact (State.tag_congr hswept ..).trans (sweptSet_tag hplain htags ..)
    · exact (State.tagK_congr hswept _).trans (sweptSet_tagK_other hplain htags _ _ hk)
  · exact ⟨opDrainWalk s c, rfl, opDrainWalk_kept, fun set => opDrainWalk_place⟩
  · exact ⟨opFenceWalk s c, rfl, opFenceWalk_kept, fun set => opFenceWalk_place⟩
  · obtain ⟨hstores, hoffers⟩ := opCleaner_frame s
    exact ⟨opCleaner s, rfl, dataKept_of_stores hstores, congrArg Stores.pidx hstores, hoffers⟩
  · exact congrArg (fun t => Host.Outcome.next (settle t)) (opDrainWalk_of_idle h)
  · exact congrArg (fun t => Host.Outcome.next (settle t))
      (opFenceWalk_of_none ((congrArg Channel.walker (s.ch_val c)).trans h))
  · exact congrArg (fun t => Host.Outcome.next (settle t)) (opCleaner_of_off h)

end

/-! SUPPORT. The tag window's words (R207, R208). -/

section

namespace Sys2Proof.Machine

variable {s : State}

/-! ### Words beside those written -/

/-- A word that no write of a row names reads as before. -/
theorem State.rd_wrRow_other (hr : kRising s.regs = true) {off : Nat → Nat} (g : Nat → Word) {n o : Nat}
    (ho : ∀ i, off i ≠ o) : (s.wrRow off g n).rd o = s.rd o := by
  induction n with
  | zero => rfl
  | succ n ih => rw [State.wrRow_succ, State.rd_wr _ (State.wrRow_rising hr ..), if_neg (ho n), ih]

/-- A word reads as before after another one has been written, canonical or not. -/
theorem State.rd_wr_other {o j : Nat} (h : o ≠ j) (w : Word) : (s.wr o w).rd j = s.rd j := by
  have herase : kFind (kErase s.regs o) j = kFind s.regs j := by
    induction s.regs with
    | nil => rfl
    | cons x m ih =>
      obtain ⟨a, b⟩ := x
      by_cases ha : a = o
      · subst ha
        simp [kErase, kFind, h]
      · simp [kErase, kFind, ha, ih]
  unfold State.wr State.rd kSet kGet
  split
  · rw [herase]
  · rw [kFind_kPut, if_neg h]

/-- A flag that its word shows alone. -/
theorem State.flag_congr {t : State} {f : Fld} {i k : Nat} (h : t.rd (f.reg.at i k) = s.rd (f.reg.at i k)) :
    t.flag f i k = s.flag f i k := by
  rw [State.flag, State.fld, h]
  rfl

theorem tagData_injective : Function.Injective (fun i => Reg.tagData.at i) := by
  intro i j h
  simp only [RegDef.at, Reg.tagData] at h
  omega

theorem tagData_ne_tagStatus (i : Nat) : Reg.tagData.at i ≠ Reg.tagStatus.at := by
  simp only [RegDef.at, Reg.tagData, Reg.tagStatus]
  omega

/-! ### A read of an entry (R207) -/

/-- TAG_STATUS with BUSY set, and VALID, ERR and REFUSED cleared. -/
def tagBusy (s : State) : State :=
  (((s.setFlag Fld.tagStatusBusy true).setFlag Fld.tagStatusValid false).setFlag Fld.tagStatusErr false).setFlag
    Fld.tagStatusRefused false

theorem opTagRead_of_present (hm : s.mode ≠ .reset) (h : (tagSelected s).2.1 < s.sets (tagSelected s).1) :
    opTagRead s = { tagBusy s with tagCap := some (tagSelected s) } := by
  unfold opTagRead
  rw [if_neg hm]
  exact if_neg (Nat.not_le.2 h)

theorem opTagRead_of_beyond (hm : s.mode ≠ .reset) (h : s.sets (tagSelected s).1 ≤ (tagSelected s).2.1) :
    opTagRead s = s.setFlag Fld.tagStatusRefused true := by
  unfold opTagRead
  rw [if_neg hm]
  exact if_pos h

theorem tagBusy_onlyWords (hr : kRising s.regs = true) : OnlyWords s (tagBusy s) [Reg.tagStatus.at] := by
  have hbusy : kRising (s.setFlag Fld.tagStatusBusy true).regs = true := State.setFlag_rising hr ..
  have hvalid := State.setFlag_rising hbusy Fld.tagStatusValid false 0 0
  have herr := State.setFlag_rising hvalid Fld.tagStatusErr false 0 0
  exact (((OnlyWords.setFlag hr Fld.tagStatusBusy ..).trans (OnlyWords.setFlag hbusy Fld.tagStatusValid ..)).trans
    (OnlyWords.setFlag hvalid Fld.tagStatusErr ..)).trans (OnlyWords.setFlag herr Fld.tagStatusRefused ..)

theorem tagBusy_status (hr : kRising s.regs = true) : (tagBusy s).flag Fld.tagStatusBusy = true
    ∧ (tagBusy s).flag Fld.tagStatusValid = false ∧ (tagBusy s).flag Fld.tagStatusRefused = false := by
  have hbusy : kRising (s.setFlag Fld.tagStatusBusy true).regs = true := State.setFlag_rising hr ..
  have hvalid := State.setFlag_rising hbusy Fld.tagStatusValid false 0 0
  have herr := State.setFlag_rising hvalid Fld.tagStatusErr false 0 0
  unfold tagBusy
  refine ⟨?_, ?_, State.flag_setFlag herr _ rfl (by decide)⟩
  · rw [State.flag_setFlag_beside herr Fld.tagStatusRefused Fld.tagStatusBusy rfl (by decide) (by decide),
      State.flag_setFlag_beside hvalid Fld.tagStatusErr Fld.tagStatusBusy rfl (by decide) (by decide),
      State.flag_setFlag_beside hbusy Fld.tagStatusValid Fld.tagStatusBusy rfl (by decide) (by decide),
      State.flag_setFlag hr _ rfl (by decide)]
  · rw [State.flag_setFlag_beside herr Fld.tagStatusRefused Fld.tagStatusValid rfl (by decide) (by decide),
      State.flag_setFlag_beside hvalid Fld.tagStatusErr Fld.tagStatusValid rfl (by decide) (by decide),
      State.flag_setFlag hbusy _ rfl (by decide)]

/-- A capture begins. -/
theorem opTagRead_begins (hm : s.mode ≠ .reset) (hr : kRising s.regs = true)
    (h : (tagSelected s).2.1 < s.sets (tagSelected s).1) :
    let t := opTagRead s
    t.tagCap = some (tagSelected s) ∧ t.flag Fld.tagStatusBusy = true ∧ t.flag Fld.tagStatusValid = false
      ∧ t.flag Fld.tagStatusRefused = false
      ∧ OnlyWords { s with tagCap := some (tagSelected s) } t [Reg.tagStatus.at] := by
  obtain ⟨hbusy, hvalid, hrefused⟩ := tagBusy_status hr
  obtain ⟨hframe, hwords⟩ := tagBusy_onlyWords hr
  rw [opTagRead_of_present hm h]
  exact ⟨rfl, hbusy, hvalid, hrefused, congrArg (fun u : State => { u with tagCap := some (tagSelected s) }) hframe, hwords⟩

/-! ### The end of a capture (R168, R176, R207) -/

/-- The capture is over: not BUSY, and VALID. -/
def captureOver (s : State) : State :=
  (({ s with tagCap := none } : State).setFlag Fld.tagStatusBusy false).setFlag Fld.tagStatusValid true

/-- The words of an entry are shown. -/
def captureShown (s : State) (words : List Nat) : State :=
  s.wrRow (fun i => Reg.tagData.at i) (fun i => dw (words.getD i 0)) 8

theorem opTagCaptured_clean {c set way : Nat} (h : s.tagCap = some (c, set, way)) :
    opTagCaptured s .clean = captureShown (captureOver s) (tagWords (s.tag c set way) c set) := by
  unfold opTagCaptured
  rw [h]
  rfl

theorem captureOver_rising (hr : kRising s.regs = true) : kRising (captureOver s).regs = true :=
  State.setFlag_rising (State.setFlag_rising (s := { s with tagCap := none }) hr ..) ..

theorem captureOver_status (hr : kRising s.regs = true) :
    (captureOver s).flag Fld.tagStatusValid = true ∧ (captureOver s).flag Fld.tagStatusBusy = false := by
  have hr' : kRising ({ s with tagCap := none } : State).regs = true := hr
  have hbusy := State.setFlag_rising hr' Fld.tagStatusBusy false 0 0
  unfold captureOver
  refine ⟨State.flag_setFlag hbusy _ rfl (by decide), ?_⟩
  rw [State.flag_setFlag_beside hbusy Fld.tagStatusValid Fld.tagStatusBusy rfl (by decide) (by decide),
    State.flag_setFlag hr' _ rfl (by decide)]

theorem captureShown_flag (hr : kRising s.regs = true) (words : List Nat) {f : Fld} (hf : f.reg.at = Reg.tagStatus.at) :
    (captureShown s words).flag f = s.flag f :=
  State.flag_congr (State.rd_wrRow_other hr _ fun i => hf ▸ tagData_ne_tagStatus i)

theorem captureShown_rd (hr : kRising s.regs = true) (words : List Nat) (i : Fin 8) :
    (captureShown s words).rd (Reg.tagData.at i.val) = dw (words.getD i.val 0) :=
  State.rd_wrRow hr tagData_injective _ i.isLt

theorem captureShown_frame (s : State) (words : List Nat) (r : KMap Word) :
    { captureShown s words with regs := r } = { s with regs := r } := State.wrRow_frame ..

end Sys2Proof.Machine

end

/-! SUPPORT. What an uncorrectable error of a tag line, and the fence that may follow it (R291, R474 to R478), leave of the
tag window. One projection, `State.tagSight`, carries it, so that each function on the way needs one frame lemma. -/

section

namespace Sys2Proof.Machine

/-- The mode, the capture, its ERR and the directory. -/
structure TagSight where
  mode : Mode
  tagCap : Option (Nat × Nat × Nat)
  err : Bool
  tags : KMap Tag

/-- What stands of a capture that ends. -/
def State.tagSight (s : State) : TagSight :=
  { mode := s.mode, tagCap := s.tagCap, err := s.flag Fld.tagStatusErr, tags := s.tags }

section
variable (s : State)

/-- The updates that a fence makes of other fields. -/
@[simp] theorem State.update_tagSight (evq : EvQueue) (flt : FaultNet) (ports : Vector Port 8) (ctxs : KMap Ctx)
    (ledger : List LEntry) (caches : Vector (List CachedSet) 16) (fetches : List TagFetch) (allocs : List Alloc)
    (drain : KMap Nat) (retiring : List (Nat × Nat × Nat × Nat)) (media : Media) (chs : Vector Channel 16) (flash : Flash)
    (life : KMap Nat) (out : List Out) :
    State.tagSight { s with
      evq := evq, flt := flt, ports := ports, ctxs := ctxs, ledger := ledger, caches := caches, fetches := fetches,
      allocs := allocs, drain := drain, retiring := retiring, media := media, chs := chs, flash := flash, life := life,
      out := out } = s.tagSight := rfl

@[simp] theorem foldl_tagSight {α : Type} (f : State → α → State) (l : List α) (s : State)
    (h : ∀ u a, (f u a).tagSight = u.tagSight) : (l.foldl f s).tagSight = s.tagSight := foldl_frame State.tagSight f l s h

@[simp] theorem ite_tagSight (c : Prop) [Decidable c] (s t : State) :
    (if c then s else t).tagSight = if c then s.tagSight else t.tagSight := apply_ite ..

/-! ### The basic updates -/

theorem State.wr_tagSight {o : Nat} (h : o ≠ Reg.tagStatus.at) (w : Word) : (s.wr o w).tagSight = s.tagSight := by
  have herr : (s.wr o w).flag Fld.tagStatusErr = s.flag Fld.tagStatusErr := State.flag_congr (State.rd_wr_other h w)
  simp only [State.tagSight, herr, State.wr_mode, State.wr_tagCap, State.wr_tags]

/-- The registers above the tag window, whatever the channel. -/
theorem chReg_ne_tagStatus {r : RegDef} (h : Reg.tagStatus.base < r.base) (i k : Nat) : r.at i k ≠ Reg.tagStatus.at := by
  simp only [RegDef.at, Reg.tagStatus] at *
  omega

@[simp] theorem State.countCh_tagSight {r : RegDef} (h : Reg.tagStatus.base < r.base) (n i k : Nat) :
    (s.count r n i k).tagSight = s.tagSight := s.wr_tagSight (chReg_ne_tagStatus h i k) _

@[simp] theorem State.setFlagCh_tagSight {f : Fld} (h : Reg.tagStatus.base < f.reg.base) (b : Bool) (i k : Nat) :
    (s.setFlag f b i k).tagSight = s.tagSight := s.wr_tagSight (chReg_ne_tagStatus h i k) _

/-- The registers of the ports, below the tag window. -/
theorem State.wrPort_tagSight {r : RegDef} (h : ∀ p : PortId, r.at p.val ≠ Reg.tagStatus.at) (p : PortId) (w : Word) :
    (s.wr (r.at p.val) w).tagSight = s.tagSight := s.wr_tagSight (h p) w

@[simp] theorem State.countPort_tagSight {r : RegDef} (h : ∀ p : PortId, r.at p.val ≠ Reg.tagStatus.at) (n : Nat)
    (p : PortId) : (s.count r n p.val).tagSight = s.tagSight := s.wrPort_tagSight h p _

@[simp] theorem State.count64Port_tagSight {lo hi : RegDef} (hl : ∀ p : PortId, lo.at p.val ≠ Reg.tagStatus.at)
    (hh : ∀ p : PortId, hi.at p.val ≠ Reg.tagStatus.at) (n : Nat) (p : PortId) :
    (s.count64 lo hi n p.val).tagSight = s.tagSight :=
  (State.wrPort_tagSight _ hh p _).trans (s.wrPort_tagSight hl p _)

@[simp] theorem State.setFldPort_tagSight {f : Fld} (h : ∀ p : PortId, f.reg.at p.val ≠ Reg.tagStatus.at) (v : Nat)
    (p : PortId) : (s.setFld f v p.val).tagSight = s.tagSight := s.wrPort_tagSight h p _

@[simp] theorem State.event_tagSight (a b c : Nat) (x y : Word) : (s.event a b c x y).tagSight = s.tagSight := rfl
@[simp] theorem State.info_tagSight (a b : Nat) (x y : Word) : (s.info a b x y).tagSight = s.tagSight := rfl
@[simp] theorem State.eventOf_tagSight (a b n : Nat) (x y : Word) (o : Option Nat) :
    (s.eventOf a b n x y o).tagSight = s.tagSight := rfl
@[simp] theorem State.modCh_tagSight (c : ChanId) (f : Channel → Channel) : (s.modCh c f).tagSight = s.tagSight := rfl
@[simp] theorem State.modPort_tagSight (p : PortId) (f : Port → Port) : (s.modPort p f).tagSight = s.tagSight := rfl
@[simp] theorem State.modCtx_tagSight (c : Nat) (f : Ctx → Ctx) : (s.modCtx c f).tagSight = s.tagSight := rfl
@[simp] theorem State.drive_tagSight (o : Out) : (s.drive o).tagSight = s.tagSight := rfl

end

/-! ### Entries, accesses and offers -/

@[simp] theorem modEntry_tagSight (s : State) (i : Nat) (f : LEntry → LEntry) : (modEntry s i f).tagSight = s.tagSight := rfl

@[simp] theorem dropEntries_tagSight (s : State) (p : LEntry → Bool) : (dropEntries s p).tagSight = s.tagSight := by
  simp [dropEntries]

@[simp] theorem withdrawJob_tagSight (s : State) (c id : Nat) : (withdrawJob s c id).tagSight = s.tagSight := by
  simp (disch := decide) [withdrawJob, endJob]

@[simp] theorem endOffer_tagSight (s : State) (id : Nat) (done : Bool) : (endOffer s id done).tagSight = s.tagSight := by
  simp [endOffer, freeOfferEntries]

@[simp] theorem dropAccesses_tagSight (s : State) (c : Nat) (all : Bool) : (dropAccesses s c all).tagSight = s.tagSight := by
  simp [dropAccesses]

/-! ### Requests that fail (R33 to R45) -/

@[simp] theorem returnData_tagSight (s : State) (p : PortId) (n : Nat) : (returnData s p n).tagSight = s.tagSight := rfl

@[simp] theorem returnHdr_tagSight (s : State) (p : PortId) : (returnHdr s p).tagSight = s.tagSight := rfl

@[simp] theorem freeStaging_tagSight (s : State) (e : LEntry) : (freeStaging s e).tagSight = s.tagSight := by
  simp [freeStaging]

@[simp] theorem releaseEntry_tagSight (s : State) (e : LEntry) : (releaseEntry s e).tagSight = s.tagSight := by
  unfold releaseEntry
  split <;> simp

@[simp] theorem settlePort_tagSight (s : State) (p : PortId) : (settlePort s p).tagSight = s.tagSight := by
  simp [settlePort]

@[simp] theorem finishTag_tagSight (s : State) (p : PortId) (c : Completion) (late : Nat) :
    (finishTag s p c late).tagSight = s.tagSight := by
  unfold finishTag
  extract_lets
  split <;> simp +zetaDelta (disch := decide)

@[simp] theorem sendOne_tagSight (s : State) (p : PortId) (c : Completion) : (sendOne s p c).tagSight = s.tagSight := by
  simp (disch := decide) [sendOne]

@[simp] theorem drainTx_tagSight (n : Nat) (s : State) (p : PortId) : (drainTx n s p).tagSight = s.tagSight := by
  induction n generalizing s with
  | zero => rfl
  | succ n ih =>
    unfold drainTx
    split
    · rfl
    · simp [ih]

@[simp] theorem finishReq_tagSight (s : State) (p : PortId) (rid : Nat) (op : BitVec 8) (st : Nat) (x : BitVec 64) :
    (finishReq s p rid op st x).tagSight = s.tagSight := by
  unfold finishReq
  split <;> simp [pushTx, modReq]

@[simp] theorem failReq_tagSight (s : State) (p : PortId) (rid st : Nat) : (failReq s p rid st).tagSight = s.tagSight := by
  unfold failReq
  split <;> simp [releaseRequest]

/-! ### Fences (R471 to R478) -/

@[simp] theorem stopOffer_tagSight (s : State) (o : Offer) : (stopOffer s o).tagSight = s.tagSight := by
  unfold stopOffer
  split <;> simp

@[simp] theorem stopEntry_tagSight (s : State) (e : LEntry) : (stopEntry s e).tagSight = s.tagSight := by
  unfold stopEntry
  extract_lets p
  split
  · rfl
  · extract_lets sent
    split <;> simp

@[simp] theorem stopWork_tagSight (s : State) (c : Nat) : (stopWork s c).tagSight = s.tagSight := by
  simp [stopWork]

@[simp] theorem queueLog_tagSight (s : State) (kind : Nat) (body : List Nat) :
    (queueLog s kind body).tagSight = s.tagSight := by
  simp [queueLog]

@[simp] theorem lifeUp_tagSight (s : State) (k n : Nat) : (lifeUp s k n).tagSight = s.tagSight := rfl

@[simp] theorem setChSt_tagSight (s : State) (c : Nat) (st : ChSt) (why : Nat) :
    (setChSt s c st why).tagSight = s.tagSight := by
  simp [setChSt]

@[simp] theorem setFreeze_tagSight (s : State) (c : Nat) (v : Bool) : (setFreeze s c v).tagSight = s.tagSight := by
  simp (disch := decide) [setFreeze]

@[simp] theorem immediateFence_tagSight (s : State) (c why : Nat) : (immediateFence s c why).tagSight = s.tagSight := by
  unfold immediateFence
  split <;> simp (disch := decide)

@[simp] theorem planRetrain_tagSight (s : State) (c : Nat) : (planRetrain s c).tagSight = s.tagSight := by
  simp [planRetrain]

/-- An orderly fence ends a sweep of its channel: bit 24 of a word, and ERR is bit 2 of its own. -/
theorem State.sweepOff_tagSight {s : State} (hr : kRising s.regs = true) (c : Nat) :
    (s.setFlag Fld.tierSweepActive false c).tagSight = s.tagSight := by
  have herr : (s.setFlag Fld.tierSweepActive false c).flag Fld.tagStatusErr = s.flag Fld.tagStatusErr := by
    by_cases h : Fld.tierSweepActive.reg.at c = Fld.tagStatusErr.reg.at
    · exact State.flag_setFlag_beside hr _ _ h (by decide) (by decide)
    · exact State.flag_congr (State.rd_wr_other h _)
  simp only [State.tagSight, herr, State.setFlag_mode, State.setFlag_tagCap, State.setFlag_tags]

theorem setChSt_regs (s : State) (c : Nat) (st : ChSt) (why : Nat) : (setChSt s c st why).regs = s.regs := by
  unfold setChSt
  dsimp only
  split <;> rfl

theorem queueLog_regs (s : State) (kind : Nat) (body : List Nat) : (queueLog s kind body).regs = s.regs := by
  unfold queueLog
  split <;> rfl

variable {s : State}

theorem beginFence_tagSight (hr : kRising s.regs = true) (c why : Nat) : (beginFence s c why).tagSight = s.tagSight := by
  unfold beginFence
  extract_lets counted fencing swept tiered
  have hcounted : kRising counted.regs = true := State.count_rising s hr ..
  have hrising : kRising (queueLog fencing LogKind.journal [Jr.opened, c]).regs = true := by
    rw [queueLog_regs, setChSt_regs]
    exact hcounted
  have hswept : swept.tagSight = s.tagSight :=
    calc swept.tagSight
      _ = (queueLog fencing LogKind.journal [Jr.opened, c]).tagSight := State.sweepOff_tagSight hrising c
      _ = s.tagSight := by simp (disch := decide) [fencing, counted]
  exact hswept

theorem orderlyFence_tagSight (hr : kRising s.regs = true) (c why : Nat) :
    (orderlyFence s c why).tagSight = s.tagSight := by
  unfold orderlyFence
  split
  all_goals simp [beginFence_tagSight hr]

theorem faultFence_tagSight (hr : kRising s.regs = true) (c : Nat) (orderly : Bool) :
    (faultFence s c orderly).tagSight = s.tagSight := by
  simp [faultFence, orderlyFence_tagSight hr]

/-! ### An uncorrectable read of a tag line (R176, R289, R291) -/

@[simp] theorem noteRow_tagSight (s : State) (c : Nat) (l : Loc) (ue : Bool) : (noteRow s c l ue).tagSight = s.tagSight :=
  State.modCh_tagSight ..

theorem noteUe_tagSight (hr : kRising s.regs = true) (c : Nat) (l : Loc) (tagLine : Bool) :
    (noteUe s c l tagLine).tagSight = s.tagSight := by
  have hcounted : kRising (s.count Reg.chCntUe 1 c).regs = true := State.count_rising s hr ..
  unfold noteUe
  extract_lets counted told noted n marked raised reported
  have hreported : kRising reported.regs = true := hcounted
  have hmarked : marked.tagSight = s.tagSight := by simp (disch := decide) [marked, noted, told, counted]
  split
  · exact (faultFence_tagSight hreported c true).trans hmarked
  · exact hmarked

/-- A lost entry's fields are rewritten, its set joins the lost-set list or a fault is reported (R176, R178, R206). -/
theorem loseTag_frame (s : State) (c set way : Nat) : ∃ tag pidx lost flt, (s.mode ≠ .plain → tag = {})
    ∧ loseTag s c set way = { ((s.count Reg.tierCntTagLost).eventOf Ev.tagLost Src.tier 62 (formS c set way) 0
        (some set)).setTag c set way tag with pidx := pidx, lost := lost, flt := flt } := by
  unfold loseTag
  extract_lets counted told
  split
  · next h =>
    exact ⟨{ poison := BitVec.allOnes 64, retired := (told.tag c set way).retired }, told.pidx, told.lost, told.flt,
      fun hm => absurd h hm, rfl⟩
  · split
    · exact ⟨_, _, _, _, fun _ => rfl, rfl⟩
    · split
      · exact ⟨_, _, _, _, fun _ => rfl, rfl⟩
      · split
        · exact ⟨_, _, _, _, fun _ => rfl, rfl⟩
        · exact ⟨_, _, _, _, fun _ => rfl, rfl⟩

theorem loseTag_status (s : State) (c set way : Nat) : (loseTag s c set way).tagCap = s.tagCap
    ∧ (loseTag s c set way).flag Fld.tagStatusErr = s.flag Fld.tagStatusErr := by
  obtain ⟨tag, pidx, lost, flt, -, h⟩ := loseTag_frame s c set way
  have hcounted : (s.count Reg.tierCntTagLost).flag Fld.tagStatusErr = s.flag Fld.tagStatusErr :=
    State.flag_congr (State.rd_wr_other (by decide) _)
  rw [h]
  exact ⟨rfl, hcounted⟩

theorem loseTag_tag (hm : s.mode ≠ .plain) (hr : kRising s.tags = true) (c set way : Nat) :
    (loseTag s c set way).tag c set way = {} := by
  obtain ⟨tag, pidx, lost, flt, htag, h⟩ := loseTag_frame s c set way
  have hset := State.tagK_setTag ((s.count Reg.tierCntTagLost).eventOf Ev.tagLost Src.tier 62 (formS c set way) 0 (some set))
    hr c set way (frameKey c set way) tag
  rw [h]
  exact (hset.trans (if_pos rfl)).trans (htag hm)

/-! ### A capture of a lost entry (R176, R207) -/

theorem captureShown_tagSight (s : State) (words : List Nat) : (captureShown s words).tagSight = s.tagSight :=
  foldl_frame State.tagSight _ _ _ fun u i => u.wr_tagSight (tagData_ne_tagStatus i) _

/-- The end of a capture of an entry without an error shows its words and moves nothing else. -/
theorem opTagCaptured_shows (hr : kRising s.regs = true) {c set way : Nat} (h : s.tagCap = some (c, set, way)) :
    let t := opTagCaptured s .clean
    t.tagCap = none
      ∧ (∀ i : Fin 8, t.rd (Reg.tagData.at i.val) = dw ((tagWords (s.tag c set way) c set).getD i.val 0))
      ∧ t.flag Fld.tagStatusValid = true ∧ t.flag Fld.tagStatusBusy = false
      ∧ { t with regs := s.regs, tagCap := s.tagCap } = s := by
  have hover := captureOver_rising hr
  obtain ⟨hvalid, hbusy⟩ := captureOver_status hr
  have hframe := captureShown_frame (captureOver s) (tagWords (s.tag c set way) c set) s.regs
  have hsight := captureShown_tagSight (captureOver s) (tagWords (s.tag c set way) c set)
  rw [opTagCaptured_clean h]
  generalize tagWords (s.tag c set way) c set = words at *
  exact ⟨congrArg TagSight.tagCap hsight, captureShown_rd hover _,
    (captureShown_flag hover _ rfl).trans hvalid, (captureShown_flag hover _ rfl).trans hbusy,
    congrArg (fun u : State => { u with tagCap := s.tagCap }) hframe⟩

/-- Free values drawn for the words of an entry that was lost. -/
def freeWords (s : State) : List Nat × State :=
  (List.range 8).foldl (fun (acc : List Nat × State) _ =>
    let (v, s) := acc.2.free 32
    (acc.1 ++ [v.toNat], s)) ([], s)

theorem freeWords_frame (s : State) : ∃ n, (freeWords s).2 = { s with freeCtr := n } := by
  refine List.foldlRecOn (motive := fun x : List Nat × State => ∃ n, x.2 = { s with freeCtr := n }) _ _ ⟨_, rfl⟩ ?_
  rintro x ⟨n, hx⟩ i -
  exact ⟨_, congrArg (fun u : State => { u with freeCtr := x.2.freeCtr + 1 }) hx⟩

/-- The words of a lost entry are shown, with ERR. -/
def captureErr (s : State) : State :=
  (captureShown (freeWords (captureOver s)).2 (freeWords (captureOver s)).1).setFlag Fld.tagStatusErr true

theorem opTagCaptured_uncorrectable {c set way : Nat} (h : s.tagCap = some (c, set, way)) :
    opTagCaptured s .uncorrectable = loseTag (if cached s c set then captureErr s
      else noteUe (captureErr s) c ((captureOver s).tagLoc c set (way / 2)) true) c set way := by
  unfold opTagCaptured
  rw [h]
  rfl

theorem captureErr_sight (hr : kRising s.regs = true) : kRising (captureErr s).regs = true
    ∧ (captureErr s).tagSight = { mode := s.mode, tagCap := none, err := true, tags := s.tags } := by
  obtain ⟨n, hfree⟩ := freeWords_frame (captureOver s)
  have hover : kRising (freeWords (captureOver s)).2.regs = true := by
    rw [hfree]
    exact captureOver_rising hr
  have hshown : kRising (captureShown (freeWords (captureOver s)).2 (freeWords (captureOver s)).1).regs = true :=
    State.wrRow_rising hover ..
  have hsight := captureShown_tagSight (freeWords (captureOver s)).2 (freeWords (captureOver s)).1
  refine ⟨State.setFlag_rising hshown .., ?_⟩
  have herr : (captureErr s).flag Fld.tagStatusErr = true := State.flag_setFlag hshown _ rfl (by decide)
  have hmode : (captureErr s).mode = s.mode := (congrArg TagSight.mode hsight).trans (hfree ▸ rfl)
  have hcap : (captureErr s).tagCap = none := (congrArg TagSight.tagCap hsight).trans (hfree ▸ rfl)
  have htags : (captureErr s).tags = s.tags := (congrArg TagSight.tags hsight).trans (hfree ▸ rfl)
  rw [State.tagSight, herr, hmode, hcap, htags]

/-- The end of a capture of a lost entry: ERR, and outside PLAIN the entry reads cleared. -/
theorem opTagCaptured_lost (hr : kRising s.regs = true) (ht : kRising s.tags = true) {c set way : Nat}
    (h : s.tagCap = some (c, set, way)) :
    let t := opTagCaptured s .uncorrectable
    t.tagCap = none ∧ t.flag Fld.tagStatusErr = true ∧ (s.mode ≠ .plain → t.tag c set way = {}) := by
  obtain ⟨herr, hsight⟩ := captureErr_sight hr
  rw [opTagCaptured_uncorrectable h]
  generalize hu : (if cached s c set then captureErr s
    else noteUe (captureErr s) c ((captureOver s).tagLoc c set (way / 2)) true) = u
  have hsight : u.tagSight = { mode := s.mode, tagCap := none, err := true, tags := s.tags } := by
    rw [← hu, ite_tagSight, noteUe_tagSight herr, hsight, ite_self]
  obtain ⟨hcap, hflag⟩ := loseTag_status u c set way
  refine ⟨hcap.trans (congrArg TagSight.tagCap hsight), hflag.trans (congrArg TagSight.err hsight), fun hm => ?_⟩
  have hmode : u.mode = s.mode := congrArg TagSight.mode hsight
  have htags : u.tags = s.tags := congrArg TagSight.tags hsight
  exact loseTag_tag (hmode ▸ hm) (htags ▸ ht) c set way

end Sys2Proof.Machine

end

/-! SUPPORT. Way retirement (R201, R202) and the lost-set list (R178). -/

section

namespace Sys2Proof.Machine

variable {s : State}

/-! ### A retirement asked for (R201, R202) -/

theorem opTagRetire_of_beyond (hm : s.mode ≠ .reset) (h : s.sets (tagSelected s).1 ≤ (tagSelected s).2.1) :
    opTagRetire s = s.setFlag Fld.tagStatusRefused true := by
  unfold opTagRetire
  rw [if_neg hm]
  exact if_pos h

/-- A way that is neither retired nor about to be, of an ONLINE channel, while the record and the log have room. -/
theorem retireWay_joins {c set way : Nat} (hretired : (s.tag c set way).retired = false)
    (hpend : (s.tag c set way).retirePend = false)
    (hasked : s.retiring.any (fun r => r.1 == c && r.2.1 == set && r.2.2.1 == way) = false)
    (honline : (s.ch c).st = .online) (hroom : waysUsed s < 8192) (hlog : logOpen s = true) :
    retireWay s c set way = { s with retiring := s.retiring ++ [(c, set, way, 0)] } := by
  simp [retireWay, hretired, hpend, hasked, honline, hroom, hlog]

theorem opTagRetire_of_taken (hm : s.mode ≠ .reset) (h : (tagSelected s).2.1 < s.sets (tagSelected s).1) :
    opTagRetire s = retireWay (s.setFlag Fld.tagStatusRefused false) (tagSelected s).1 (tagSelected s).2.1
      (tagSelected s).2.2 := by
  unfold opTagRetire
  rw [if_neg hm]
  exact if_neg (Nat.not_le.2 h)

/-- A retirement that is taken waits for its step 1. -/
theorem opTagRetire_joins (hm : s.mode ≠ .reset) (hr : kRising s.regs = true) {c set way : Nat}
    (hk : tagSelected s = (c, set, way)) (hset : set < s.sets c) (hretired : (s.tag c set way).retired = false)
    (hpend : (s.tag c set way).retirePend = false)
    (hasked : s.retiring.any (fun r => r.1 == c && r.2.1 == set && r.2.2.1 == way) = false)
    (honline : (s.ch c).st = .online) (hroom : waysUsed s < 8192) (hlog : logOpen s = true) :
    let t := opTagRetire s
    t.retiring = s.retiring ++ [(c, set, way, 0)] ∧ t.flag Fld.tagStatusRefused = false
      ∧ OnlyWords { s with retiring := t.retiring } t [Reg.tagStatus.at] := by
  have hjoins := retireWay_joins (s := s.setFlag Fld.tagStatusRefused false) hretired hpend hasked honline hroom hlog
  have htaken := opTagRetire_of_taken hm (by rwa [hk])
  rw [hk] at htaken
  rw [htaken, hjoins]
  exact ⟨rfl, State.flag_setFlag hr _ rfl (by decide), rfl, (OnlyWords.setFlag hr Fld.tagStatusRefused false 0 0).2⟩

/-! ### A pending way without lines in flight (R201 step 2) -/

theorem retireClean_stores (s : State) (c set way : Nat) : (retireClean s c set way).stores = s.stores := by
  unfold retireClean
  split
  · rfl
  · exact (startClean_frame ..).1

theorem mem_setRetireStep {c set way a b : Nat} (h : (c, set, way, a) ∈ s.retiring) :
    (c, set, way, b) ∈ (setRetireStep s c set way b).retiring :=
  List.mem_map.2 ⟨_, h, by simp⟩

theorem not_mem_setRetireStep {c set way a b : Nat} (h : a ≠ b) :
    (c, set, way, a) ∉ (setRetireStep s c set way b).retiring := by
  intro hmem
  obtain ⟨r, -, hr⟩ := List.mem_map.1 hmem
  split at hr
  · exact h (by simpa using hr.symm)
  · next hne => exact hne (by simp [hr])

theorem opWayDrained_of_drained {c set way : Nat} (h : s.retiring.contains (c, set, way, 1) = true)
    (hb : wayBusy s c set way = false) :
    opWayDrained s c set way = retireClean (setRetireStep s c set way 2) c set way := by
  unfold opWayDrained
  rw [h, hb]
  rfl

/-- A pending way goes on to its clean. -/
theorem opWayDrained_goesOn {c set way : Nat} (h : s.retiring.contains (c, set, way, 1) = true)
    (hb : wayBusy s c set way = false) :
    let t := opWayDrained s c set way
    (c, set, way, 2) ∈ t.retiring ∧ (c, set, way, 1) ∉ t.retiring ∧ DataKept s t := by
  have hstores := retireClean_stores (setRetireStep s c set way 2) c set way
  have hretiring : (retireClean (setRetireStep s c set way 2) c set way).retiring
    = (setRetireStep s c set way 2).retiring := congrArg Stores.retiring hstores
  have hkept : DataKept (setRetireStep s c set way 2) (retireClean (setRetireStep s c set way 2) c set way) :=
    dataKept_of_stores hstores
  intro t
  have ht : t = retireClean (setRetireStep s c set way 2) c set way := opWayDrained_of_drained h hb
  rw [ht, hretiring]
  exact ⟨mem_setRetireStep (List.contains_iff_mem.1 h), not_mem_setRetireStep (by decide), hkept⟩

theorem opWayDrained_of_not {c set way : Nat}
    (h : s.retiring.contains (c, set, way, 1) = false ∨ wayBusy s c set way = true) : opWayDrained s c set way = s := by
  unfold opWayDrained
  rcases h with h | h
  · rw [h]
    rfl
  · rw [h, Bool.not_true, Bool.and_false]
    rfl

/-! ### The lost-set list (R178) -/

theorem opLostRelease_eq (hm : s.mode ≠ .reset) (w : Word) :
    opLostRelease s w = { s.setFld Fld.tierLostSelIndex (Fld.tierLostSelIndex.of w) with
      lost := if Fld.tierLostSelRelease.of w = 1 then s.lost.set (Fld.tierLostSelIndex.of w) none else s.lost } := by
  unfold opLostRelease
  rw [if_neg hm]
  dsimp only
  split <;> rfl

/-- A select shows its entry of the list, and a release frees that entry. -/
theorem opLostRelease_frame (hm : s.mode ≠ .reset) (hr : kRising s.regs = true) (w : Word) :
    let t := opLostRelease s w
    t.fld Fld.tierLostSelIndex = Fld.tierLostSelIndex.of w
      ∧ t.lost = (if Fld.tierLostSelRelease.of w = 1 then s.lost.set (Fld.tierLostSelIndex.of w) none else s.lost)
      ∧ OnlyWords { s with lost := t.lost } t [Reg.tierLostSel.at] := by
  have hindex : (s.setFld Fld.tierLostSelIndex (Fld.tierLostSelIndex.of w)).fld Fld.tierLostSelIndex
      = Fld.tierLostSelIndex.of w % 2 ^ Fld.tierLostSelIndex.w := State.fld_setFld s hr _ _ _ _ (by decide)
  rw [opLostRelease_eq hm]
  exact ⟨hindex.trans (Nat.mod_mod ..), rfl, rfl, (OnlyWords.setFld hr Fld.tierLostSelIndex _ 0 0).2⟩

end Sys2Proof.Machine

end

/-! SUPPORT. The statement about the tag window, way retirement and the lost-set list. -/

section

open Sys2Proof Sys2Proof.Machine

/-- Settles O24: every word that the window writes is of its own registers, so that a capture's words stand beside TAG_STATUS
(R207); the fence that an uncorrectable tag line may bring about (R291) moves neither the directory nor ERR; and a pending
way's clean begins an offer and no more (R201). -/
theorem tagWindowAndRetirement : Obligations.TagWindowAndRetirement := by
  refine ⟨fun s hm hw => ?_, fun c set way s => ⟨fun hpend hbusy => ?_, fun h => ?_⟩, fun w s hm hw => ?_⟩
  · intro k
    have hr := State.wf_regs_rising hw
    refine ⟨fun hset => ?_, fun hset => ?_, fun c set way hcap => ⟨?_, ?_⟩, ?_⟩
    · exact ⟨opTagRead s, rfl, opTagRead_begins hm hr hset⟩
    · have hrefused : (s.setFlag Fld.tagStatusRefused true).flag Fld.tagStatusRefused = true
          ∧ OnlyWords s (s.setFlag Fld.tagStatusRefused true) [Reg.tagStatus.at] :=
        ⟨State.flag_setFlag hr _ rfl (by decide), OnlyWords.setFlag hr ..⟩
      simp only [List.mem_cons, List.not_mem_nil, or_false]
      rintro _ (rfl | rfl)
      · exact ⟨opTagRead s, rfl, opTagRead_of_beyond hm hset ▸ hrefused⟩
      · exact ⟨opTagRetire s, rfl, opTagRetire_of_beyond hm hset ▸ hrefused⟩
    · exact ⟨opTagCaptured s .clean, rfl, opTagCaptured_shows hr hcap⟩
    · exact ⟨opTagCaptured s .uncorrectable, rfl, opTagCaptured_lost hr (State.wf_tags_rising hw) hcap⟩
    · intro hset hretired hpend hasked honline hroom hlog
      exact ⟨opTagRetire s, rfl, opTagRetire_joins hm hr rfl hset hretired hpend hasked honline hroom hlog⟩
  · exact ⟨opWayDrained s c set way, rfl, opWayDrained_goesOn hpend hbusy⟩
  · exact congrArg (fun t => Host.Outcome.next (settle t)) (opWayDrained_of_not h)
  · exact ⟨opLostRelease s w, rfl, opLostRelease_frame hm (State.wf_regs_rising hw) w⟩

end

/-! SUPPORT. FLT_CTL in SAFE: what follows from a command (log entry 2) leaves its word, or ends in a warm reset. -/

section

namespace Sys2Proof.Machine

/-- The word of FLT_CTL (R546). -/
def State.fltCtl (s : State) : Word := s.rd Reg.fltCtl.at

/-! ### The basic updates -/

/-- An update of fields that SAFE's turns move beside register words: these show FLT_CTL alone. -/
@[simp] theorem State.update_fltCtl (s t : State) (prev mode : Mode) (modeAt : Nat) (evq : EvQueue) (flt : FaultNet)
    (retiring : List (Nat × Nat × Nat × Nat)) (retiredLog : List (Nat × Nat × Nat)) (media : Media)
    (chs : Vector Channel 16) (flash : Flash) :
    State.fltCtl { s with regs := t.regs, prev := prev, mode := mode, modeAt := modeAt, evq := evq, flt := flt,
                          retiring := retiring, retiredLog := retiredLog, media := media, chs := chs,
                          flash := flash } = t.fltCtl := rfl

/-- A fold of turns keeps the word where each of them does. -/
@[simp] theorem foldl_fltCtl {α : Type} (f : State → α → State) (l : List α) (s : State)
    (h : ∀ u a, (f u a).fltCtl = u.fltCtl) : (l.foldl f s).fltCtl = s.fltCtl := foldl_frame State.fltCtl f l s h

@[simp] theorem ite_fltCtl (c : Prop) [Decidable c] (s t : State) :
    (if c then s else t).fltCtl = if c then s.fltCtl else t.fltCtl := apply_ite ..

/-- A register that lies above FLT_CTL has every word of its row above it. -/
theorem RegDef.at_ne_fltCtl {r : RegDef} (h : 0x3000 < r.base) (i k : Nat) : r.at i k ≠ Reg.fltCtl.at := by
  have hctl : Reg.fltCtl.at = 0x3000 := by decide
  rw [hctl, RegDef.at]
  omega

section
variable (s : State)

theorem State.count_fltCtl {r : RegDef} (h : 0x3000 < r.base) (n i k : Nat) : (s.count r n i k).fltCtl = s.fltCtl :=
  State.rd_wr_other (RegDef.at_ne_fltCtl h i k) _

theorem State.setFld_fltCtl {f : Fld} (h : 0x3000 < f.reg.base) (v i k : Nat) : (s.setFld f v i k).fltCtl = s.fltCtl :=
  State.rd_wr_other (RegDef.at_ne_fltCtl h i k) _

theorem State.setFlag_fltCtl {f : Fld} (h : 0x3000 < f.reg.base) (b : Bool) (i k : Nat) :
    (s.setFlag f b i k).fltCtl = s.fltCtl := s.setFld_fltCtl h ..

@[simp] theorem State.event_fltCtl (a b c : Nat) (x y : Word) : (s.event a b c x y).fltCtl = s.fltCtl := rfl
@[simp] theorem State.info_fltCtl (a b : Nat) (x y : Word) : (s.info a b x y).fltCtl = s.fltCtl := rfl
@[simp] theorem State.modCh_fltCtl (c : ChanId) (f : Channel → Channel) : (s.modCh c f).fltCtl = s.fltCtl := rfl

end

/-! ### The log's writer, and what a written record completes -/

@[simp] theorem setChSt_fltCtl (s : State) (c : Nat) (st : ChSt) (why : Nat) : (setChSt s c st why).fltCtl = s.fltCtl := by
  simp [setChSt]

@[simp] theorem wayLogged_fltCtl (s : State) (c set way : Nat) : (wayLogged s c set way).fltCtl = s.fltCtl := by
  simp (disch := decide) [wayLogged, State.count_fltCtl, State.setFld_fltCtl]

@[simp] theorem usePpr_fltCtl (s : State) (c : Nat) (l : Loc) : (usePpr s c l).fltCtl = s.fltCtl :=
  State.setFld_fltCtl _ (show 0x3000 < Reg.chPprFree.base by decide) ..

@[simp] theorem pprLogged_fltCtl (s : State) (c : Nat) (l : Loc) (hard : Bool) :
    (pprLogged s c l hard).fltCtl = s.fltCtl := by
  simp (disch := decide) [pprLogged, State.count_fltCtl]

@[simp] theorem recordDone_fltCtl (s : State) (r : LogRec) : (recordDone s r).fltCtl = s.fltCtl := by
  unfold recordDone
  split
  · exact wayLogged_fltCtl ..
  · simp
  · split <;> simp
  · rfl

@[simp] theorem programAt_fltCtl (s : State) (a : Nat) (l : List (BitVec 8)) : (programAt s a l).fltCtl = s.fltCtl := by
  simp (disch := decide) [programAt, State.count_fltCtl]

@[simp] theorem eraseAt_fltCtl (s : State) (a n : Nat) : (eraseAt s a n).fltCtl = s.fltCtl := by
  simp (disch := decide) [eraseAt, State.count_fltCtl]

@[simp] theorem writeIntent_fltCtl (s : State) (bytes : List (BitVec 8)) : (writeIntent s bytes).fltCtl = s.fltCtl := by
  simp [writeIntent]

@[simp] theorem writeBase_fltCtl (s : State) (kind copy seq isq : Nat) (content : KMap Nat) :
    (writeBase s kind copy seq isq content).2.fltCtl = s.fltCtl := by
  simp [writeBase]

@[simp] theorem writeEntry_fltCtl (s : State) (kind copy page isq : Nat) (runs : List (Nat × List Nat)) :
    (writeEntry s kind copy page isq runs).2.fltCtl = s.fltCtl := by
  simp [writeEntry]

@[simp] theorem beginUpdate_fltCtl (s : State) (kind : Nat) (runs : List (Nat × List Nat)) :
    (beginUpdate s kind runs).fltCtl = s.fltCtl := by
  unfold beginUpdate
  dsimp only
  split <;> simp (disch := decide) [State.setFlag_fltCtl]

@[simp] theorem logTurn_fltCtl (s : State) : (logTurn s).fltCtl = s.fltCtl := by
  unfold logTurn
  dsimp only
  split
  · rfl
  · split
    · rfl
    · simp

@[simp] theorem logPass_fltCtl (s : State) : (logPass s).fltCtl = s.fltCtl := by
  unfold logPass
  dsimp only
  split
  · simp
  · split <;> simp

/-! ### The collector (R517, R542) -/

theorem setSrcBit_fltCtl (s : State) {f : Fld} (h : 0x3000 < f.reg.base) (src : Nat) (v : Bool) :
    (setSrcBit s f src v).fltCtl = s.fltCtl := State.rd_wr_other (RegDef.at_ne_fltCtl h _ _) _

@[simp] theorem bookError_fltCtl (s : State) (src : Nat) (broken : Bool) : (bookError s src broken).fltCtl = s.fltCtl := by
  unfold bookError
  cases reactClass src broken <;> simp (disch := decide) [State.count_fltCtl, setSrcBit_fltCtl]

@[simp] theorem setMode_fltCtl (s : State) (m : Mode) : (setMode s m).fltCtl = s.fltCtl :=
  State.rd_wr_other (show Reg.blkCntMode.at ≠ Reg.fltCtl.at by decide) _

@[simp] theorem safeChannel_fltCtl (s : State) (c : Nat) : (safeChannel s c).fltCtl = s.fltCtl := by
  simp [safeChannel]

@[simp] theorem retainAll_fltCtl (s : State) (why : SrWhy) : (retainAll s why).fltCtl = s.fltCtl := by
  simp [retainAll, startSr]

@[simp] theorem backToSafe_fltCtl (s : State) : (backToSafe s).fltCtl = s.fltCtl := by
  simp [backToSafe, cutXfer]

/-! ### SAFE, and the warm reset that may end it -/

/-- SAFE, with FLT_CTL reading `w`. -/
def State.safeWith (s : State) (w : Word) : Prop := s.mode = .safe ∧ s.fltCtl = w

/-- RESET before its clock runs. -/
def State.restarting (s : State) : Prop := s.mode = .reset ∧ (s.start = .off ∨ s.start = .refclk)

variable {s : State} {w : Word}

theorem State.stance_mode (s : State) : s.stance.mode = s.mode := rfl

theorem State.safeWith.of_frame {t : State} (h : s.safeWith w) (hm : t.stance = s.stance) (hf : t.fltCtl = s.fltCtl) :
    t.safeWith w := by
  obtain ⟨hsafe, hword⟩ := h
  exact ⟨by rw [← State.stance_mode, hm, State.stance_mode, hsafe], hf.trans hword⟩

theorem State.safeWith.modeNow (h : s.safeWith w) : s.modeNow = .safe ∨ s.modeNow = .recover := by
  unfold State.modeNow
  split
  · exact .inr rfl
  · exact .inl h.1

theorem backToSafe_safeWith (s : State) : (backToSafe s).safeWith s.fltCtl :=
  ⟨(State.stance_mode _).symm.trans (by simp), backToSafe_fltCtl s⟩

/-- In SAFE an error is merged, or sends the block back to SAFE where it still completed what a recovery kept. -/
theorem State.safeWith.blockReact (h : s.safeWith w) (src : Nat) (broken : Bool) : (blockReact s src broken).safeWith w := by
  unfold Machine.blockReact
  extract_lets fatal flt u merged
  have hu : u.safeWith w := by
    unfold u
    split <;> exact h
  split
  · exact hu.of_frame (by simp [merged]) (by simp (disch := decide) [merged, State.count_fltCtl])
  · split
    · exact hu.2 ▸ backToSafe_safeWith u
    · exact hu
  · exact hu
  · next hsafe hrecover _ => exact absurd hu.modeNow (not_or.2 ⟨hsafe, hrecover⟩)

theorem State.safeWith.collectOne (h : s.safeWith w) (src : Nat) : (collectOne s src).safeWith w := by
  unfold Machine.collectOne
  split
  · exact h
  · exact (h.of_frame (by simp) (by simp)).blockReact ..

theorem State.safeWith.collectAll (h : s.safeWith w) : (collectAll s).safeWith w := by
  have hstart : ({ s with flt := { s.flt with raised := [] } } : State).safeWith w := h
  exact List.foldlRecOn (motive := fun u : State => u.safeWith w) s.flt.raised _ hstart fun u hu e _ => hu.collectOne e.1

theorem warmReset_restarting (s : State) : (warmReset s).restarting := by
  refine ⟨warmReset_mode s, ?_⟩
  simp only [warmReset, State.wr_start]
  split <;> simp

theorem State.safeWith.turn (h : s.safeWith w) : (turn s).safeWith w ∨ (turn s).restarting := by
  have hlog : (logPass s).safeWith w := h.of_frame (by simp) (by simp)
  have hturn : Machine.turn s = quiesceTurn (logPass s) := by
    unfold Machine.turn
    rw [h.1]
  rw [hturn, quiesceTurn]
  split
  · exact .inr (warmReset_restarting _)
  · exact .inl hlog

/-- Pairs of units that are held in reset show the collector nothing (R525). -/
theorem State.restarting.collectOne (h : s.restarting) (src : Nat) : Machine.collectOne s src = s := by
  obtain ⟨hm, hs⟩ := h
  have hheld : pairsHeld s = true := by
    rcases hs with hs | hs <;> simp [pairsHeld, hs]
  simp [Machine.collectOne, hm, hheld]

theorem State.restarting.collectAll (h : s.restarting) : (collectAll s).restarting := by
  have hstart : ({ s with flt := { s.flt with raised := [] } } : State).restarting := h
  exact List.foldlRecOn (motive := State.restarting) s.flt.raised _ hstart fun u hu e _ => (hu.collectOne e.1).symm ▸ hu

theorem State.restarting.turn (h : s.restarting) : (turn s).restarting := by
  obtain ⟨hm, hs⟩ := h
  have hturn : Machine.turn s = s := by
    rcases hs with hs | hs <;> simp [Machine.turn, startTurn, hm, hs]
  exact hturn.symm ▸ ⟨hm, hs⟩

/-- What follows from a command in SAFE keeps FLT_CTL as long as the block stays in SAFE. -/
theorem State.safeWith.settle (h : s.safeWith w) : (settle s).safeWith w ∨ (settle s).restarting := by
  have round {u : State} (hu : u.safeWith w ∨ u.restarting) :
      (Machine.collectAll (Machine.turn u)).safeWith w ∨ (Machine.collectAll (Machine.turn u)).restarting := by
    rcases hu with hu | hu
    · exact hu.turn.imp (·.collectAll) (·.collectAll)
    · exact .inr hu.turn.collectAll
  exact round (round (round (.inl h.collectAll)))

end Sys2Proof.Machine

end

/-! SUPPORT. A state whose register words are listed twice, in which HOLDUP_REQ does not clear FATAL_ARM. -/

section

namespace Sys2Proof.Machine

/-- SAFE with FLT_CTL listed twice, each time with FATAL_ARM set: not the canonical form that `State.wf` asks for. -/
def doubledState : State :=
  { State.reset with mode := .safe, regs := [(Reg.fltCtl.at, 1), (Reg.fltCtl.at, 1)] }

theorem State.fatalArm_of_fltCtl {s : State} (h : s.fltCtl = 1) : s.flag Fld.fltCtlFatalArm = true := by
  have hfld : s.fld Fld.fltCtlFatalArm = getBits s.fltCtl 0 1 := rfl
  rw [State.flag, hfld, h]
  decide

theorem doubled_settles :
    (settle (opHoldupReq doubledState)).mode = .safe ∧ (settle (opHoldupReq doubledState)).fltCtl = 1 := by
  decide +kernel

end Sys2Proof.Machine

end

/-! SUPPORT. The statement about the media port's states. -/

section

open Sys2Proof Sys2Proof.Machine

/-- Refutes O28, by its clause that HOLDUP_REQ ends FATAL_ARM (R533): the clause asks for no canonical register words, and
where FLT_CTL is listed twice the write that clears FATAL_ARM removes the first of its entries and the second shows. No state
without FATAL_ARM settles to the same end: in SAFE, what follows from a command (log entry 2) keeps FLT_CTL. -/
theorem not_mediaPortStates : ¬Obligations.MediaPortStates := by
  rintro ⟨-, -, -, -, h⟩
  obtain ⟨t, hexec, -, harm, -, -, hmode, -⟩ := h doubledState
  have hsettle : settle (opHoldupReq doubledState) = settle t := Host.Outcome.next.inj hexec
  obtain ⟨hsafe, hword⟩ := hsettle ▸ doubled_settles
  have ht : t.safeWith t.fltCtl := ⟨hmode (.inl rfl), rfl⟩
  obtain ⟨-, hkept⟩ | ⟨hreset, -⟩ := ht.settle
  · have harmed : t.flag Fld.fltCtlFatalArm = true := State.fatalArm_of_fltCtl (hkept.symm.trans hword)
    exact absurd (harmed.symm.trans harm) (by decide)
  · exact absurd (hsafe.symm.trans hreset) (by decide)

end

/-! SUPPORT. What an issue leaves alone (R260, R261). One projection, `State.island`, carries it, so that each function that an
issuing command goes through needs one frame lemma. -/

section

namespace Sys2Proof.Machine

/-! ### The command that may issue (R260, R261) -/

/-- The command chosen is of its subchannel, its rods read zero, and no command before it is of its bank. -/
theorem issuable_eq_some {s : State} {c sub : Nat} {before q : List QCmd} {x : QCmd} (h : issuable s c sub before q = some x) :
    x.loc.sub = sub ∧ released s c x.cmd x.loc = true
      ∧ ∃ a b, q = a ++ x :: b ∧ ∀ y ∈ before ++ a, bankKey y.loc ≠ bankKey x.loc := by
  induction q generalizing before with
  | nil => cases h
  | cons z q ih =>
    unfold issuable at h
    split at h
    · next hz =>
      cases h
      simp only [Bool.and_eq_true, decide_eq_true_eq, Bool.not_eq_true', List.any_eq_false, beq_iff_eq] at hz
      obtain ⟨⟨hsub, hrods⟩, hbank⟩ := hz
      exact ⟨hsub, hrods, [], q, rfl, by simpa using hbank⟩
    · obtain ⟨hsub, hrods, a, b, rfl, hbank⟩ := ih h
      exact ⟨hsub, hrods, z :: a, b, rfl, by simpa using hbank⟩

/-! ### What stands beside a channel's work -/

/-- What stands beside a channel, with the channel's clock and its issue queues. -/
structure Island extends Beside where
  clk : Nat
  queue : List QCmd

/-- The part of a state that only time, a grant or an issue of channel `c` moves. -/
def State.island (s : State) (c : Nat) : Island :=
  { s.beside c with clk := (s.ch c).clk, queue := (s.ch c).queue }

theorem beside_of_island {s t : State} {c : Nat} (h : t.island c = s.island c) : t.beside c = s.beside c :=
  congrArg Island.toBeside h

section
variable (s : State) (c : Nat)

/-- The channel itself after a change of it. -/
theorem State.modCh_ch (f : Channel → Channel) : (s.modCh (chan c) f).ch c = f (s.ch c) := State.modCh_self ..

/-- A change of the channel that leaves its clock and its queue. -/
@[simp] theorem State.modCh_island {f : Channel → Channel} (hc : ∀ q, (f q).clk = q.clk) (hq : ∀ q, (f q).queue = q.queue) :
    (s.modCh (chan c) f).island c = s.island c := by
  simp only [State.island, State.modCh_beside, State.modCh_ch, hc, hq]

@[simp] theorem State.wr_island (o : Nat) (w : Word) : (s.wr o w).island c = s.island c := rfl
@[simp] theorem State.setFld_island (f : Fld) (v i k : Nat) : (s.setFld f v i k).island c = s.island c := rfl
@[simp] theorem State.setFlag_island (f : Fld) (b : Bool) (i k : Nat) : (s.setFlag f b i k).island c = s.island c := rfl
@[simp] theorem State.count_island (r : RegDef) (n i k : Nat) : (s.count r n i k).island c = s.island c := rfl
@[simp] theorem State.count64_island (a b : RegDef) (n i : Nat) : (s.count64 a b n i).island c = s.island c :=
  (State.wr_island ..).trans (State.wr_island ..)
@[simp] theorem State.info_island (a b : Nat) (x y : Word) : (s.info a b x y).island c = s.island c := rfl
@[simp] theorem State.reject_island (o : Nat) (v : Word) : (s.reject o v).island c = s.island c := rfl
@[simp] theorem State.modCtx_island (n : Nat) (f : Ctx → Ctx) : (s.modCtx n f).island c = s.island c := rfl
@[simp] theorem dropPend_island (o : Nat) : (dropPend s o).island c = s.island c := rfl

@[simp] theorem ite_island (b : Prop) [Decidable b] (s t : State) :
    (if b then s else t).island c = if b then s.island c else t.island c := apply_ite (State.island · c) ..

@[simp] theorem foldl_island {α : Type} (f : State → α → State) (l : List α) (s : State)
    (h : ∀ u a, (f u a).island c = u.island c) : (l.foldl f s).island c = s.island c := foldl_frame (State.island · c) f l s h

/-! ### Buffered values of a channel (R614, R615) -/

/-- The registers of the channels and of the sideband take effect by standing in force; those that do more (R148, R181,
R200, R410) stand elsewhere. -/
theorem afterApply_of_unit {off : Nat} (hlo : 0x10000 ≤ off) (hhi : off < 0x30000) : afterApply s off = s := by
  have hother : off ≠ Reg.tierLfsrSeed.at ∧ off ≠ Reg.awlBpSeed.at ∧ off ≠ Reg.thrCtl.at ∧ off ≠ Reg.dirtyBudget.at
      ∧ off ≠ Reg.dirtyCtl.at := by
    simp only [RegDef.at, Reg.tierLfsrSeed, Reg.awlBpSeed, Reg.thrCtl, Reg.dirtyBudget, Reg.dirtyCtl]
    omega
  obtain ⟨hlfsr, hawl, hthr, hbudget, hdirty⟩ := hother
  simp [afterApply, hlfsr, hawl, hthr, hbudget, hdirty]

theorem applyReg_island {off : Nat} (hlo : 0x10000 ≤ off) (hhi : off < 0x30000) : (applyReg s off).island c = s.island c := by
  unfold applyReg
  split
  · rfl
  · simp [afterApply_of_unit _ hlo hhi]

/-- A channel's timing registers stand in a row of its group (R264). -/
theorem timOffs_bounds {c o : Nat} (ho : o ∈ timOffs c) : 0x10100 + c * 0x1000 ≤ o ∧ o ≤ 0x10128 + c * 0x1000 := by
  obtain ⟨r, hr, rfl⟩ := List.mem_map.1 ho
  have hrow : 0x10100 ≤ r.base ∧ r.base ≤ 0x10128 ∧ r.s1 = 0x1000 := by
    clear ho
    revert r
    decide
  obtain ⟨hlo, hhi, hstride⟩ := hrow
  simp only [RegDef.at, hstride]
  omega

variable {c}

theorem applyAll_island {p : Nat → Bool} (hp : ∀ o, p o = true → 0x10000 ≤ o ∧ o < 0x30000) :
    (applyAll s p).island c = s.island c := by
  refine List.foldlRecOn (motive := fun t : State => t.island c = s.island c) _ _ rfl fun t ht o ho => ?_
  obtain ⟨hlo, hhi⟩ := hp o (List.mem_filter.1 ho).2
  exact (applyReg_island t c hlo hhi).trans ht

theorem applyTimings_island (hc : c < 16) : (applyTimings s c).island c = s.island c := by
  unfold applyTimings
  extract_lets waiting ok
  split
  · rfl
  · split
    · refine List.foldlRecOn (motive := fun t : State => t.island c = s.island c) _ _ rfl fun t ht o ho => ?_
      obtain ⟨hlo, hhi⟩ := timOffs_bounds (List.mem_filter.1 ho).1
      exact (applyReg_island t c (by omega) (by omega)).trans ht
    · exact foldl_island c _ _ _ fun u o => rfl

theorem channelBoundary_island (hc : c < 16) : (channelBoundary s c).island c = s.island c := by
  unfold channelBoundary
  split
  · rfl
  · refine (applyAll_island _ fun o ho => ?_).trans (applyTimings_island s hc)
    have hgroup : o / 0x1000 = 16 + c := by
      simp only [inChannel, Bool.and_eq_true, beq_iff_eq] at ho
      exact ho.1.1.1
    omega

end

/-! ### The abacus and the trackers (R264, R278 to R284) -/

section
variable (s : State) (c : Nat)

@[simp] theorem loadRod_island (p scope a n : Nat) : (loadRod s c p scope a n).island c = s.island c := by
  simp [loadRod]

@[simp] theorem loadRods_island (cmd : DCmd) (l : Loc) : (loadRods s c cmd l).island c = s.island c := by
  unfold loadRods
  cases cmd <;> simp

@[simp] theorem raiseStep_island (ctx : Nat) : (raiseStep s c ctx).island c = s.island c := by
  simp [raiseStep]

@[simp] theorem rowAlert_island (l : Loc) (e : TrackEntry) : (rowAlert s c l e).island c = s.island c := by
  unfold rowAlert
  extract_lets s1 named s2 bk t s3 s4
  clear_value named
  have h2 : s2.island c = s.island c := by
    cases named <;> simp [s2, s1]
  simpa [s4, s3] using h2

@[simp] theorem trackAct_island (l : Loc) (ctx : Nat) : (trackAct s c l ctx).island c = s.island c := by
  simp [trackAct]

@[simp] theorem bankRefreshed_island (bk rank : Nat) : (bankRefreshed s c bk rank).island c = s.island c := by
  simp [bankRefreshed]

@[simp] theorem banksRefreshed_island (l : Loc) (index : Bool) : (banksRefreshed s c l index).island c = s.island c := by
  simp [banksRefreshed]

/-! ### Refresh and self-refresh (R270, R274, R299) -/

@[simp] theorem setDebt_island (k v : Nat) : (setDebt s c k v).island c = s.island c := by
  simp [setDebt]

@[simp] theorem entered_island : (entered s c).island c = s.island c := by
  simp [entered]

@[simp] theorem exited_island : (exited s c).island c = s.island c := by
  simp [exited]

@[simp] theorem usedRank_island (l : Loc) : (usedRank s c l).island c = s.island c := by
  simp [usedRank]

@[simp] theorem modJob_island (id : Nat) (f : Job → Job) : (modJob s c id f).island c = s.island c := by
  simp [modJob]

variable {c}

theorem refreshDone_island (hc : c < 16) (k : Nat) : (refreshDone s c k).island c = s.island c := by
  simp [refreshDone, channelBoundary_island _ hc]

/-- A command that issues moves nothing beside its channel, nor the queues it has left. -/
theorem issueCmd_island (hc : c < 16) (x : QCmd) : (issueCmd s c x).island c = s.island c := by
  unfold issueCmd
  extract_lets loaded noted
  have hnoted : noted.island c = s.island c := by simp [noted, loaded]
  clear_value noted
  cases hj : x.job <;> cases x.cmd <;> simp +zetaDelta [hnoted, refreshDone_island _ hc, hj]

end

/-! ### What an issue brings with it (R371, R379, R380) -/

section
variable (s : State) (c : Nat)

@[simp] theorem calBooks_island : (calBooks s c).island c = s.island c := by
  simp [calBooks]

@[simp] theorem endtapBooks_island : (endtapBooks s c).island c = s.island c := by
  simp [endtapBooks]

@[simp] theorem moveFine_island (lane : Nat) (tx : Bool) (v : Int) : (moveFine s c lane tx v).island c = s.island c := by
  simp [moveFine]

@[simp] theorem putSetting_island (kind lane : Nat) (v : Int) : (putSetting s c kind lane v).island c = s.island c := by
  simp [putSetting]

@[simp] theorem moveCorrs_island (p : Corr → Bool) (n : Nat) : (moveCorrs s c p n).2.island c = s.island c := by
  simp [moveCorrs]

@[simp] theorem calSlot_island (sub : Nat) : (calSlot s c sub).island c = s.island c := by
  simp [calSlot, calBoundary]

@[simp] theorem calInSr_island : (calInSr s c).island c = s.island c := by
  simp [calInSr]

@[simp] theorem markPasses_island (why : Nat) : (markPasses s c why).island c = s.island c := by
  simp [markPasses]

@[simp] theorem markSr_island : (markSr s c).island c = s.island c := by
  simp [markSr]

variable {c}

theorem zqInstall_island (hc : c < 16) : (zqInstall s c).island c = s.island c := by
  have happly : (applyReg s (Reg.phyZq.at c)).island c = s.island c :=
    applyReg_island s c (by simp only [RegDef.at, Reg.phyZq]; omega) (by simp only [RegDef.at, Reg.phyZq]; omega)
  simp [zqInstall, happly]

/-! ### One turn of an issue queue (R260, R261) -/

/-- Commands that have waited are marked, in their places (R261). -/
theorem noteHolds_frame : (noteHolds s c).beside c = s.beside c ∧ ((noteHolds s c).ch c).clk = (s.ch c).clk
    ∧ ((noteHolds s c).ch c).queue.length = (s.ch c).queue.length := by
  unfold noteHolds
  extract_lets la late n
  refine ⟨State.modCh_beside .., ?_, ?_⟩ <;> rw [State.modCh_ch]
  · rfl
  · exact List.length_map ..

/-- A turn of an issue queue counts its clocks, and takes at most one command from the queue. -/
theorem issueTurn_frame (hc : c < 16) (sub clocks : Nat) :
    let t := issueTurn s c sub clocks
    t.beside c = s.beside c ∧ (t.ch c).clk = (s.ch c).clk + clocks
      ∧ ((t.ch c).queue.length = (s.ch c).queue.length ∨ (t.ch c).queue.length + 1 = (s.ch c).queue.length) := by
  unfold issueTurn
  extract_lets passed noted t
  obtain ⟨hbeside, hclk, hqueue⟩ := noteHolds_frame (c := c) passed
  have hpassed : passed.ch c = { s.ch c with clk := (s.ch c).clk + clocks } := State.modCh_ch ..
  replace hbeside : noted.beside c = s.beside c := hbeside.trans (State.modCh_beside ..)
  rw [hpassed] at hclk hqueue
  cases hx : issuable noted c sub [] (noted.ch c).queue with
  | none =>
    have ht : t = noted := by simp only [t, hx]
    rw [ht]
    exact ⟨hbeside, hclk, .inl hqueue⟩
  | some x =>
    have ht : t = issueCmd (noted.modCh (chan c) (fun q => { q with queue := q.queue.erase x })) c x := by simp only [t, hx]
    obtain ⟨-, -, a, b, hsplit, -⟩ := issuable_eq_some hx
    have hmem : x ∈ (noted.ch c).queue := hsplit ▸ List.mem_append_right a List.mem_cons_self
    have hlen : ((noted.ch c).queue.erase x).length + 1 = (noted.ch c).queue.length :=
      List.length_erase_add_one hmem
    have hissue := issueCmd_island (noted.modCh (chan c) (fun q => { q with queue := q.queue.erase x })) hc x
    rw [← ht] at hissue
    have hch := State.modCh_ch noted c (fun q => { q with queue := q.queue.erase x })
    refine ⟨(beside_of_island hissue).trans ((State.modCh_beside ..).trans hbeside), ?_, .inr ?_⟩
    · exact (congrArg Island.clk hissue).trans ((congrArg Channel.clk hch).trans hclk)
    · have htaken : (t.ch c).queue = (noted.ch c).queue.erase x :=
        (congrArg Island.queue hissue).trans (congrArg Channel.queue hch)
      rw [htaken, hlen]
      exact hqueue

/-- Beside its turn of the queue, an issue moves calibration settings and passes alone. -/
theorem opIssue_island (hc : c < 16) (sub clocks : Nat) :
    (opIssue s c sub clocks).island c = (issueTurn s c sub clocks).island c := by
  unfold opIssue
  extract_lets next was turned slotted marked
  have hslot : slotted.island c = turned.island c := by
    cases hn : next <;> simp [slotted, hn, zqInstall_island _ hc]
  have hmarked : marked.island c = turned.island c := (markSr_island slotted c).trans hslot
  have hentered : (channelBoundary (calInSr (zqInstall marked c) c) c).island c = marked.island c := by
    rw [channelBoundary_island _ hc, calInSr_island, zqInstall_island _ hc]
  split
  · exact hentered.trans hmarked
  · exact hmarked

end

end Sys2Proof.Machine

end

/-! SUPPORT. The statement about the issue queues. -/

section

open Sys2Proof Sys2Proof.Machine

/-- Settles O13: the choice walks the queue with the commands it has passed (R260), and what an issuing command does of itself
stays within its channel's abacus, books and words. -/
theorem commandIssues : Obligations.CommandIssues := by
  refine ⟨fun s c sub q x h => issuable_eq_some h, fun c sub clocks s => ⟨opIssue s c sub clocks, rfl, ?_⟩⟩
  have hissue := opIssue_island s c.isLt sub clocks
  obtain ⟨hbeside, hclk, hqueue⟩ := issueTurn_frame s c.isLt sub clocks
  obtain ⟨hledger, hmedia, hports, hdata, hothers⟩ := frame_of_beside ((beside_of_island hissue).trans hbeside)
  replace hclk := (congrArg Island.clk hissue).trans hclk
  have hlen := congrArg (fun k : Island => k.queue.length) hissue
  simp only [State.island, State.ch_val] at hclk hlen hqueue
  refine ⟨hclk, ?_, hdata, hledger, hports, hmedia, hothers⟩
  rw [hlen]
  exact hqueue

end

/-! SUPPORT. A unit of patrol scrub (R294, R295). -/

section

namespace Sys2Proof.Machine

theorem State.fld_of_regs {s t : State} (h : t.regs = s.regs) (f : Fld) (i k : Nat) : t.fld f i k = s.fld f i k := by
  simp only [State.fld, State.rd, h]

/-! ### Entries taken for lines (R108, R141) -/

/-- What an entry is held for: its line, its operation, its pool and its context. -/
def LEntry.purpose (e : LEntry) : LineKey × LKind × Pool × Nat := (e.key, e.kind, e.pool, e.ctx)

/-- Entries taken one after another, and the indexes that they take. -/
def takeEntries {α : Type} (entry : α → LEntry) (l : List α) (acc : List Nat × State) : List Nat × State :=
  l.foldl (fun acc x => (acc.1 ++ [freeIdx acc.2], addEntry acc.2 (entry x))) acc

/-- They stand behind the ledger, for their lines in order, and take indexes that no earlier entry has. -/
theorem takeEntries_eq {α : Type} (entry : α → LEntry) (l : List α) (is : List Nat) (s : State) : ∃ new,
    takeEntries entry l (is, s) = (is ++ new.map LEntry.idx, { s with ledger := s.ledger ++ new })
      ∧ new.map LEntry.purpose = l.map (fun x => (entry x).purpose) ∧ ∀ i ∈ new.map LEntry.idx, ∀ e ∈ s.ledger, e.idx ≠ i := by
  induction l generalizing is s with
  | nil => exact ⟨[], by simp [takeEntries], rfl, by simp⟩
  | cons x l ih =>
    obtain ⟨new, hnew, hpurpose, hunused⟩ := ih (is ++ [freeIdx s]) (addEntry s (entry x))
    refine ⟨{ entry x with idx := freeIdx s } :: new, ?_, congrArg ((entry x).purpose :: ·) hpurpose, ?_⟩
    · rw [show takeEntries entry (x :: l) (is, s) = takeEntries entry l (is ++ [freeIdx s], addEntry s (entry x)) from rfl, hnew]
      simp [addEntry]
    · refine List.forall_mem_cons.2 ⟨freeIdx_unused s, fun i hi e he => hunused i hi e ?_⟩
      exact List.mem_append_left _ he

/-- A change of the entries of given indexes leaves the entries that have none of them. -/
theorem foldl_modEntry_eq {f : LEntry → LEntry} (hf : ∀ e, (f e).purpose = e.purpose) (is : List Nat) {s : State}
    {old new : List LEntry} (hs : s.ledger = old ++ new) (hold : ∀ i ∈ is, ∀ e ∈ old, e.idx ≠ i) : ∃ new',
    is.foldl (fun s i => modEntry s i f) s = { s with ledger := old ++ new' }
      ∧ new'.map LEntry.purpose = new.map LEntry.purpose := by
  induction is generalizing s new with
  | nil => exact ⟨new, by rw [← hs]; rfl, rfl⟩
  | cons i is ih =>
    obtain ⟨hi, hold⟩ := List.forall_mem_cons.1 hold
    have hkept : old.map (fun e => if e.idx = i then f e else e) = old :=
      (List.map_congr_left fun e he => if_neg (hi e he)).trans (List.map_id _)
    have hmod : (modEntry s i f).ledger = old ++ new.map (fun e => if e.idx = i then f e else e) := by
      rw [modEntry, hs, List.map_append, hkept]
    obtain ⟨new', hnew', hpurpose⟩ := ih hmod hold
    refine ⟨new', hnew', hpurpose.trans ?_⟩
    rw [List.map_map]
    refine List.map_congr_left fun e _ => ?_
    rw [Function.comp_apply, apply_ite LEntry.purpose, hf, ite_self]

/-! ### The start of a unit (R294) -/

/-- The lines of the unit at the scrub position that have no entry in the ledger (R126, R294). -/
def scrubLines (s : State) (c : Nat) : List (LineKey × JobLine) :=
  (unitLines s c (s.fld Fld.chScrubPosRank c) (s.fld Fld.chScrubPosUnit c)).filter (fun x => (chain s x.1).isEmpty)

/-- The position at the next unit of its rank. -/
def scrubMoved (s : State) (c : Nat) : State :=
  (s.setFld Fld.chScrubPosUnit (s.fld Fld.chScrubPosUnit c + 1) c).setFld Fld.chScrubPosRank (s.fld Fld.chScrubPosRank c) c

/-- The move reserve entry of a line that scrub reads (R295). -/
def scrubEntry (c : Nat) (deadline : Tick) (key : LineKey) : LEntry :=
  { idx := 0, kind := .scrub, st := .run, pool := .moveRes, ctx := 0, port := 0, deadline := deadline, key := key, ch := c }

/-- The access of a unit that is not the last of its pass, offered with the entries of its lines (R294, R295). -/
def scrubOffered (s : State) (c : Nat) (dl : Tick) (ls : List (LineKey × JobLine)) : State :=
  let taken := takeEntries (fun x => scrubEntry c dl x.1) ls ([], s)
  let js := (ls.zip taken.1).map (fun x => { x.1.2 with idx := some x.2 })
  let job := newJob taken.2 c (.scrub false) false js 0 dl false
  taken.1.foldl (fun s i => modEntry s i (fun e => { e with phase := .dram job.1, owner := job.1 })) job.2

variable {s : State} {c : Nat}

theorem opScrub_within_rank (hruns : scrubRuns s c = true) (hranks : s.fld Fld.phyPopRanks c ≠ 0)
    (hunit : s.fld Fld.chScrubPosUnit c + 1 < (s.ch c).rankUnits)
    (hroom : poolCount s .moveRes + (scrubLines s c).length ≤ 1024) :
    opScrub s c = if (scrubLines s c).isEmpty then scrubMoved s c
      else scrubOffered (scrubMoved s c) c ((scrubMoved s c).farDeadline ((scrubMoved s c).fld Fld.arbFarScrub)) (scrubLines s c) := by
  have hunits : (s.ch c).rankUnits ≠ 0 := by omega
  have hlast : decide ((s.ch c).rankUnits ≤ s.fld Fld.chScrubPosUnit c + 1) = false := by simpa using hunit
  unfold opScrub
  simp only [hruns, hunits, hranks, hlast, Bool.not_true, decide_false, Bool.or_self, Bool.false_eq_true, if_false,
    Bool.false_and]
  exact if_neg (not_lt.2 hroom)

/-- The access takes an entry for each of its lines, and nothing else of the ledger moves. -/
theorem scrubOffered_frame (s : State) (c : Nat) (dl : Tick) (ls : List (LineKey × JobLine)) :
    let t := scrubOffered s c dl ls
    t.regs = s.regs ∧ State.beside { t with ledger := s.ledger } c = s.beside c
      ∧ ∃ es, t.ledger = s.ledger ++ es ∧ es.map LEntry.purpose = ls.map (fun x => (x.1, .scrub, .moveRes, 0)) := by
  obtain ⟨new, htaken, hpurpose, hunused⟩ := takeEntries_eq (fun x : LineKey × JobLine => scrubEntry c dl x.1) ls [] s
  unfold scrubOffered
  rw [htaken]
  extract_lets taken js job t
  obtain ⟨new', ht, hpurpose'⟩ := foldl_modEntry_eq (f := fun e => { e with phase := .dram job.1, owner := job.1 })
    (fun _ => rfl) taken.1 (s := job.2) rfl hunused
  have hjob : job.2.beside c = taken.2.beside c := State.modCh_beside ..
  have ht : t = { job.2 with ledger := s.ledger ++ new' } := ht
  rw [ht]
  exact ⟨rfl, congrArg (fun b : Beside => { b with ledger := s.ledger }) hjob, new', rfl, hpurpose'.trans hpurpose⟩

/-- Entries taken for lines, by what they are held for. -/
theorem purposes_of_lines {es : List LEntry} {ls : List (LineKey × JobLine)}
    (h : es.map LEntry.purpose = ls.map (fun x => (x.1, .scrub, .moveRes, 0))) :
    es.map (fun e => e.key) = ls.map (fun x => x.1) ∧ ∀ e ∈ es, e.kind = .scrub ∧ e.pool = .moveRes ∧ e.ctx = 0 := by
  refine ⟨?_, fun e he => ?_⟩
  · simpa [LEntry.purpose, Function.comp_def] using congrArg (List.map Prod.fst) h
  · have hmem : e.purpose ∈ ls.map (fun x => (x.1, LKind.scrub, Pool.moveRes, 0)) := h ▸ List.mem_map_of_mem he
    obtain ⟨x, -, hx⟩ := List.mem_map.1 hmem
    simp only [LEntry.purpose, Prod.mk.injEq] at hx
    obtain ⟨-, hkind, hpool, hctx⟩ := hx
    exact ⟨hkind.symm, hpool.symm, hctx.symm⟩

/-- The position stands at the next unit, in its rank. -/
theorem scrubMoved_position (hr : kRising s.regs = true) (hsize : s.fld Fld.chScrubPosUnit c + 1 < 2 ^ 25) :
    (scrubMoved s c).fld Fld.chScrubPosUnit c = s.fld Fld.chScrubPosUnit c + 1
      ∧ (scrubMoved s c).fld Fld.chScrubPosRank c = s.fld Fld.chScrubPosRank c := by
  have hr' := State.setFld_rising s hr Fld.chScrubPosUnit (s.fld Fld.chScrubPosUnit c + 1) c 0
  unfold scrubMoved
  constructor
  · rw [State.fld_setFld_beside _ hr' Fld.chScrubPosRank Fld.chScrubPosUnit _ c 0 c 0 rfl (by decide) (by decide),
      State.fld_setFld s hr _ _ _ _ (by decide)]
    exact Nat.mod_eq_of_lt hsize
  · rw [State.fld_setFld _ hr' _ _ _ _ (by decide)]
    exact Nat.mod_eq_of_lt (State.fld_lt ..)

end Sys2Proof.Machine

end

/-! SUPPORT. The statement about patrol scrub. -/

section

open Sys2Proof Sys2Proof.Machine

/-- Settles O26: the entries of a unit take indexes that no entry has (R141), so that the changes made under those indexes are
changes of the unit's own entries; a unit whose lines all have an entry takes none (R126). -/
theorem scrubUnitStarts : Obligations.ScrubUnitStarts := by
  intro c s hwf hruns hsize hranks unit ls hunit hroom
  have hch : s.ch c.val = s.chs[c] := s.ch_val c
  have hstart := opScrub_within_rank hruns hranks (hch ▸ hunit) hroom
  obtain ⟨hpos, hrank⟩ := scrubMoved_position (c := c.val) (State.wf_regs_rising hwf) (lt_of_lt_of_le hunit hsize)
  refine ⟨opScrub s c, rfl, ?_⟩
  rw [hstart]
  split
  · next hnone =>
    have hls : ls = [] := List.isEmpty_iff.1 hnone
    refine ⟨hpos, hrank, ⟨[], (List.append_nil _).symm, ?_, by simp⟩, ⟨rfl, rfl, rfl, rfl⟩, fun _ _ => rfl⟩
    rw [hls]
    rfl
  · obtain ⟨hregs, hframe, es, hledger, hpurpose⟩ := scrubOffered_frame (scrubMoved s c) c _ ls
    obtain ⟨hkeys, hheld⟩ := purposes_of_lines hpurpose
    obtain ⟨-, -, -, hdata, hothers⟩ := frame_of_beside hframe
    exact ⟨(State.fld_of_regs hregs ..).trans hpos, (State.fld_of_regs hregs ..).trans hrank, ⟨es, hledger, hkeys, hheld⟩, hdata, hothers⟩

end

/-! SUPPORT. The outcome of a line that is read (R289 to R292). One projection, `State.landing`, carries what a read's outcome
leaves alone, so that each function that judges it needs one frame lemma. -/

section

namespace Sys2Proof.Machine

/-- What a line finds and leaves where it lands: the mode, the ledger, the lines of DRAM, the ports, its channel's accesses and
the other channels. -/
structure Landing where
  mode : Mode
  modeNow : Mode
  ledger : List LEntry
  dram : KMap Line
  ports : Vector Port 8
  jobs : List Job
  others : ChanId → Option Channel

/-- The part of a state that the outcome of a read on channel `c` leaves alone. -/
def State.landing (s : State) (c : Nat) : Landing :=
  { mode := s.mode, modeNow := s.modeNow, ledger := s.ledger, dram := s.dram, ports := s.ports, jobs := (s.ch c).jobs,
    others := (s.beside c).others }

section
variable (s : State) (c : Nat)

@[simp] theorem State.count_landing (r : RegDef) (n i k : Nat) : (s.count r n i k).landing c = s.landing c := rfl
@[simp] theorem State.setFld_landing (f : Fld) (v i k : Nat) : (s.setFld f v i k).landing c = s.landing c := rfl
@[simp] theorem State.setFlag_landing (f : Fld) (b : Bool) (i k : Nat) : (s.setFlag f b i k).landing c = s.landing c := rfl
@[simp] theorem State.info_landing (a b : Nat) (x y : Word) : (s.info a b x y).landing c = s.landing c := rfl
@[simp] theorem State.eventOf_landing (a b n : Nat) (x y : Word) (o : Option Nat) :
    (s.eventOf a b n x y o).landing c = s.landing c := rfl
@[simp] theorem State.modCtx_landing (n : Nat) (f : Ctx → Ctx) : (s.modCtx n f).landing c = s.landing c := rfl
@[simp] theorem State.setTag_landing (a b w : Nat) (t : Tag) : (s.setTag a b w t).landing c = s.landing c := rfl
@[simp] theorem lifeUp_landing (k n : Nat) : (lifeUp s k n).landing c = s.landing c := rfl

theorem State.modCh_landing_eq (f : Channel → Channel) :
    (s.modCh (chan c) f).landing c = { s.landing c with jobs := (f (s.ch c)).jobs } := by
  have hothers : ((s.modCh (chan c) f).beside c).others = (s.beside c).others := congrArg Beside.others (State.modCh_beside ..)
  unfold State.landing
  rw [hothers, State.modCh_ch]
  rfl

/-- A change of the channel that leaves its accesses. -/
@[simp] theorem State.modCh_landing {f : Channel → Channel} (h : ∀ q, (f q).jobs = q.jobs) :
    (s.modCh (chan c) f).landing c = s.landing c := by
  rw [State.modCh_landing_eq, h]
  rfl

@[simp] theorem ite_landing (b : Prop) [Decidable b] (s t : State) :
    (if b then s else t).landing c = if b then s.landing c else t.landing c := apply_ite (State.landing · c) ..

/-! ### A corrected line (R289, R290, R292, R496) -/

@[simp] theorem queueLog_landing (kind : Nat) (body : List Nat) : (queueLog s kind body).landing c = s.landing c := by
  unfold queueLog
  split <;> rfl

@[simp] theorem markDevice_landing (rank dev why : Nat) : (markDevice s c rank dev why).landing c = s.landing c := by
  simp [markDevice]

@[simp] theorem noteSuspect_landing (rank dev : Nat) : (noteSuspect s c rank dev).landing c = s.landing c := by
  simp [noteSuspect]

@[simp] theorem noteRow_landing (l : Loc) (ue : Bool) : (noteRow s c l ue).landing c = s.landing c := by
  simp [noteRow]

@[simp] theorem noteCe_landing (l : Loc) (dev : Nat) : (noteCe s c l dev).landing c = s.landing c := by
  simp [noteCe]

/-! ### An uncorrectable line (R289, R291, R474) -/

@[simp] theorem setChSt_landing (st : ChSt) (why : Nat) : (setChSt s c st why).landing c = s.landing c := by
  simp [setChSt]

@[simp] theorem beginFence_landing (why : Nat) : (beginFence s c why).landing c = s.landing c := by
  simp [beginFence]

@[simp] theorem orderlyFence_landing (why : Nat) : (orderlyFence s c why).landing c = s.landing c := by
  unfold orderlyFence
  split
  · simp
  · simp
  · rfl

@[simp] theorem planRetrain_landing : (planRetrain s c).landing c = s.landing c := by
  simp [planRetrain]

variable {s c}

/-- Outside SAFE and RECOVER an error that leaves time for it fences the channel in order. -/
theorem faultFence_landing (hm : s.mode ≠ .safe) (hn : s.modeNow ≠ .recover) :
    (faultFence s c true).landing c = s.landing c := by
  simp [faultFence, hm, hn]

theorem noteUe_landing (hm : s.mode ≠ .safe) (hn : s.modeNow ≠ .recover) (l : Loc) (tagLine : Bool) :
    (noteUe s c l tagLine).landing c = s.landing c := by
  unfold noteUe
  extract_lets counted told noted n marked raised reported
  have hmarked : marked.landing c = s.landing c := by simp [marked, noted, told, counted]
  have hreported : reported.landing c = s.landing c := by simp [reported, raised, hmarked]
  clear_value marked reported
  have hmode : reported.mode ≠ .safe := fun h => hm ((congrArg Landing.mode hreported).symm.trans h)
  have hnow : reported.modeNow ≠ .recover := fun h => hn ((congrArg Landing.modeNow hreported).symm.trans h)
  split
  · rw [faultFence_landing hmode hnow, hreported]
  · exact hmarked

end

/-! ### What a return may add (R289, R295) -/

/-- `t` has what `s` has of a landing, with entries behind the ledger and accesses behind the channel's. -/
def LandingGrown (s t : State) (c : Nat) : Prop :=
  ∃ es js, t.landing c = { s.landing c with ledger := s.ledger ++ es, jobs := (s.ch c).jobs ++ js }

variable {s t : State} {c : Nat}

theorem LandingGrown.of_eq (h : t.landing c = s.landing c) : LandingGrown s t c :=
  ⟨[], [], by simpa [State.landing] using h⟩

theorem LandingGrown.of_eq_left {u : State} (h : LandingGrown t u c) (ht : t.landing c = s.landing c) : LandingGrown s u c := by
  obtain ⟨es, js, h⟩ := h
  have hledger : t.ledger = s.ledger := congrArg Landing.ledger ht
  have hjobs : (t.ch c).jobs = (s.ch c).jobs := congrArg Landing.jobs ht
  rw [ht, hledger, hjobs] at h
  exact ⟨es, js, h⟩

/-- A background access joins its channel's accesses, and wakes nothing (R77, R300). -/
theorem newJob_landing {why : JobFor} {ctx : Nat} (h : isBackground why ctx = true) (write : Bool) (lines : List JobLine)
    (deadline : Tick) (rights : Bool) : ∃ j,
    (newJob s c why write lines ctx deadline rights).2.landing c = { s.landing c with jobs := (s.ch c).jobs ++ [j] } := by
  unfold newJob
  extract_lets bg woken j
  have hwoken : woken = s := if_pos h
  rw [hwoken]
  exact ⟨j, State.modCh_landing_eq ..⟩

/-- The entry of a corrected line that is written back (R295). -/
def writeBackEntry (s : State) (c : Nat) (key : LineKey) (v : Line) : LEntry :=
  { idx := 0, kind := .scrub, st := .run, pool := .moveRes, ctx := 0, port := 0,
    deadline := s.farDeadline (s.fld Fld.arbFarRepair), key := key, ch := c, slot := some (v, false) }

/-- The access that writes a corrected line back (R289). -/
def writeBackJob (s : State) (c : Nat) (key : LineKey) (jl : JobLine) (v : Line) : Nat × State :=
  newJob (addEntry s (writeBackEntry s c key v)) c (.ceWb (freeIdx s)) true
    [{ loc := jl.loc, key := jl.key, idx := some (freeIdx s) }] 0 (s.farDeadline (s.fld Fld.arbFarRepair)) false

theorem writeBack_of_room {key : LineKey} {jl : JobLine} {v : Line} (h : poolCount s .moveRes < 1024) :
    writeBack s c key jl v = modEntry (writeBackJob s c key jl v).2 (freeIdx s)
      (fun e => { e with phase := .dram (writeBackJob s c key jl v).1, owner := (writeBackJob s c key jl v).1 }) :=
  if_neg (not_le.2 h)

theorem writeBackJob_landing (s : State) (c : Nat) (key : LineKey) (jl : JobLine) (v : Line) : ∃ e j,
    (writeBackJob s c key jl v).2.landing c
      = { s.landing c with ledger := s.ledger ++ [e], jobs := (s.ch c).jobs ++ [j] } := by
  obtain ⟨j, hj⟩ := newJob_landing (s := addEntry s (writeBackEntry s c key v)) (c := c) (why := .ceWb (freeIdx s)) (ctx := 0)
    rfl true [{ loc := jl.loc, key := jl.key, idx := some (freeIdx s) }] (s.farDeadline (s.fld Fld.arbFarRepair)) false
  exact ⟨_, j, hj⟩

/-- A corrected line's write-back takes an entry and offers an access, where an entry is free (R295). -/
theorem writeBack_grown (s : State) (c : Nat) (key : LineKey) (jl : JobLine) (v : Line) :
    LandingGrown s (writeBack s c key jl v) c := by
  by_cases hfull : 1024 ≤ poolCount s .moveRes
  · exact .of_eq (congrArg (State.landing · c) (if_pos hfull))
  · obtain ⟨e, j, hj⟩ := writeBackJob_landing s c key jl v
    rw [writeBack_of_room (not_le.1 hfull)]
    generalize writeBackJob s c key jl v = job at hj
    obtain ⟨es, hes, -⟩ := foldl_modEntry_eq (f := fun e => { e with phase := .dram job.1, owner := job.1 }) (fun _ => rfl)
      [freeIdx s] (congrArg Landing.ledger hj) (by simpa using freeIdx_unused s)
    have hgrown : State.landing { job.2 with ledger := s.ledger ++ es } c = { job.2.landing c with ledger := s.ledger ++ es } := rfl
    refine ⟨es, [j], (congrArg (State.landing · c) hes).trans (hgrown.trans ?_)⟩
    rw [hj]

/-! ### The outcome of a line (R289) -/

/-- The outcome of a host's line: the line is lost exactly where it was uncorrectable. -/
theorem eccOutcome_grown (hm : s.mode ≠ .safe) (hn : s.modeNow ≠ .recover) (key : LineKey) (jl : JobLine) (v : Line)
    (out : EccOut) :
    (eccOutcome s c key jl v out false false).1 = decide (out = .uncorrectable)
      ∧ LandingGrown s (eccOutcome s c key jl v out false false).2 c := by
  cases out with
  | clean => exact ⟨rfl, .of_eq rfl⟩
  | corrected dev =>
    refine ⟨rfl, ?_⟩
    have hnoted := noteCe_landing s c jl.loc dev
    unfold eccOutcome
    dsimp only
    generalize noteCe s c jl.loc dev = noted at hnoted ⊢
    split
    · exact (writeBack_grown noted c key jl v).of_eq_left hnoted
    · exact .of_eq hnoted
  | uncorrectable => exact ⟨rfl, .of_eq (noteUe_landing hm hn ..)⟩

end Sys2Proof.Machine

end

/-! SUPPORT. A host line's access at its end: the read that lands in its entry's slot, and the write that has been made (R43,
R289). -/

section

namespace Sys2Proof.Machine

variable {s t : State} {c : Nat}

theorem otherChannels_of_landing {c : ChanId} (h : (t.landing c).others = (s.landing c).others) : OtherChannels s t c :=
  fun d hd => by simpa [State.landing, State.beside, hd] using congrFun h d

/-! ### Entries and accesses by their numbers -/

theorem LandingGrown.entry? {idx : Nat} {e : LEntry} (h : LandingGrown s t c) (he : entry? s idx = some e) :
    entry? t idx = some e := by
  obtain ⟨es, js, h⟩ := h
  have hledger : t.ledger = s.ledger ++ es := congrArg Landing.ledger h
  have he : s.ledger.find? (fun e => e.idx == idx) = some e := he
  rw [Machine.entry?, hledger, List.find?_append, he, Option.some_or]

theorem LandingGrown.job? {id : Nat} {j : Job} (h : LandingGrown s t c) (hj : job? s c id = some j) :
    job? t c id = some j := by
  obtain ⟨es, js, h⟩ := h
  have hjobs : (t.ch c).jobs = (s.ch c).jobs ++ js := congrArg Landing.jobs h
  have hj : (s.ch c).jobs.find? (fun j => j.id == id) = some j := hj
  rw [Machine.job?, hjobs, List.find?_append, hj, Option.some_or]

/-- The first of some items with a number, after those with the number have been changed. -/
theorem find?_map_number {α : Type} {number : α → Nat} {f : α → α} (hf : ∀ a, number (f a) = number a) {l : List α} {n : Nat} {a : α}
    (h : l.find? (fun a => number a == n) = some a) :
    (l.map (fun a => if number a = n then f a else a)).find? (fun a => number a == n) = some (f a) := by
  have hp : (fun a => number a == n) ∘ (fun a => if number a = n then f a else a) = fun a => number a == n := by
    funext a
    by_cases ha : number a = n <;> simp [ha, hf]
  have ha : number a = n := by simpa using List.find?_some h
  rw [List.find?_map, hp, h, Option.map_some, if_pos ha]

theorem entry?_modEntry {idx : Nat} {e : LEntry} {f : LEntry → LEntry} (hf : ∀ e, (f e).idx = e.idx)
    (he : entry? s idx = some e) : entry? (modEntry s idx f) idx = some (f e) := find?_map_number hf he

theorem job?_modJob {id : Nat} {j : Job} {f : Job → Job} (hf : ∀ j, (f j).id = j.id) (hj : job? s c id = some j) :
    job? (modJob s c id f) c id = some (f j) := by
  unfold job? modJob
  rw [State.modCh_ch]
  exact find?_map_number hf hj

theorem job?_endJob (s : State) (c id : Nat) : job? (endJob s c id) c id = none := by
  unfold job? endJob
  rw [State.modCh_ch]
  simp [List.find?_filter]

/-! ### A read of one line (R289) -/

theorem poisonSector_landing (s : State) (c set way sector : Nat) : (poisonSector s c set way sector).landing c = s.landing c := by
  simp [poisonSector]

theorem noteMiss_landing (s : State) (c : Nat) (j : Job) : (noteMiss s c j).landing c = s.landing c := by
  simp [noteMiss]

/-- A line of a host's read lands in its entry's slot, poisoned exactly where it was uncorrectable (R289). -/
theorem lineRead_host {j : Job} {idx : Nat} {e : LEntry} (hwhy : j.why = .host idx) (he : entry? s idx = some e)
    (hphase : e.phase = .dram j.id) (hm : s.mode ≠ .safe) (hn : s.modeNow ≠ .recover) (jl : JobLine) (i : Nat) (out : EccOut) :
    ∃ u, LandingGrown s u c
      ∧ lineRead s c j jl i out = deliver u idx (kGet 0 s.dram jl.key) (decide (out = .uncorrectable)) := by
  obtain ⟨hlost, es, js, hgrown⟩ := eccOutcome_grown (c := c) hm hn e.key jl (kGet 0 s.dram jl.key) out
  unfold lineRead
  rw [hwhy]
  dsimp only
  rw [he]
  dsimp only
  rw [if_neg (not_not_intro hphase), hlost]
  refine ⟨_, ⟨es, js, ?_⟩, rfl⟩
  rw [ite_landing, poisonSector_landing, ite_self, hgrown]

/-- The one line of an access has come. -/
def Job.landed (j : Job) : Job := { j with lines := j.lines.modify 0 (fun l => { l with fin := true }) }

theorem readReturn_of_pending {id : Nat} {j : Job} {jl : JobLine} (hj : job? s c id = some j) (hw : j.write = false)
    (hl : j.lines = [jl]) (hstep : jl.step = 2) (hfin : jl.fin = false) {out : EccOut}
    (hjob : job? (lineRead (modJob (noteMiss s c j) c id Job.landed) c j jl 0 out) c id = some j.landed) :
    readReturn s c id 0 out = readEnd (lineRead (modJob (noteMiss s c j) c id Job.landed) c j jl 0 out) c j.landed := by
  unfold readReturn
  rw [hj]
  dsimp only
  rw [show j.lines[0]? = some jl by rw [hl]; rfl]
  dsimp only
  rw [if_neg (by simp [hw, hstep, hfin])]
  split
  · next hnone => exact absurd (hnone.symm.trans hjob) (Option.some_ne_none _).symm
  · next x hx =>
    obtain rfl : x = j.landed := Option.some.inj (hx.symm.trans hjob)
    exact if_pos (by simp [Job.landed, hl])

theorem readEnd_host (s : State) (c : Nat) {j : Job} {idx : Nat} (hwhy : j.why = .host idx) : readEnd s c j = endJob s c j.id := by
  unfold readEnd
  rw [hwhy]

/-- The state in which the one line of an access has come, before it goes where the access sends it. -/
def lineCame (s : State) (c : Nat) (j : Job) : State := modJob (noteMiss s c j) c j.id Job.landed

theorem lineCame_landing (s : State) (c : Nat) (j : Job) :
    (lineCame s c j).landing c = { s.landing c with jobs := ((lineCame s c j).ch c).jobs } := by
  rw [← noteMiss_landing s c j]
  exact (State.modCh_landing_eq ..).trans (by rw [lineCame, modJob, State.modCh_ch])

theorem entry?_lineCame (s : State) (c : Nat) (j : Job) (idx : Nat) : entry? (lineCame s c j) idx = entry? s idx :=
  congrArg (List.find? _) (congrArg Landing.ledger (lineCame_landing s c j))

theorem job?_lineCame {j : Job} (hj : job? s c j.id = some j) : job? (lineCame s c j) c j.id = some j.landed :=
  job?_modJob (fun _ => rfl) (LandingGrown.job? (.of_eq (noteMiss_landing s c j)) hj)

/-- A line that has been delivered and whose access is over. -/
theorem delivered_frame {c : ChanId} {idx id : Nat} {e : LEntry} (h : LandingGrown s t c) (he : entry? s idx = some e) (v : Line)
    (bad : Bool) :
    let u := endJob (deliver t idx v bad) c id
    entry? u idx = some { e with slot := some (v, bad), phase := .got } ∧ job? u c id = none ∧ u.dram = s.dram
      ∧ u.ports = s.ports ∧ (u.landing c).others = (s.landing c).others := by
  have hentry := entry?_modEntry (f := fun e => { e with slot := some (v, bad), phase := .got }) (fun _ => rfl) (h.entry? he)
  obtain ⟨es, js, h⟩ := h
  have hothers : ((endJob (deliver t idx v bad) c id).landing c).others = (t.landing c).others :=
    (congrArg Landing.others (State.modCh_landing_eq (deliver t idx v bad) c _) :)
  exact ⟨hentry, job?_endJob .., congrArg Landing.dram h, congrArg Landing.ports h,
    hothers.trans (congrArg Landing.others h :)⟩

/-- A host's read of one line ends: its entry holds the line, and the access is over (R43, R289). -/
theorem readReturn_host {c : ChanId} {idx : Nat} {j : Job} {jl : JobLine} {e : LEntry} (hj : job? s c j.id = some j)
    (hwhy : j.why = .host idx) (hl : j.lines = [jl]) (hstep : jl.step = 2) (he : entry? s idx = some e) (hphase : e.phase = .dram j.id)
    (hw : j.write = false) (hfin : jl.fin = false) (hm : s.mode ≠ .safe) (hn : s.modeNow ≠ .recover) (out : EccOut) :
    let t := readReturn s c j.id 0 out
    entry? t idx = some { e with slot := some (kGet 0 s.dram jl.key, decide (out = .uncorrectable)), phase := .got }
      ∧ job? t c j.id = none ∧ t.dram = s.dram ∧ t.ports = s.ports ∧ OtherChannels s t c := by
  have hcame := lineCame_landing s c j
  have hmode : (lineCame s c j).mode = s.mode := congrArg Landing.mode hcame
  have hnow : (lineCame s c j).modeNow = s.modeNow := congrArg Landing.modeNow hcame
  have hdram : (lineCame s c j).dram = s.dram := congrArg Landing.dram hcame
  have hentry : entry? (lineCame s c j) idx = some e := (entry?_lineCame ..).trans he
  obtain ⟨v, hgrown, hline⟩ := lineRead_host (c := c) hwhy hentry hphase (hmode ▸ hm) (hnow ▸ hn) jl 0 out
  have hjob : job? (lineRead (lineCame s c j) c j jl 0 out) c j.id = some j.landed := by
    rw [hline]
    exact hgrown.job? (job?_lineCame hj)
  have hread : readReturn s c j.id 0 out
      = endJob (deliver v idx (kGet 0 (lineCame s c j).dram jl.key) (decide (out = .uncorrectable))) c j.id :=
    (readReturn_of_pending hj hw hl hstep hfin hjob).trans ((readEnd_host _ c hwhy).trans (congrArg (endJob · c j.id) hline))
  obtain ⟨hx, hover, hdram', hports, hothers⟩ := delivered_frame (id := j.id) hgrown hentry (kGet 0 s.dram jl.key)
    (decide (out = .uncorrectable))
  rw [hread, hdram]
  exact ⟨hx, hover, hdram'.trans hdram, hports.trans (congrArg Landing.ports hcame),
    otherChannels_of_landing (hothers.trans (congrArg Landing.others hcame :))⟩

/-! ### A write of one line (R43) -/

@[simp] theorem noteMiss_beside (s : State) (c : Nat) (j : Job) : (noteMiss s c j).beside c = s.beside c := by
  simp [noteMiss]

/-- The access of a write that has been made is over, and counted among the lifetime's lines (R591). -/
def writeOver (s : State) (c : Nat) (j : Job) : State := lifeUp (endJob (noteMiss s c j) c j.id) (11 + c) j.lines.length

theorem writeOver_beside (s : State) (c : Nat) (j : Job) : (writeOver s c j).beside c = s.beside c :=
  have hend : (writeOver s c j).beside c = (endJob (noteMiss s c j) c j.id).beside c := rfl
  hend.trans ((State.modCh_beside ..).trans (noteMiss_beside s c j))

theorem job?_writeOver (s : State) (c : Nat) (j : Job) : job? (writeOver s c j) c j.id = none :=
  job?_endJob (noteMiss s c j) c j.id

/-- A host's write of one line ends: what is left of it is to be settled (R43, R172). -/
theorem writeEnd_host {idx : Nat} {j : Job} {jl : JobLine} {e : LEntry} (hj : job? s c j.id = some j)
    (hwhy : j.why = .host idx) (hl : j.lines = [jl]) (hstep : jl.step = 2) (he : entry? s idx = some e) (hphase : e.phase = .dram j.id)
    (hw : j.write = true) :
    writeEnd s c j.id = modEntry (writeOver s c j) idx (fun x => { x with phase := .settle (keyWay jl.key) }) := by
  have hledger : (writeOver s c j).ledger = s.ledger := congrArg Beside.ledger (writeOver_beside s c j)
  have hentry : entry? (lifeUp (endJob (noteMiss s c j) c j.id) (11 + c) j.lines.length) idx = some e :=
    (congrArg (List.find? _) hledger).trans he
  unfold writeEnd
  rw [hj]
  dsimp only
  rw [if_neg (by simp [hw, hl, hstep]), hwhy]
  dsimp only
  rw [hentry]
  dsimp only
  rw [if_neg (not_not_intro hphase), hl]
  rw [writeOver, hl]
  rfl

end Sys2Proof.Machine

end

/-! SUPPORT. The statement about the end of a host's access. -/

section

open Sys2Proof Sys2Proof.Machine

/-- Settles O29: the outcome of a read moves its channel's records, a write-back's entry behind the ledger and the lost sector's
poison, so that the entry and the access still stand when the line is delivered (R289 to R291); a write leaves its entry to the
directory's update (R172). -/
theorem hostAccessEnds : Obligations.HostAccessEnds := by
  intro c id s j jl idx e hwf hj hwhy hl hstep he hphase
  obtain rfl : j.id = id := by simpa using List.find?_some hj
  refine ⟨fun hw hfin hm hn out => ?_, fun hw => ?_⟩
  · obtain ⟨hx, hover, hdram, hports, hothers⟩ := readReturn_host hj hwhy hl hstep he hphase hw hfin hm hn out
    exact ⟨_, _, rfl, hx, rfl, rfl, hdram, hover, hothers, hports⟩
  · have hend := writeEnd_host hj hwhy hl hstep he hphase hw
    obtain ⟨hledger, hmedia, hports, hdata, hothers⟩ := frame_of_beside (writeOver_beside s c j)
    refine ⟨writeEnd s c j.id, rfl, ?_⟩
    rw [hend]
    exact ⟨job?_writeOver s c j, congrArg (List.map _) hledger, hdata, hothers, hports, hmedia⟩

end

/-! SUPPORT. Refresh debts, idle refresh and idle precharge of a channel (R267, R270, R271). -/

section

namespace Sys2Proof.Machine

/-! ### Words of a channel -/

theorem kGet_kPut {β : Type} (d : β) (m : KMap β) (k j : Nat) (v : β) :
    kGet d (kPut m k v) j = if k = j then v else kGet d m j := by
  unfold kGet
  rw [kFind_kPut]
  split <;> rfl

theorem State.fld_congr {s t : State} {f : Fld} {i k : Nat} (h : t.rd (f.reg.at i k) = s.rd (f.reg.at i k)) :
    t.fld f i k = s.fld f i k := congrArg (getBits · f.lo f.w) h

theorem State.rd_count_other (s : State) {r : RegDef} {i k j : Nat} (h : r.at i k ≠ j) (n : Nat) : (s.count r n i k).rd j = s.rd j :=
  s.rd_wr_other h _

/-! ### The units and their debts (R270, R272) -/

section
variable {s t : State} {c : Nat}

/-- The units of a channel are named by its mode of refresh and its population. -/
theorem debtKeys_congr (href : t.rd (Reg.chRef.at c) = s.rd (Reg.chRef.at c))
    (hpop : t.rd (Reg.phyPop.at c) = s.rd (Reg.phyPop.at c)) : debtKeys t c = debtKeys s c := by
  have hmode : t.fld Fld.chRefMode c = s.fld Fld.chRefMode c := State.fld_congr href
  have hgen : t.fld Fld.phyPopGen c = s.fld Fld.phyPopGen c := State.fld_congr hpop
  have hranks : t.fld Fld.phyPopRanks c = s.fld Fld.phyPopRanks c := State.fld_congr hpop
  unfold debtKeys sameBank
  rw [hmode, hgen, hranks]

/-- No unit is named twice. -/
theorem debtKeys_nodup (s : State) (c : Nat) : (debtKeys s c).Nodup := by
  unfold debtKeys
  extract_lets ranks
  have hranks : ranks.Nodup := List.nodup_range
  split
  · refine List.nodup_flatten.2 ⟨fun l hl => ?_, ?_⟩
    · obtain ⟨r, -, rfl⟩ := List.mem_map.1 hl
      exact List.nodup_range.map fun i j h => by simpa using h
    · refine List.pairwise_map.2 (hranks.imp fun {a b} hab => ?_)
      intro k ha hb
      obtain ⟨i, hi, rfl⟩ := List.mem_map.1 ha
      obtain ⟨j, hj, h⟩ := List.mem_map.1 hb
      rw [List.mem_range] at hi hj
      omega
  · exact hranks.map fun a b h => by simpa using h

theorem debtOf_setDebt (k v j : Nat) (hv : v ≠ 0) : debtOf (setDebt s c k v) c j = if k = j then min v 9 else debtOf s c j := by
  have hmin : min v 9 ≠ 0 := by omega
  simp only [debtOf, setDebt, State.modCh_ch, kSet, if_neg hmin, kGet_kPut]

end

section
variable (s : State) (c : Nat)

@[simp] theorem askRefresh_island (k : Nat) (forced : Bool) : (askRefresh s c k forced).island c = s.island c := by
  simp [askRefresh]

theorem debtOf_askRefresh (k : Nat) (forced : Bool) (j : Nat) : debtOf (askRefresh s c k forced) c j = debtOf s c j := by
  unfold debtOf askRefresh
  split <;> rw [State.modCh_ch]

/-- A refresh that is asked for stands among those that are due. -/
theorem askRefresh_asks (k : Nat) (forced : Bool) : ((askRefresh s c k forced).ch c).refDue.any (fun r => r.1 == k) = true := by
  unfold askRefresh
  split
  · next h =>
    obtain ⟨r, hr, hk⟩ := List.any_eq_true.1 h
    rw [State.modCh_ch]
    refine List.any_eq_true.2 ⟨(k, r.2 || forced), List.mem_map.2 ⟨r, hr, if_pos (by simpa using hk)⟩, by simp⟩
  · rw [State.modCh_ch]
    simp

/-- Asking for a refresh changes the channel alone. -/
theorem askRefresh_chs (k : Nat) (forced : Bool) : { askRefresh s c k forced with chs := s.chs } = s := by
  unfold askRefresh
  split <;> rfl

/-! ### A refresh interval (R270) -/

/-- One unit at the end of an interval: it owes one refresh more, and one is asked for or put off. -/
def owe (s : State) (c k : Nat) : State :=
  let s := setDebt s c k (debtOf s c k + 1)
  if s.fld Fld.chRefPostpone c < debtOf s c k then askRefresh s c k true
  else if unitIdle s c k then askRefresh s c k false
  else s.count Reg.chCntRefPostponed 1 c

theorem opRefreshInterval_eq (h : refreshes s c = true) : opRefreshInterval s c =
    ((debtKeys (refreshRate s c) c).foldl (fun s k => owe s c k) (refreshRate s c)).modCh (chan c)
      (fun q => { q with alerts := 0 }) := by
  unfold opRefreshInterval
  rw [h]
  rfl

theorem owe_island (k : Nat) : (owe s c k).island c = s.island c := by
  simp [owe]

theorem debtOf_owe (k j : Nat) : debtOf (owe s c k) c j = if k = j then min (debtOf s c k + 1) 9 else debtOf s c j := by
  have hcount (u : State) : debtOf (u.count Reg.chCntRefPostponed 1 c) c j = debtOf u c j := rfl
  unfold owe
  extract_lets u
  have hu : debtOf u c j = if k = j then min (debtOf s c k + 1) 9 else debtOf s c j := debtOf_setDebt k _ j (by omega)
  rw [← hu]
  split
  · exact debtOf_askRefresh ..
  · split
    · exact debtOf_askRefresh ..
    · exact hcount u

theorem debtOf_foldl_owe {l : List Nat} (hl : l.Nodup) {k : Nat} :
    debtOf (l.foldl (fun s k => owe s c k) s) c k = if k ∈ l then min (debtOf s c k + 1) 9 else debtOf s c k := by
  induction l generalizing s with
  | nil => rfl
  | cons a l ih =>
    obtain ⟨ha, hl⟩ := List.nodup_cons.1 hl
    rw [List.foldl_cons, ih _ hl, debtOf_owe]
    by_cases hak : a = k
    · subst hak
      simp [ha]
    · simp [hak, Ne.symm hak]

theorem refreshRate_island : (refreshRate s c).island c = s.island c := by
  simp [refreshRate]

theorem debtOf_refreshRate (k : Nat) : debtOf (refreshRate s c) c k = debtOf s c k := by
  have hinfo (u : State) (a b : Nat) (x y : Word) : debtOf ((u.count Reg.chCntTemp2x 1 c).info a b x y) c k = debtOf u c k := rfl
  unfold refreshRate
  extract_lets was limit low hot now u
  have hu : debtOf u c k = debtOf s c k := by simp only [debtOf, u, State.modCh_ch]
  split
  · exact (hinfo ..).trans hu
  · exact hu

/-- The rate of refresh names no unit anew: only its own event is counted. -/
theorem debtKeys_refreshRate : debtKeys (refreshRate s c) c = debtKeys s c := by
  have hrd (o : Nat) (ho : Reg.chCntTemp2x.at c ≠ o) : (refreshRate s c).rd o = s.rd o := by
    unfold refreshRate
    extract_lets
    split
    · rw [State.rd_info, State.rd_count_other _ ho, State.rd_modCh]
    · rw [State.rd_modCh]
  refine debtKeys_congr (hrd _ ?_) (hrd _ ?_) <;> simp only [RegDef.at, Reg.chCntTemp2x, Reg.chRef, Reg.phyPop] <;> omega

theorem opRefreshInterval_island (h : refreshes s c = true) : (opRefreshInterval s c).island c = s.island c := by
  rw [opRefreshInterval_eq s c h]
  simp [owe_island, refreshRate_island]

theorem debtOf_opRefreshInterval (h : refreshes s c = true) {k : Nat} (hk : k ∈ debtKeys s c) :
    debtOf (opRefreshInterval s c) c k = min (debtOf s c k + 1) 9 := by
  have halerts (u : State) : debtOf (u.modCh (chan c) (fun q => { q with alerts := 0 })) c k = debtOf u c k := by
    simp only [debtOf, State.modCh_ch]
  rw [opRefreshInterval_eq s c h, halerts, debtOf_foldl_owe _ _ (debtKeys_nodup ..), debtKeys_refreshRate, if_pos hk,
    debtOf_refreshRate]

/-! ### Idle refresh and idle precharge (R267, R271) -/

theorem opRefreshIdle_eq {rank bank k : Nat} (hkey : (if sameBank s c then rank * 64 + 1 + s.indexOf c bank else rank * 64) = k)
    (hr : refreshes s c = true) (hk : k ∈ debtKeys s c) (hw : unitWanted s c k = false) (hd : debtOf s c k ≠ 0) :
    opRefreshIdle s c rank bank = askRefresh s c k false := by
  unfold opRefreshIdle
  rw [hkey]
  simp [hr, hk, hw, hd]

/-- The PRE that an open bank's rods allow joins its queue and closes the bank's row. -/
theorem grantPre_eq_some {l : Loc} {u : State} (h : grantPre s c l = some u) :
    u = enqueue (setBook s c l 0) c { cmd := .pre, loc := l } := by
  unfold grantPre at h
  split at h
  · exact (Option.some.inj h).symm
  · cases h

theorem enqueue_queue (x : QCmd) : ((enqueue s c x).ch c).queue = (s.ch c).queue ++ [{ x with arrived := (s.ch c).clk }] := by
  unfold enqueue
  rw [State.modCh_ch]

theorem grantPre_queue {l : Loc} {u : State} (h : grantPre s c l = some u) :
    ∃ q, (u.ch c).queue = (s.ch c).queue ++ [q] ∧ q.cmd = .pre ∧ q.loc = l := by
  rw [grantPre_eq_some s c h, enqueue_queue]
  refine ⟨_, congrArg (· ++ _) ?_, rfl, rfl⟩
  unfold setBook
  rw [State.modCh_ch]

theorem opPageIdle_eq {sub rank bank : Nat} {u : State} {l : Loc}
    (hl : l = { sub := sub, rank := rank, bank := bank, row := 0, col := 0 })
    (hrow : kGet 0 (s.ch c).book (bankKey l) ≠ 0)
    (hwanted : ∀ j ∈ (s.ch c).jobs, ∀ x ∈ j.lines, x.step = 0 → bankKey x.loc = bankKey l →
      x.loc.row + 1 ≠ kGet 0 (s.ch c).book (bankKey l))
    (hfrozen : cmdFrozen s c = false) (hready : (candsOf s c sub).any (eligibleCmd s c) = false) (hu : grantPre s c l = some u) :
    opPageIdle s c sub rank bank = u.count Reg.chCntIdlePre 1 c := by
  have hidle : ((s.ch c).jobs.any fun j => j.lines.any fun x =>
      x.step == 0 && bankKey x.loc == bankKey l && x.loc.row + 1 == kGet 0 (s.ch c).book (bankKey l)) = false := by
    refine Bool.eq_false_iff.2 fun h => ?_
    obtain ⟨j, hj, h⟩ := List.any_eq_true.1 h
    obtain ⟨x, hx, h⟩ := List.any_eq_true.1 h
    simp only [Bool.and_eq_true, beq_iff_eq] at h
    obtain ⟨⟨hstep, hkey⟩, heq⟩ := h
    exact hwanted j hj x hx hstep hkey heq
  subst hl
  unfold opPageIdle
  simp [hrow, hidle, hfrozen, hready, hu]

end

end Sys2Proof.Machine

end

/-! SUPPORT. Temperature polls over the sideband (R275, R343), and the statement about refreshes, pages and polls. -/

section

namespace Sys2Proof.Machine

/-! ### What the sideband leaves alone -/

/-- A state without its words, its events and its sideband. -/
def State.offBand (s : State) : State := { s with regs := [], pend := [], evq := {}, quads := Vector.replicate 4 {} }

/-- The transactions of a quad: the one in progress and those that wait (R343). -/
def State.txns (s : State) (q : Nat) : List SbTxn := s.quads[quadId q].cur.toList ++ s.quads[quadId q].wait

theorem frame_of_offBand {s t : State} (h : t.offBand = s.offBand) :
    t.chs = s.chs ∧ DataKept s t ∧ t.ledger = s.ledger ∧ t.ports = s.ports := by
  have hflash : t.flash = s.flash := (congrArg State.flash h :)
  exact ⟨(congrArg State.chs h :), ⟨(congrArg State.dram h :), (congrArg State.tags h :), congrArg Flash.bytes hflash,
    congrArg Flash.otp hflash⟩, (congrArg State.ledger h :), (congrArg State.ports h :)⟩

section
variable (s : State) (q : Nat)

theorem State.modQuad_self (f : Quad → Quad) : (s.modQuad q f).quads[quadId q] = f s.quads[quadId q] := by
  simp [State.modQuad]

/-- A buffered word that stands in force at its boundary changes words and events alone (R614). -/
theorem applyReg_words {off : Nat} (hlo : 0x10000 ≤ off) (hhi : off < 0x30000) :
    (applyReg s off).offBand = s.offBand ∧ (applyReg s off).quads = s.quads := by
  unfold applyReg
  split
  · exact ⟨rfl, rfl⟩
  · dsimp only
    rw [afterApply_of_unit _ hlo hhi]
    split <;> exact ⟨rfl, rfl⟩

variable {q}

theorem quadBoundary_words (hq : q < 4) : (quadBoundary s q).offBand = s.offBand ∧ (quadBoundary s q).quads = s.quads := by
  have hlo : 0x10000 ≤ Reg.sbCtl.at q := by simp only [RegDef.at, Reg.sbCtl]; omega
  have hhi : Reg.sbCtl.at q < 0x30000 := by simp only [RegDef.at, Reg.sbCtl]; omega
  unfold quadBoundary
  split
  · exact applyReg_words s hlo hhi
  · exact ⟨rfl, rfl⟩

theorem sbNext_offBand (hq : q < 4) : (sbNext s q).offBand = s.offBand := by
  have hbound := (quadBoundary_words s hq).1
  unfold sbNext
  extract_lets b u
  clear_value u
  cases u.cur <;> cases sbFirst u.wait <;> exact hbound

theorem sbQueue_offBand (hq : q < 4) (x : SbTxn) : (sbQueue s q x).offBand = s.offBand := sbNext_offBand _ hq

/-! ### No transaction is lost (R343) -/

/-- A quad that takes up its next transaction keeps all it has. -/
theorem mem_txns_sbNext (hq : q < 4) {x : SbTxn} (hx : x ∈ s.txns q) : x ∈ (sbNext s q).txns q := by
  have hbound := (quadBoundary_words s hq).2
  unfold sbNext
  extract_lets b u
  have hu : x ∈ u.cur.toList ++ u.wait := by
    simpa only [State.txns, u, b, hbound] using hx
  have hkept : b.txns q = u.cur.toList ++ u.wait := rfl
  cases hcur : u.cur with
  | some y => simpa [hkept] using hu
  | none =>
    cases hfirst : sbFirst u.wait with
    | none => simpa [hkept] using hu
    | some y =>
      rw [hcur, Option.toList_none, List.nil_append] at hu
      unfold State.txns
      rw [State.modQuad_self]
      by_cases hxy : x = y
      · simp [hxy]
      · exact List.mem_append_right _ ((List.mem_erase_of_ne hxy).2 hu)

theorem mem_txns_sbQueue (hq : q < 4) (y : SbTxn) {x : SbTxn} (hx : x = y ∨ x ∈ s.txns q) : x ∈ (sbQueue s q y).txns q := by
  refine mem_txns_sbNext _ hq ?_
  unfold State.txns at hx ⊢
  rw [State.modQuad_self]
  rcases hx with rfl | hx
  · simp
  · rcases List.mem_append.1 hx with h | h
    · exact List.mem_append_left _ h
    · exact List.mem_append_right _ (List.mem_append_left _ h)

end

/-! ### A poll of the sensors (R275) -/

/-- A read of a sensor, by its channel, slot and device. -/
def isPoll (c d dev : Nat) (x : SbTxn) : Bool := x.who == .temp && x.slot == slotCode c d && x.dev == dev

/-- One sensor in a poll: its read joins the quad, unless one is there. -/
def pollSensor (s : State) (c d dev : Nat) : State :=
  if sbOpen s c (isPoll c d dev) then s
  else sbQueue s (c / 4) { who := .temp, ch := c, slot := slotCode c d, dev := dev, write := false, len := 2, offset := 0x31 }

theorem opTempPoll_eq {s : State} {c : Nat} (hm : s.mode ≠ .reset) (hp : s.fld Fld.chTempPoll c ≠ 0) : opTempPoll s c =
    ([0, 1].filter (present s c)).foldl (fun s d => (sensorsOf s c d).foldl (fun s dev => pollSensor s c d dev) s) s := by
  unfold opTempPoll
  rw [if_neg (by simp [hm, hp])]
  rfl

theorem opTempPoll_off {s : State} {c : Nat} (hp : s.fld Fld.chTempPoll c = 0) : opTempPoll s c = s :=
  if_pos (by simp [hp])

/-- What one item of a walk brings about stands at the walk's end, where every item keeps it. -/
theorem foldl_attains {α : Type} {f : State → α → State} {I P : State → Prop} {l : List α} {s : State} {a : α}
    (hI : ∀ u b, I u → I (f u b)) (hkeep : ∀ u b, P u → P (f u b)) (hget : ∀ u, I u → P (f u a)) (ha : a ∈ l) (hs : I s) :
    P (l.foldl f s) := by
  obtain ⟨l₁, l₂, rfl⟩ := List.append_of_mem ha
  rw [List.foldl_append, List.foldl_cons]
  exact List.foldlRecOn l₂ f (hget _ (List.foldlRecOn l₁ f hs fun u hu b _ => hI u b hu)) fun u hu b _ => hkeep u b hu

section
variable (s : State) {c : Nat} (hc : c < 16)
include hc

theorem pollSensor_offBand (d dev : Nat) : (pollSensor s c d dev).offBand = s.offBand := by
  unfold pollSensor
  split
  · rfl
  · exact sbQueue_offBand s (by omega) _

/-- A poll of a sensor keeps every read, and has one for its own. -/
theorem mem_txns_pollSensor (d dev : Nat) {x : SbTxn} (hx : x ∈ s.txns (c / 4)) : x ∈ (pollSensor s c d dev).txns (c / 4) := by
  unfold pollSensor
  split
  · exact hx
  · exact mem_txns_sbQueue s (by omega) _ (.inr hx)

theorem sbOpen_pollSensor_mono (d dev : Nat) {p : SbTxn → Bool} (h : sbOpen s c p = true) :
    sbOpen (pollSensor s c d dev) c p = true := by
  obtain ⟨x, hx, hp⟩ := List.any_eq_true.1 h
  exact List.any_eq_true.2 ⟨x, mem_txns_pollSensor s hc d dev hx, hp⟩

theorem sbOpen_pollSensor (d dev : Nat) : sbOpen (pollSensor s c d dev) c (isPoll c d dev) = true := by
  unfold pollSensor
  split
  · assumption
  · exact List.any_eq_true.2 ⟨_, mem_txns_sbQueue s (by omega) _ (.inl rfl), by simp [isPoll]⟩

theorem opTempPoll_offBand : (opTempPoll s c).offBand = s.offBand := by
  unfold opTempPoll
  split
  · rfl
  · exact foldl_frame _ _ _ _ fun u d => foldl_frame _ _ _ _ fun v dev => pollSensor_offBand v hc d dev

/-- A poll has a read of every sensor of every module present. -/
theorem sbOpen_opTempPoll (hm : s.mode ≠ .reset) (hp : s.fld Fld.chTempPoll c ≠ 0) {d dev : Nat} (hd : d < 2)
    (hpresent : present s c d = true) (hdev : dev ∈ sensorsOf s c d) : sbOpen (opTempPoll s c) c (isPoll c d dev) = true := by
  have hmem : d ∈ [0, 1].filter (present s c) := by
    refine List.mem_filter.2 ⟨?_, hpresent⟩
    simp only [List.mem_cons, List.not_mem_nil, or_false]
    omega
  rw [opTempPoll_eq hm hp]
  refine foldl_attains (I := fun u => u.offBand = s.offBand) (P := fun u => sbOpen u c (isPoll c d dev) = true)
    (fun u b hu => ?_) (fun u b hu => ?_) (fun u hu => ?_) hmem rfl
  · exact (foldl_frame State.offBand _ _ _ fun v x => pollSensor_offBand v hc b x).trans hu
  · exact List.foldlRecOn (motive := fun v => sbOpen v c (isPoll c d dev) = true) _ _ hu
      fun v hv x _ => sbOpen_pollSensor_mono v hc b x hv
  · have hsensors : dev ∈ sensorsOf u c d := by
      simpa only [sensorsOf, State.ch, (frame_of_offBand hu).1] using hdev
    exact foldl_attains (I := fun _ => True) (fun _ _ _ => trivial) (fun v x hv => sbOpen_pollSensor_mono v hc d x hv)
      (fun v _ => sbOpen_pollSensor v hc d dev) hsensors trivial

end

end Sys2Proof.Machine

end

/-! SUPPORT. The statement about refreshes, pages and temperature polls. -/

section

open Sys2Proof Sys2Proof.Machine

/-- Settles O30: a walk over the units raises each debt once, as no unit is named twice (R270), and a walk over the sensors
keeps every read that a quad has (R343). -/
theorem refreshPagesAndTemperature : Obligations.RefreshPagesAndTemperature := by
  refine ⟨fun c s hw => ⟨fun hr => ⟨opRefreshInterval s c, rfl, ?_⟩, ?_, ?_⟩,
    fun c s hw hm => ⟨fun hp => ⟨opTempPoll s c, rfl, ?_⟩, fun hp => ?_⟩⟩
  · obtain ⟨hledger, -, hports, hdata, hothers⟩ := frame_of_beside (beside_of_island (opRefreshInterval_island s c hr))
    refine ⟨fun k hk => debtOf_opRefreshInterval s c hr hk, ?_, hdata, hledger, hports, hothers⟩
    rw [← State.ch_val, opRefreshInterval_eq s c hr, State.modCh_ch]
  · intro rank bank k hr hk hwanted hdebt
    have heq : opRefreshIdle s c rank bank = askRefresh s c k false := opRefreshIdle_eq s c rfl hr hk hwanted hdebt
    obtain ⟨-, -, -, -, hothers⟩ := frame_of_beside (beside_of_island (askRefresh_island s c k false))
    refine ⟨askRefresh s c k false, congrArg (fun t => Host.Outcome.next (settle t)) heq, ?_, askRefresh_chs s c k false, hothers⟩
    rw [← State.ch_val]
    exact askRefresh_asks s c k false
  · simp only [← State.ch_val]
    intro sub rank bank u hrow hwanted hfrozen hready hu
    have heq := opPageIdle_eq s c rfl hrow hwanted hfrozen hready hu
    obtain ⟨q, hqueue, hcmd, hloc⟩ := grantPre_queue s c hu
    have hbeside : u.beside c = s.beside c := grantPre_keeps s c _ u hu
    obtain ⟨hledger, -, -, hdata, hothers⟩ := frame_of_beside ((State.count_beside u c Reg.chCntIdlePre 1 c 0).trans hbeside)
    have hregs : u.regs = s.regs := by rw [grantPre_eq_some s c hu]; rfl
    refine ⟨u.count Reg.chCntIdlePre 1 c, q, congrArg (fun t => Host.Outcome.next (settle t)) heq, hqueue, hcmd, hloc, ?_,
      hdata, hledger, hothers⟩
    have hrising : kRising u.regs = true := hregs ▸ State.wf_regs_rising hw
    rw [State.rd_count u hrising, if_pos rfl, State.rd, hregs, ← State.rd]
  · obtain ⟨-, hdata, hledger, hports⟩ := frame_of_offBand (opTempPoll_offBand s c.isLt)
    exact ⟨fun d hd dev hdev => sbOpen_opTempPoll s c.isLt hm hp d.isLt hd hdev, hdata, hledger, hports⟩
  · exact congrArg (fun t => Host.Outcome.next (settle t)) (opTempPoll_off hp)

end

/-! SUPPORT. Frequency changes (R302 to R304, R358 to R360): which words each part of a change touches, and what it does to its
channel. -/

section

namespace Sys2Proof.Machine

/-! ### The words that a step touches -/

/-- The words outside `l` read as before, and the canonical form of the words is kept. -/
def Touches (s t : State) (l : List Nat) : Prop := WordsKept s t l ∧ (kRising s.regs = true → kRising t.regs = true)

section
variable {s t u : State} {l l' : List Nat}

theorem Touches.rd (h : Touches s t l) {o : Nat} (ho : o ∉ l) : t.rd o = s.rd o := h.1 o ho

theorem Touches.flag (h : Touches s t l) {f : Fld} {i k : Nat} (ho : f.reg.at i k ∉ l) : t.flag f i k = s.flag f i k :=
  State.flag_congr (h.rd ho)

theorem Touches.fld (h : Touches s t l) {f : Fld} {i k : Nat} (ho : f.reg.at i k ∉ l) : t.fld f i k = s.fld f i k :=
  State.fld_congr (h.rd ho)

theorem Touches.rising (h : Touches s t l) (hr : kRising s.regs = true) : kRising t.regs = true := h.2 hr

theorem Touches.of_regs (h : t.regs = s.regs) : Touches s t l := ⟨.of_regs h, fun hr => h ▸ hr⟩

theorem Touches.trans (h : Touches s t l) (h' : Touches t u l) : Touches s u l :=
  ⟨h.1.trans h'.1, fun hr => h'.2 (h.2 hr)⟩

theorem Touches.mono (h : Touches s t l) (hl : l ⊆ l') : Touches s t l' := ⟨fun o ho => h.1 o (mt (@hl o) ho), h.2⟩

theorem Touches.wr (h : Touches s t l) {o : Nat} (w : Word) (ho : o ∈ l) : Touches s (t.wr o w) l :=
  ⟨fun j hj => (State.rd_wr_other (fun e : o = j => hj (e ▸ ho)) w).trans (h.1 j hj), fun hr => State.wr_rising t (h.2 hr) _ _⟩

theorem Touches.setFld (h : Touches s t l) (f : Fld) (v : Nat) {i k : Nat} (ho : f.reg.at i k ∈ l) :
    Touches s (t.setFld f v i k) l := h.wr _ ho

theorem Touches.setFlag (h : Touches s t l) (f : Fld) (b : Bool) {i k : Nat} (ho : f.reg.at i k ∈ l) :
    Touches s (t.setFlag f b i k) l := h.wr _ ho

theorem Touches.count (h : Touches s t l) (r : RegDef) (n : Nat) {i k : Nat} (ho : r.at i k ∈ l) :
    Touches s (t.count r n i k) l := h.wr _ ho

theorem Touches.foldl {α : Type} {f : State → α → State} {as : List α} (h : Touches s t l)
    (hf : ∀ u, ∀ a ∈ as, Touches u (f u a) l) : Touches s (as.foldl f t) l :=
  List.foldlRecOn (motive := fun u => Touches s u l) as f h fun u hu a ha => hu.trans (hf u a ha)

end

/-- Registers of the same stride at different bases have no word in common. -/
theorem RegDef.at_ne {r r' : RegDef} (hstride : r.s1 = r'.s1) (hbase : r.base ≠ r'.base) (c : Nat) : r.at c ≠ r'.at c := by
  simp only [RegDef.at, hstride]
  omega

/-! ### Parts of a change -/

section
variable (s : State) (c : Nat)

theorem State.info_ch (a b : Nat) (x y : Word) : (s.info a b x y).ch c = s.ch c := rfl

theorem markSr_ch : ((markSr s c).ch c).freq = (s.ch c).freq ∧ ((markSr s c).ch c).sr = (s.ch c).sr
    ∧ ((markSr s c).ch c).srWhy = (s.ch c).srWhy := by
  unfold markSr markPasses
  split
  · exact ⟨rfl, rfl, rfl⟩
  · rw [State.modCh_ch]
    exact ⟨rfl, rfl, rfl⟩

theorem markSr_chs : { markSr s c with chs := s.chs } = s := by
  unfold markSr
  split <;> rfl

/-- A refusal ends the change (R302, R304). -/
theorem freqRefuse_ch (target code : Nat) :
    ((freqRefuse s c target code).ch c).freq = .none ∧ ((freqRefuse s c target code).ch c).sr = (s.ch c).sr := by
  unfold freqRefuse
  extract_lets u v
  rw [State.info_ch, State.modCh_ch]
  exact ⟨rfl, rfl⟩

theorem freqRefuse_touches (target code : Nat) : Touches s (freqRefuse s c target code) [Reg.chFreq.at c] :=
  (((Touches.of_regs rfl).setFlag Fld.chFreqRefused true (List.mem_singleton_self _)).setFlag Fld.chFreqBusy false
    (List.mem_singleton_self _)).trans (.of_regs rfl)

@[simp] theorem freqRefuse_island (target code : Nat) : (freqRefuse s c target code).island c = s.island c := by
  simp [freqRefuse]

@[simp] theorem freqRetry_island : (freqRetry s c).island c = s.island c := by
  simp [freqRetry]

/-- A retry is counted, whether it is the last or not (R304). -/
theorem rd_freqRetry (hr : kRising s.regs = true) :
    (freqRetry s c).rd (Reg.chCntFreqRetry.at c) = satAdd32 (s.rd (Reg.chCntFreqRetry.at c)) 1 := by
  have hcount : (s.count Reg.chCntFreqRetry 1 c).rd (Reg.chCntFreqRetry.at c) = satAdd32 (s.rd (Reg.chCntFreqRetry.at c)) 1 := by
    rw [State.rd_count s hr, if_pos rfl]
  unfold freqRetry
  extract_lets
  split
  · refine ((freqRefuse_touches ..).rd ?_).trans hcount
    simp [RegDef.at, Reg.chCntFreqRetry, Reg.chFreq]
  · exact hcount

theorem freqRetry_sr : ((freqRetry s c).ch c).sr = (s.ch c).sr := by
  unfold freqRetry
  extract_lets
  split
  · exact (freqRefuse_ch ..).2
  · rw [State.modCh_ch]
    rfl

/-- The change is done (R303 step 8). -/
theorem freqDone_freq : ((freqDone s c).ch c).freq = .none := by
  unfold freqDone
  extract_lets u v
  rw [State.modCh_ch]

theorem freqDone_touches : Touches s (freqDone s c) [Reg.chFreq.at c, Reg.chCntFreq.at c] :=
  (((Touches.of_regs rfl).setFlag Fld.chFreqBusy false List.mem_cons_self).count Reg.chCntFreq 1
    (List.mem_cons_of_mem _ List.mem_cons_self)).trans (.of_regs rfl)

@[simp] theorem freqDone_island : (freqDone s c).island c = s.island c := by
  simp [freqDone]

/-! ### Timings of a set point (R303) -/

theorem putTimings_touches (ws : List Nat) : Touches s (putTimings s c ws) (timOffs c) :=
  .foldl (.of_regs rfl) fun _ _ hx => .wr (.of_regs rfl) _ (List.of_mem_zip hx).1

@[simp] theorem putTimings_island (ws : List Nat) : (putTimings s c ws).island c = s.island c :=
  foldl_island c _ _ _ fun _ _ => rfl

/-- A walk that hands a value on, of which every step leaves a part of the state. -/
theorem foldl_snd_frame {α β γ : Type} (g : State → γ) (f : β × State → α → β × State) (l : List α) (x : β × State)
    (h : ∀ y a, g (f y a).2 = g y.2) : g (l.foldl f x).2 = g x.2 := by
  induction l generalizing x with
  | nil => rfl
  | cons a l ih => rw [List.foldl_cons, ih, h]

/-- The TURN_ fields of timings that a channel has computed (R448). -/
def turnsTwo (s : State) (c : Nat) : State :=
  (((s.setFld Fld.chTimETurnRr 2 c).setFld Fld.chTimETurnWw 2 c).setFld Fld.chTimETurnRw 2 c).setFld Fld.chTimETurnWr 2 c

/-- A set point's timings come from the Last's image, stand as they are, or are computed: then free values are drawn. -/
theorem loadTimings_cases (sp : Nat) : (∃ ws, loadTimings s c sp = putTimings s c ws) ∨ loadTimings s c sp = s
    ∨ ∃ u ws, loadTimings s c sp = turnsTwo (putTimings u c ws) c ∧ u.regs = s.regs ∧ u.island c = s.island c := by
  unfold loadTimings
  split
  · exact .inl ⟨_, rfl⟩
  · split
    · exact .inr (.inl rfl)
    · generalize hdraws : List.foldl _ (([] : List Nat), s) (timOffs c) = draws
      refine .inr (.inr ⟨draws.2, draws.1, rfl, ?_, ?_⟩) <;> rw [← hdraws]
      · exact foldl_snd_frame State.regs _ _ _ fun _ _ => rfl
      · exact foldl_snd_frame (State.island · c) _ _ _ fun _ _ => rfl

theorem turnsTwo_touches : Touches s (turnsTwo s c) (timOffs c) := by
  have hE : Reg.chTimE.at c ∈ timOffs c := by simp [timOffs]
  exact .setFld (.setFld (.setFld (.setFld (.of_regs rfl) _ _ hE) _ _ hE) _ _ hE) _ _ hE

theorem loadTimings_touches (sp : Nat) : Touches s (loadTimings s c sp) (timOffs c) := by
  rcases loadTimings_cases s c sp with ⟨ws, h⟩ | h | ⟨u, ws, h, hregs, -⟩ <;> rw [h]
  · exact putTimings_touches ..
  · exact .of_regs rfl
  · exact (Touches.of_regs hregs).trans ((putTimings_touches ..).trans (turnsTwo_touches ..))

theorem turnsTwo_island : (turnsTwo s c).island c = s.island c := by
  simp [turnsTwo]

@[simp] theorem loadTimings_island (sp : Nat) : (loadTimings s c sp).island c = s.island c := by
  rcases loadTimings_cases s c sp with ⟨ws, h⟩ | h | ⟨u, ws, h, -, hisland⟩ <;> rw [h]
  · exact putTimings_island ..
  · rw [turnsTwo_island, putTimings_island, hisland]

end

end Sys2Proof.Machine

end

/-! SUPPORT. A frequency change step by step (R303), and the statement about it. -/

section

namespace Sys2Proof.Machine

/-! ### A change is asked for (R302) -/

/-- The words of a change that is taken: BUSY without REFUSED. -/
def acceptChange (s : State) (c : Nat) : State := (s.setFlag Fld.chFreqBusy true c).setFlag Fld.chFreqRefused false c

section
variable {s : State} {c tgt : Nat}

theorem opFreqChange_refused {code : Nat} (hm : s.mode ≠ .reset)
    (h : freqRefusal (s.setFld Fld.chFreqTarget tgt c) c tgt = some code) :
    opFreqChange s c tgt = ((s.setFld Fld.chFreqTarget tgt c).setFlag Fld.chFreqRefused true c).info Ev.freqRefused (Src.chan c)
      (dw (c % 16 + tgt % 4 * 16 + code * 256)) := by
  unfold opFreqChange
  rw [if_neg hm]
  dsimp only
  rw [h]

theorem opFreqChange_waits (hm : s.mode ≠ .reset) (h : freqRefusal (s.setFld Fld.chFreqTarget tgt c) c tgt = none)
    (hfreq : (s.ch c).freq = .none) (htrn : ∀ p sp, (s.ch c).trn ≠ .running p sp) :
    opFreqChange s c tgt = (acceptChange (s.setFld Fld.chFreqTarget tgt c) c).modCh (chan c) (fun q => { q with
      freq := .waitIdle, freqTries := 0, freqFrom := (s.setFld Fld.chFreqTarget tgt c).fld Fld.chFreqCurrent c,
      freqTo := tgt, freqNext := none }) := by
  have hch : (s.setFld Fld.chFreqTarget tgt c).ch c = s.ch c := rfl
  unfold opFreqChange
  rw [if_neg hm]
  dsimp only
  rw [h]
  dsimp only
  rw [hch]
  cases ht : (s.ch c).trn with
  | running p sp => exact absurd ht (htrn p sp)
  | _ => rw [hfreq]; rfl

theorem acceptChange_words (hr : kRising s.regs = true) :
    (acceptChange s c).flag Fld.chFreqBusy c = true ∧ (acceptChange s c).flag Fld.chFreqRefused c = false := by
  have hbusy := State.setFlag_rising hr Fld.chFreqBusy true c 0
  refine ⟨?_, State.flag_setFlag hbusy Fld.chFreqRefused rfl (by decide)⟩
  exact (State.flag_setFlag_beside hbusy Fld.chFreqRefused Fld.chFreqBusy rfl (by decide) (by decide)).trans
    (State.flag_setFlag hr Fld.chFreqBusy rfl (by decide))

theorem acceptChange_only (hr : kRising s.regs = true) : OnlyWords s (acceptChange s c) [Reg.chFreq.at c] :=
  (OnlyWords.setFlag hr Fld.chFreqBusy true c 0).trans
    (OnlyWords.setFlag (State.setFlag_rising hr Fld.chFreqBusy true c 0) Fld.chFreqRefused false c 0)

theorem OnlyWords.info_rest {u : State} {l : List Nat} (h : OnlyWords s u l) (a b : Nat) (x y : Word) :
    { u.info a b x y with regs := s.regs, evq := s.evq } = s :=
  (congrArg (fun v : State => { v with evq := s.evq }) h.1 :)

theorem OnlyWords.modCh_rest {u : State} {l : List Nat} (h : OnlyWords s u l) (d : ChanId) (f : Channel → Channel) :
    { u.modCh d f with regs := s.regs, chs := s.chs } = s :=
  (congrArg (fun v : State => { v with chs := s.chs }) h.1 :)

/-! ### The change waits, relocks and comes out (R303, R304) -/

theorem opFreqIdle_eq (hfreq : (s.ch c).freq = .waitIdle) (hsr : (s.ch c).sr = .active)
    (hidle : (s.ch c).st = .fenced ∨ ((s.ch c).jobs = [] ∧ (s.ch c).queue = [])) :
    opFreqIdle s c = markSr (startSr (s.modCh (chan c) (fun q => { q with freq := .entering })) c .freq) c := by
  unfold opFreqIdle
  rcases hidle with h | ⟨hj, hq⟩
  · simp [hfreq, hsr, h]
  · simp [hfreq, hsr, hj, hq]

/-- A channel that starts self-refresh for its change. -/
theorem startSr_entering (hsr : (s.ch c).sr = .active) :
    let u := startSr (s.modCh (chan c) (fun q => { q with freq := .entering })) c .freq
    (u.ch c).freq = .entering ∧ (u.ch c).sr = .entering ∧ (u.ch c).srWhy = .freq := by
  unfold startSr
  dsimp only
  rw [State.modCh_ch, State.modCh_ch]
  dsimp only
  rw [hsr]
  exact ⟨rfl, rfl, rfl⟩

@[simp] theorem startSr_island (why : SrWhy) : (startSr s c why).island c = s.island c := by
  unfold startSr
  refine State.modCh_island s c (fun q => ?_) (fun q => ?_) <;> split <;> rfl

/-- Idle, the channel enters self-refresh for its change, and nothing else moves (R303 step 3). -/
theorem opFreqIdle_enters (hfreq : (s.ch c).freq = .waitIdle) (hsr : (s.ch c).sr = .active)
    (hidle : (s.ch c).st = .fenced ∨ ((s.ch c).jobs = [] ∧ (s.ch c).queue = [])) :
    ((opFreqIdle s c).ch c).freq = .entering ∧ ((opFreqIdle s c).ch c).sr = .entering ∧ ((opFreqIdle s c).ch c).srWhy = .freq
      ∧ (opFreqIdle s c).island c = s.island c ∧ { opFreqIdle s c with chs := s.chs } = s := by
  rw [opFreqIdle_eq hfreq hsr hidle]
  obtain ⟨hentering, hsrto, hwhy⟩ := startSr_entering hsr
  generalize hu : startSr (s.modCh (chan c) (fun q => { q with freq := .entering })) c .freq = u at hentering hsrto hwhy ⊢
  have hisland : u.island c = s.island c := by simp [← hu]
  have hchs : { u with chs := s.chs } = s := by rw [← hu]; rfl
  obtain ⟨hkfreq, hksr, hkwhy⟩ := markSr_ch u c
  exact ⟨hkfreq.trans hentering, hksr.trans hsrto, hkwhy.trans hwhy, (markSr_island u c).trans hisland,
    (congrArg (fun x => { x with chs := s.chs }) (markSr_chs u c)).trans hchs⟩

theorem opFreqDecision_waiting (hfreq : (s.ch c).freq = .minWait) (hsr : (s.ch c).sr = .inside)
    (hjobs : (s.ch c).jobs.any (fun j => !j.background) = true) :
    opFreqDecision s c = freqRetry (s.modCh (chan c) (fun q => { q with sr := .exiting, srRanks := [] })) c := by
  simp [opFreqDecision, hfreq, hsr, hjobs]

theorem opFreqDecision_relocks (hfreq : (s.ch c).freq = .minWait) (hsr : (s.ch c).sr = .inside)
    (hjobs : (s.ch c).jobs.any (fun j => !j.background) = false) :
    opFreqDecision s c = (s.setFlag Fld.phyStatusLocked false c).modCh (chan c) (fun q => { q with freq := .relocking }) := by
  simp [opFreqDecision, hfreq, hsr, hjobs]

theorem opFreqDecision_waiting_words (hr : kRising s.regs = true) (hfreq : (s.ch c).freq = .minWait) (hsr : (s.ch c).sr = .inside)
    (hjobs : (s.ch c).jobs.any (fun j => !j.background) = true) :
    ((opFreqDecision s c).ch c).sr = .exiting
      ∧ (opFreqDecision s c).rd (Reg.chCntFreqRetry.at c) = satAdd32 (s.rd (Reg.chCntFreqRetry.at c)) 1 := by
  rw [opFreqDecision_waiting hfreq hsr hjobs, freqRetry_sr, State.modCh_ch]
  exact ⟨rfl, rd_freqRetry (s.modCh (chan c) fun q => { q with sr := .exiting, srRanks := [] }) c hr⟩

theorem opFreqDecision_relocks_words (hr : kRising s.regs = true) (hfreq : (s.ch c).freq = .minWait) (hsr : (s.ch c).sr = .inside)
    (hjobs : (s.ch c).jobs.any (fun j => !j.background) = false) :
    ((opFreqDecision s c).ch c).freq = .relocking ∧ ((opFreqDecision s c).ch c).sr = .inside
      ∧ (opFreqDecision s c).flag Fld.phyStatusLocked c = false := by
  rw [opFreqDecision_relocks hfreq hsr hjobs, State.modCh_ch, State.flag_modCh]
  exact ⟨rfl, hsr, State.flag_setFlag hr Fld.phyStatusLocked rfl (by decide)⟩

theorem opFreqDecision_island : (opFreqDecision s c).island c = s.island c := by
  simp [opFreqDecision]

/-- The set point's timings and CURRENT, at a lock and at a return to the old set point. -/
def loadPoint (s : State) (c sp : Nat) : State := (loadTimings s c sp).setFld Fld.chFreqCurrent sp c

theorem opFreqLocked_eq (hfreq : (s.ch c).freq = .relocking) (htrain : trainRelock s c = false) :
    opFreqLocked s c = (loadPoint (s.setFlag Fld.phyStatusLocked true c) c (s.ch c).freqTo).modCh (chan c)
      (fun q => { q with freq := .exiting, sr := .exiting, srRanks := [] }) := by
  simp [opFreqLocked, hfreq, htrain, loadPoint]

theorem loadPoint_current (hr : kRising s.regs = true) (sp : Nat) : (loadPoint s c sp).fld Fld.chFreqCurrent c = sp % 4 :=
  State.fld_setFld _ ((loadTimings_touches s c sp).rising hr) Fld.chFreqCurrent sp c 0 (by decide)

theorem loadPoint_touches (sp : Nat) : Touches s (loadPoint s c sp) (Reg.chFreq.at c :: timOffs c) :=
  ((loadTimings_touches s c sp).mono (List.subset_cons_self _ _)).setFld Fld.chFreqCurrent sp List.mem_cons_self

@[simp] theorem loadPoint_island (sp : Nat) : (loadPoint s c sp).island c = s.island c := by
  simp [loadPoint]

/-- At the lock the set point is current, and the channel leaves self-refresh (R303 step 5). -/
theorem opFreqLocked_words (hr : kRising s.regs = true) (hfreq : (s.ch c).freq = .relocking) (htrain : trainRelock s c = false) :
    ((opFreqLocked s c).ch c).freq = .exiting ∧ ((opFreqLocked s c).ch c).sr = .exiting
      ∧ (opFreqLocked s c).flag Fld.phyStatusLocked c = true
      ∧ (opFreqLocked s c).fld Fld.chFreqCurrent c = (s.ch c).freqTo % 4 := by
  have hlocked := State.setFlag_rising hr Fld.phyStatusLocked true c 0
  have hapart : Reg.phyStatus.at c ∉ Reg.chFreq.at c :: timOffs c := by
    refine List.not_mem_cons_of_ne_of_not_mem (RegDef.at_ne (r := Reg.phyStatus) (r' := Reg.chFreq) rfl (by decide) c) fun h => ?_
    have hbounds := timOffs_bounds h
    simp only [RegDef.at, Reg.phyStatus] at hbounds
    omega
  rw [opFreqLocked_eq hfreq htrain, State.modCh_ch, State.flag_modCh, State.fld_modCh, loadPoint_current hlocked]
  refine ⟨rfl, rfl, ?_, rfl⟩
  exact ((loadPoint_touches _).flag (f := Fld.phyStatusLocked) hapart).trans
    (State.flag_setFlag hr Fld.phyStatusLocked rfl (by decide))

theorem opFreqLocked_island (hfreq : (s.ch c).freq = .relocking) (htrain : trainRelock s c = false) :
    (opFreqLocked s c).island c = s.island c := by
  simp [opFreqLocked_eq hfreq htrain]

/-! ### The centring (R358 to R360) -/

@[simp] theorem placeTrims_island (sp : Nat) : (placeTrims s c sp).island c = s.island c := by
  refine foldl_island c _ _ _ fun u x => ?_
  exact State.modCh_island (u.free 32).2 c
    (f := fun q => { q with trims := kPut q.trims (trimKey sp x.1 x.2) ((u.free 32).1 &&& 0x7F1FFF) }) (fun _ => rfl) fun _ => rfl

theorem placeTrims_regs (sp : Nat) : (placeTrims s c sp).regs = s.regs :=
  foldl_frame State.regs _ _ _ fun _ _ => rfl

theorem endtapBooks_touches : Touches s (endtapBooks s c) [Reg.phyEndtap.at c, Reg.phyStatus.at c] :=
  ((Touches.of_regs rfl).setFld Fld.phyEndtapReleased _ List.mem_cons_self).setFlag Fld.phyStatusEndtap _
    (List.mem_cons_of_mem _ List.mem_cons_self)

/-- A set point's settings stand or not (R360). -/
def markTrims (s : State) (c v : Nat) : State := endtapBooks (s.setFld Fld.trimValidValid v c) c

/-- A centring accepted: the settings found stand for the set point (R358). -/
def centringTaken (s : State) (c : Nat) : State :=
  let u := placeTrims s c (s.ch c).freqTo
  freqDone (markTrims u c (u.fld Fld.trimValidValid c ||| 2 ^ ((s.ch c).freqTo % 4))) c

/-- A centring rejected: the old set point comes back (R360). -/
def centringRejected (s : State) (c : Nat) : State :=
  let u := exited (loadPoint (s.count Reg.chCntSrEntry (rankPlaces s c).length c) c (s.ch c).freqFrom) c
  freqRefuse (markTrims u c (u.fld Fld.trimValidValid c &&& (15 ^^^ 2 ^ ((s.ch c).freqTo % 4)))) c (s.ch c).freqTo 6

theorem opCentring_taken (hfreq : (s.ch c).freq = .centring) (hnext : (s.ch c).freqNext = none) :
    opCentring s c true = centringTaken s c := by
  simp [opCentring, hfreq, hnext, centringTaken, markTrims]

theorem opCentring_rejected (hfreq : (s.ch c).freq = .centring) (hnext : (s.ch c).freqNext = none) :
    opCentring s c false = centringRejected s c := by
  simp [opCentring, hfreq, hnext, centringRejected, markTrims, loadPoint]

theorem exited_regs : (exited s c).regs = s.regs := foldl_frame State.regs _ _ _ fun _ _ => rfl

theorem getBits_one (w : Word) (i : Nat) : getBits w i 1 = (w.getLsbD i).toNat := by
  have hbit := getBits_bit w i 1 0
  have hlt : getBits w i 1 < 2 := Nat.mod_lt _ (by decide)
  generalize getBits w i 1 = b at hbit hlt ⊢
  obtain rfl | rfl : b = 0 ∨ b = 1 := by omega
  · have hclear : w.getLsbD i = false := by simpa using hbit
    rw [hclear, Bool.toNat_false]
  · have hset : w.getLsbD i = true := by simpa using hbit
    rw [hset, Bool.toNat_true]

theorem markTrims_touches (v : Nat) :
    Touches s (markTrims s c v) [Reg.trimValid.at c, Reg.phyEndtap.at c, Reg.phyStatus.at c] :=
  ((Touches.of_regs rfl).setFld Fld.trimValidValid v List.mem_cons_self).trans
    (endtapBooks_touches.mono (List.subset_cons_self _ _))

@[simp] theorem markTrims_island (v : Nat) : (markTrims s c v).island c = s.island c := by
  simp [markTrims]

/-- The word of TRIM_VALID after its field has been changed. -/
theorem rd_markTrims (hr : kRising s.regs = true) (v : Nat) :
    (markTrims s c v).rd (Reg.trimValid.at c) = putBits (s.rd (Reg.trimValid.at c)) 0 4 v := by
  refine (endtapBooks_touches.rd ?_).trans ?_
  · simp [RegDef.at, Reg.trimValid, Reg.phyEndtap, Reg.phyStatus]
  · exact (State.rd_setFld s hr Fld.trimValidValid v c 0 _).trans (if_pos rfl)

theorem getBits_markTrims (hr : kRising s.regs = true) (v : Nat) {i : Nat} (hi : i < 4) :
    getBits ((markTrims s c v).rd (Reg.trimValid.at c)) i 1 = (v.testBit i).toNat := by
  rw [rd_markTrims hr, getBits_one, putBits_bit _ _ _ _ _ (by decide), if_pos (by omega), Nat.sub_zero]

theorem centringTaken_island : (centringTaken s c).island c = s.island c := by
  simp [centringTaken]

theorem centringRejected_island : (centringRejected s c).island c = s.island c := by
  simp [centringRejected]

theorem freqDone_words (hr : kRising s.regs = true) : (freqDone s c).flag Fld.chFreqBusy c = false
    ∧ (freqDone s c).rd (Reg.chCntFreq.at c) = satAdd32 (s.rd (Reg.chCntFreq.at c)) 1 := by
  have hne : Fld.chFreqBusy.reg.at c ≠ Reg.chCntFreq.at c := RegDef.at_ne (r := Reg.chFreq) (r' := Reg.chCntFreq) rfl (by decide) c
  have hbusy := State.setFlag_rising hr Fld.chFreqBusy false c 0
  unfold freqDone
  extract_lets u v
  rw [State.flag_modCh, State.rd_modCh, State.flag_info, State.rd_info, State.flag_count_other hbusy _ _ _ _ _ _ _ hne.symm,
    State.rd_count _ hbusy, if_pos rfl]
  refine ⟨State.flag_setFlag hr Fld.chFreqBusy rfl (by decide), ?_⟩
  rw [State.setFlag, State.rd_setFld s hr, if_neg hne]

theorem freqRefuse_words (hr : kRising s.regs = true) (target code : Nat) :
    (freqRefuse s c target code).flag Fld.chFreqBusy c = false ∧ (freqRefuse s c target code).flag Fld.chFreqRefused c = true
      ∧ (freqRefuse s c target code).fld Fld.chFreqCurrent c = s.fld Fld.chFreqCurrent c := by
  have hrefused := State.setFlag_rising hr Fld.chFreqRefused true c 0
  unfold freqRefuse
  extract_lets u v
  simp only [State.flag_info, State.fld_info, v, State.flag_modCh, State.fld_modCh, u]
  refine ⟨State.flag_setFlag hrefused Fld.chFreqBusy rfl (by decide), ?_, ?_⟩
  · exact (State.flag_setFlag_beside hrefused Fld.chFreqBusy Fld.chFreqRefused rfl (by decide) (by decide)).trans
      (State.flag_setFlag hr Fld.chFreqRefused rfl (by decide))
  · exact (State.fld_setFld_beside _ hrefused Fld.chFreqBusy Fld.chFreqCurrent _ c 0 c 0 rfl (by decide) (by decide)).trans
      (State.fld_setFld_beside s hr Fld.chFreqRefused Fld.chFreqCurrent _ c 0 c 0 rfl (by decide) (by decide))

theorem centringTaken_words (hr : kRising s.regs = true) :
    (centringTaken s c).flag Fld.chFreqBusy c = false
      ∧ (centringTaken s c).rd (Reg.chCntFreq.at c) = satAdd32 (s.rd (Reg.chCntFreq.at c)) 1
      ∧ getBits ((centringTaken s c).rd (Reg.trimValid.at c)) ((s.ch c).freqTo % 4) 1 = 1 := by
  unfold centringTaken
  extract_lets u
  have hu : Touches s u [] := .of_regs (placeTrims_regs _)
  have hru := hu.rising hr
  generalize hv : u.fld Fld.trimValidValid c ||| 2 ^ ((s.ch c).freqTo % 4) = v
  obtain ⟨hbusy, hcount⟩ := freqDone_words (c := c) ((markTrims_touches (c := c) v).rising hru)
  refine ⟨hbusy, ?_, ?_⟩
  · rw [hcount, (markTrims_touches v).rd (by simp [RegDef.at, Reg.chCntFreq, Reg.trimValid, Reg.phyEndtap, Reg.phyStatus]),
      hu.rd List.not_mem_nil]
  · rw [(freqDone_touches _ c).rd (by simp [RegDef.at, Reg.chCntFreq, Reg.trimValid, Reg.chFreq]),
      getBits_markTrims hru v (Nat.mod_lt _ (by decide)), ← hv]
    simp

theorem centringRejected_words (hr : kRising s.regs = true) :
    (centringRejected s c).flag Fld.chFreqBusy c = false ∧ (centringRejected s c).flag Fld.chFreqRefused c = true
      ∧ (centringRejected s c).fld Fld.chFreqCurrent c = (s.ch c).freqFrom % 4
      ∧ getBits ((centringRejected s c).rd (Reg.trimValid.at c)) ((s.ch c).freqTo % 4) 1 = 0 := by
  unfold centringRejected
  extract_lets u
  have hru : kRising u.regs = true := by
    rw [exited_regs]
    exact (loadPoint_touches _).rising (State.count_rising s hr _ _ _ _)
  have hcurrent : u.fld Fld.chFreqCurrent c = (s.ch c).freqFrom % 4 :=
    (State.fld_of_regs exited_regs _ _ _).trans (loadPoint_current (State.count_rising s hr _ _ _ _) _)
  generalize hv : u.fld Fld.trimValidValid c &&& (15 ^^^ 2 ^ ((s.ch c).freqTo % 4)) = v
  obtain ⟨hbusy, hrefused, hkept⟩ := freqRefuse_words (c := c) ((markTrims_touches (c := c) v).rising hru) (s.ch c).freqTo 6
  refine ⟨hbusy, hrefused, ?_, ?_⟩
  · rw [hkept, (markTrims_touches v).fld (by
      simp [RegDef.at, Fld.chFreqCurrent, Reg.chFreq, Reg.trimValid, Reg.phyEndtap, Reg.phyStatus]),
      hcurrent]
  · have hi : (s.ch c).freqTo % 4 < 4 := Nat.mod_lt _ (by decide)
    rw [(freqRefuse_touches ..).rd (by simp [RegDef.at, Reg.trimValid, Reg.chFreq]), getBits_markTrims hru v hi, ← hv]
    generalize (s.ch c).freqTo % 4 = i at hi
    have hclear : (15 ^^^ 2 ^ i).testBit i = false := by
      revert i
      decide
    simp [Nat.testBit_and, hclear]

end

end Sys2Proof.Machine

end

/-! SUPPORT. The statement about frequency changes. -/

section

open Sys2Proof Sys2Proof.Machine

/-- Settles O31: each part of a change touches words that are listed, so the words of its outcome, written apart, stand to
its end. -/
theorem frequencyChange : Obligations.FrequencyChange := by
  intro c s hw
  have hr := State.wf_regs_rising hw
  simp only [← State.ch_val]
  have htarget (tgt : Nat) : OnlyWords s (s.setFld Fld.chFreqTarget tgt c) [Reg.chFreq.at c] := OnlyWords.setFld hr ..
  have hrtarget (tgt : Nat) := State.setFld_rising s hr Fld.chFreqTarget tgt c 0
  refine ⟨fun tgt hm => ⟨fun code hcode => ⟨opFreqChange s c tgt.toNat, rfl, ?_⟩,
    fun hnone hfreq htrn => ⟨opFreqChange s c tgt.toNat, rfl, ?_⟩⟩,
    fun hfreq hsr hidle => ⟨opFreqIdle s c, rfl, ?_⟩, fun hfreq hsr => ⟨opFreqDecision s c, rfl, ?_⟩,
    fun hfreq htrain => ⟨opFreqLocked s c, rfl, ?_⟩, fun hfreq hnext ok => ⟨opCentring s c ok, rfl, ?_⟩⟩
  · have hrefused := (htarget tgt.toNat).trans (OnlyWords.setFlag (hrtarget tgt.toNat) Fld.chFreqRefused true c 0)
    rw [opFreqChange_refused hm hcode]
    exact ⟨State.flag_setFlag (hrtarget _) Fld.chFreqRefused rfl (by decide), hrefused.info_rest .., hrefused.2⟩
  · have hwords := (htarget tgt.toNat).trans (acceptChange_only (hrtarget tgt.toNat))
    obtain ⟨hbusy, hrefused⟩ := acceptChange_words (c := c) (hrtarget tgt.toNat)
    have hcurrent := State.fld_setFld_beside s hr Fld.chFreqTarget Fld.chFreqCurrent tgt.toNat c 0 c 0 rfl (by decide) (by decide)
    rw [opFreqChange_waits hm hnone hfreq htrn, State.modCh_ch]
    obtain ⟨-, -, -, -, hothers⟩ := frame_of_beside (State.modCh_beside (acceptChange (s.setFld Fld.chFreqTarget tgt.toNat c) c) c _)
    exact ⟨rfl, rfl, hcurrent, hbusy, hrefused, hwords.2, hothers, hwords.modCh_rest ..⟩
  · obtain ⟨hfreq', hsr', hwhy, hisland, hchs⟩ := opFreqIdle_enters hfreq hsr hidle
    obtain ⟨-, -, -, -, hothers⟩ := frame_of_beside (beside_of_island hisland)
    exact ⟨hfreq', hsr', hwhy, hothers, hchs⟩
  · obtain ⟨hledger, -, -, hdata, hothers⟩ := frame_of_beside (beside_of_island (opFreqDecision_island (s := s) (c := c)))
    exact ⟨opFreqDecision_waiting_words hr hfreq hsr, opFreqDecision_relocks_words hr hfreq hsr, hdata, hledger, hothers⟩
  · obtain ⟨hledger, -, -, hdata, hothers⟩ := frame_of_beside (beside_of_island (opFreqLocked_island hfreq htrain))
    obtain ⟨hfreq', hsr', hlocked, hcurrent⟩ := opFreqLocked_words hr hfreq htrain
    exact ⟨hfreq', hsr', hlocked, hcurrent, hdata, hledger, hothers⟩
  · cases ok with
    | true =>
      rw [opCentring_taken hfreq hnext]
      obtain ⟨hledger, -, -, hdata, hothers⟩ := frame_of_beside (beside_of_island (centringTaken_island (s := s) (c := c)))
      obtain ⟨hbusy, hcount, hvalid⟩ := centringTaken_words (c := c) hr
      exact ⟨freqDone_freq .., hbusy, fun _ => hcount, nofun, hvalid, hdata, hledger, hothers⟩
    | false =>
      rw [opCentring_rejected hfreq hnext]
      obtain ⟨hledger, -, -, hdata, hothers⟩ := frame_of_beside (beside_of_island (centringRejected_island (s := s) (c := c)))
      obtain ⟨hbusy, hrefused, hcurrent, hvalid⟩ := centringRejected_words (c := c) hr
      exact ⟨(freqRefuse_ch ..).1, hbusy, nofun, fun _ => ⟨hrefused, hcurrent⟩, hvalid, hdata, hledger, hothers⟩

end

/-! SUPPORT. Transfers of the sideband (R343 to R346). -/

section

namespace Sys2Proof.Machine

/-! ### The words that a transaction boundary touches -/

section
variable (s : State)

/-- A buffered word of a channel or of the sideband takes effect, or its rejection is counted (R612, R614). -/
theorem applyReg_touches {off : Nat} (hlo : 0x10000 ≤ off) (hhi : off < 0x30000) :
    Touches s (applyReg s off) [off, Reg.regCntReject.at] := by
  unfold applyReg
  split
  · exact .of_regs rfl
  · dsimp only
    rw [afterApply_of_unit _ hlo hhi]
    split
    · exact .wr (.of_regs rfl) _ List.mem_cons_self
    · exact (Touches.count (.of_regs rfl) Reg.regCntReject 1 (List.mem_cons_of_mem _ List.mem_cons_self)).trans (.of_regs rfl)

/-- The registers of a quad beside SB_CTL keep their words at a transaction boundary. -/
theorem not_mem_boundaryWords {q : Nat} {r : RegDef} (hstride : r.s1 = Reg.sbCtl.s1) (hbase : Reg.sbCtl.base < r.base) :
    r.at q ∉ [Reg.sbCtl.at q, Reg.regCntReject.at] := by
  have hctl : r.at q ≠ Reg.sbCtl.at q := RegDef.at_ne hstride hbase.ne' q
  have hreject : Reg.regCntReject.at < r.at q :=
    calc Reg.regCntReject.at
      _ < Reg.sbCtl.base := by decide
      _ < r.base := hbase
      _ ≤ r.at q := (Nat.le_add_right ..).trans (Nat.le_add_right ..)
  exact List.not_mem_cons_of_ne_of_not_mem hctl (mt List.mem_singleton.1 hreject.ne')

variable {q : Nat} (hq : q < 4)
include hq

theorem sbNext_touches : Touches s (sbNext s q) [Reg.sbCtl.at q, Reg.regCntReject.at] := by
  have hbound : Touches s (quadBoundary s q) [Reg.sbCtl.at q, Reg.regCntReject.at] := by
    unfold quadBoundary
    split
    · exact applyReg_touches s (by simp only [RegDef.at, Reg.sbCtl]; omega) (by simp only [RegDef.at, Reg.sbCtl]; omega)
    · exact .of_regs rfl
  unfold sbNext
  extract_lets b u
  clear_value u
  cases u.cur <;> cases sbFirst u.wait <;> exact hbound

theorem sbQueue_touches (x : SbTxn) : Touches s (sbQueue s q x) [Reg.sbCtl.at q, Reg.regCntReject.at] := by
  refine Touches.trans ?_ (sbNext_touches _ hq)
  exact .of_regs rfl

end

/-! ### BUSY and ERR -/

/-- A quad's own number names it. -/
theorem State.quads_val (s : State) (q : QuadId) : s.quads[quadId q.val] = s.quads[q] :=
  congrArg (fun r : QuadId => s.quads[r]) (Fin.ext (Nat.mod_eq_of_lt q.isLt))

/-- The status of a firmware transfer. -/
def QuadStatus (s : State) (q : Nat) (busy err : Bool) : Prop :=
  s.flag Fld.sbStatusBusy q = busy ∧ s.flag Fld.sbStatusErr q = err

variable {s t : State} {q : Nat}

theorem QuadStatus.of_rd {busy err : Bool} (hs : QuadStatus s q busy err)
    (h : t.rd (Reg.sbStatus.at q) = s.rd (Reg.sbStatus.at q)) : QuadStatus t q busy err :=
  ⟨(State.flag_congr h).trans hs.1, (State.flag_congr h).trans hs.2⟩

theorem sbStatus_err_busy (hr : kRising s.regs = true) (busy err : Bool) :
    QuadStatus ((s.setFlag Fld.sbStatusErr err q).setFlag Fld.sbStatusBusy busy q) q busy err := by
  have herr := State.setFlag_rising hr Fld.sbStatusErr err q 0
  exact ⟨State.flag_setFlag herr Fld.sbStatusBusy rfl (by decide),
    (State.flag_setFlag_beside herr Fld.sbStatusBusy Fld.sbStatusErr rfl (by decide) (by decide)).trans
      (State.flag_setFlag hr Fld.sbStatusErr rfl (by decide))⟩

theorem sbStatus_busy_err (hr : kRising s.regs = true) (busy err : Bool) :
    QuadStatus ((s.setFlag Fld.sbStatusBusy busy q).setFlag Fld.sbStatusErr err q) q busy err := by
  have hbusy := State.setFlag_rising hr Fld.sbStatusBusy busy q 0
  exact ⟨(State.flag_setFlag_beside hbusy Fld.sbStatusErr Fld.sbStatusBusy rfl (by decide) (by decide)).trans
      (State.flag_setFlag hr Fld.sbStatusBusy rfl (by decide)),
    State.flag_setFlag hbusy Fld.sbStatusErr rfl (by decide)⟩

theorem sbNext_status (hq : q < 4) {busy err : Bool} (hs : QuadStatus s q busy err) : QuadStatus (sbNext s q) q busy err :=
  hs.of_rd ((sbNext_touches s hq).rd (not_mem_boundaryWords rfl (by decide)))

theorem sbQueue_status (hq : q < 4) {busy err : Bool} (hs : QuadStatus s q busy err) (x : SbTxn) :
    QuadStatus (sbQueue s q x) q busy err :=
  hs.of_rd ((sbQueue_touches s hq x).rd (not_mem_boundaryWords rfl (by decide)))

/-! ### A transfer asked for (R346) -/

/-- Firmware's word of a transfer, as SB_XFER keeps it. -/
def sbAsked (s : State) (q : Nat) (w : Word) : State := s.wr (Reg.sbXfer.at q) (w &&& 0x07FF035F)

/-- The transfer that a word of SB_XFER asks for. -/
def sbTransfer (s : State) (q : Nat) (w : Word) : SbTxn :=
  { who := .firmware, ch := 4 * q + Fld.sbXferSlot.of w / 2, slot := Fld.sbXferSlot.of w, dev := Fld.sbXferDev.of w
    write := Fld.sbXferWrite.of w == 1, len := Fld.sbXferLen.of w + 1, offset := Fld.sbXferOffset.of w
    data := s.rd (Reg.sbData.at q) }

/-- The status of a quad that has taken a transfer up. -/
def sbStarted (s : State) (q : Nat) : State := (s.setFlag Fld.sbStatusErr false q).setFlag Fld.sbStatusBusy true q

variable {w : Word}

theorem opSbXfer_busy (hm : s.mode ≠ .reset) (hgo : Fld.sbXferGo.of w = 1) (hbusy : sbBusy s q = true) :
    opSbXfer s q w = s.info Ev.sbDenied (Src.quad q) (dw (q % 4)) w := by
  simp [opSbXfer, hm, hgo, hbusy]

/-- A read of a module's SPD is sent on any generation (R346). -/
theorem opSbXfer_reads (hm : s.mode ≠ .reset) (hgo : Fld.sbXferGo.of w = 1) (hbusy : sbBusy s q = false)
    (hwrite : Fld.sbXferWrite.of w = 0) (hdev : Fld.sbXferDev.of w = 0) :
    opSbXfer s q w = sbQueue (sbStarted (sbAsked s q w) q) q (sbTransfer (sbStarted (sbAsked s q w) q) q w) := by
  simp [opSbXfer, hm, hgo, hbusy, hwrite, hdev, sbAsked, sbStarted, sbTransfer]

/-- A write that is none to a PMIC under WR_EN is not sent (R346). -/
theorem opSbXfer_denies (hm : s.mode ≠ .reset) (hgo : Fld.sbXferGo.of w = 1) (hbusy : sbBusy s q = false)
    (hwrite : Fld.sbXferWrite.of w = 1) (h : Fld.sbXferDev.of w ≠ 1 ∨ s.flag Fld.sbCtlWrEn q = false) :
    opSbXfer s q w = ((sbAsked s q w).setFlag Fld.sbStatusErr true q).info Ev.sbDenied (Src.quad q) (dw (q % 4)) w := by
  have hkept : (sbAsked s q w).flag Fld.sbCtlWrEn q = s.flag Fld.sbCtlWrEn q :=
    State.flag_congr (State.rd_wr_other (RegDef.at_ne (r := Reg.sbXfer) (r' := Reg.sbCtl) rfl (by decide) q) _)
  have hforbidden : (Fld.sbXferDev.of w == 1 && (sbAsked s q w).flag Fld.sbCtlWrEn q) = false := by
    rw [hkept]
    rcases h with hdev | hen
    · simp [hdev]
    · simp [hen]
  unfold opSbXfer
  rw [if_neg hm]
  simp only [hgo, hbusy, hwrite, Bool.and_false, beq_self_eq_true, Bool.not_true, Bool.true_and, Bool.false_eq_true, if_false]
  rw [← sbAsked, hforbidden, Bool.false_and]
  rfl

theorem sbAsked_rising (hr : kRising s.regs = true) : kRising (sbAsked s q w).regs = true := State.wr_rising s hr ..

theorem sbBusy_of_mem_txns {x : SbTxn} (hx : x ∈ s.txns q) (hwho : x.who = .firmware) : sbBusy s q = true :=
  List.any_eq_true.2 ⟨x, hx, by simp [hwho]⟩

/-- A quad with a transfer of firmware's is BUSY (R346). -/
theorem sbQueue_transfer (hq : q < 4) (hr : kRising s.regs = true) (w : Word) :
    let t := sbQueue (sbStarted s q) q (sbTransfer (sbStarted s q) q w)
    QuadStatus t q true false ∧ sbBusy t q = true ∧ t.offBand = s.offBand :=
  ⟨sbQueue_status hq (sbStatus_err_busy hr true false) _, sbBusy_of_mem_txns (mem_txns_sbQueue _ hq _ (.inl rfl)) rfl,
    sbQueue_offBand _ hq _⟩

/-! ### Answers (R343, R346) -/

/-- The status and data of a read that has been answered. -/
def sbRead (s : State) (q len : Nat) (data : Word) : State :=
  ((s.setFlag Fld.sbStatusBusy false q).setFlag Fld.sbStatusErr false q).wr (Reg.sbData.at q) (dw (data.toNat % 2 ^ (8 * len)))

theorem opSbDone_read {x : SbTxn} (h : s.quads[quadId q].cur = some x) (hwho : x.who = .firmware) (hwrite : x.write = false)
    (data : Word) : opSbDone s q data =
      sbNext (causeEnds (sbRead (s.modQuad q (fun u => { u with cur := none, tries := 0, stuck := false })) q x.len data)
        (58 + q % 4)) q := by
  unfold opSbDone
  rw [h]
  dsimp only
  unfold sbAnswer
  rw [hwho, hwrite]
  rfl

theorem sbRead_words (hr : kRising s.regs = true) (len : Nat) (data : Word) :
    QuadStatus (sbRead s q len data) q false false
      ∧ (sbRead s q len data).rd (Reg.sbData.at q) = dw (data.toNat % 2 ^ (8 * len)) := by
  refine ⟨(sbStatus_busy_err hr false false).of_rd (State.rd_wr_other ?_ _), ?_⟩
  · exact RegDef.at_ne (r := Reg.sbData) (r' := Reg.sbStatus) rfl (by decide) q
  · exact (State.rd_wr _ (State.setFlag_rising (State.setFlag_rising hr ..) ..) ..).trans (if_pos rfl)

/-- What stands of a state when its fault net changes. -/
theorem frame_of_flt {t u : State} {f : FaultNet} (h : t.offBand = { u.offBand with flt := f }) :
    t.chs = u.chs ∧ DataKept u t ∧ t.ledger = u.ledger := by
  have hflash : t.flash = u.flash := (congrArg State.flash h :)
  exact ⟨(congrArg State.chs h :), ⟨(congrArg State.dram h :), (congrArg State.tags h :), congrArg Flash.bytes hflash,
    congrArg Flash.otp hflash⟩, (congrArg State.ledger h :)⟩

/-- The data of a read come to SB_DATA, and BUSY ends (R346). -/
theorem opSbDone_shows (hq : q < 4) (hr : kRising s.regs = true) {x : SbTxn} (h : s.quads[quadId q].cur = some x)
    (hwho : x.who = .firmware) (hwrite : x.write = false) (data : Word) :
    let t := opSbDone s q data
    QuadStatus t q false false ∧ t.rd (Reg.sbData.at q) = dw (data.toNat % 2 ^ (8 * x.len))
      ∧ t.chs = s.chs ∧ DataKept s t ∧ t.ledger = s.ledger := by
  rw [opSbDone_read h hwho hwrite]
  generalize hu : s.modQuad q (fun u => { u with cur := none, tries := 0, stuck := false }) = u
  have hru : kRising u.regs = true := hu ▸ hr
  obtain ⟨hstatus, hdata⟩ := sbRead_words (q := q) hru x.len data
  obtain ⟨f, hf⟩ := causeEnds_eq (sbRead u q x.len data) (58 + q % 4)
  have hoff : (sbNext (causeEnds (sbRead u q x.len data) (58 + q % 4)) q).offBand = { s.offBand with flt := f } := by
    rw [sbNext_offBand _ hq, hf, ← hu]
    rfl
  obtain ⟨hchs, hkept, hledger⟩ := frame_of_flt hoff
  have hended : (causeEnds (sbRead u q x.len data) (58 + q % 4)).regs = (sbRead u q x.len data).regs := by
    rw [hf]
  have hwords := sbNext_touches (causeEnds (sbRead u q x.len data) (58 + q % 4)) hq
  have hrd (o : Nat) := (Touches.of_regs (l := []) hended).rd (o := o) List.not_mem_nil
  exact ⟨sbNext_status hq (hstatus.of_rd (hrd _)),
    (hwords.rd (not_mem_boundaryWords (r := Reg.sbData) rfl (by decide))).trans ((hrd _).trans hdata), hchs, hkept, hledger⟩

/-! ### Failures (R344) -/

theorem opSbTimeout_retries {x : SbTxn} (h : s.quads[quadId q].cur = some x) (htries : s.quads[quadId q].tries < 2)
    (nack : Bool) :
    let t := opSbTimeout s q nack false
    t.quads[quadId q].cur = some x ∧ t.quads[quadId q].tries = s.quads[quadId q].tries + 1
      ∧ { t with quads := s.quads } = s := by
  have hlast : s.quads[quadId q].tries + 1 < 3 := by omega
  have heq : opSbTimeout s q nack false = s.modQuad q (fun u => { u with tries := s.quads[quadId q].tries + 1 }) := by
    unfold opSbTimeout
    rw [h]
    exact if_pos hlast
  rw [heq]
  dsimp only
  rw [State.modQuad_self]
  exact ⟨h, rfl, rfl⟩

/-- A transfer of firmware's that has failed for the third time: its count and its status. -/
def sbFailed (s : State) (q : Nat) (r : RegDef) : State :=
  ((s.count r 1 q).setFlag Fld.sbStatusBusy false q).setFlag Fld.sbStatusErr true q

/-- The counter of a kind of failure (R344). -/
def sbCounter (nack : Bool) : RegDef := if nack then Reg.sbCntNack else Reg.sbCntTimeout

theorem opSbTimeout_fails {x : SbTxn} (h : s.quads[quadId q].cur = some x) (hwho : x.who = .firmware)
    (htries : 2 ≤ s.quads[quadId q].tries) (nack : Bool) : opSbTimeout s q nack false =
      sbNext (sbFailed (s.modQuad q (fun u => { u with cur := none, tries := 0 })) q (sbCounter nack)) q := by
  have hlast : ¬s.quads[quadId q].tries + 1 < 3 := by omega
  unfold opSbTimeout
  rw [h]
  dsimp only
  rw [if_neg hlast]
  unfold sbFailure
  rw [hwho]
  cases nack <;> rfl

theorem sbFailed_words (hr : kRising s.regs = true) {r : RegDef} (hne : Reg.sbStatus.at q ≠ r.at q) :
    QuadStatus (sbFailed s q r) q false true ∧ (sbFailed s q r).rd (r.at q) = satAdd32 (s.rd (r.at q)) 1 := by
  refine ⟨sbStatus_busy_err (State.count_rising s hr ..) false true, ?_⟩
  refine (State.rd_wr_other hne _).trans ((State.rd_wr_other hne _).trans ?_)
  exact (State.rd_count s hr ..).trans (if_pos rfl)

/-- The third failure of a transfer of firmware's is counted, and ends it with ERR (R344). -/
theorem opSbTimeout_counts (hq : q < 4) (hr : kRising s.regs = true) {x : SbTxn} (h : s.quads[quadId q].cur = some x)
    (hwho : x.who = .firmware) (htries : 2 ≤ s.quads[quadId q].tries) (nack : Bool) :
    let t := opSbTimeout s q nack false
    QuadStatus t q false true ∧ t.rd ((sbCounter nack).at q) = satAdd32 (s.rd ((sbCounter nack).at q)) 1
      ∧ t.offBand = s.offBand := by
  have hcounter : (sbCounter nack).s1 = Reg.sbCtl.s1 ∧ Reg.sbStatus.base < (sbCounter nack).base := by
    cases nack <;> decide
  obtain ⟨hstride, hbase⟩ := hcounter
  have hne : Reg.sbStatus.at q ≠ (sbCounter nack).at q := RegDef.at_ne (hstride.symm ▸ rfl) hbase.ne q
  obtain ⟨hstatus, hcount⟩ :=
    sbFailed_words (s := s.modQuad q (fun u => { u with cur := none, tries := 0 })) (q := q) hr hne
  rw [opSbTimeout_fails h hwho htries]
  exact ⟨sbNext_status hq hstatus,
    ((sbNext_touches _ hq).rd (not_mem_boundaryWords hstride (lt_trans (by decide) hbase))).trans hcount,
    sbNext_offBand _ hq⟩

end Sys2Proof.Machine

end

/-! SUPPORT. The statement about the sideband. -/

section

open Sys2Proof Sys2Proof.Machine

/-- Settles O34: a transaction boundary touches SB_CTL's word alone, so the status that a transfer leaves stands (R346), and
no transaction of a quad is lost (R343). -/
theorem sidebandTransfers : Obligations.SidebandTransfers := by
  intro q s hw hm
  have hr := State.wf_regs_rising hw
  simp only [← s.quads_val q]
  refine ⟨fun w hgo => ⟨fun hbusy => ⟨opSbXfer s q w, rfl, ?_⟩, fun hbusy hwrite hdev => ⟨opSbXfer s q w, rfl, ?_⟩,
    fun hbusy hwrite h => ⟨opSbXfer s q w, rfl, ?_⟩⟩, fun x data hcur hwho hwrite => ⟨opSbDone s q data, rfl, ?_⟩,
    fun x nack hcur => ⟨fun htries => ⟨opSbTimeout s q nack false, rfl, ?_⟩,
      fun htries hwho => ⟨opSbTimeout s q nack false, rfl, ?_⟩⟩⟩
  · rw [opSbXfer_busy hm hgo hbusy]
    rfl
  · rw [opSbXfer_reads hm hgo hbusy hwrite hdev]
    obtain ⟨⟨hflag, herr⟩, htaken, hoff⟩ := sbQueue_transfer q.isLt (sbAsked_rising (q := q) (w := w) hr) w
    obtain ⟨hchs, hkept, hledger, -⟩ := frame_of_offBand (hoff.trans (rfl : (sbAsked s q w).offBand = s.offBand))
    exact ⟨hflag, herr, htaken, hchs, hledger, hkept⟩
  · rw [opSbXfer_denies hm hgo hbusy hwrite h]
    have hasked := sbAsked_rising (q := q) (w := w) hr
    have hwords : WordsKept s (sbAsked s q w) [Reg.sbXfer.at q, Reg.sbStatus.at q] :=
      (WordsKept.of_regs rfl).wr hr _ _ List.mem_cons_self
    exact ⟨State.flag_setFlag hasked Fld.sbStatusErr rfl (by decide), rfl,
      hwords.setFlag hasked Fld.sbStatusErr true q 0 (List.mem_cons_of_mem _ List.mem_cons_self), rfl⟩
  · obtain ⟨⟨hbusy, herr⟩, hdata, hchs, hkept, hledger⟩ := opSbDone_shows q.isLt hr hcur hwho hwrite data
    exact ⟨hbusy, herr, hdata, hchs, hledger, hkept⟩
  · obtain ⟨hkept, hcounted, hrest⟩ := opSbTimeout_retries hcur htries nack
    rw [State.quads_val] at hkept
    exact ⟨hkept, (congrArg Quad.tries (State.quads_val _ q)).symm.trans hcounted, hrest⟩
  · obtain ⟨⟨hbusy, herr⟩, hcount, hoff⟩ := opSbTimeout_counts q.isLt hr hcur hwho htries nack
    obtain ⟨hchs, hkept, hledger, -⟩ := frame_of_offBand hoff
    exact ⟨herr, hbusy, fun h => by subst h; exact hcount, fun h => by subst h; exact hcount, hchs, hledger, hkept⟩

end

/-! SUPPORT. What a channel's PHY leaves alone (R324 to R333, R351 to R356, R365 to R377). One projection, `State.vault`,
carries it, so that each function of the PHY needs one frame lemma. -/

section

namespace Sys2Proof.Machine

/-- The mode, the ledger, the stores of data with the directory, and the queue for ZQ_EXT. -/
structure Shelf where
  mode : Mode
  modeNow : Mode
  ledger : List LEntry
  dram : KMap Line
  tags : KMap Tag
  bytes : KMap (BitVec 8)
  otp : KMap (BitVec 8)
  zqQ : List Nat

/-- The same with the channels beside one. -/
structure Vault extends Shelf where
  others : ChanId → Option Channel

/-- The part of a state that the PHY of every channel leaves alone. -/
def State.shelf (s : State) : Shelf :=
  { mode := s.mode, modeNow := s.modeNow, ledger := s.ledger, dram := s.dram, tags := s.tags, bytes := s.flash.bytes
    otp := s.flash.otp, zqQ := s.zqQ }

/-- The part of a state that the PHY of channel `c` leaves alone. -/
def State.vault (s : State) (c : Nat) : Vault := { s.shelf with others := (s.beside c).others }

section
variable {s t : State} {c : Nat}

theorem dataKept_of_shelf (h : t.shelf = s.shelf) : DataKept s t :=
  ⟨congrArg Shelf.dram h, congrArg Shelf.tags h, congrArg Shelf.bytes h, congrArg Shelf.otp h⟩

theorem shelf_of_vault (h : t.vault c = s.vault c) : t.shelf = s.shelf := congrArg Vault.toShelf h

theorem otherChannels_of_vault {c : ChanId} (h : t.vault c = s.vault c) : OtherChannels s t c := fun d hd => by
  simpa [State.vault, State.beside, hd] using congrFun (congrArg Vault.others h) d

/-- Neither SAFE nor RECOVER: an error fences its channel at once (R541, R542). -/
def Fences (s : State) : Prop := s.mode ≠ .safe ∧ s.modeNow ≠ .recover

theorem Fences.of_serving (hm : s.mode = .plain ∨ s.mode = .tiered) (hf : s.flt.finishing = false) : Fences s := by
  have hnow : s.modeNow = s.mode := if_neg (by simp [hf])
  rw [Fences, hnow]
  rcases hm with hm | hm <;> simp [hm]

theorem Fences.of_modes (hs : Fences s) (hm : t.mode = s.mode) (hn : t.modeNow = s.modeNow) : Fences t := by
  rwa [Fences, hm, hn]

theorem Fences.of_shelf (hs : Fences s) (h : t.shelf = s.shelf) : Fences t :=
  hs.of_modes (congrArg Shelf.mode h) (congrArg Shelf.modeNow h)

end

section
variable (s : State) (c : Nat)

/-! ### The basic updates -/

@[simp] theorem State.wr_vault (o : Nat) (w : Word) : (s.wr o w).vault c = s.vault c := rfl
@[simp] theorem State.setFld_vault (f : Fld) (v i k : Nat) : (s.setFld f v i k).vault c = s.vault c := rfl
@[simp] theorem State.setFlag_vault (f : Fld) (b : Bool) (i k : Nat) : (s.setFlag f b i k).vault c = s.vault c := rfl
@[simp] theorem State.count_vault (r : RegDef) (n i k : Nat) : (s.count r n i k).vault c = s.vault c := rfl
@[simp] theorem State.event_vault (a b n : Nat) (x y : Word) : (s.event a b n x y).vault c = s.vault c := rfl
@[simp] theorem State.info_vault (a b : Nat) (x y : Word) : (s.info a b x y).vault c = s.vault c := rfl
@[simp] theorem State.reject_vault (o : Nat) (w : Word) : (s.reject o w).vault c = s.vault c := rfl
@[simp] theorem State.report_vault (n : Nat) (o : Option Nat) : (s.report n o).vault c = s.vault c := rfl
@[simp] theorem dropPend_vault (o : Nat) : (dropPend s o).vault c = s.vault c := rfl
@[simp] theorem lifeUp_vault (k n : Nat) : (lifeUp s k n).vault c = s.vault c := rfl

/-- A change of the channel itself. -/
@[simp] theorem State.modCh_vault (f : Channel → Channel) : (s.modCh (chan c) f).vault c = s.vault c := by
  have hothers : ((s.modCh (chan c) f).beside c).others = (s.beside c).others := congrArg Beside.others (State.modCh_beside ..)
  unfold State.vault
  rw [hothers]
  rfl

@[simp] theorem ite_vault (b : Prop) [Decidable b] (s t : State) :
    (if b then s else t).vault c = if b then s.vault c else t.vault c := apply_ite (State.vault · c) ..

@[simp] theorem foldl_vault {α : Type} (f : State → α → State) (l : List α) (s : State)
    (h : ∀ u a, (f u a).vault c = u.vault c) : (l.foldl f s).vault c = s.vault c := foldl_frame (State.vault · c) f l s h

/-! ### Faults and orderly fences (R470, R471, R521) -/

@[simp] theorem phyFault_vault (bit : Nat) : (phyFault s c bit).vault c = s.vault c := by
  simp [phyFault]

@[simp] theorem queueLog_vault (kind : Nat) (body : List Nat) : (queueLog s kind body).vault c = s.vault c := by
  unfold queueLog
  split <;> rfl

@[simp] theorem setChSt_vault (st : ChSt) (why : Nat) : (setChSt s c st why).vault c = s.vault c := by
  simp [setChSt]

@[simp] theorem beginFence_vault (why : Nat) : (beginFence s c why).vault c = s.vault c := by
  simp [beginFence]

@[simp] theorem orderlyFence_vault (why : Nat) : (orderlyFence s c why).vault c = s.vault c := by
  unfold orderlyFence
  split
  · simp
  · simp
  · rfl

@[simp] theorem planRetrain_vault : (planRetrain s c).vault c = s.vault c := by
  simp [planRetrain]

variable {s} in
theorem faultFence_of_fences (hs : Fences s) (orderly : Bool) : faultFence s c orderly =
    planRetrain (if orderly then orderlyFence s c Why.fault else immediateFence s c Why.fault) c := by
  obtain ⟨hm, hn⟩ := hs
  simp [faultFence, hm, hn]

variable {s} in
theorem faultFence_vault (hs : Fences s) : (faultFence s c true).vault c = s.vault c := by
  simp [faultFence_of_fences c hs]

/-! ### Training (R350 to R356) -/

@[simp] theorem showTraining_vault (phase : Nat) (gather : Bool) (sp : Nat) :
    (showTraining s c phase gather sp).vault c = s.vault c := rfl

@[simp] theorem endTraining_vault (st : TrnSt) : (endTraining s c st).vault c = s.vault c := by
  simp [endTraining]

@[simp] theorem freqRefuse_vault (target code : Nat) : (freqRefuse s c target code).vault c = s.vault c := by
  simp [freqRefuse]

@[simp] theorem failTraining_vault (sp phase : Nat) (lane : Bool) : (failTraining s c sp phase lane).vault c = s.vault c := by
  simp [failTraining]

variable {c} in
theorem startTraining_vault (hc : c < 16) (sp : Nat) : (startTraining s c sp).vault c = s.vault c := by
  have happly : (applyReg s (Reg.trnCtl.at c)).vault c = s.vault c := by
    unfold applyReg
    split
    · rfl
    · have hlo : 0x10000 ≤ Reg.trnCtl.at c := by simp only [RegDef.at, Reg.trnCtl]; omega
      have hhi : Reg.trnCtl.at c < 0x30000 := by simp only [RegDef.at, Reg.trnCtl]; omega
      simp [afterApply_of_unit _ hlo hhi]
  simp [startTraining, happly]

/-- A staged TSEQ image has taken over a channel (R511). -/
def tseqTaken (s : State) (c w : Nat) : State :=
  let s : State := { s with tseqStaged := kErase s.tseqStaged c }
  let s := (s.setFld Fld.imgTseqVerVersion (w % 2 ^ 16) c).setFld Fld.imgTseqVerIfrev (w / 2 ^ 16 % 256) c
  let s := s.setFlag Fld.imgTseqVerPending false c
  let s := s.setFld Fld.spareInvImgRomTseq ((s.fld Fld.spareInvImgRomTseq) &&& (0xFFFF ^^^ 2 ^ (c % 16)))
  imgBooks ((s.count Reg.svcCntImgSwitch).info Ev.imageSwitch Src.pseq (dw (1 + w % 2 ^ 16 * 2 ^ 16)) (dw (2 ^ (c % 16))))

@[simp] theorem tseqTaken_vault (w : Nat) : (tseqTaken s c w).vault c = s.vault c := rfl

/-- Without a staged image nothing happens; one that takes over restarts a training of RETRAIN (R384, R511). -/
theorem switchTseq_cases : switchTseq s c = s ∨ ∃ w, switchTseq s c = tseqTaken s c w
    ∨ ∃ sp, switchTseq s c = startTraining (tseqTaken s c w) c sp := by
  unfold switchTseq
  split
  · exact .inl rfl
  · next w _ =>
    dsimp only
    split
    · next sp _ =>
      split
      · exact .inr ⟨w, .inr ⟨sp, rfl⟩⟩
      · exact .inr ⟨w, .inl rfl⟩
    · exact .inr ⟨w, .inl rfl⟩

variable {c} in
theorem switchTseq_vault (hc : c < 16) : (switchTseq s c).vault c = s.vault c := by
  rcases switchTseq_cases s c with h | ⟨w, h | ⟨sp, h⟩⟩
  · rw [h]
  · rw [h, tseqTaken_vault]
  · rw [h, startTraining_vault _ hc, tseqTaken_vault]

/-! ### Passes (R365 to R377) -/

@[simp] theorem calBooks_vault : (calBooks s c).vault c = s.vault c := rfl

@[simp] theorem markPasses_vault (why : Nat) : (markPasses s c why).vault c = s.vault c := by
  simp [markPasses]

@[simp] theorem startPass_vault (kind : Nat) : (startPass s c kind).vault c = s.vault c := by
  simp [startPass, markSr]

@[simp] theorem calAccept_vault (kind : Nat) (res : List (Nat × Nat × Int)) :
    (calAccept s c kind res).vault c = s.vault c := by
  simp [calAccept]

/-- The records of a rejection (R374). -/
def calRejected (s : State) (c kind reason lane rank : Nat) (old new : Int) : State :=
  let info := reason % 16 + kind % 16 * 16 + lane % 256 * 256 + rank % 4 * 2 ^ 16
  ((s.count Reg.calCntFail 1 c).wr (Reg.calFailInfo.at c) (dw info)).info Ev.calReject (Src.chan c)
    (dw (info + c % 16 * 2 ^ 18)) (dw (old.toNat % 2 ^ 16 + new.toNat % 2 ^ 16 * 2 ^ 16))

/-- The third rejection in a row, as the channel's fault (R376). -/
def calFaulted (s : State) (c : Nat) : State :=
  phyFault ((s.setFld Fld.calStatusConsec 0 c).event Prio.contained Ev.calFault (Src.chan c) (dw (c % 16))) c 6

@[simp] theorem calRejected_vault (kind reason lane rank : Nat) (old new : Int) :
    (calRejected s c kind reason lane rank old new).vault c = s.vault c := rfl

@[simp] theorem calFaulted_vault : (calFaulted s c).vault c = s.vault c := by
  simp [calFaulted]

theorem calReject_cases (kind reason lane rank : Nat) (old new : Int) :
    let u := calRejected s c kind reason lane rank old new
    (∃ n, calReject s c kind reason lane rank old new = u.setFld Fld.calStatusConsec n c)
      ∨ calReject s c kind reason lane rank old new = faultFence (calFaulted u c) c true := by
  unfold calReject
  extract_lets
  split
  · exact .inl ⟨_, rfl⟩
  · exact .inr rfl

variable {s} in
theorem calReject_vault (hs : Fences s) (kind reason lane rank : Nat) (old new : Int) :
    (calReject s c kind reason lane rank old new).vault c = s.vault c := by
  have hvault : (calFaulted (calRejected s c kind reason lane rank old new) c).vault c = s.vault c :=
    (calFaulted_vault ..).trans (calRejected_vault ..)
  rcases calReject_cases s c kind reason lane rank old new with ⟨n, h⟩ | h
  · simp [h]
  · rw [h, faultFence_vault c (hs.of_shelf (shelf_of_vault hvault)), hvault]

end

end Sys2Proof.Machine

end

/-! SUPPORT. The tap size (R324, R370, R371) and the queue for ZQ_EXT (R331 to R333), and the statement about them. -/

section

namespace Sys2Proof.Machine

/-! ### The words that a pass touches (R365 to R377) -/

/-- The words that the end of a pass of channel `c` may write beside its count of rejections: those of its outcome, of a fence
that the outcome brings, and of a TSEQ image that takes over at its end. -/
def passWords (c : Nat) : List Nat :=
  [Reg.calCnt.at c, Reg.calLastLo.at c, Reg.calLastHi.at c, Reg.calStatus.at c, Reg.calFailInfo.at c, Reg.chCntFence.at c,
    Reg.tierSweep.at c, Reg.imgTseqVer.at c, Reg.spareInvImg.at, Reg.svcCntImgSwitch.at, Reg.imgStatus.at, Reg.trnCtl.at c,
    Reg.trnStatus.at c, Reg.regCntReject.at]

section
variable (s : State) {c : Nat}

theorem beginFence_touches (why : Nat) : Touches s (beginFence s c why) (passWords c) := by
  have hcounted : Touches s (s.count Reg.chCntFence 1 c) (passWords c) := .count (.of_regs rfl) _ _ (by simp [passWords])
  unfold beginFence
  extract_lets counted fencing swept tiered
  have hregs : (queueLog fencing LogKind.journal [Jr.opened, c]).regs = (s.count Reg.chCntFence 1 c).regs := by
    rw [queueLog_regs, setChSt_regs]
    rfl
  exact ((hcounted.trans (.of_regs hregs)).setFlag Fld.tierSweepActive false (by simp [passWords, Fld.tierSweepActive])).trans
    (.of_regs rfl)

theorem orderlyFence_touches (why : Nat) : Touches s (orderlyFence s c why) (passWords c) := by
  unfold orderlyFence
  split
  · split
    · exact .of_regs rfl
    · exact beginFence_touches s why
  · split
    · exact .of_regs rfl
    · exact beginFence_touches s why
  · exact .of_regs rfl

theorem planRetrain_regs (c : Nat) : (planRetrain s c).regs = s.regs := by
  unfold planRetrain
  split <;> rfl

variable {s} in
theorem faultFence_touches (hs : Fences s) : Touches s (faultFence s c true) (passWords c) := by
  rw [faultFence_of_fences c hs]
  exact (orderlyFence_touches s _).trans (.of_regs (planRetrain_regs ..))

theorem showTraining_touches (phase : Nat) (gather : Bool) (sp : Nat) :
    Touches s (showTraining s c phase gather sp) [Reg.trnStatus.at c] :=
  (((Touches.of_regs rfl).setFld Fld.trnStatusPhase phase (List.mem_singleton_self _)).setFlag Fld.trnStatusGather gather
    (List.mem_singleton_self _)).setFld Fld.trnStatusSetpoint sp (List.mem_singleton_self _)

theorem startTraining_touches (hc : c < 16) (sp : Nat) : Touches s (startTraining s c sp) (passWords c) := by
  unfold startTraining
  extract_lets applied sourced shown
  have happlied : Touches s applied (passWords c) := by
    simp only [applied]
    split
    · have hlo : 0x10000 ≤ Reg.trnCtl.at c := by simp only [RegDef.at, Reg.trnCtl]; omega
      have hhi : Reg.trnCtl.at c < 0x30000 := by simp only [RegDef.at, Reg.trnCtl]; omega
      exact (applyReg_touches s hlo hhi).mono (by simp [passWords])
    · exact .of_regs rfl
  clear_value applied
  have hsourced : Touches s sourced (passWords c) := happlied.setFld _ _ (by simp [passWords, Fld.trnStatusSource])
  have hshown : Touches s shown (passWords c) := hsourced.trans ((showTraining_touches _ 1 false sp).mono (by simp [passWords]))
  clear_value shown
  exact hshown.trans (.of_regs rfl)

theorem imgBooks_touches : Touches s (imgBooks s) [Reg.imgStatus.at] := by
  unfold imgBooks
  exact .setFlag (.setFlag (.of_regs rfl) _ _ (List.mem_singleton_self _)) _ _ (List.mem_singleton_self _)

theorem tseqTaken_touches (w : Nat) : Touches s (tseqTaken s c w) (passWords c) := by
  have himage : Reg.imgTseqVer.at c ∈ passWords c := by simp [passWords]
  have hstatus : Reg.imgStatus.at ∈ passWords c := by simp [passWords]
  unfold tseqTaken
  extract_lets erased versioned shown mapped
  have hshown : Touches s shown (passWords c) :=
    .setFlag (.setFld (.setFld (.of_regs rfl) _ _ himage) _ _ himage) _ _ himage
  have hmapped : Touches s mapped (passWords c) := hshown.setFld _ _ (by simp [passWords, Fld.spareInvImgRomTseq])
  clear_value mapped
  have hcounted : Touches s (mapped.count Reg.svcCntImgSwitch) (passWords c) := hmapped.count _ _ (by simp [passWords])
  generalize mapped.count Reg.svcCntImgSwitch = counted at hcounted
  have htold (x y : Word) : Touches s (counted.info Ev.imageSwitch Src.pseq x y) (passWords c) := hcounted.trans (.of_regs rfl)
  exact (htold _ _).trans ((imgBooks_touches _).mono (List.cons_subset.2 ⟨hstatus, List.nil_subset _⟩))

theorem switchTseq_touches (hc : c < 16) : Touches s (switchTseq s c) (passWords c) := by
  rcases switchTseq_cases s c with h | ⟨w, h | ⟨sp, h⟩⟩
  · rw [h]
    exact .of_regs rfl
  · rw [h]
    exact tseqTaken_touches s w
  · rw [h]
    exact (tseqTaken_touches s w).trans (startTraining_touches _ hc sp)

theorem calBooks_touches : Touches s (calBooks s c) (passWords c) := by
  have hstatus : Reg.calStatus.at c ∈ passWords c := by simp [passWords]
  exact ((Touches.of_regs rfl).setFlag Fld.calStatusPending _ hstatus).setFld Fld.calStatusMaxPend _ hstatus

/-- The records of an acceptance (R375). -/
def calAccepted (s : State) (c : Nat) : State :=
  (((s.count Reg.calCnt 1 c).setFld Fld.calLastLoUs (s.us % 2 ^ 32) c).setFld Fld.calLastHiUs
    (s.us / 2 ^ 32 % 2 ^ 16) c).setFld Fld.calStatusConsec 0 c

theorem calAccept_touches (kind : Nat) (res : List (Nat × Nat × Int)) : Touches s (calAccept s c kind res) (passWords c) := by
  have haccepted : Touches s (calAccepted s c) (passWords c) :=
    ((((Touches.of_regs rfl).count Reg.calCnt 1 (by simp [passWords])).setFld Fld.calLastLoUs _
      (by simp [passWords, Fld.calLastLoUs])).setFld Fld.calLastHiUs _ (by simp [passWords, Fld.calLastHiUs])).setFld
      Fld.calStatusConsec 0 (by simp [passWords, Fld.calStatusConsec])
  unfold calAccept
  extract_lets counted lastShown cleared corrected tapped
  have hcorrected : corrected.regs = (calAccepted s c).regs := foldl_frame State.regs _ _ _ fun _ _ => rfl
  have htapped : tapped.regs = corrected.regs := by
    simp only [tapped]
    split <;> rfl
  exact (haccepted.trans (.of_regs (htapped.trans hcorrected))).trans (calBooks_touches _)

variable {s} in
/-- A rejection is counted, and touches words of its own beside (R374 to R376). -/
theorem calReject_touches (hs : Fences s) (kind reason lane rank : Nat) (old new : Int) :
    Touches (s.count Reg.calCntFail 1 c) (calReject s c kind reason lane rank old new) (passWords c) := by
  have hvault : (calFaulted (calRejected s c kind reason lane rank old new) c).vault c = s.vault c :=
    (calFaulted_vault ..).trans (calRejected_vault ..)
  have hinfo : Reg.calFailInfo.at c ∈ passWords c := by simp [passWords]
  have hstatus : Fld.calStatusConsec.reg.at c ∈ passWords c := by simp [passWords, Fld.calStatusConsec]
  have hrejected : Touches (s.count Reg.calCntFail 1 c) (calRejected s c kind reason lane rank old new) (passWords c) :=
    ((Touches.of_regs rfl).wr _ hinfo).trans (.of_regs rfl)
  have hfaulted (u : State) : Touches u (calFaulted u c) (passWords c) :=
    ((Touches.of_regs rfl).setFld Fld.calStatusConsec 0 hstatus).trans (.of_regs rfl)
  rcases calReject_cases s c kind reason lane rank old new with ⟨n, h⟩ | h
  · rw [h]
    exact hrejected.setFld _ _ hstatus
  · rw [h]
    exact (hrejected.trans (hfaulted _)).trans (faultFence_touches (hs.of_shelf (shelf_of_vault hvault)))

/-- The tap size, the impedance codes and the count of rejections stand apart from them. -/
theorem not_mem_passWords (hc : c < 16) {r : RegDef} (hr : r = Reg.phyTap ∨ r = Reg.phyZq ∨ r = Reg.calCntFail) :
    r.at c ∉ passWords c := by
  rcases hr with rfl | rfl | rfl
  all_goals
    simp only [passWords, RegDef.at, Reg.phyTap, Reg.phyZq, Reg.calCntFail, Reg.calCnt, Reg.calLastLo, Reg.calLastHi,
      Reg.calStatus, Reg.calFailInfo, Reg.chCntFence, Reg.tierSweep, Reg.imgTseqVer, Reg.spareInvImg, Reg.svcCntImgSwitch,
      Reg.imgStatus, Reg.trnCtl, Reg.trnStatus, Reg.regCntReject, List.mem_cons, List.not_mem_nil, or_false, not_or]
    omega

theorem startPass_regs (c kind : Nat) : (startPass s c kind).regs = s.regs := by
  have hmark (u : State) : (markSr u c).regs = u.regs := by
    unfold markSr
    split <;> rfl
  unfold startPass
  extract_lets p opened marked
  have hmarked : marked.regs = s.regs := by
    simp only [marked]
    split
    · rfl
    · exact hmark opened
  split
  · exact hmarked
  · exact hmarked

end

/-! ### A tap size (R324, R370, R371) -/

/-- The first check of R371 that a measured tap size fails; 0 for none. -/
def tapFault (s : State) (c size : Nat) : Nat :=
  let old := s.fld Fld.phyTapSize c
  if old ≠ 0 ∧ old * 3 < (size - old + (old - size)) * 100 then 1
  else if size * 10 < 512 ∨ 192 < size then 2
  else if !vddqOk s c then 6
  else if !s.flag Fld.phyStatusLocked c && phyTrained s c then 7
  else 0

/-- Every check of R371 passes. -/
def TapGood (s : State) (c size : Nat) : Prop :=
  let old := s.fld Fld.phyTapSize c
  (old = 0 ∨ (size - old + (old - size)) * 100 ≤ old * 3) ∧ 512 ≤ size * 10 ∧ size ≤ 192 ∧ vddqOk s c = true
    ∧ (s.flag Fld.phyStatusLocked c = true ∨ phyTrained s c = false)

theorem tapFault_eq_zero_iff (s : State) (c size : Nat) : tapFault s c size = 0 ↔ TapGood s c size := by
  unfold tapFault TapGood
  extract_lets old
  split
  · next h => exact iff_of_false (by decide) fun ⟨hnear, _⟩ => by omega
  · next hnear =>
    split
    · next h => exact iff_of_false (by decide) fun ⟨_, hlo, hhi, _⟩ => by omega
    · next hrange =>
      have hrange : 512 ≤ size * 10 ∧ size ≤ 192 := by omega
      have hnear : old = 0 ∨ (size - old + (old - size)) * 100 ≤ old * 3 := by omega
      cases vddqOk s c <;> cases s.flag Fld.phyStatusLocked c <;> cases phyTrained s c <;> simp [hnear, hrange]

/-- A tap size taken, with its taps per unit interval (R324). -/
def tapTaken (s : State) (c size : Nat) : State :=
  (s.setFld Fld.phyTapSize size c).setFld Fld.phyTapUiTaps (uiTaps (fspRate s c (s.fld Fld.chFreqCurrent c)) size) c

/-- Passes whose taps per unit interval have moved start again (R370). -/
def movedPasses (s : State) (c taps : Nat) : State :=
  if !calRuns s c || (s.ch c).freq != .none then s
  else [2, 3, 5].foldl (fun s k =>
    match kFind (s.ch c).calTaps k with
    | some t => if 2 ≤ (t - taps) + (taps - t) && kindRuns s c k && !(s.ch c).passes.any (fun p => p.kind == k)
        then startPass s c k else s
    | none => s) s

section
variable {s : State} {c : Nat}

theorem opTapSize_eq (hm : s.mode = .plain ∨ s.mode = .tiered) (hf : s.flt.finishing = false)
    (hgen : s.fld Fld.phyPopGen c ≠ 0) (size : Nat) : opTapSize s c size =
      if tapFault s c size ≠ 0 then
        switchTseq (calReject s c 0 (tapFault s c size) 0 0 (s.fld Fld.phyTapSize c) size) c
      else movedPasses (switchTseq (calAccept (tapTaken s c size) c 0 []) c) c
        (uiTaps (fspRate s c (s.fld Fld.chFreqCurrent c)) size) := by
  obtain ⟨hsafe, hrecover⟩ := Fences.of_serving hm hf
  have hmode : s.mode ≠ .reset ∧ s.mode ≠ .holdup := by
    rcases hm with hm | hm <;> simp [hm]
  unfold opTapSize
  rw [if_neg (by simp [hmode, hsafe, hrecover, hgen])]
  rfl

theorem movedPasses_keeps {γ : Type} (g : State → γ) (hg : ∀ u k, g (startPass u c k) = g u) (taps : Nat) :
    g (movedPasses s c taps) = g s := by
  unfold movedPasses
  split
  · rfl
  · refine foldl_frame g _ _ _ fun u k => ?_
    split
    · split
      · exact hg u k
      · rfl
    · rfl

theorem movedPasses_regs (taps : Nat) : (movedPasses s c taps).regs = s.regs :=
  movedPasses_keeps State.regs (fun u k => startPass_regs u c k) taps

theorem movedPasses_vault (taps : Nat) : (movedPasses s c taps).vault c = s.vault c :=
  movedPasses_keeps (State.vault · c) (fun u k => startPass_vault u c k) taps

theorem uiTaps_lt (rate size : Nat) : uiTaps rate size < 512 := by
  unfold uiTaps
  split <;> omega

theorem tapTaken_words (hr : kRising s.regs = true) {size : Nat} (hsize : size ≤ 192) :
    (tapTaken s c size).fld Fld.phyTapSize c = size
      ∧ (tapTaken s c size).fld Fld.phyTapUiTaps c = uiTaps (fspRate s c (s.fld Fld.chFreqCurrent c)) size := by
  have hr' := State.setFld_rising s hr Fld.phyTapSize size c 0
  have hlt : size < 2 ^ Fld.phyTapSize.w := lt_of_le_of_lt hsize (by decide)
  refine ⟨?_, ?_⟩
  · refine (State.fld_setFld_beside _ hr' Fld.phyTapUiTaps Fld.phyTapSize _ c 0 c 0 rfl (by decide) (by decide)).trans ?_
    exact (State.fld_setFld s hr Fld.phyTapSize size c 0 (by decide)).trans (Nat.mod_eq_of_lt hlt)
  · exact (State.fld_setFld _ hr' Fld.phyTapUiTaps _ c 0 (by decide)).trans (Nat.mod_eq_of_lt (uiTaps_lt ..))

theorem tapTaken_vault (size : Nat) : (tapTaken s c size).vault c = s.vault c := rfl

variable (hm : s.mode = .plain ∨ s.mode = .tiered) (hf : s.flt.finishing = false) (hgen : s.fld Fld.phyPopGen c ≠ 0)
  (hc : c < 16) {size : Nat}
include hm hf hgen hc

theorem opTapSize_vault : (opTapSize s c size).vault c = s.vault c := by
  rw [opTapSize_eq hm hf hgen]
  split
  · rw [switchTseq_vault _ hc, calReject_vault c (Fences.of_serving hm hf)]
  · rw [movedPasses_vault, switchTseq_vault _ hc, calAccept_vault, tapTaken_vault]

/-- A tap size that passes every check is shown with its taps (R324, R371). -/
theorem opTapSize_shows (hr : kRising s.regs = true) (hgood : TapGood s c size) :
    (opTapSize s c size).fld Fld.phyTapSize c = size
      ∧ (opTapSize s c size).fld Fld.phyTapUiTaps c = uiTaps (fspRate s c (s.fld Fld.chFreqCurrent c)) size := by
  have hwords : Touches (tapTaken s c size) (opTapSize s c size) (passWords c) := by
    rw [opTapSize_eq hm hf hgen, if_neg (not_not.2 ((tapFault_eq_zero_iff s c size).2 hgood))]
    exact ((calAccept_touches _ 0 []).trans (switchTseq_touches _ hc)).trans (.of_regs (movedPasses_regs _))
  have hkept := not_mem_passWords hc (.inl rfl)
  obtain ⟨-, -, hsize, -⟩ := hgood
  obtain ⟨htap, hui⟩ := tapTaken_words (c := c) hr hsize
  exact ⟨(hwords.fld (f := Fld.phyTapSize) hkept).trans htap, (hwords.fld (f := Fld.phyTapUiTaps) hkept).trans hui⟩

/-- A tap size that fails a check leaves PHY_TAP, and its rejection is counted (R374). -/
theorem opTapSize_rejects (hr : kRising s.regs = true) (hbad : ¬TapGood s c size) :
    (opTapSize s c size).rd (Reg.phyTap.at c) = s.rd (Reg.phyTap.at c)
      ∧ (opTapSize s c size).rd (Reg.calCntFail.at c) = satAdd32 (s.rd (Reg.calCntFail.at c)) 1 := by
  have hwords : Touches (s.count Reg.calCntFail 1 c) (opTapSize s c size) (passWords c) := by
    rw [opTapSize_eq hm hf hgen, if_pos (mt (tapFault_eq_zero_iff s c size).1 hbad)]
    exact (calReject_touches (Fences.of_serving hm hf) ..).trans (switchTseq_touches _ hc)
  refine ⟨(hwords.rd (not_mem_passWords hc (.inl rfl))).trans ?_,
    (hwords.rd (not_mem_passWords hc (.inr (.inr rfl)))).trans ?_⟩
  · exact State.rd_count_other s (RegDef.at_ne (r := Reg.calCntFail) (r' := Reg.phyTap) rfl (by decide) c) 1
  · exact (State.rd_count s hr ..).trans (if_pos rfl)

end

/-! ### The queue for ZQ_EXT (R331 to R333) -/

section
variable (s : State)

/-- The channel that ZQ_EXT serves is the queue's first; its pass starts, and nothing else moves (R332). -/
theorem zqServe_keeps {γ : Type} (g : State → γ) (hg : ∀ u c k, g (startPass u c k) = g u) : g (zqServe s) = g s := by
  unfold zqServe
  split
  · rfl
  · split
    · rfl
    · exact hg ..

theorem zqServe_shelf : (zqServe s).shelf = s.shelf :=
  zqServe_keeps s State.shelf fun u c k => shelf_of_vault (startPass_vault u c k)

theorem zqServe_regs : (zqServe s).regs = s.regs := zqServe_keeps s State.regs startPass_regs

variable {s} {c : Nat}

theorem opZqDue_joins (hm : s.mode ≠ .reset) (hperiod : s.fld Fld.phyZqCtlPeriod c ≠ 0) (hgen : s.fld Fld.phyPopGen c ≠ 0)
    (hout : c ∉ s.zqQ) : opZqDue s c = zqServe { s with zqQ := s.zqQ ++ [c] } := by
  unfold opZqDue
  rw [if_neg (by simp [hm, hperiod, hgen, hout])]

/-- The channel that holds ZQ_EXT has left the queue, and the next one is served. -/
def zqLeft (s : State) (c : Nat) : State :=
  zqServe { s.modCh (chan c) (fun q => { q with passes := q.passes.filter (fun x => x.kind != 1) }) with zqQ := s.zqQ.tail }

theorem zqLeft_shelf : (zqLeft s c).shelf = { s.shelf with zqQ := s.zqQ.tail } := zqServe_shelf _

theorem zqLeft_fences (hs : Fences s) : Fences (zqLeft s c) :=
  hs.of_modes (congrArg Shelf.mode zqLeft_shelf) (congrArg Shelf.modeNow zqLeft_shelf)

theorem zqLeft_regs : (zqLeft s c).regs = s.regs := zqServe_regs _

theorem phyTrained_of_regs {t : State} (h : t.regs = s.regs) (c : Nat) : phyTrained t c = phyTrained s c := by
  simp only [phyTrained, State.flag, State.fld, State.rd, h]

/-- Impedance codes taken at once (R333). -/
def zqTaken (s : State) (c pu pd : Nat) : State := (s.setFld Fld.phyZqPu pu c).setFld Fld.phyZqPd pd c

theorem zqTaken_words (hr : kRising s.regs = true) {pu pd : Nat} (hpu : pu < 127) (hpd : pd < 127) :
    (zqTaken s c pu pd).fld Fld.phyZqPu c = pu ∧ (zqTaken s c pu pd).fld Fld.phyZqPd c = pd := by
  have hr' := State.setFld_rising s hr Fld.phyZqPu pu c 0
  have hpu : pu < 2 ^ Fld.phyZqPu.w := lt_trans hpu (by decide)
  have hpd : pd < 2 ^ Fld.phyZqPd.w := lt_trans hpd (by decide)
  refine ⟨?_, ?_⟩
  · refine (State.fld_setFld_beside _ hr' Fld.phyZqPd Fld.phyZqPu _ c 0 c 0 rfl (by decide) (by decide)).trans ?_
    exact (State.fld_setFld s hr Fld.phyZqPu pu c 0 (by decide)).trans (Nat.mod_eq_of_lt hpu)
  · exact (State.fld_setFld _ hr' Fld.phyZqPd pd c 0 (by decide)).trans (Nat.mod_eq_of_lt hpd)

variable (hs : Fences s) (hhead : s.zqQ.head? = some c)
include hs hhead

/-- Codes inside their range are taken at once on a channel that is not trained (R333). -/
theorem opZqDone_untrained (htrained : phyTrained s c = false) {pu pd : Nat} (hpu : 0 < pu ∧ pu < 127)
    (hpd : 0 < pd ∧ pd < 127) : opZqDone s c pu pd = calAccept (zqTaken (zqLeft s c) c pu pd) c 1 [] := by
  obtain ⟨hm, hn⟩ : Fences (zqLeft s c) := zqLeft_fences hs
  have hopen : ¬(pu = 0 ∨ pu = 127 ∨ pd = 0 ∨ pd = 127) := by omega
  have htrained : phyTrained (zqLeft s c) c = false := (phyTrained_of_regs zqLeft_regs c).trans htrained
  unfold opZqDone
  rw [if_neg (not_not.2 hhead)]
  extract_lets p ended left open_ shown off bad
  have hshown : shown = zqLeft s c := if_neg hopen
  clear_value bad
  clear_value off
  clear_value shown
  subst hshown
  rw [if_neg (by simp [hm, hn]), if_pos (by simp [htrained]), if_neg hopen]
  exact if_neg hopen

/-- The end of an impedance calibration: the channel leaves the queue, and the stores stand. -/
theorem opZqDone_shelf (hc : c < 16) (pu pd : Nat) : (opZqDone s c pu pd).shelf = { s.shelf with zqQ := s.zqQ.tail } := by
  unfold opZqDone
  rw [if_neg (not_not.2 hhead)]
  extract_lets p ended left open_ shown off bad
  have hshown : shown.vault c = (zqLeft s c).vault c := by
    simp only [shown]
    split <;> rfl
  have hfences : Fences shown := (zqLeft_fences hs).of_shelf (shelf_of_vault hshown)
  clear_value bad
  clear_value off
  clear_value shown
  refine (shelf_of_vault (c := c) ?_).trans ((shelf_of_vault hshown).trans zqLeft_shelf)
  split
  · rfl
  · split
    · dsimp only
      split <;> simp
    · split
      · rw [switchTseq_vault _ hc, calReject_vault c hfences]
      · rw [switchTseq_vault _ hc, calAccept_vault]

end

end Sys2Proof.Machine

end

/-! SUPPORT. The statement about the tap size and impedance. -/

section

open Sys2Proof Sys2Proof.Machine

/-- Settles O33: the words that a pass's end may write are listed, and the tap size, the impedance codes and the count of
rejections are none of them; the rest is the vault, which the PHY leaves alone. -/
theorem tapSizeAndImpedance : Obligations.TapSizeAndImpedance := by
  intro c s hw hm hf hgen
  have hr := State.wf_regs_rising hw
  have hfences := Fences.of_serving hm hf
  have hreset : s.mode ≠ .reset := by
    rcases hm with hm | hm <;> simp [hm]
  refine ⟨fun size => ⟨opTapSize s c size.toNat, rfl, ?_⟩, fun hperiod hout => ⟨opZqDue s c, rfl, ?_⟩,
    fun pu pd hhead => ⟨opZqDone s c pu.toNat pd.toNat, rfl, ?_⟩, fun pu pd hhead => ?_⟩
  · have hvault := opTapSize_vault hm hf hgen c.isLt (size := size.toNat)
    have hshelf := shelf_of_vault hvault
    refine ⟨dataKept_of_shelf hshelf, fun hgood => ?_, opTapSize_rejects hm hf hgen c.isLt hr⟩
    obtain ⟨hsize, htaps⟩ := opTapSize_shows hm hf hgen c.isLt hr hgood
    exact ⟨hsize, htaps, congrArg Shelf.ledger hshelf, otherChannels_of_vault hvault⟩
  · rw [opZqDue_joins hreset hperiod hgen hout]
    have hshelf := zqServe_shelf { s with zqQ := s.zqQ ++ [c.val] }
    exact ⟨congrArg Shelf.zqQ hshelf, zqServe_regs _, congrArg Shelf.ledger hshelf,
      dataKept_of_shelf (s := { s with zqQ := s.zqQ ++ [c.val] }) hshelf⟩
  · have hshelf := opZqDone_shelf hfences hhead c.isLt pu.toNat pd.toNat
    refine ⟨congrArg Shelf.zqQ hshelf, dataKept_of_shelf (s := { s with zqQ := s.zqQ.tail }) hshelf,
      fun htrained hpu hpu' hpd hpd' => ?_⟩
    rw [opZqDone_untrained hfences hhead htrained ⟨hpu, hpu'⟩ ⟨hpd, hpd'⟩]
    have hleft : kRising (zqLeft s c).regs = true := by rwa [zqLeft_regs]
    obtain ⟨hpu, hpd⟩ := zqTaken_words (c := c) hleft hpu' hpd'
    have hwords := calAccept_touches (c := c) (zqTaken (zqLeft s c) c pu.toNat pd.toNat) 1 []
    have hkept := not_mem_passWords c.isLt (.inr (.inl rfl))
    exact ⟨(hwords.fld (f := Fld.phyZqPu) hkept).trans hpu, (hwords.fld (f := Fld.phyZqPd) hkept).trans hpd⟩
  · have hstays : opZqDone s c pu.toNat pd.toNat = s := if_pos hhead
    exact congrArg (fun t => Host.Outcome.next (settle t)) hstays

end

/-! SUPPORT. What an immediate fence leaves of a channel's PHY and of the lines of DRAM (R474 to R478). One projection,
`State.phySight`, carries it, so that each function on the way needs one frame lemma. -/

section

namespace Sys2Proof.Machine

/-! ### Parts of a table -/

section
variable {β : Type} (p : Nat → Bool) {m : KMap β} {k : Nat}

/-- A table cut to the keys that satisfy `p` reads as before at those, and as unlisted at the others. -/
theorem kFind_filter (m : KMap β) (k : Nat) : kFind (m.filter (fun e => p e.1)) k = if p k then kFind m k else none := by
  induction m with
  | nil => simp [kFind]
  | cons x m ih =>
    by_cases hk : x.1 = k
    · subst hk
      cases hx : p x.1 <;> simp [kFind, hx, ih]
    · cases hx : p x.1 <;> simp [kFind, hx, hk, ih]

variable {p}

/-- A write at another key leaves the part as it is. -/
theorem filter_kSet_other [DecidableEq β] (hk : p k = false) (d : β) (m : KMap β) (v : β) :
    (kSet d m k v).filter (fun e => p e.1) = m.filter (fun e => p e.1) := by
  unfold kSet
  split
  · induction m with
    | nil => rfl
    | cons x m ih =>
      unfold kErase
      split
      · next hx => rw [List.filter_cons_of_neg (by simp [hx, hk])]
      · simp only [List.filter_cons, ih]
  · induction m with
    | nil => simp [kPut, hk]
    | cons x m ih =>
      unfold kPut
      split
      · rw [List.filter_cons_of_neg (by simp [hk])]
      · split
        · next hx => rw [List.filter_cons_of_neg (by simp [hk]), List.filter_cons_of_neg (by simp [← hx, hk])]
        · simp only [List.filter_cons, ih]

/-- The erased key is gone where the part with it rises. -/
theorem kFind_kErase_part (hk : p k = true) (hm : kRising (m.filter (fun e => p e.1)) = true) :
    kFind (kErase m k) k = none := by
  have hpart : (kErase m k).filter (fun e => p e.1) = kErase (m.filter (fun e => p e.1)) k := by
    clear hm
    induction m with
    | nil => rfl
    | cons x m ih =>
      by_cases hx : x.1 = k
      · rw [List.filter_cons_of_pos (by simp [hx, hk])]
        simp [kErase, hx]
      · by_cases hp : p x.1 = true
        · simp [kErase, hx, hp, ih]
        · simp [kErase, hx, hp, ih]
  have hread := kFind_filter p (kErase m k) k
  rw [if_pos hk, hpart, kFind_kErase ((kRising_iff _).1 hm), if_pos rfl] at hread
  exact hread.symm

end

/-! ### The words of the PHY -/

/-- Offsets of the PHY's, the training's and the calibration's registers: from 0x400 up in a channel's row. -/
def phyWord (o : Nat) : Bool := decide (0x10000 ≤ o) && decide (0x400 ≤ o % 0x1000)

theorem phyWord_iff (o : Nat) : phyWord o = true ↔ 0x10000 ≤ o ∧ 0x400 ≤ o % 0x1000 := by
  simp [phyWord]

/-- A register that repeats in every channel's row stands in one part of every row. -/
theorem phyWord_at {r : RegDef} (hstride : r.s1 = 0x1000) (hbase : 0x10000 ≤ r.base) (c : Nat) :
    phyWord (r.at c) = decide (0x400 ≤ r.base % 0x1000) := by
  have hat : r.at c = r.base + c * 0x1000 := by simp [RegDef.at, hstride]
  have hle : 0x10000 ≤ r.at c := by omega
  have hmod : r.at c % 0x1000 = r.base % 0x1000 := by omega
  simp [phyWord, hle, hmod]

/-- The listed words of the PHY, the lines of DRAM, and each channel's run of bad readings of VDDQ (R315). -/
structure PhySight where
  regs : KMap Word
  dram : KMap Line
  vddqBad : ChanId → Nat

/-- The part of a state that an immediate fence leaves alone. -/
def State.phySight (s : State) : PhySight :=
  { regs := s.regs.filter (fun e => phyWord e.1), dram := s.dram, vddqBad := fun d => s.chs[d].vddqBad }

section
variable {s t : State} {o : Nat}

theorem rd_of_phySight (h : t.phySight = s.phySight) (ho : phyWord o = true) : t.rd o = s.rd o := by
  have hregs : t.regs.filter (fun e => phyWord e.1) = s.regs.filter (fun e => phyWord e.1) := congrArg PhySight.regs h
  have hread (u : State) : kFind u.regs o = kFind (u.regs.filter (fun e => phyWord e.1)) o := by
    rw [kFind_filter, if_pos ho]
  rw [State.rd, State.rd, kGet, kGet, hread, hregs, ← hread]

/-- A word of the PHY reads what is written to it, where the PHY's words rise. -/
theorem rd_wr_phyWord (hr : kRising (s.regs.filter (fun e => phyWord e.1)) = true) (ho : phyWord o = true) (w : Word) :
    (s.wr o w).rd o = w := by
  unfold State.wr State.rd kSet kGet
  dsimp only
  split
  · next hw => rw [kFind_kErase_part ho hr, hw, Option.getD_none]
  · rw [kFind_kPut, if_pos rfl, Option.getD_some]

theorem phyWords_rising (hr : kRising s.regs = true) (h : t.phySight = s.phySight) :
    kRising (t.regs.filter (fun e => phyWord e.1)) = true := by
  rw [show t.regs.filter _ = _ from congrArg PhySight.regs h]
  exact kRising_sublist List.filter_sublist hr

end

section
variable (s : State)

/-- The updates that a fence makes of other fields. -/
@[simp] theorem State.update_phySight (evq : EvQueue) (flt : FaultNet) (ports : Vector Port 8) (ctxs : KMap Ctx)
    (ledger : List LEntry) (caches : Vector (List CachedSet) 16) (fetches : List TagFetch) (allocs : List Alloc)
    (drain : KMap Nat) (retiring : List (Nat × Nat × Nat × Nat)) (media : Media) (flash : Flash) (life : KMap Nat)
    (out : List Out) :
    State.phySight { s with
      evq := evq, flt := flt, ports := ports, ctxs := ctxs, ledger := ledger, caches := caches, fetches := fetches,
      allocs := allocs, drain := drain, retiring := retiring, media := media, flash := flash, life := life, out := out }
      = s.phySight := rfl

@[simp] theorem foldl_phySight {α : Type} (f : State → α → State) (l : List α) (s : State)
    (h : ∀ u a, (f u a).phySight = u.phySight) : (l.foldl f s).phySight = s.phySight := foldl_frame State.phySight f l s h

@[simp] theorem ite_phySight (c : Prop) [Decidable c] (s t : State) :
    (if c then s else t).phySight = if c then s.phySight else t.phySight := apply_ite ..

/-! ### The basic updates -/

theorem State.wr_phySight {o : Nat} (h : phyWord o = false) (w : Word) : (s.wr o w).phySight = s.phySight := by
  unfold State.phySight
  rw [show (s.wr o w).regs.filter _ = _ from filter_kSet_other h (resetWord o) s.regs w, State.wr_dram, State.wr_chs]

/-- The registers of a channel's controller. -/
theorem State.wrCh_phySight {r : RegDef} (hs : r.s1 = 0x1000) (hb : 0x10000 ≤ r.base) (hl : r.base % 0x1000 < 0x400) (c : Nat)
    (w : Word) : (s.wr (r.at c) w).phySight = s.phySight :=
  s.wr_phySight (by simpa [phyWord_at hs hb] using hl) w

@[simp] theorem State.countDead_phySight (n c : Nat) : (s.count Reg.chCntDead n c).phySight = s.phySight :=
  s.wrCh_phySight rfl (by decide) (by decide) c _

@[simp] theorem State.countFence_phySight (n c : Nat) : (s.count Reg.chCntFence n c).phySight = s.phySight :=
  s.wrCh_phySight rfl (by decide) (by decide) c _

@[simp] theorem State.setFlagCh_phySight {f : Fld} (hs : f.reg.s1 = 0x1000) (hb : 0x10000 ≤ f.reg.base)
    (hl : f.reg.base % 0x1000 < 0x400) (b : Bool) (c : Nat) : (s.setFlag f b c).phySight = s.phySight :=
  s.wrCh_phySight hs hb hl c _

@[simp] theorem State.countPort_phySight {r : RegDef} (h : ∀ p : PortId, phyWord (r.at p.val) = false) (n : Nat)
    (p : PortId) : (s.count r n p.val).phySight = s.phySight := s.wr_phySight (h p) _

@[simp] theorem State.count64Port_phySight {lo hi : RegDef} (hl : ∀ p : PortId, phyWord (lo.at p.val) = false)
    (hh : ∀ p : PortId, phyWord (hi.at p.val) = false) (n : Nat) (p : PortId) :
    (s.count64 lo hi n p.val).phySight = s.phySight :=
  (State.wr_phySight _ (hh p) _).trans (s.wr_phySight (hl p) _)

@[simp] theorem State.setFldPort_phySight {f : Fld} (h : ∀ p : PortId, phyWord (f.reg.at p.val) = false) (v : Nat)
    (p : PortId) : (s.setFld f v p.val).phySight = s.phySight := s.wr_phySight (h p) _

@[simp] theorem State.event_phySight (a b c : Nat) (x y : Word) : (s.event a b c x y).phySight = s.phySight := rfl
@[simp] theorem State.info_phySight (a b : Nat) (x y : Word) : (s.info a b x y).phySight = s.phySight := rfl
@[simp] theorem State.report_phySight (n : Nat) (o : Option Nat) : (s.report n o).phySight = s.phySight := rfl
@[simp] theorem State.modPort_phySight (p : PortId) (f : Port → Port) : (s.modPort p f).phySight = s.phySight := rfl
@[simp] theorem State.modCtx_phySight (c : Nat) (f : Ctx → Ctx) : (s.modCtx c f).phySight = s.phySight := rfl
@[simp] theorem State.drive_phySight (o : Out) : (s.drive o).phySight = s.phySight := rfl

/-- A change of a channel that leaves its run of bad readings. -/
@[simp] theorem State.modCh_phySight (c : ChanId) {f : Channel → Channel} (h : ∀ q, (f q).vddqBad = q.vddqBad) :
    (s.modCh c f).phySight = s.phySight := by
  have hbad : (fun d : ChanId => (s.modCh c f).chs[d].vddqBad) = fun d => s.chs[d].vddqBad := funext fun d => by
    by_cases hd : d = c
    · rw [hd, State.modCh_self, h]
    · rw [State.modCh_other _ _ _ _ hd]
  unfold State.phySight
  rw [hbad]
  rfl

end

/-! ### Entries, accesses and offers -/

@[simp] theorem modEntry_phySight (s : State) (i : Nat) (f : LEntry → LEntry) : (modEntry s i f).phySight = s.phySight := rfl

@[simp] theorem dropEntries_phySight (s : State) (p : LEntry → Bool) : (dropEntries s p).phySight = s.phySight := by
  simp [dropEntries]

@[simp] theorem withdrawJob_phySight (s : State) (c id : Nat) : (withdrawJob s c id).phySight = s.phySight := by
  simp [withdrawJob, endJob]

@[simp] theorem endOffer_phySight (s : State) (id : Nat) (done : Bool) : (endOffer s id done).phySight = s.phySight := by
  simp [endOffer, freeOfferEntries]

@[simp] theorem dropAccesses_phySight (s : State) (c : Nat) (all : Bool) : (dropAccesses s c all).phySight = s.phySight := by
  simp [dropAccesses]

/-! ### Requests that fail (R33 to R45) -/

@[simp] theorem returnData_phySight (s : State) (p : PortId) (n : Nat) : (returnData s p n).phySight = s.phySight := rfl

@[simp] theorem returnHdr_phySight (s : State) (p : PortId) : (returnHdr s p).phySight = s.phySight := rfl

@[simp] theorem freeStaging_phySight (s : State) (e : LEntry) : (freeStaging s e).phySight = s.phySight := by
  simp [freeStaging]

@[simp] theorem releaseEntry_phySight (s : State) (e : LEntry) : (releaseEntry s e).phySight = s.phySight := by
  unfold releaseEntry
  split <;> simp

@[simp] theorem settlePort_phySight (s : State) (p : PortId) : (settlePort s p).phySight = s.phySight := by
  simp [settlePort]

@[simp] theorem finishTag_phySight (s : State) (p : PortId) (c : Completion) (late : Nat) :
    (finishTag s p c late).phySight = s.phySight := by
  unfold finishTag
  extract_lets
  split <;> simp +zetaDelta (disch := decide)

@[simp] theorem sendOne_phySight (s : State) (p : PortId) (c : Completion) : (sendOne s p c).phySight = s.phySight := by
  simp (disch := decide) [sendOne]

@[simp] theorem drainTx_phySight (n : Nat) (s : State) (p : PortId) : (drainTx n s p).phySight = s.phySight := by
  induction n generalizing s with
  | zero => rfl
  | succ n ih =>
    unfold drainTx
    split
    · rfl
    · simp [ih]

@[simp] theorem finishReq_phySight (s : State) (p : PortId) (rid : Nat) (op : BitVec 8) (st : Nat) (x : BitVec 64) :
    (finishReq s p rid op st x).phySight = s.phySight := by
  unfold finishReq
  split <;> simp [pushTx, modReq]

@[simp] theorem failReq_phySight (s : State) (p : PortId) (rid st : Nat) : (failReq s p rid st).phySight = s.phySight := by
  unfold failReq
  split <;> simp [releaseRequest]

/-! ### Fences (R474 to R478) -/

@[simp] theorem stopOffer_phySight (s : State) (o : Offer) : (stopOffer s o).phySight = s.phySight := by
  unfold stopOffer
  split <;> simp

@[simp] theorem stopEntry_phySight (s : State) (e : LEntry) : (stopEntry s e).phySight = s.phySight := by
  unfold stopEntry
  extract_lets p
  split
  · rfl
  · extract_lets sent
    split <;> simp

@[simp] theorem stopWork_phySight (s : State) (c : Nat) : (stopWork s c).phySight = s.phySight := by
  simp [stopWork]

@[simp] theorem queueLog_phySight (s : State) (kind : Nat) (body : List Nat) :
    (queueLog s kind body).phySight = s.phySight := by
  simp [queueLog]

@[simp] theorem lifeUp_phySight (s : State) (k n : Nat) : (lifeUp s k n).phySight = s.phySight := rfl

@[simp] theorem setChSt_phySight (s : State) (c : Nat) (st : ChSt) (why : Nat) :
    (setChSt s c st why).phySight = s.phySight := by
  simp [setChSt]

@[simp] theorem setFreeze_phySight (s : State) (c : Nat) (v : Bool) : (setFreeze s c v).phySight = s.phySight := by
  simp (disch := decide) [setFreeze]

/-- A channel's work is stopped and the channel closed, as an immediate fence does it (R475, R478). -/
def fenceClosed (s : State) (c why : Nat) : State :=
  let unclean := s.heldMode.tieredLike && !tierClean s
  let s := if (s.ch c).st = .fencing then s else queueLog s LogKind.journal [Jr.opened, c]
  let s := stopWork (lifeUp (s.count Reg.chCntFence 1 c) 5) c
  (setChSt (setFreeze s c true) c .fenced why).modCh (chan c) (fun q => { q with
    trained := false, unclean := unclean, fencePend := 0, walker := none, freq := .none, freqNext := none, book := [],
    sr := if q.sr = .entering then .active else q.sr, srWhy := if q.sr = .entering then .none else q.srWhy })

/-- An immediate fence closes its channel and then lets its ways, its drain walker and its share of the tag cache go; a
channel that is out of service already stays as it is. -/
theorem immediateFence_cases (s : State) (c why : Nat) :
    (∃ evq retiring drain caches, immediateFence s c why
        = { fenceClosed s c why with evq := evq, retiring := retiring, drain := drain, caches := caches })
      ∨ (s.ch c).st ≠ .online ∧ immediateFence s c why = s := by
  unfold immediateFence
  split
  case h_4 h _ _ => exact .inr ⟨h, rfl⟩
  all_goals
    left
    extract_lets unclean logged counted stopped frozen fenced closed kept
    change ∃ evq retiring drain caches, _ = { closed with evq := evq, retiring := retiring, drain := drain, caches := caches }
    clear_value closed
    split
    · exact ⟨_, _, _, _, rfl⟩
    · exact ⟨_, _, _, _, rfl⟩

@[simp] theorem fenceClosed_phySight (s : State) (c why : Nat) : (fenceClosed s c why).phySight = s.phySight := by
  simp [fenceClosed]

@[simp] theorem immediateFence_phySight (s : State) (c why : Nat) : (immediateFence s c why).phySight = s.phySight := by
  have hclosed := fenceClosed_phySight s c why
  rcases immediateFence_cases s c why with ⟨evq, retiring, drain, caches, h⟩ | ⟨-, h⟩
  · rw [h]
    generalize fenceClosed s c why = closed at hclosed ⊢
    exact hclosed
  · rw [h]

@[simp] theorem planRetrain_phySight (s : State) (c : Nat) : (planRetrain s c).phySight = s.phySight := by
  simp [planRetrain]

@[simp] theorem faultFence_phySight (s : State) (c : Nat) : (faultFence s c false).phySight = s.phySight := by
  simp [faultFence]

@[simp] theorem phyFault_phySight (s : State) (c bit : Nat) : (phyFault s c bit).phySight = s.phySight := by
  simp [phyFault]

/-! ### The state of the channel -/

theorem setChSt_ch (s : State) (c : Nat) (st : ChSt) (why : Nat) :
    (setChSt s c st why).ch c = { s.ch c with st := st } := by
  unfold setChSt
  dsimp only
  split
  · next h => rw [← h]
  · rw [State.info_ch, State.modCh_ch]

/-- An immediate fence of a channel that is ONLINE ends in FENCED (R478). -/
theorem immediateFence_st {s : State} {c : Nat} (h : (s.ch c).st = .online) (why : Nat) :
    ((immediateFence s c why).ch c).st = .fenced := by
  have hclosed : ((fenceClosed s c why).ch c).st = .fenced := by
    simp only [fenceClosed, State.modCh_ch, setChSt_ch]
  rcases immediateFence_cases s c why with ⟨evq, retiring, drain, caches, heq⟩ | ⟨hout, -⟩
  · rw [heq]
    generalize fenceClosed s c why = closed at hclosed ⊢
    exact hclosed
  · exact absurd h hout

theorem planRetrain_st (s : State) (c : Nat) : ((planRetrain s c).ch c).st = (s.ch c).st := by
  unfold planRetrain
  split
  · rw [State.modCh_ch]
  · rfl

theorem faultFence_st {s : State} {c : Nat} (hs : Fences s) (h : (s.ch c).st = .online) :
    ((faultFence s c false).ch c).st = .fenced := by
  rw [faultFence_of_fences c hs, if_neg Bool.false_ne_true, planRetrain_st]
  exact immediateFence_st h _

end Sys2Proof.Machine

end

/-! SUPPORT. VDDQ (R313 to R315, R345, R356) and faults at a channel's balls (R335, R474), and the statement about them. -/

section

namespace Sys2Proof.Machine

theorem State.setFld_ch (s : State) (f : Fld) (v i k c : Nat) : (s.setFld f v i k).ch c = s.ch c :=
  congrArg (fun chs => chs[chan c]) (State.setFld_chs s f v i k)

theorem State.setFlag_ch (s : State) (f : Fld) (b : Bool) (i k c : Nat) : (s.setFlag f b i k).ch c = s.ch c :=
  congrArg (fun chs => chs[chan c]) (State.setFlag_chs s f b i k)

theorem State.event_ch (s : State) (a b n : Nat) (x y : Word) (c : Nat) : (s.event a b n x y).ch c = s.ch c :=
  congrArg (fun chs => chs[chan c]) (State.event_chs s a b n x y)

/-- A training that is over, or abandoned, is out of the channel's state. -/
theorem endTraining_ch (s : State) (c : Nat) (x : TrnSt) :
    (endTraining s c x).ch c = { s.ch c with trn := x, trnTarget := none } := by
  rw [endTraining, State.modCh_ch, showTraining, State.setFld_ch, State.setFlag_ch, State.setFld_ch]

theorem phyTrained_congr {s t : State} {c : Nat} (hvalid : t.fld Fld.trimValidValid c = s.fld Fld.trimValidValid c)
    (hdrv : t.flag Fld.phyStatusDrvOn c = s.flag Fld.phyStatusDrvOn c) : phyTrained t c = phyTrained s c := by
  rw [phyTrained, phyTrained, hvalid, hdrv]

theorem phyFault_ch (s : State) (c bit : Nat) :
    (phyFault s c bit).ch c = { s.ch c with phyCause := (s.ch c).phyCause ||| (1#8 <<< bit) } := by
  have h : (phyFault s c bit).ch c
      = (s.modCh (chan c) (fun q => { q with phyCause := q.phyCause ||| (1#8 <<< bit) })).ch c := rfl
  rw [h, State.modCh_ch]

theorem phyFault_st (s : State) (c bit : Nat) : ((phyFault s c bit).ch c).st = (s.ch c).st := by
  rw [phyFault_ch]

theorem markPasses_ch (s : State) (c why : Nat) : (markPasses s c why).ch c = { s.ch c with
    passes := (s.ch c).passes.map (fun p => { p with why := if p.why = 0 then why else min p.why why }) } := State.modCh_ch ..

/-! ### Readings of VDDQ (R313, R315) -/

section
variable {s : State} {c mv : Nat}

/-- A reading as it is shown. -/
def vddqShown (s : State) (c mv : Nat) : State :=
  (s.setFld Fld.phyVddqMv mv c).setFlag Fld.phyStatusVddqOk (vddqIn (s.fld Fld.phyPopGen c) mv) c

/-- A reading out of range. -/
def vddqMissed (s : State) (c mv : Nat) : State :=
  markPasses ((vddqShown s c mv).modCh (chan c) (fun q => { q with vddqBad := q.vddqBad + 1 })) c 6

/-- The readings out of range have become the channel's fault (R315, R474). -/
def vddqFault (s : State) (c mv : Nat) : State :=
  phyFault ((s.count Reg.phyCntVddq 1 c).event Prio.contained Ev.phyVddq (Src.chan c) (dw (c % 16)) (dw mv)) c 0

theorem opVddq_eq (hr : kRising s.regs = true) (hm : s.mode ≠ .reset) (hmv : mv < 4096) : opVddq s c mv =
    if vddqIn (s.fld Fld.phyPopGen c) mv then
      let u := (vddqShown s c mv).modCh (chan c) (fun q => { q with vddqBad := 0, phyCause := q.phyCause &&& 0xFE#8 })
      if (u.ch c).phyCause = 0 then causeEnds u (42 + c) else u
    else
      let u := vddqMissed s c mv
      if decide (2 ≤ (u.ch c).vddqBad) && !(u.ch c).phyCause.getLsbD 0 && phyTrained u c then
        faultFence (vddqFault u c mv) c false
      else u := by
  have hgen : (s.setFld Fld.phyVddqMv mv c).fld Fld.phyPopGen c = s.fld Fld.phyPopGen c :=
    State.fld_setFld_other s hr _ _ _ _ _ _ _ (RegDef.at_ne (r := Reg.phyVddq) (r' := Reg.phyPop) rfl (by decide) c)
  have hread : (s.setFld Fld.phyVddqMv mv c).fld Fld.phyVddqMv c = mv :=
    (State.fld_setFld s hr Fld.phyVddqMv mv c 0 (by decide)).trans (Nat.mod_eq_of_lt hmv)
  have hok : vddqOk (s.setFld Fld.phyVddqMv mv c) c = vddqIn (s.fld Fld.phyPopGen c) mv := by
    rw [vddqOk, hgen, hread]
  unfold opVddq
  rw [if_neg hm]
  dsimp only
  rw [hok]
  rfl

/-- What a reading shows, it shows whatever follows from it. -/
theorem opVddq_rd (hr : kRising s.regs = true) (hm : s.mode ≠ .reset) (hmv : mv < 4096) {o : Nat} (ho : phyWord o = true)
    (hcount : Reg.phyCntVddq.at c ≠ o) : (opVddq s c mv).rd o = (vddqShown s c mv).rd o := by
  rw [opVddq_eq hr hm hmv]
  split
  · extract_lets u
    split
    · obtain ⟨f, hf⟩ := causeEnds_eq u (42 + c)
      rw [hf]
      rfl
    · rfl
  · extract_lets u
    split
    · have hsight : (faultFence (vddqFault u c mv) c false).phySight = (u.count Reg.phyCntVddq 1 c).phySight := by
        simp [vddqFault]
      exact (rd_of_phySight hsight ho).trans (State.rd_count_other u hcount 1)
    · rfl

theorem vddqShown_rising (hr : kRising s.regs = true) : kRising (vddqShown s c mv).regs = true := by
  have hread : kRising (s.setFld Fld.phyVddqMv mv c).regs = true := State.setFld_rising s hr ..
  unfold vddqShown
  generalize s.setFld Fld.phyVddqMv mv c = read at hread ⊢
  exact State.setFlag_rising hread ..

theorem vddqShown_words (hr : kRising s.regs = true) (hmv : mv < 4096) :
    (vddqShown s c mv).fld Fld.phyVddqMv c = mv
      ∧ (vddqShown s c mv).flag Fld.phyStatusVddqOk c = vddqIn (s.fld Fld.phyPopGen c) mv := by
  have hr' := State.setFld_rising s hr Fld.phyVddqMv mv c 0
  refine ⟨?_, State.flag_setFlag hr' Fld.phyStatusVddqOk rfl (by decide)⟩
  refine (State.fld_setFld_other _ hr' _ _ _ _ _ _ _ ?_).trans ?_
  · exact RegDef.at_ne (r := Reg.phyStatus) (r' := Reg.phyVddq) rfl (by decide) c
  · exact (State.fld_setFld s hr Fld.phyVddqMv mv c 0 (by decide)).trans (Nat.mod_eq_of_lt hmv)

theorem opVddq_words (hr : kRising s.regs = true) (hm : s.mode ≠ .reset) (hmv : mv < 4096) :
    (opVddq s c mv).fld Fld.phyVddqMv c = mv
      ∧ (opVddq s c mv).flag Fld.phyStatusVddqOk c = vddqIn (s.fld Fld.phyPopGen c) mv := by
  obtain ⟨hread, hok⟩ := vddqShown_words (c := c) hr hmv
  have hvddq : phyWord (Reg.phyVddq.at c) = true := (phyWord_at rfl (by decide) c).trans (by decide)
  have hstatus : phyWord (Reg.phyStatus.at c) = true := (phyWord_at rfl (by decide) c).trans (by decide)
  have hne := RegDef.at_ne (r := Reg.phyCntVddq) (r' := Reg.phyVddq) rfl (by decide) c
  have hne' := RegDef.at_ne (r := Reg.phyCntVddq) (r' := Reg.phyStatus) rfl (by decide) c
  exact ⟨(State.fld_congr (f := Fld.phyVddqMv) (opVddq_rd hr hm hmv hvddq hne)).trans hread,
    (State.flag_congr (f := Fld.phyStatusVddqOk) (opVddq_rd hr hm hmv hstatus hne')).trans hok⟩

/-- A reading in range ends the run of bad ones (R315). -/
theorem opVddq_in (hr : kRising s.regs = true) (hm : s.mode ≠ .reset) (hmv : mv < 4096)
    (h : vddqIn (s.fld Fld.phyPopGen c) mv = true) : ((opVddq s c mv).ch c).vddqBad = 0
      ∧ ((opVddq s c mv).ch c).st = (s.ch c).st ∧ (opVddq s c mv).ledger = s.ledger := by
  rw [opVddq_eq hr hm hmv, if_pos h]
  extract_lets u
  have hbad : (u.ch c).vddqBad = 0 := by simp only [u, State.modCh_ch]
  have hst : (u.ch c).st = (s.ch c).st := by
    simp only [u, State.modCh_ch]
    rfl
  have hledger : u.ledger = s.ledger := rfl
  split
  · obtain ⟨f, hf⟩ := causeEnds_eq u (42 + c)
    rw [hf]
    exact ⟨hbad, hst, hledger⟩
  · exact ⟨hbad, hst, hledger⟩

theorem vddqMissed_ch (s : State) (c mv : Nat) : ((vddqMissed s c mv).ch c).vddqBad = (s.ch c).vddqBad + 1
    ∧ ((vddqMissed s c mv).ch c).phyCause = (s.ch c).phyCause ∧ ((vddqMissed s c mv).ch c).st = (s.ch c).st := by
  unfold vddqMissed
  rw [markPasses_ch, State.modCh_ch]
  exact ⟨rfl, rfl, rfl⟩

theorem vddqMissed_regs : (vddqMissed s c mv).regs = (vddqShown s c mv).regs := rfl

/-- A reading out of range joins the run, and the first of a run does no more (R315). -/
theorem opVddq_out (hr : kRising s.regs = true) (hm : s.mode ≠ .reset) (hmv : mv < 4096)
    (h : vddqIn (s.fld Fld.phyPopGen c) mv = false) : ((opVddq s c mv).ch c).vddqBad = (s.ch c).vddqBad + 1
      ∧ ((s.ch c).vddqBad = 0 → ((opVddq s c mv).ch c).st = (s.ch c).st ∧ (opVddq s c mv).ledger = s.ledger) := by
  obtain ⟨hbad, -, hst⟩ := vddqMissed_ch s c mv
  have hledger : (vddqMissed s c mv).ledger = s.ledger := rfl
  rw [opVddq_eq hr hm hmv, if_neg (by simp [h])]
  dsimp only
  generalize vddqMissed s c mv = u at hbad hst hledger ⊢
  split
  · next hfault =>
    have hsight : (faultFence (vddqFault u c mv) c false).phySight = (vddqFault u c mv).phySight := faultFence_phySight ..
    have hrun : ((vddqFault u c mv).ch c).vddqBad = (u.ch c).vddqBad := by
      rw [vddqFault, phyFault_ch]
      rfl
    refine ⟨((congrArg (fun x => x.vddqBad (chan c)) hsight).trans hrun).trans hbad, fun hfirst => ?_⟩
    simp only [Bool.and_eq_true, decide_eq_true_eq] at hfault
    omega
  · exact ⟨hbad, fun _ => ⟨hst, hledger⟩⟩

theorem vddqMissed_trained (hr : kRising s.regs = true) : phyTrained (vddqMissed s c mv) c = phyTrained s c := by
  have hr' := State.setFld_rising s hr Fld.phyVddqMv mv c 0
  have hne := RegDef.at_ne (r := Reg.phyVddq) (r' := Reg.trimValid) rfl (by decide) c
  have hne' := RegDef.at_ne (r := Reg.phyStatus) (r' := Reg.trimValid) rfl (by decide) c
  have hdrv := RegDef.at_ne (r := Reg.phyVddq) (r' := Reg.phyStatus) rfl (by decide) c
  have hshown : phyTrained (vddqShown s c mv) c = phyTrained s c := by
    refine phyTrained_congr (State.fld_congr ((State.rd_wr_other hne' _).trans (State.rd_wr_other hne _))) ?_
    refine (State.flag_setFlag_beside hr' Fld.phyStatusVddqOk Fld.phyStatusDrvOn rfl (by decide) (by decide)).trans ?_
    exact State.flag_congr (State.rd_wr_other hdrv _)
  exact (phyTrained_of_regs vddqMissed_regs c).trans hshown

theorem vddqFault_vault : (vddqFault s c mv).vault c = s.vault c := by
  simp [vddqFault]

theorem vddqMissed_vault : (vddqMissed s c mv).vault c = s.vault c := by
  simp [vddqMissed, vddqShown]

/-- The second reading out of range fences a trained channel (R315, R474). -/
theorem opVddq_fences (hr : kRising s.regs = true) (hm : s.mode ≠ .reset) (hmv : mv < 4096)
    (h : vddqIn (s.fld Fld.phyPopGen c) mv = false) (hs : Fences s) (hbad : 1 ≤ (s.ch c).vddqBad)
    (hcause : (s.ch c).phyCause.getLsbD 0 = false) (htrained : phyTrained s c = true) (hst : (s.ch c).st = .online) :
    ((opVddq s c mv).ch c).st = .fenced
      ∧ (opVddq s c mv).rd (Reg.phyCntVddq.at c) = satAdd32 (s.rd (Reg.phyCntVddq.at c)) 1 := by
  obtain ⟨hbad', hcause', hst'⟩ := vddqMissed_ch s c mv
  have hrising : kRising (vddqMissed s c mv).regs = true := by
    rw [vddqMissed_regs]
    exact vddqShown_rising hr
  have hcount : (vddqMissed s c mv).rd (Reg.phyCntVddq.at c) = s.rd (Reg.phyCntVddq.at c) := by
    have hne := RegDef.at_ne (r := Reg.phyVddq) (r' := Reg.phyCntVddq) rfl (by decide) c
    have hne' := RegDef.at_ne (r := Reg.phyStatus) (r' := Reg.phyCntVddq) rfl (by decide) c
    rw [State.rd, vddqMissed_regs]
    exact (State.rd_wr_other hne' _).trans (State.rd_wr_other hne _)
  have htrained' : phyTrained (vddqMissed s c mv) c = true := (vddqMissed_trained hr).trans htrained
  have hvault := vddqMissed_vault (s := s) (c := c) (mv := mv)
  rw [opVddq_eq hr hm hmv, if_neg (by simp [h])]
  dsimp only
  generalize vddqMissed s c mv = u at hbad' hcause' hst' hrising hcount htrained' hvault ⊢
  have hfault : 2 ≤ (u.ch c).vddqBad := by omega
  have hfences : Fences (vddqFault u c mv) := hs.of_shelf (shelf_of_vault (vddqFault_vault.trans hvault))
  have honline : ((vddqFault u c mv).ch c).st = .online := (phyFault_st ..).trans (hst'.trans hst)
  have hsight : (faultFence (vddqFault u c mv) c false).phySight = (u.count Reg.phyCntVddq 1 c).phySight := by
    simp [vddqFault]
  have hword : phyWord (Reg.phyCntVddq.at c) = true := (phyWord_at rfl (by decide) c).trans (by decide)
  rw [hcause', hcause, htrained', if_pos (by simp [hfault])]
  refine ⟨faultFence_st hfences honline, ?_⟩
  rw [rd_of_phySight hsight hword, State.rd_count u hrising, if_pos rfl, hcount]

end

/-! ### The wait for VDDQ (R314, R356, R488) -/

section
variable (s : State) (c : Nat)

/-- The words that the failure of a training in its preparation may write. -/
def prepWords (c : Nat) : List Nat :=
  [Reg.trnStatus.at c, Reg.chFreq.at c, Reg.chCntRetrainFail.at c, Reg.chRetrain.at c, Reg.tierGeom.at c]

/-- A training has failed, and a change of set point that waited for it is refused (R356). -/
def trainingFailed (s : State) (c sp phase : Nat) (lane : Bool) : State :=
  let s := (endTraining s c .idle).setFlag Fld.trnStatusFailed true c
  let s := s.event Prio.contained Ev.trnFail (Src.chan c) (dw (c % 16 + sp * 16 + phase * 256))
  let s := phyFault s c (if lane then 4 else 5)
  if s.flag Fld.chFreqBusy c then freqRefuse s c (s.ch c).freqTo 6 else s

/-- A channel leaves RETRAIN for FENCED with its failure counted (R489). -/
def retrainFailed (s : State) (c plan : Nat) : State :=
  let s := (s.count Reg.chCntRetrainFail 1 c).setFlag Fld.chRetrainCleanRun false c
  setChSt (s.modCh (chan c) (fun q => { q with trained := false, plan := plan })) c .fenced Why.flow

theorem failTraining_eq (sp phase : Nat) (lane : Bool) : failTraining s c sp phase lane =
    let u := trainingFailed s c sp phase lane
    if (u.ch c).st = .retrain then
      retrainFailed u c (if lane && (u.count Reg.chCntRetrainFail 1 c |>.setFlag Fld.chRetrainCleanRun false c).flag
        Fld.svcPolicyAutoRetireCh then 3 else 0)
    else u.setFld Fld.tierGeomRanks 0 c := rfl

theorem trainingFailed_ch (sp phase : Nat) (lane : Bool) : ((trainingFailed s c sp phase lane).ch c).trn = .idle
    ∧ ((trainingFailed s c sp phase lane).ch c).st = (s.ch c).st := by
  unfold trainingFailed
  have hended : ((endTraining s c .idle).ch c).trn = .idle ∧ ((endTraining s c .idle).ch c).st = (s.ch c).st := by
    rw [endTraining_ch]
    exact ⟨rfl, rfl⟩
  generalize endTraining s c .idle = ended at hended ⊢
  extract_lets failed told faulted
  have hfaulted : (faulted.ch c).trn = .idle ∧ (faulted.ch c).st = (s.ch c).st := by
    simp only [faulted, told, failed, phyFault_ch, State.event_ch, State.setFlag_ch]
    exact hended
  clear_value faulted
  split
  · unfold freqRefuse
    extract_lets refused dropped
    rw [State.info_ch, State.modCh_ch, State.setFlag_ch, State.setFlag_ch]
    exact hfaulted
  · exact hfaulted

theorem endTraining_touches (x : TrnSt) : Touches s (endTraining s c x) [Reg.trnStatus.at c] :=
  (showTraining_touches s 0 false (s.fld Fld.trnStatusSetpoint c)).trans (.of_regs (State.modCh_regs ..))

theorem phyFault_regs (bit : Nat) : (phyFault s c bit).regs = s.regs := rfl

theorem trainingFailed_touches (sp phase : Nat) (lane : Bool) :
    Touches s (trainingFailed s c sp phase lane) [Reg.trnStatus.at c, Reg.chFreq.at c] := by
  have hended := endTraining_touches s c .idle
  unfold trainingFailed
  generalize endTraining s c .idle = ended at hended ⊢
  have hfailed : Touches s (ended.setFlag Fld.trnStatusFailed true c) [Reg.trnStatus.at c] :=
    hended.setFlag Fld.trnStatusFailed true List.mem_cons_self
  generalize ended.setFlag Fld.trnStatusFailed true c = failed at hfailed ⊢
  extract_lets _ told faulted
  have htold : Touches s told [Reg.trnStatus.at c] := hfailed.trans (.of_regs (State.event_regs ..))
  have hfaulted : Touches s faulted [Reg.trnStatus.at c, Reg.chFreq.at c] :=
    (htold.trans (.of_regs (phyFault_regs ..))).mono (by simp)
  clear_value faulted
  split
  · exact hfaulted.trans ((freqRefuse_touches faulted c _ 6).mono (by simp))
  · exact hfaulted

theorem retrainFailed_touches (plan : Nat) :
    Touches s (retrainFailed s c plan) [Reg.chCntRetrainFail.at c, Reg.chRetrain.at c] := by
  have hcounted : Touches s (s.count Reg.chCntRetrainFail 1 c) [Reg.chCntRetrainFail.at c, Reg.chRetrain.at c] :=
    (Touches.of_regs rfl).count _ _ List.mem_cons_self
  exact (hcounted.setFlag Fld.chRetrainCleanRun false (List.mem_cons_of_mem _ List.mem_cons_self)).trans
    (.of_regs (setChSt_regs ..))

theorem failPrep_touches : Touches s (failPrep s c) (prepWords c) := by
  have hfailed := (trainingFailed_touches s c (s.fld Fld.chFreqCurrent c) 0 false).mono
    (show _ ⊆ prepWords c by simp [prepWords])
  rw [failPrep, failTraining_eq]
  extract_lets u
  split
  · exact hfailed.trans ((retrainFailed_touches u c _).mono (by simp [prepWords]))
  · exact hfailed.setFld _ _ (by simp [prepWords, Fld.tierGeomRanks])

theorem retrainFailed_ch (plan : Nat) : ((retrainFailed s c plan).ch c).trn = (s.ch c).trn
    ∧ ((retrainFailed s c plan).ch c).st = .fenced := by
  rw [retrainFailed, setChSt_ch, State.modCh_ch]
  exact ⟨rfl, rfl⟩

variable {s c}

/-- A RETRAIN that fails in its preparation fences its channel (R489). -/
theorem failPrep_retrain (hr : kRising s.regs = true) (hst : (s.ch c).st = .retrain) :
    ((failPrep s c).ch c).trn = .idle ∧ ((failPrep s c).ch c).st = .fenced
      ∧ (failPrep s c).rd (Reg.chCntRetrainFail.at c) = satAdd32 (s.rd (Reg.chCntRetrainFail.at c)) 1 := by
  have hwords := trainingFailed_touches s c (s.fld Fld.chFreqCurrent c) 0 false
  obtain ⟨htrn, hst'⟩ := trainingFailed_ch s c (s.fld Fld.chFreqCurrent c) 0 false
  rw [failPrep, failTraining_eq]
  dsimp only
  rw [if_pos (hst'.trans hst)]
  generalize trainingFailed s c (s.fld Fld.chFreqCurrent c) 0 false = u at hwords htrn ⊢
  generalize (if false && _ then 3 else 0 : Nat) = plan
  obtain ⟨hidle, hfenced⟩ := retrainFailed_ch u c plan
  refine ⟨hidle.trans htrn, hfenced, ?_⟩
  have hcounted : (retrainFailed u c plan).rd (Reg.chCntRetrainFail.at c)
      = (u.count Reg.chCntRetrainFail 1 c).rd (Reg.chCntRetrainFail.at c) := by
    have hregs : (retrainFailed u c plan).regs
        = ((u.count Reg.chCntRetrainFail 1 c).setFlag Fld.chRetrainCleanRun false c).regs := setChSt_regs ..
    rw [State.rd, hregs]
    exact State.rd_wr_other (RegDef.at_ne (r := Reg.chRetrain) (r' := Reg.chCntRetrainFail) rfl (by decide) c) _
  rw [hcounted, State.rd_count u (hwords.rising hr), if_pos rfl, hwords.rd]
  simp [RegDef.at, Reg.chCntRetrainFail, Reg.trnStatus, Reg.chFreq]

/-- VDDQ is not in range when the wait expires (R314). -/
def vddqAbsent (s : State) (c : Nat) : State :=
  (s.setFlag Fld.phyPopVddqBad true c).info Ev.phyVddq (Src.chan c) (dw (c % 16))
    (dw ((s.setFlag Fld.phyPopVddqBad true c).fld Fld.phyVddqMv c))

theorem opVddqWait_out (htrn : (s.ch c).trn = .prep) (hgen : s.fld Fld.phyPopGen c ≠ 0) (h : vddqOk s c = false) :
    opVddqWait s c = if ((vddqAbsent s c).ch c).st = .retrain then failPrep (vddqAbsent s c) c
      else (endTraining (vddqAbsent s c) c .idle).setFld Fld.tierGeomRanks 0 c := by
  unfold opVddqWait
  rw [if_neg (by simp [htrn, hgen]), if_neg (by simp [h])]
  rfl

theorem vddqAbsent_touches : Touches s (vddqAbsent s c) [Reg.phyPop.at c] := by
  have hset : Touches s (s.setFlag Fld.phyPopVddqBad true c) [Reg.phyPop.at c] :=
    (Touches.of_regs rfl).setFlag _ _ List.mem_cons_self
  exact hset.trans (.of_regs (State.info_regs ..))

theorem vddqAbsent_flag (hr : kRising s.regs = true) : (vddqAbsent s c).flag Fld.phyPopVddqBad c = true := by
  have hregs : (vddqAbsent s c).regs = (s.setFlag Fld.phyPopVddqBad true c).regs := State.info_regs ..
  refine (State.flag_congr (f := Fld.phyPopVddqBad) ?_).trans (State.flag_setFlag hr Fld.phyPopVddqBad rfl (by decide))
  rw [State.rd, hregs, State.rd]

theorem vddqAbsent_vault : (vddqAbsent s c).vault c = s.vault c := State.info_vault ..

theorem vddqAbsent_ch : (vddqAbsent s c).ch c = s.ch c := State.info_ch ..

theorem phyPop_not_mem_prepWords (c : Nat) : Reg.phyPop.at c ∉ prepWords c := by
  simp [prepWords, RegDef.at, Reg.phyPop, Reg.trnStatus, Reg.chFreq, Reg.chCntRetrainFail, Reg.chRetrain, Reg.tierGeom]
  omega

/-- A wait that expires without VDDQ abandons the training, and the state shows why (R314). -/
theorem opVddqWait_bad (hr : kRising s.regs = true) (htrn : (s.ch c).trn = .prep) (hgen : s.fld Fld.phyPopGen c ≠ 0)
    (h : vddqOk s c = false) :
    (opVddqWait s c).flag Fld.phyPopVddqBad c = true ∧ (opVddqWait s c).vault c = s.vault c := by
  have hflag := vddqAbsent_flag (c := c) hr
  have hvault := vddqAbsent_vault (s := s) (c := c)
  rw [opVddqWait_out htrn hgen h]
  generalize vddqAbsent s c = u at hflag hvault ⊢
  split
  · have hfailed : (failPrep u c).vault c = u.vault c := failTraining_vault ..
    exact ⟨((failPrep_touches u c).flag (phyPop_not_mem_prepWords c)).trans hflag, hfailed.trans hvault⟩
  · have hwords := (endTraining_touches u c .idle).mono (show _ ⊆ prepWords c by simp [prepWords])
    have hended := endTraining_vault u c .idle
    generalize endTraining u c .idle = ended at hwords hended ⊢
    have hranks : Touches u (ended.setFld Fld.tierGeomRanks 0 c) (prepWords c) :=
      hwords.setFld _ _ (by simp [prepWords, Fld.tierGeomRanks])
    exact ⟨(hranks.flag (phyPop_not_mem_prepWords c)).trans hflag, (State.setFld_vault ..).trans (hended.trans hvault)⟩

/-- Outside RETRAIN such a channel is left without ranks (R314). -/
theorem opVddqWait_bring (hr : kRising s.regs = true) (htrn : (s.ch c).trn = .prep) (hgen : s.fld Fld.phyPopGen c ≠ 0)
    (h : vddqOk s c = false) (hst : (s.ch c).st ≠ .retrain) :
    ((opVddqWait s c).ch c).trn = .idle ∧ (opVddqWait s c).fld Fld.tierGeomRanks c = 0 := by
  rw [opVddqWait_out htrn hgen h, vddqAbsent_ch, if_neg hst]
  have hidle : ((endTraining (vddqAbsent s c) c .idle).ch c).trn = .idle := by rw [endTraining_ch]
  have hrising := (endTraining_touches (vddqAbsent s c) c .idle).rising (vddqAbsent_touches.rising hr)
  generalize endTraining (vddqAbsent s c) c .idle = ended at hidle hrising ⊢
  rw [State.setFld_ch]
  exact ⟨hidle, State.fld_setFld ended hrising Fld.tierGeomRanks 0 c 0 (by decide)⟩

/-- In RETRAIN it fails the RETRAIN (R488, R489). -/
theorem opVddqWait_retrain (hr : kRising s.regs = true) (htrn : (s.ch c).trn = .prep) (hgen : s.fld Fld.phyPopGen c ≠ 0)
    (h : vddqOk s c = false) (hst : (s.ch c).st = .retrain) :
    ((opVddqWait s c).ch c).trn = .idle ∧ ((opVddqWait s c).ch c).st = .fenced
      ∧ (opVddqWait s c).rd (Reg.chCntRetrainFail.at c) = satAdd32 (s.rd (Reg.chCntRetrainFail.at c)) 1 := by
  have hne := RegDef.at_ne (r := Reg.chCntRetrainFail) (r' := Reg.phyPop) rfl (by decide) c
  have hkept := (vddqAbsent_touches (s := s)).rd (mt List.mem_singleton.1 hne)
  have hretrain : ((vddqAbsent s c).ch c).st = .retrain := (congrArg Channel.st vddqAbsent_ch).trans hst
  rw [opVddqWait_out htrn hgen h, if_pos hretrain, ← hkept]
  exact failPrep_retrain (vddqAbsent_touches.rising hr) hretrain

theorem opVddqWait_in (htrn : (s.ch c).trn = .prep) (hgen : s.fld Fld.phyPopGen c ≠ 0) (h : vddqOk s c = true)
    (hpower : s.flag Fld.phyStatusDimmPwr c = false) : opVddqWait s c = failPrep s c := by
  unfold opVddqWait
  rw [if_neg (by simp [htrn, hgen]), if_pos h, if_neg (by simp [hpower])]

end

/-! ### Parity alerts (R335) -/

section
variable {s : State} {c d : Nat}

/-- A parity alert is counted, in the register and of the refresh interval. -/
def alertSeen (s : State) (c : Nat) : State :=
  (s.count Reg.phyCntAlert 1 c).modCh (chan c) (fun q => { q with alerts := q.alerts + 1 })

/-- Alerts that repeat within one refresh interval have become the channel's fault. -/
def alertFault (s : State) (c d : Nat) : State :=
  phyFault ((alertSeen s c).event Prio.contained Ev.phyAlert (Src.chan c) (dw (c % 16 + d % 2 * 16))
    (dw ((alertSeen s c).ch c).alerts)) c 1

theorem alertSeen_ch : (alertSeen s c).ch c = { s.ch c with alerts := (s.ch c).alerts + 1 } := State.modCh_ch ..

theorem alertSeen_st : ((alertSeen s c).ch c).st = (s.ch c).st := by
  rw [alertSeen_ch]

theorem opAlert_eq (hm : s.mode ≠ .reset) (hdrv : s.flag Fld.phyStatusDrvOn c = true) (hd : present s c d = true) :
    opAlert s c d = if (s.ch c).alerts + 1 < 2 then alertSeen s c else faultFence (alertFault s c d) c false := by
  have halerts : ((alertSeen s c).ch c).alerts = (s.ch c).alerts + 1 := by rw [alertSeen_ch]
  unfold opAlert
  rw [if_neg (by simp [hm, hdrv, hd])]
  change (if ((alertSeen s c).ch c).alerts < 2 then alertSeen s c else faultFence (alertFault s c d) c false) = _
  rw [halerts]

theorem alertSeen_rd (hr : kRising s.regs = true) :
    (alertSeen s c).rd (Reg.phyCntAlert.at c) = satAdd32 (s.rd (Reg.phyCntAlert.at c)) 1 := by
  rw [State.rd, alertSeen, State.modCh_regs]
  exact (State.rd_count s hr ..).trans (if_pos rfl)

theorem alertFault_phySight : (alertFault s c d).phySight = (alertSeen s c).phySight := by
  simp [alertFault]

theorem alertFault_vault : (alertFault s c d).vault c = s.vault c := by
  have hseen : (alertSeen s c).vault c = s.vault c := (State.modCh_vault ..).trans (State.count_vault ..)
  rw [alertFault, phyFault_vault, State.event_vault, hseen]

theorem alertFault_st : ((alertFault s c d).ch c).st = (s.ch c).st := by
  have hseen := alertSeen_st (s := s) (c := c)
  unfold alertFault
  generalize alertSeen s c = u at hseen ⊢
  exact (phyFault_st ..).trans hseen

/-- An alert is counted, whatever follows from it. -/
theorem opAlert_rd (hr : kRising s.regs = true) (hm : s.mode ≠ .reset) (hdrv : s.flag Fld.phyStatusDrvOn c = true)
    (hd : present s c d = true) :
    (opAlert s c d).rd (Reg.phyCntAlert.at c) = satAdd32 (s.rd (Reg.phyCntAlert.at c)) 1 := by
  rw [opAlert_eq hm hdrv hd]
  split
  · exact alertSeen_rd hr
  · have hsight : (faultFence (alertFault s c d) c false).phySight = (alertSeen s c).phySight :=
      (faultFence_phySight ..).trans alertFault_phySight
    exact (rd_of_phySight hsight ((phyWord_at rfl (by decide) c).trans (by decide))).trans (alertSeen_rd hr)

/-- The second alert of a refresh interval fences an ONLINE channel. -/
theorem opAlert_fences (hs : Fences s) (hm : s.mode ≠ .reset) (hdrv : s.flag Fld.phyStatusDrvOn c = true)
    (hd : present s c d = true) (hst : (s.ch c).st = .online) (h : 1 ≤ (s.ch c).alerts) :
    ((opAlert s c d).ch c).st = .fenced := by
  rw [opAlert_eq hm hdrv hd, if_neg (by omega)]
  exact faultFence_st (hs.of_shelf (shelf_of_vault alertFault_vault)) (alertFault_st.trans hst)

end

/-! ### Power good of a module (R474) -/

section
variable {s : State} {c d : Nat}

/-- The power good of a channel's modules is lost. -/
def unpowered (s : State) (c : Nat) : State :=
  (s.setFlag Fld.phyStatusDimmPwr false c).modCh (chan c) (fun q => { q with
    powered := false, warmLost := true, wasReset := true, softRows := [], debt := [], sr := .active, srWhy := .none })

/-- A channel without power of its modules: their lines are gone. -/
def powerGone (s : State) (c : Nat) : State :=
  { unpowered s c with dram := s.dram.filter (fun e => e.1 / 2 ^ 34 != c) }

theorem opPowerLost_eq (hm : s.mode ≠ .reset) (hd : present s c d = true) (hpower : s.flag Fld.phyStatusDimmPwr c = true) :
    opPowerLost s c d = powerGone (faultFence (phyFault s c 3) c false) c := by
  unfold opPowerLost
  rw [if_neg (by simp [hm, hd, hpower])]
  rfl

theorem powerGone_ch : ((powerGone s c).ch c).st = (s.ch c).st ∧ ((powerGone s c).ch c).powered = false := by
  have hch : (powerGone s c).ch c = (unpowered s c).ch c := rfl
  rw [hch, unpowered, State.modCh_ch, State.setFlag_ch]
  exact ⟨rfl, rfl⟩

theorem powerGone_flag (hr : kRising (s.regs.filter (fun e => phyWord e.1)) = true) :
    (powerGone s c).flag Fld.phyStatusDimmPwr c = false := by
  have hregs : (powerGone s c).regs = (s.setFlag Fld.phyStatusDimmPwr false c).regs := rfl
  have hword : phyWord (Reg.phyStatus.at c) = true := (phyWord_at rfl (by decide) c).trans (by decide)
  have hread : (powerGone s c).rd (Reg.phyStatus.at c) = putBits (s.rd (Reg.phyStatus.at c)) Fld.phyStatusDimmPwr.lo
      Fld.phyStatusDimmPwr.w 0 := by
    rw [State.rd, hregs]
    exact rd_wr_phyWord hr hword _
  have hfld : (powerGone s c).fld Fld.phyStatusDimmPwr c = 0 := by
    unfold State.fld
    exact (congrArg (getBits · _ _) hread).trans (getBits_putBits _ _ _ _ (by decide))
  rw [State.flag, hfld]
  rfl

theorem powerGone_line (k : Nat) : kGet 0 (powerGone s c).dram k = if k / 2 ^ 34 = c then 0 else kGet 0 s.dram k := by
  have hdram : (powerGone s c).dram = s.dram.filter (fun e => e.1 / 2 ^ 34 != c) := rfl
  rw [hdram, kGet, kFind_filter (fun k => k / 2 ^ 34 != c)]
  by_cases hk : k / 2 ^ 34 = c
  · rw [if_pos hk, if_neg (by simpa using hk)]
    rfl
  · rw [if_neg hk, if_pos (by simpa using hk)]
    rfl

/-- A module's loss of power good fences its channel. -/
theorem opPowerLost_fences (hs : Fences s) (hm : s.mode ≠ .reset) (hd : present s c d = true)
    (hpower : s.flag Fld.phyStatusDimmPwr c = true) (hst : (s.ch c).st = .online) :
    ((opPowerLost s c d).ch c).st = .fenced ∧ ((opPowerLost s c d).ch c).powered = false := by
  have hfences : Fences (phyFault s c 3) := hs.of_shelf (shelf_of_vault (phyFault_vault s c 3))
  have honline : ((phyFault s c 3).ch c).st = .online := (phyFault_st ..).trans hst
  rw [opPowerLost_eq hm hd hpower]
  exact ⟨powerGone_ch.1.trans (faultFence_st hfences honline), powerGone_ch.2⟩

/-- The modules' state shows the loss, and the channel's lines are gone. -/
theorem opPowerLost_loses (hr : kRising s.regs = true) (hm : s.mode ≠ .reset) (hd : present s c d = true)
    (hpower : s.flag Fld.phyStatusDimmPwr c = true) : (opPowerLost s c d).flag Fld.phyStatusDimmPwr c = false
      ∧ ∀ k, kGet 0 (opPowerLost s c d).dram k = if k / 2 ^ 34 = c then 0 else kGet 0 s.dram k := by
  have hsight : (faultFence (phyFault s c 3) c false).phySight = s.phySight :=
    (faultFence_phySight ..).trans (phyFault_phySight ..)
  rw [opPowerLost_eq hm hd hpower]
  refine ⟨powerGone_flag (phyWords_rising hr hsight), fun k => ?_⟩
  rw [powerGone_line, show (faultFence _ c false).dram = s.dram from congrArg PhySight.dram hsight]

end

/-! ### Lock of the clock generator (R474) -/

section
variable {s : State} {c : Nat}

/-- The clock generator's lock is gone. -/
def unlocked (s : State) (c : Nat) : State := markPasses (s.setFlag Fld.phyStatusLocked false c) c 7

theorem unlocked_regs : (unlocked s c).regs = (s.setFlag Fld.phyStatusLocked false c).regs := State.modCh_regs ..

theorem unlocked_st : ((unlocked s c).ch c).st = (s.ch c).st := by
  rw [unlocked, markPasses_ch]
  rfl

theorem unlocked_vault : (unlocked s c).vault c = s.vault c := by
  simp [unlocked]

theorem unlocked_trained (hr : kRising s.regs = true) : phyTrained (unlocked s c) c = phyTrained s c := by
  have hne := RegDef.at_ne (r := Reg.phyStatus) (r' := Reg.trimValid) rfl (by decide) c
  refine (phyTrained_of_regs unlocked_regs c).trans (phyTrained_congr (State.fld_congr (State.rd_wr_other hne _)) ?_)
  exact State.flag_setFlag_beside hr Fld.phyStatusLocked Fld.phyStatusDrvOn rfl (by decide) (by decide)

theorem unlocked_flag (hr : kRising s.regs = true) : (unlocked s c).flag Fld.phyStatusLocked c = false := by
  refine (State.flag_congr (f := Fld.phyStatusLocked) ?_).trans (State.flag_setFlag hr Fld.phyStatusLocked rfl (by decide))
  rw [State.rd, unlocked_regs, State.rd]

theorem opLockLost_eq (hr : kRising s.regs = true) (hm : s.mode ≠ .reset) (hlocked : s.flag Fld.phyStatusLocked c = true) :
    opLockLost s c = if phyTrained s c then faultFence (phyFault (unlocked s c) c 2) c false else unlocked s c := by
  unfold opLockLost
  rw [if_neg (by simp [hm, hlocked])]
  change (if phyTrained (unlocked s c) c then faultFence (phyFault (unlocked s c) c 2) c false else unlocked s c) = _
  rw [unlocked_trained hr]

theorem opLockLost_flag (hr : kRising s.regs = true) (hm : s.mode ≠ .reset)
    (hlocked : s.flag Fld.phyStatusLocked c = true) : (opLockLost s c).flag Fld.phyStatusLocked c = false := by
  rw [opLockLost_eq hr hm hlocked]
  split
  · have hsight : (faultFence (phyFault (unlocked s c) c 2) c false).phySight = (unlocked s c).phySight :=
      (faultFence_phySight ..).trans (phyFault_phySight ..)
    have hword : phyWord (Reg.phyStatus.at c) = true := (phyWord_at rfl (by decide) c).trans (by decide)
    exact (State.flag_congr (f := Fld.phyStatusLocked) (rd_of_phySight hsight hword)).trans (unlocked_flag hr)
  · exact unlocked_flag hr

/-- A trained ONLINE channel whose clock generator loses lock is fenced. -/
theorem opLockLost_fences (hr : kRising s.regs = true) (hs : Fences s) (hm : s.mode ≠ .reset)
    (hlocked : s.flag Fld.phyStatusLocked c = true) (hst : (s.ch c).st = .online) (htrained : phyTrained s c = true) :
    ((opLockLost s c).ch c).st = .fenced := by
  have hfences : Fences (phyFault (unlocked s c) c 2) :=
    hs.of_shelf (shelf_of_vault ((phyFault_vault ..).trans unlocked_vault))
  have honline : ((phyFault (unlocked s c) c 2).ch c).st = .online :=
    (phyFault_st ..).trans (unlocked_st.trans hst)
  rw [opLockLost_eq hr hm hlocked, if_pos htrained]
  exact faultFence_st hfences honline

end

end Sys2Proof.Machine

end

/-! SUPPORT. The statement about VDDQ and faults at a channel's balls. -/

section

open Sys2Proof Sys2Proof.Machine

/-- Settles O32: what a reading or a fault shows stands in the words of the PHY, which a fence leaves alone, and a fence of
an ONLINE channel ends in FENCED; a failed preparation writes its own words only and keeps the vault. -/
theorem supplyAndChannelFaults : Obligations.SupplyAndChannelFaults := by
  unfold Obligations.SupplyAndChannelFaults
  simp only [← State.ch_val]
  refine ⟨fun c s hw hm => ?_, fun c s hw hm hf hst => ?_⟩
  · have hr := State.wf_regs_rising hw
    refine ⟨fun mv => ⟨opVddq s c mv.toNat, rfl, ?_⟩, fun htrn hgen h => ⟨opVddqWait s c, rfl, ?_⟩,
      fun htrn hgen h hst hpower => ⟨opVddqWait s c, rfl, ?_⟩⟩
    · have hmv : mv.toNat < 4096 := mv.isLt
      obtain ⟨hread, hok⟩ := opVddq_words (c := c) hr hm hmv
      refine ⟨hread, hok, opVddq_in hr hm hmv, fun h => ?_⟩
      obtain ⟨hbad, hfirst⟩ := opVddq_out hr hm hmv h
      exact ⟨hbad, hfirst, fun hsecond hcause htrained hst hserving hf =>
        opVddq_fences hr hm hmv h (.of_serving hserving hf) hsecond hcause htrained hst⟩
    · obtain ⟨hflag, hvault⟩ := opVddqWait_bad hr htrn hgen h
      have hidle : ((opVddqWait s c).ch c).trn = .idle := by
        by_cases hst : (s.ch c).st = .retrain
        · exact (opVddqWait_retrain hr htrn hgen h hst).1
        · exact (opVddqWait_bring hr htrn hgen h hst).1
      exact ⟨hflag, hidle, fun hst => (opVddqWait_bring hr htrn hgen h hst).2,
        fun hst => (opVddqWait_retrain hr htrn hgen h hst).2, dataKept_of_shelf (shelf_of_vault hvault),
        otherChannels_of_vault hvault⟩
    · have hvault : (failPrep s c).vault c = s.vault c := failTraining_vault ..
      rw [opVddqWait_in htrn hgen h hpower]
      obtain ⟨hidle, hfenced, hcount⟩ := failPrep_retrain hr hst
      exact ⟨hidle, hfenced, hcount, dataKept_of_shelf (shelf_of_vault hvault), otherChannels_of_vault hvault⟩
  · have hr := State.wf_regs_rising hw
    have hfences := Fences.of_serving hm hf
    have hreset : s.mode ≠ .reset := by
      rcases hm with hm | hm <;> simp [hm]
    refine ⟨fun d hd hdrv => ⟨opAlert s c d, rfl, opAlert_rd hr hreset hdrv hd, fun hfirst => ?_,
        opAlert_fences hfences hreset hdrv hd hst⟩,
      fun d hd hpower => ⟨opPowerLost s c d, rfl, ?_⟩,
      fun hlocked => ⟨opLockLost s c, rfl, opLockLost_flag hr hreset hlocked,
        opLockLost_fences hr hfences hreset hlocked hst, fun htrained => ?_⟩⟩
    · rw [opAlert_eq hreset hdrv hd, if_pos (by omega)]
      exact ⟨alertSeen_st.trans hst, rfl⟩
    · obtain ⟨hfenced, hpowered⟩ := opPowerLost_fences hfences hreset hd hpower hst
      obtain ⟨hflag, hlines⟩ := opPowerLost_loses hr hreset hd hpower
      exact ⟨hfenced, hpowered, hflag, fun k hk => (hlines k).trans (if_pos hk), fun k hk => (hlines k).trans (if_neg hk)⟩
    · rw [opLockLost_eq hr hreset hlocked, if_neg (by simp [htrained])]
      exact ⟨unlocked_st.trans hst, rfl⟩

end

/-! SUPPORT. A training's phases, its failure and its end (R351 to R357, R384). What each function of a training leaves alone
is proved once, for every part of the state that a PHY at work keeps. -/

section

namespace Sys2Proof.Machine

/-! ### What the PHY keeps -/

/-- A part `g` of a state that stands while the PHY of channel `c` works and the channel keeps its state (R466): what moves
is words, the channel's other records, events and reports, free values and the fault net. -/
structure PhyKeeps {γ : Type} (c : Nat) (g : State → γ) : Prop where
  wr (u : State) (o : Nat) (w : Word) : g (u.wr o w) = g u
  modCh (u : State) {f : Channel → Channel} (hf : ∀ q, (f q).st = q.st := by exact fun _ => rfl) : g (u.modCh (chan c) f) = g u
  event (u : State) (prio code source : Nat) (x y : Word) : g (u.event prio code source x y) = g u
  report (u : State) (n : Nat) (o : Option Nat) : g (u.report n o) = g u
  free (u : State) (w : Nat) : g (u.free w).2 = g u
  flt (u : State) (f : FaultNet) (hf : f.finishing = u.flt.finishing) : g { u with flt := f } = g u

/-- What stands beside the channel. -/
theorem phyKeeps_vault (c : Nat) : PhyKeeps c (State.vault · c) where
  wr _ _ _ := rfl
  modCh _ _ _ := State.modCh_vault ..
  event _ _ _ _ _ _ := rfl
  report _ _ _ := rfl
  free _ _ := rfl
  flt u f hf := by
    have hnow : State.modeNow { u with flt := f } = u.modeNow := by simp only [State.modeNow, hf]
    simp only [State.vault, State.shelf, hnow, State.beside]

/-- The staged TSEQ images. -/
theorem phyKeeps_tseqStaged (c : Nat) : PhyKeeps c State.tseqStaged where
  wr _ _ _ := rfl
  modCh _ _ _ := rfl
  event _ _ _ _ _ _ := rfl
  report _ _ _ := rfl
  free _ _ := rfl
  flt _ _ _ := rfl

/-- The channel's state. -/
theorem phyKeeps_st (c : Nat) : PhyKeeps c (fun s => (s.ch c).st) where
  wr _ _ _ := rfl
  modCh u f hf := by rw [State.modCh_ch, hf]
  event _ _ _ _ _ _ := rfl
  report _ _ _ := rfl
  free _ _ := rfl
  flt _ _ _ := rfl

namespace PhyKeeps

variable {γ : Type} {c : Nat} {g : State → γ} (h : PhyKeeps c g) (s : State)
include h

theorem setFld (f : Fld) (v i k : Nat) : g (s.setFld f v i k) = g s := h.wr ..

theorem setFlag (f : Fld) (b : Bool) (i k : Nat) : g (s.setFlag f b i k) = g s := h.wr ..

theorem count (r : RegDef) (n i k : Nat) : g (s.count r n i k) = g s := h.wr ..

theorem info (code source : Nat) (x y : Word) : g (s.info code source x y) = g s := h.event ..

theorem causeEnds (n : Nat) : g (causeEnds s n) = g s := by
  unfold Machine.causeEnds
  split
  · rfl
  · exact h.flt s _ rfl

theorem endTraining (x : TrnSt) : g (endTraining s c x) = g s :=
  (h.modCh _).trans ((h.setFld ..).trans ((h.setFlag ..).trans (h.setFld ..)))

theorem freqRefuse (target code : Nat) : g (freqRefuse s c target code) = g s :=
  (h.info ..).trans ((h.modCh _).trans ((h.setFlag ..).trans (h.setFlag ..)))

theorem freqDone : g (freqDone s c) = g s := by
  unfold Machine.freqDone
  extract_lets counted told
  exact (h.modCh _).trans ((h.info ..).trans ((h.count ..).trans (h.setFlag ..)))

theorem endtapBooks : g (endtapBooks s c) = g s := (h.setFlag ..).trans (h.setFld ..)

theorem placeTrims (sp : Nat) : g (placeTrims s c sp) = g s :=
  foldl_frame g _ _ _ fun u _ => (h.modCh _).trans (h.free u 32)

theorem readModules : g (readModules s c) = g s := by
  refine foldl_frame g _ _ _ fun u r => ?_
  dsimp only
  refine (h.setFld ..).trans ((foldl_snd_frame g _ _ _ fun y x => ?_).trans ?_)
  · dsimp only
    exact (h.modCh _).trans (h.free y.2 8)
  · dsimp only
    exact (h.modCh _).trans ((h.free _ 16).trans (h.free u 32))

theorem setGeom : g (setGeom s c) = g s := by
  unfold Machine.setGeom
  extract_lets ranks ways sized gibs
  have hsized : g sized = g s := (h.setFld ..).trans (h.setFld ..)
  split
  · exact (h.setFlag ..).trans hsized
  · exact (h.info ..).trans ((h.setFlag ..).trans ((h.setFlag ..).trans hsized))

theorem trainingFailed (sp phase : Nat) (lane : Bool) : g (trainingFailed s c sp phase lane) = g s := by
  unfold Machine.trainingFailed
  extract_lets flagged told faulted
  have hfaulted : g faulted = g s := calc g faulted
    _ = g told := (h.report ..).trans (h.modCh _)
    _ = g (Machine.endTraining s c .idle) := (h.event ..).trans (h.setFlag ..)
    _ = g s := h.endTraining ..
  split
  · exact (h.freqRefuse ..).trans hfaulted
  · exact hfaulted

end PhyKeeps

section
variable {s : State} {c : Nat}

/-! ### A phase ends (R353, R384) -/

theorem switchTseq_none (h : kFind s.tseqStaged c = none) : switchTseq s c = s := by
  unfold switchTseq
  rw [h]

/-- Without a staged image the gate between two phases changes nothing (R384). -/
theorem opTrainStep_unstaged {r : TrnResult} (hm : s.mode ≠ .reset) (h : kFind (trainStep s c r).tseqStaged c = none) :
    opTrainStep s c r = trainStep s c r := by
  unfold opTrainStep
  rw [if_neg hm]
  dsimp only
  rw [switchTseq_none h, ite_self]

theorem showTraining_phase (hr : kRising s.regs = true) {phase : Nat} (hphase : phase < 16) (gather : Bool) (sp : Nat) :
    (showTraining s c phase gather sp).fld Fld.trnStatusPhase c = phase := by
  have hset := State.setFld_rising s hr Fld.trnStatusPhase phase c 0
  have hgather := State.setFlag_rising hset Fld.trnStatusGather gather c 0
  unfold showTraining
  calc _ = ((s.setFld Fld.trnStatusPhase phase c).setFlag Fld.trnStatusGather gather c).fld Fld.trnStatusPhase c :=
        State.fld_setFld_beside _ hgather Fld.trnStatusSetpoint Fld.trnStatusPhase sp c 0 c 0 rfl (by decide) (by decide)
    _ = (s.setFld Fld.trnStatusPhase phase c).fld Fld.trnStatusPhase c :=
        State.fld_setFld_beside _ hset Fld.trnStatusGather Fld.trnStatusPhase _ c 0 c 0 rfl (by decide) (by decide)
    _ = phase := (State.fld_setFld s hr Fld.trnStatusPhase phase c 0 (by decide)).trans (Nat.mod_eq_of_lt hphase)

/-- A training goes on to a phase. -/
def nextPhaseBegun (s : State) (c p sp : Nat) : State :=
  (showTraining s c p (gathers p) sp).modCh (chan c) (fun q => { q with trn := .running p sp, trnRetries := 0 })

variable {phase sp : Nat}

theorem trainStep_next (htrn : (s.ch c).trn = .running phase sp) (htarget : (s.ch c).trnTarget = none)
    (hnext : nextPhase s c phase ≤ 11) : trainStep s c .phaseOk = nextPhaseBegun s c (nextPhase s c phase) sp := by
  unfold trainStep
  simp only [htrn, htarget, ite_self]
  exact if_pos hnext

theorem trainStep_last (htrn : (s.ch c).trn = .running phase sp) (htarget : (s.ch c).trnTarget = none)
    (hlast : 11 < nextPhase s c phase) : trainStep s c .phaseOk = finishTraining s c sp := by
  unfold trainStep
  simp only [htrn, htarget, ite_self]
  exact if_neg (by omega)

theorem trainStep_fails (htrn : (s.ch c).trn = .running phase sp) (htarget : (s.ch c).trnTarget = none)
    (hsource : s.fld Fld.trnStatusSource c = 3) (hused : s.fld Fld.trnCtlRetries c ≤ (s.ch c).trnRetries + 1) :
    trainStep s c .phaseFail = failTraining s c sp phase false := by
  unfold trainStep
  simp only [htrn, htarget, ite_self, hsource, if_true]
  exact if_pos (by simp [hused])

theorem showTraining_ch (s : State) (c p : Nat) (gather : Bool) (sp : Nat) : (showTraining s c p gather sp).ch c = s.ch c := by
  rw [showTraining, State.setFld_ch, State.setFlag_ch, State.setFld_ch]

theorem nextPhaseBegun_ch (p : Nat) :
    (nextPhaseBegun s c p sp).ch c = { s.ch c with trn := .running p sp, trnRetries := 0 } := by
  rw [nextPhaseBegun, State.modCh_ch, showTraining_ch]

theorem showTraining_only (hr : kRising s.regs = true) (p : Nat) (gather : Bool) :
    OnlyWords s (showTraining s c p gather sp) [Reg.trnStatus.at c] := by
  have hset := State.setFld_rising s hr Fld.trnStatusPhase p c 0
  have hgather := State.setFlag_rising hset Fld.trnStatusGather gather c 0
  exact (OnlyWords.setFld hr Fld.trnStatusPhase p c 0).trans
    ((OnlyWords.setFlag hset Fld.trnStatusGather gather c 0).trans (OnlyWords.setFld hgather Fld.trnStatusSetpoint sp c 0))

theorem nextPhaseBegun_phase (hr : kRising s.regs = true) {p : Nat} (hp : p ≤ 11) :
    (nextPhaseBegun s c p sp).fld Fld.trnStatusPhase c = p := by
  rw [nextPhaseBegun, State.fld_modCh]
  exact showTraining_phase hr (by omega) ..

/-- Beside its word and its channel, nothing of the state moves. -/
theorem nextPhaseBegun_frame (hr : kRising s.regs = true) (p : Nat) :
    WordsKept s (nextPhaseBegun s c p sp) [Reg.trnStatus.at c]
      ∧ { nextPhaseBegun s c p sp with regs := s.regs, chs := s.chs } = s :=
  have hshown := showTraining_only (c := c) (sp := sp) hr p (gathers p)
  ⟨hshown.2, hshown.modCh_rest ..⟩

theorem nextPhaseBegun_vault (p : Nat) : (nextPhaseBegun s c p sp).vault c = s.vault c :=
  (State.modCh_vault ..).trans (showTraining_vault ..)

/-! ### A training fails (R356) -/

theorem failTraining_outside (hst : (s.ch c).st ≠ .retrain) (lane : Bool) :
    failTraining s c sp phase lane = (trainingFailed s c sp phase lane).setFld Fld.tierGeomRanks 0 c := by
  rw [failTraining_eq]
  exact if_neg (by rwa [(trainingFailed_ch ..).2])

theorem trainingFailed_flag (hr : kRising s.regs = true) (lane : Bool) :
    (trainingFailed s c sp phase lane).flag Fld.trnStatusFailed c = true := by
  have hended := (endTraining_touches s c .idle).rising hr
  unfold trainingFailed
  generalize endTraining s c .idle = ended at hended ⊢
  extract_lets flagged told faulted
  have hfaulted : faulted.flag Fld.trnStatusFailed c = true := by
    have hregs : faulted.regs = flagged.regs := (phyFault_regs ..).trans (State.event_regs ..)
    rw [State.flag, State.fld_of_regs hregs]
    exact State.flag_setFlag hended Fld.trnStatusFailed rfl (by decide)
  clear_value faulted
  split
  · refine ((freqRefuse_touches ..).flag ?_).trans hfaulted
    simp [RegDef.at, Fld.trnStatusFailed, Reg.trnStatus, Reg.chFreq]
  · exact hfaulted

/-- A training that fails outside RETRAIN leaves its channel without ranks (R356). -/
theorem failTraining_shows (hr : kRising s.regs = true) (hst : (s.ch c).st ≠ .retrain) (lane : Bool) :
    (failTraining s c sp phase lane).flag Fld.trnStatusFailed c = true
      ∧ ((failTraining s c sp phase lane).ch c).trn = .idle
      ∧ (failTraining s c sp phase lane).fld Fld.tierGeomRanks c = 0 := by
  have hflag := trainingFailed_flag (c := c) (sp := sp) (phase := phase) hr lane
  have hrising := (trainingFailed_touches s c sp phase lane).rising hr
  obtain ⟨hidle, -⟩ := trainingFailed_ch s c sp phase lane
  rw [failTraining_outside hst]
  generalize trainingFailed s c sp phase lane = u at hflag hrising hidle ⊢
  refine ⟨(State.flag_congr ?_).trans hflag, (congrArg Channel.trn (State.setFld_ch ..)).trans hidle,
    State.fld_setFld u hrising Fld.tierGeomRanks 0 c 0 (by decide)⟩
  refine State.rd_wr_other ?_ _
  simp only [RegDef.at, Fld.tierGeomRanks, Reg.tierGeom, Fld.trnStatusFailed, Reg.trnStatus]
  omega

theorem failTraining_tseqStaged (hst : (s.ch c).st ≠ .retrain) (lane : Bool) :
    (failTraining s c sp phase lane).tseqStaged = s.tseqStaged := by
  rw [failTraining_outside hst, State.setFld_tseqStaged]
  exact (phyKeeps_tseqStaged c).trainingFailed ..

end

/-! ### A training ends well (R351, R356, R357) -/

/-- The settings that a training found stand for its set point, which is the current one. -/
def trainingPlaced (s : State) (c sp : Nat) : State :=
  let u := placeTrims s c sp
  (u.setFld Fld.trimValidValid ((u.rd (Reg.trimValid.at c)).toNat % 16 ||| 2 ^ sp) c).setFld Fld.chFreqCurrent sp c

/-- The modules have been read after it. -/
def trainingFound (s : State) (c sp : Nat) : State := readModules (endtapBooks (trainingPlaced s c sp) c) c

/-- The training is over and counted. -/
def trainingCounted (s : State) (c : Nat) : State := (endTraining s c .done).count Reg.trnCntRun 1 c

/-- The causes that a training ends, and the books that start afresh after it (R521). -/
def trainingCleared (s : State) (c : Nat) : State :=
  let u := s.modCh (chan c) (fun q => { q with
    phyCause := q.phyCause &&& 0x01#8, raa := [], trackers := [], trackRefs := [], corr := [], passes := [], calTaps := [] })
  if (u.ch c).phyCause = 0 then causeEnds u (42 + c) else u

/-- A change of set point that waited for the training is done with it (R363). -/
def trainingReleased (s : State) (c : Nat) : State := if s.flag Fld.chFreqBusy c then freqDone s c else s

/-- A training up to its geometry. -/
def trainingDone (s : State) (c sp : Nat) : State :=
  let u := trainingCounted (trainingFound s c sp) c
  trainingReleased (trainingCleared (u.info Ev.trnDone (Src.chan c)
    (dw (c % 16 + sp * 16 + u.fld Fld.trnStatusSource c * 256)) (dw (min (u.us - (s.ch c).trnFrom) 0xFFFFFFFF))) c) c

namespace PhyKeeps

variable {γ : Type} {c : Nat} {g : State → γ} (h : PhyKeeps c g) (s : State)
include h

theorem trainingFound (sp : Nat) : g (trainingFound s c sp) = g s :=
  (h.readModules _).trans ((h.endtapBooks _).trans ((h.setFld ..).trans ((h.setFld ..).trans (h.placeTrims ..))))

theorem trainingCounted : g (trainingCounted s c) = g s := (h.count ..).trans (h.endTraining ..)

theorem trainingCleared : g (trainingCleared s c) = g s := by
  unfold Machine.trainingCleared
  dsimp only
  split
  · exact (h.causeEnds ..).trans (h.modCh _)
  · exact h.modCh _

theorem trainingReleased : g (trainingReleased s c) = g s := by
  unfold Machine.trainingReleased
  split
  · exact h.freqDone _
  · rfl

theorem trainingDone (sp : Nat) : g (trainingDone s c sp) = g s := by
  unfold Machine.trainingDone
  extract_lets u
  calc g _ = g u := (h.trainingReleased _).trans ((h.trainingCleared _).trans (h.info ..))
    _ = g s := (h.trainingCounted _).trans (h.trainingFound ..)

end PhyKeeps

section
variable {s : State} {c sp : Nat}

theorem finishTraining_outside (hst : (s.ch c).st ≠ .retrain) : finishTraining s c sp = setGeom (trainingDone s c sp) c := by
  have hst' : ((trainingDone s c sp).ch c).st ≠ .retrain := by rwa [(phyKeeps_st c).trainingDone]
  exact if_neg hst'

theorem finishTraining_keeps {γ : Type} {g : State → γ} (h : PhyKeeps c g) (hst : (s.ch c).st ≠ .retrain) :
    g (finishTraining s c sp) = g s := by
  rw [finishTraining_outside hst, h.setGeom, h.trainingDone]

/-! ### The words of its end -/

theorem readModules_touches (s : State) (c : Nat) : Touches s (readModules s c) [Reg.chPprFree.at c] := by
  refine .foldl (.of_regs rfl) fun u r _ => ?_
  dsimp only
  refine Touches.setFld (.of_regs ?_) (Fld.chPprFreeFree r) _ (List.mem_singleton_self _)
  refine (foldl_snd_frame State.regs _ _ _ fun y x => ?_).trans ?_
  · exact (State.modCh_regs ..).trans (State.free_regs ..)
  · exact (State.modCh_regs ..).trans ((State.free_regs ..).trans (State.free_regs ..))

/-- The settings found are valid, and their set point is the current one (R351, R356). -/
theorem trainingPlaced_words (hr : kRising s.regs = true) (hsp : sp < 4) :
    getBits ((trainingPlaced s c sp).rd (Reg.trimValid.at c)) sp 1 = 1
      ∧ (trainingPlaced s c sp).fld Fld.chFreqCurrent c = sp ∧ kRising (trainingPlaced s c sp).regs = true := by
  unfold trainingPlaced
  extract_lets u
  have hu : kRising u.regs = true := by
    simp only [u]
    rwa [placeTrims_regs]
  have hbit : ((u.rd (Reg.trimValid.at c)).toNat % 16 ||| 2 ^ sp).testBit sp = true := by simp
  generalize (u.rd (Reg.trimValid.at c)).toNat % 16 ||| 2 ^ sp = v at hbit
  have hvalid := State.setFld_rising u hu Fld.trimValidValid v c 0
  refine ⟨?_, ?_, State.setFld_rising _ hvalid ..⟩
  · have hne := RegDef.at_ne (r := Reg.chFreq) (r' := Reg.trimValid) rfl (by decide) c
    have hword : ((u.setFld Fld.trimValidValid v c).setFld Fld.chFreqCurrent sp c).rd (Reg.trimValid.at c)
        = putBits (u.rd (Reg.trimValid.at c)) 0 4 v :=
      (State.rd_wr_other hne _).trans ((State.rd_setFld u hu Fld.trimValidValid v c 0 _).trans (if_pos rfl))
    rw [hword, getBits_one, putBits_bit _ _ _ _ _ (by decide), if_pos (by omega), Nat.sub_zero, hbit, Bool.toNat_true]
  · exact (State.fld_setFld _ hvalid Fld.chFreqCurrent sp c 0 (by decide)).trans (Nat.mod_eq_of_lt hsp)

theorem trainingPlaced_touches : Touches s (trainingPlaced s c sp) [Reg.trimValid.at c, Reg.chFreq.at c] :=
  ((Touches.of_regs (placeTrims_regs sp)).setFld Fld.trimValidValid _ List.mem_cons_self).setFld Fld.chFreqCurrent sp
    (List.mem_cons_of_mem _ List.mem_cons_self)

theorem trainingFound_touches (s : State) (c sp : Nat) :
    Touches (trainingPlaced s c sp) (trainingFound s c sp) [Reg.phyEndtap.at c, Reg.phyStatus.at c, Reg.chPprFree.at c] :=
  (endtapBooks_touches.mono (by simp)).trans ((readModules_touches _ c).mono (by simp))

theorem trainingCounted_words (hr : kRising s.regs = true) : (trainingCounted s c).fld Fld.trnStatusPhase c = 0
    ∧ (trainingCounted s c).rd (Reg.trnCntRun.at c) = satAdd32 (s.rd (Reg.trnCntRun.at c)) 1 := by
  have hended := endTraining_touches s c .done
  have hne := RegDef.at_ne (r := Reg.trnCntRun) (r' := Reg.trnStatus) rfl (by decide) c
  refine ⟨?_, ?_⟩
  · have hphase : (endTraining s c .done).fld Fld.trnStatusPhase c = 0 := by
      rw [endTraining, State.fld_modCh]
      exact showTraining_phase hr (by decide) false _
    exact (State.fld_congr (State.rd_count_other _ hne 1)).trans hphase
  · rw [trainingCounted, State.rd_count _ (hended.rising hr), if_pos rfl, hended.rd (mt List.mem_singleton.1 hne)]

theorem trainingCounted_touches (s : State) (c : Nat) :
    Touches s (trainingCounted s c) [Reg.trnStatus.at c, Reg.trnCntRun.at c] :=
  ((endTraining_touches s c .done).mono (by simp)).count _ _ (by simp)

theorem trainingCleared_regs (s : State) (c : Nat) : (trainingCleared s c).regs = s.regs := by
  unfold trainingCleared
  extract_lets u
  split
  · obtain ⟨f, hf⟩ := causeEnds_eq u (42 + c)
    rw [hf]
    rfl
  · rfl

theorem freqDone_current (hr : kRising s.regs = true) :
    (freqDone s c).fld Fld.chFreqCurrent c = s.fld Fld.chFreqCurrent c := by
  have hne := RegDef.at_ne (r := Reg.chCntFreq) (r' := Reg.chFreq) rfl (by decide) c
  have hbusy : (s.setFlag Fld.chFreqBusy false c).fld Fld.chFreqCurrent c = s.fld Fld.chFreqCurrent c :=
    State.fld_setFld_beside s hr Fld.chFreqBusy Fld.chFreqCurrent _ c 0 c 0 rfl (by decide) (by decide)
  unfold freqDone
  extract_lets counted told
  rw [State.fld_modCh, State.fld_info]
  exact (State.fld_congr (State.rd_count_other _ hne 1)).trans hbusy

theorem trainingReleased_current (hr : kRising s.regs = true) :
    (trainingReleased s c).fld Fld.chFreqCurrent c = s.fld Fld.chFreqCurrent c := by
  unfold trainingReleased
  split
  · exact freqDone_current hr
  · rfl

theorem trainingReleased_touches (s : State) (c : Nat) :
    Touches s (trainingReleased s c) [Reg.chFreq.at c, Reg.chCntFreq.at c] := by
  unfold trainingReleased
  split
  · exact freqDone_touches s c
  · exact .of_regs rfl

theorem setGeom_touches (s : State) (c : Nat) : Touches s (setGeom s c) [Reg.tierGeom.at c, Reg.tierStatus.at] := by
  have hgeom : Reg.tierGeom.at c ∈ [Reg.tierGeom.at c, Reg.tierStatus.at] := List.mem_cons_self
  unfold setGeom
  extract_lets ranks ways sized gibs
  have hsized : Touches s sized [Reg.tierGeom.at c, Reg.tierStatus.at] :=
    ((Touches.of_regs rfl).setFld Fld.tierGeomRanks _ hgeom).setFld Fld.tierGeomSets _ hgeom
  split
  · exact hsized.setFlag Fld.tierGeomTrim _ hgeom
  · exact ((hsized.setFlag Fld.tierGeomTrim _ hgeom).setFlag Fld.tierStatusRankTrim _
      (List.mem_cons_of_mem _ List.mem_cons_self)).trans (.of_regs rfl)

/-- The geometry's words stand apart from a channel's own. -/
theorem not_mem_geomWords {r : RegDef} (hstride : r.s1 = 0x1000) (hbase : 0x10000 ≤ r.base) (c : Nat) :
    r.at c ∉ [Reg.tierGeom.at c, Reg.tierStatus.at] := by
  simp only [RegDef.at, hstride, Reg.tierGeom, Reg.tierStatus, List.mem_cons, List.not_mem_nil, or_false, not_or]
  omega

theorem setGeom_ch (s : State) (c : Nat) : (setGeom s c).ch c = s.ch c := by
  unfold setGeom
  extract_lets ranks ways sized gibs
  split <;> rfl

theorem trainingCleared_trn (s : State) (c : Nat) : ((trainingCleared s c).ch c).trn = (s.ch c).trn := by
  unfold trainingCleared
  extract_lets u
  have hu : (u.ch c).trn = (s.ch c).trn := by simp only [u, State.modCh_ch]
  split
  · obtain ⟨f, hf⟩ := causeEnds_eq u (42 + c)
    rw [hf]
    exact hu
  · exact hu

theorem trainingReleased_trn (s : State) (c : Nat) : ((trainingReleased s c).ch c).trn = (s.ch c).trn := by
  unfold trainingReleased freqDone
  extract_lets counted told
  split
  · rw [State.modCh_ch]
    rfl
  · rfl

theorem trainingDone_trn : ((trainingDone s c sp).ch c).trn = .done := by
  unfold trainingDone
  extract_lets u
  have hu : (u.ch c).trn = .done := by
    have hch : u.ch c = (endTraining (trainingFound s c sp) c .done).ch c := congrArg (·[chan c]) (State.wr_chs ..)
    rw [hch, endTraining_ch]
  rw [trainingReleased_trn, trainingCleared_trn, State.info_ch, hu]

/-- From its count on, a training's end writes the words of a change of set point alone, and leaves the current one. -/
theorem trainingDone_words (hr : kRising s.regs = true) :
    let u := trainingCounted (trainingFound s c sp) c
    Touches u (trainingDone s c sp) [Reg.chFreq.at c, Reg.chCntFreq.at c]
      ∧ (trainingDone s c sp).fld Fld.chFreqCurrent c = u.fld Fld.chFreqCurrent c := by
  have hrising : kRising (trainingCounted (trainingFound s c sp) c).regs = true :=
    (trainingCounted_touches ..).rising ((trainingFound_touches ..).rising (trainingPlaced_touches.rising hr))
  unfold trainingDone
  intro u
  have hregs (a b : Nat) (x y : Word) : (trainingCleared (u.info a b x y) c).regs = u.regs := trainingCleared_regs ..
  refine ⟨(Touches.of_regs (hregs ..)).trans (trainingReleased_touches ..), ?_⟩
  rw [trainingReleased_current ((hregs ..).symm ▸ hrising), State.fld_of_regs (hregs ..)]

/-- A training's end in the words of its channel (R351, R356, R357). -/
theorem finishTraining_shows (hr : kRising s.regs = true) (hst : (s.ch c).st ≠ .retrain) (hsp : sp < 4) :
    ((finishTraining s c sp).ch c).trn = .done ∧ getBits ((finishTraining s c sp).rd (Reg.trimValid.at c)) sp 1 = 1
      ∧ (finishTraining s c sp).fld Fld.chFreqCurrent c = sp ∧ (finishTraining s c sp).fld Fld.trnStatusPhase c = 0
      ∧ (finishTraining s c sp).rd (Reg.trnCntRun.at c) = satAdd32 (s.rd (Reg.trnCntRun.at c)) 1 := by
  obtain ⟨hvalid, hcurrent, hplaced⟩ := trainingPlaced_words (c := c) hr hsp
  have hfound := trainingFound_touches s c sp
  obtain ⟨hphase, hcount⟩ := trainingCounted_words (c := c) (hfound.rising hplaced)
  have hcounted := trainingCounted_touches (trainingFound s c sp) c
  obtain ⟨hdone, hkept⟩ := trainingDone_words (c := c) (sp := sp) hr
  have hgeom := setGeom_touches (trainingDone s c sp) c
  rw [finishTraining_outside hst]
  refine ⟨(congrArg Channel.trn (setGeom_ch ..)).trans trainingDone_trn, ?_, ?_, ?_, ?_⟩
  · rw [hgeom.rd (not_mem_geomWords rfl (by decide) c), hdone.rd, hcounted.rd, hfound.rd, hvalid]
    all_goals simp [RegDef.at, Reg.trimValid, Reg.chFreq, Reg.chCntFreq, Reg.trnStatus, Reg.trnCntRun, Reg.phyEndtap,
      Reg.phyStatus, Reg.chPprFree]
  · rw [hgeom.fld (f := Fld.chFreqCurrent) (not_mem_geomWords rfl (by decide) c), hkept, hcounted.fld, hfound.fld, hcurrent]
    all_goals simp [RegDef.at, Fld.chFreqCurrent, Reg.chFreq, Reg.trnStatus, Reg.trnCntRun, Reg.phyEndtap, Reg.phyStatus,
      Reg.chPprFree]
  · rw [hgeom.fld (f := Fld.trnStatusPhase) (not_mem_geomWords rfl (by decide) c), hdone.fld, hphase]
    simp [RegDef.at, Fld.trnStatusPhase, Reg.trnStatus, Reg.chFreq, Reg.chCntFreq]
  · rw [hgeom.rd (not_mem_geomWords rfl (by decide) c), hdone.rd, hcount, hfound.rd, trainingPlaced_touches.rd]
    all_goals simp [RegDef.at, Reg.trnCntRun, Reg.chFreq, Reg.chCntFreq, Reg.phyEndtap, Reg.phyStatus, Reg.chPprFree,
      Reg.trimValid]

end

end Sys2Proof.Machine

end

/-! SUPPORT. The statement about training. -/

section

open Sys2Proof Sys2Proof.Machine

/-- Settles O35: no image is staged, so the gate after a step changes nothing and the step's own effect stands; what it shows
is read off the words that each part of the training's end may write, and the rest is the vault. -/
theorem trainingProceeds : Obligations.TrainingProceeds := by
  intro c phase sp s hw hm hst hsp htrn htarget himage
  have hr := State.wf_regs_rising hw
  have hreset : s.mode ≠ .reset := by simp [hm]
  simp only [← State.ch_val] at hst htrn htarget ⊢
  have hstep {r : TrnResult} {t : State} (ht : trainStep s c r = t) (hstaged : t.tseqStaged = s.tseqStaged) :
      opTrainStep s c r = t := by
    subst ht
    exact opTrainStep_unstaged hreset (by rwa [hstaged])
  refine ⟨fun hnext => ⟨opTrainStep s c .phaseOk, rfl, ?_⟩, fun hlast => ⟨opTrainStep s c .phaseOk, rfl, ?_⟩,
    fun hsource hused => ⟨opTrainStep s c .phaseFail, rfl, ?_⟩⟩
  · rw [hstep (trainStep_next htrn htarget hnext) rfl]
    obtain ⟨hwords, hrest⟩ := nextPhaseBegun_frame (c := c) (sp := sp) hr (nextPhase s c phase)
    exact ⟨congrArg Channel.trn (nextPhaseBegun_ch _), nextPhaseBegun_phase hr hnext, hwords,
      otherChannels_of_vault (nextPhaseBegun_vault _), hrest⟩
  · rw [hstep (trainStep_last htrn htarget hlast) (finishTraining_keeps (phyKeeps_tseqStaged c) hst)]
    have hvault := finishTraining_keeps (sp := sp) (phyKeeps_vault c) hst
    obtain ⟨hdone, hvalid, hcurrent, hphase, hcount⟩ := finishTraining_shows hr hst hsp
    exact ⟨hdone, hvalid, hcurrent, hphase, hcount, dataKept_of_shelf (shelf_of_vault hvault), otherChannels_of_vault hvault⟩
  · rw [hstep (trainStep_fails htrn htarget hsource hused) (failTraining_tseqStaged hst false)]
    have hvault := failTraining_vault s c sp phase false
    obtain ⟨hfailed, hidle, hranks⟩ := failTraining_shows (sp := sp) (phase := phase) hr hst false
    exact ⟨hfailed, hidle, hranks, dataKept_of_shelf (shelf_of_vault hvault), otherChannels_of_vault hvault⟩

end

/-! SUPPORT. The passes of running calibration: their start, acceptance and rejection (R365 to R377, R386). -/

section

namespace Sys2Proof.Machine

/-! ### A pass starts (R365, R373) -/

/-- The kinds of the open passes with the limits they started with. -/
def passLimits (s : State) (c : Nat) : List (Nat × Word) := (s.ch c).passes.map (fun p => (p.kind, p.check))

section
variable {s : State} {c kind : Nat}

theorem markPasses_limits (s : State) (c why : Nat) : passLimits (markPasses s c why) c = passLimits s c := by
  rw [passLimits, markPasses_ch, List.map_map]
  rfl

theorem markSr_limits (s : State) (c : Nat) : passLimits (markSr s c) c = passLimits s c := by
  unfold markSr
  split
  · rfl
  · exact markPasses_limits ..

theorem startPass_limits (hkind : kind ≠ 1) (hnew : (s.ch c).passes.any (fun p => p.kind == kind) = false) :
    passLimits (startPass s c kind) c = passLimits s c ++ [(kind, s.rd (Reg.calCheck.at c))] := by
  have hkept : (s.ch c).passes.filter (fun p => p.kind != kind) = (s.ch c).passes :=
    List.filter_eq_self.2 fun p hp => by simpa using List.any_eq_false.1 hnew p hp
  unfold startPass
  extract_lets p opened marked
  have hopened : passLimits opened c = passLimits s c ++ [(kind, s.rd (Reg.calCheck.at c))] := by
    rw [passLimits, State.modCh_ch]
    dsimp only
    rw [hkept, List.map_append]
    rfl
  have hmarked : passLimits marked c = passLimits opened c := by
    simp only [marked, if_neg hkind, markSr_limits]
  split
  · rw [markPasses_limits, hmarked, hopened]
  · rw [hmarked, hopened]

theorem startPass_keeps {γ : Type} (g : State → γ) (hg : ∀ u f, g (u.modCh (chan c) f) = g u) (s : State) (kind : Nat) :
    g (startPass s c kind) = g s := by
  unfold startPass
  extract_lets p opened marked
  have hmarked : g marked = g s := by
    simp only [marked, markSr]
    split
    · exact hg ..
    · split
      · exact hg ..
      · exact (hg ..).trans (hg ..)
  split
  · exact (hg ..).trans hmarked
  · exact hmarked

/-- A start moves the channel alone. -/
theorem startPass_chs (s : State) (c kind : Nat) : { startPass s c kind with chs := s.chs } = s :=
  startPass_keeps (fun u : State => { u with chs := s.chs }) (fun _ _ => rfl) s kind

theorem opPassStart_starts (hruns : calRuns s c = true) (hkind : 2 ≤ kind) (hfreq : (s.ch c).freq = .none)
    (hkinds : kindRuns s c kind = true) (hperiod : calPeriodOn s c kind = true)
    (hnew : (s.ch c).passes.any (fun p => p.kind == kind) = false) : opPassStart s c kind = startPass s c kind := by
  unfold opPassStart
  exact if_pos (by simp [hruns, hfreq, hkinds, hkind, hperiod, hnew])

/-! ### A pass ends (R371, R377) -/

variable {p : CalPass} {res : List CalRes}

theorem opPassEnd_judges (hkind : 2 ≤ kind) (hopen : (s.ch c).passes.find? (fun p => p.kind == kind) = some p)
    (hruns : calRuns s c = true) (hvddq : vddqOk s c = true) (hsr : (s.ch c).sr = .active)
    (himage : (judgePass s c p res).tseqStaged = []) :
    opPassEnd s c kind res = dropPass (judgePass s c p res) c kind := by
  have hfind : (s.ch c).passes.find? (fun p => p.kind == kind && decide (2 ≤ p.kind)) = some p := by
    rw [← hopen]
    refine congrArg (List.find? · _) (funext fun x => ?_)
    by_cases hx : x.kind = kind
    · simp [hx, hkind]
    · simp [hx]
  have hactive : markSr s c = s := if_pos (by simp [hsr])
  unfold opPassEnd
  simp only [hfind, hruns, hvddq, hactive, hopen, Bool.not_true, Bool.false_eq_true, if_false, if_true, Option.getD_some]
  refine switchTseq_none ?_
  rw [dropPass, State.modCh_tseqStaged, himage]
  rfl

theorem dropPass_ch (s : State) (c kind : Nat) : (dropPass s c kind).ch c
    = { s.ch c with passes := (s.ch c).passes.filter (fun p => p.kind != kind) } := State.modCh_ch ..

theorem dropPass_closed (s : State) (c kind : Nat) : ∀ x ∈ ((dropPass s c kind).ch c).passes, x.kind ≠ kind := by
  intro x hx
  rw [dropPass_ch] at hx
  simpa using (List.mem_filter.1 hx).2

theorem dropPass_keeps (s : State) (c kind : Nat) : ((dropPass s c kind).ch c).trims = (s.ch c).trims
    ∧ ((dropPass s c kind).ch c).corr = (s.ch c).corr := by
  rw [dropPass_ch]
  exact ⟨rfl, rfl⟩

theorem dropPass_regs (s : State) (c kind : Nat) : (dropPass s c kind).regs = s.regs := State.modCh_regs ..

theorem dropPass_vault (s : State) (c kind : Nat) : (dropPass s c kind).vault c = s.vault c := State.modCh_vault ..

end

/-! ### The settings that an acceptance covers (R372, R375) -/

/-- A result becomes the target of its setting. -/
def calTaken (s : State) (c kind : Nat) (r : Nat × Nat × Int) : State :=
  let d := r.2.2 - calPresent s c kind r.1
  let keep := (s.ch c).corr.filter (fun x => !(calLine x.kind == calLine kind && x.lane == r.1))
  let x : Corr := { kind := kind, lane := r.1, rank := r.2.1, delta := d, since := s.us }
  s.modCh (chan c) (fun q => { q with corr := if d = 0 then keep else keep ++ [x] })

/-- The taps per unit interval that a kind's settings were found at (R370). -/
def calNoted (s : State) (c kind : Nat) : State :=
  if kind = 2 ∨ kind = 3 ∨ kind = 5 then
    s.modCh (chan c) (fun q => { q with calTaps := kPut q.calTaps kind (s.fld Fld.phyTapUiTaps c) })
  else s

theorem calAccept_eq (s : State) (c kind : Nat) (res : List (Nat × Nat × Int)) :
    calAccept s c kind res = calBooks (calNoted (res.foldl (calTaken · c kind) (calAccepted s c)) c kind) c := rfl

section
variable {s t : State} {c kind lane : Nat} {r : Nat × Nat × Int} {res : List (Nat × Nat × Int)}

theorem calPresent_congr (hkind : kind ≠ 1) (hcurrent : t.fld Fld.chFreqCurrent c = s.fld Fld.chFreqCurrent c)
    (htrims : (t.ch c).trims = (s.ch c).trims) : calPresent t c kind lane = calPresent s c kind lane := by
  simp only [calPresent, if_neg hkind, hcurrent, htrims]

theorem calTarget_congr (hkind : kind ≠ 1) (hcurrent : t.fld Fld.chFreqCurrent c = s.fld Fld.chFreqCurrent c)
    (htrims : (t.ch c).trims = (s.ch c).trims) (hcorr : (t.ch c).corr = (s.ch c).corr) :
    calTarget t c kind lane = calTarget s c kind lane := by
  rw [calTarget, calTarget, calPresent_congr hkind hcurrent htrims, calPending, calPending, hcorr]

theorem calTaken_trims (s : State) (c kind : Nat) (r : Nat × Nat × Int) :
    ((calTaken s c kind r).ch c).trims = (s.ch c).trims := by
  rw [calTaken, State.modCh_ch]

/-- A result replaces the pending correction of its own setting. -/
theorem calPending_calTaken_same (s : State) (c kind : Nat) (r : Nat × Nat × Int) :
    ((calPending (calTaken s c kind r) c kind r.1).map (fun x => x.delta)).getD 0 = r.2.2 - calPresent s c kind r.1 := by
  have hgone : ((s.ch c).corr.filter (fun x => !(calLine x.kind == calLine kind && x.lane == r.1))).find?
      (fun x => calLine x.kind == calLine kind && x.lane == r.1) = none :=
    List.find?_eq_none.2 fun x hx => by
      simpa only [Bool.not_eq_true', Bool.not_eq_true] using (List.mem_filter.1 hx).2
  rw [calPending, calTaken, State.modCh_ch]
  dsimp only
  split
  · next hd => rw [hgone, hd]; rfl
  · rw [List.find?_append, hgone]
    simp

theorem calPending_calTaken_other (s : State) (c kind : Nat) (hlane : r.1 ≠ lane) :
    calPending (calTaken s c kind r) c kind lane = calPending s c kind lane := by
  have hkept : ((s.ch c).corr.filter (fun x => !(calLine x.kind == calLine kind && x.lane == r.1))).find?
      (fun x => calLine x.kind == calLine kind && x.lane == lane)
        = (s.ch c).corr.find? (fun x => calLine x.kind == calLine kind && x.lane == lane) := by
    rw [List.find?_filter]
    refine congrArg (List.find? · _) (funext fun x => ?_)
    by_cases hx : x.lane = lane
    · simp [hx, hlane.symm, beq_eq_decide]
    · simp [hx]
  rw [calPending, calPending, calTaken, State.modCh_ch]
  dsimp only
  split
  · exact hkept
  · rw [List.find?_append, hkept]
    simp [hlane]

theorem calTarget_calTaken (hkind : kind ≠ 1) : calTarget (calTaken s c kind r) c kind lane
    = if r.1 = lane then r.2.2 else calTarget s c kind lane := by
  have hpresent (l : Nat) : calPresent (calTaken s c kind r) c kind l = calPresent s c kind l :=
    calPresent_congr hkind (State.fld_modCh ..) (calTaken_trims ..)
  split
  · next h =>
    subst h
    rw [calTarget, hpresent, calPending_calTaken_same, add_sub_cancel]
  · next h => rw [calTarget, calTarget, hpresent, calPending_calTaken_other s c kind h]

/-- Results for other lanes leave a setting's target. -/
theorem calTarget_foldl_other (hkind : kind ≠ 1) (hlane : lane ∉ res.map Prod.fst) :
    calTarget (res.foldl (calTaken · c kind) s) c kind lane = calTarget s c kind lane := by
  induction res generalizing s with
  | nil => rfl
  | cons r res ih =>
    rw [List.map_cons, List.mem_cons, not_or] at hlane
    obtain ⟨hhead, htail⟩ := hlane
    rw [List.foldl_cons, ih htail, calTarget_calTaken hkind, if_neg (Ne.symm hhead)]

/-- Every result for a lane of its own is the target of its setting. -/
theorem calTarget_foldl (hkind : kind ≠ 1) (hlanes : (res.map Prod.fst).Nodup) (hr : r ∈ res) :
    calTarget (res.foldl (calTaken · c kind) s) c kind r.1 = r.2.2 := by
  induction res generalizing s with
  | nil => exact absurd hr List.not_mem_nil
  | cons r' res ih =>
    obtain ⟨hhead, htail⟩ := List.nodup_cons.1 hlanes
    rw [List.foldl_cons]
    rcases List.mem_cons.1 hr with rfl | hr
    · rw [calTarget_foldl_other hkind hhead, calTarget_calTaken hkind, if_pos rfl]
    · exact ih htail hr

/-! ### An acceptance (R371, R375) -/

theorem calNoted_ch (s : State) (c kind : Nat) :
    ((calNoted s c kind).ch c).trims = (s.ch c).trims ∧ ((calNoted s c kind).ch c).corr = (s.ch c).corr := by
  unfold calNoted
  split
  · rw [State.modCh_ch]
    exact ⟨rfl, rfl⟩
  · exact ⟨rfl, rfl⟩

theorem calNoted_regs (s : State) (c kind : Nat) : (calNoted s c kind).regs = s.regs := by
  unfold calNoted
  split
  · exact State.modCh_regs ..
  · rfl

theorem calBooks_ch (s : State) (c : Nat) : (calBooks s c).ch c = s.ch c := by
  rw [calBooks, State.setFld_ch, State.setFlag_ch]

theorem calBooks_status (s : State) (c : Nat) : Touches s (calBooks s c) [Reg.calStatus.at c] :=
  ((Touches.of_regs rfl).setFlag Fld.calStatusPending _ (List.mem_singleton_self _)).setFld Fld.calStatusMaxPend _
    (List.mem_singleton_self _)

theorem calBooks_consec (hr : kRising s.regs = true) :
    (calBooks s c).fld Fld.calStatusConsec c = s.fld Fld.calStatusConsec c := by
  unfold calBooks
  extract_lets m
  have hpending := State.setFlag_rising hr Fld.calStatusPending (m != 0) c 0
  refine (State.fld_setFld_beside _ hpending Fld.calStatusMaxPend Fld.calStatusConsec _ c 0 c 0 rfl (by decide) ?_).trans
    (State.fld_setFld_beside s hr Fld.calStatusPending Fld.calStatusConsec _ c 0 c 0 rfl (by decide) (by decide))
  decide

theorem calAccepted_touches (s : State) (c : Nat) :
    Touches (s.count Reg.calCnt 1 c) (calAccepted s c) [Reg.calLastLo.at c, Reg.calLastHi.at c, Reg.calStatus.at c] :=
  (((Touches.of_regs rfl).setFld Fld.calLastLoUs _ (by simp [Fld.calLastLoUs])).setFld Fld.calLastHiUs _
    (by simp [Fld.calLastHiUs])).setFld Fld.calStatusConsec 0 (by simp [Fld.calStatusConsec])

theorem calAccepted_consec (hr : kRising s.regs = true) : (calAccepted s c).fld Fld.calStatusConsec c = 0 :=
  have htimed := State.setFld_rising _ (State.setFld_rising _ (State.count_rising s hr Reg.calCnt 1 c 0) ..) ..
  State.fld_setFld _ htimed Fld.calStatusConsec 0 c 0 (by decide)

end

section
variable {s : State} {c kind lane : Nat} {res : List (Nat × Nat × Int)}

theorem calTaken_foldl_trims (s : State) (c kind : Nat) (res : List (Nat × Nat × Int)) :
    ((res.foldl (calTaken · c kind) s).ch c).trims = (s.ch c).trims :=
  foldl_frame (fun u => (u.ch c).trims) _ _ _ fun u r => calTaken_trims u c kind r

theorem calTaken_foldl_regs (s : State) (c kind : Nat) (res : List (Nat × Nat × Int)) :
    (res.foldl (calTaken · c kind) s).regs = s.regs := foldl_frame State.regs _ _ _ fun _ _ => State.modCh_regs ..

theorem calAccepted_ch (s : State) (c : Nat) : (calAccepted s c).ch c = s.ch c := by
  rw [calAccepted, State.setFld_ch, State.setFld_ch, State.setFld_ch]
  exact congrArg (·[chan c]) (State.wr_chs ..)

/-- Beside its count an acceptance writes its time and the status alone (R386). -/
theorem calAccept_counts (s : State) (c kind : Nat) (res : List (Nat × Nat × Int)) : Touches (s.count Reg.calCnt 1 c)
    (calAccept s c kind res) [Reg.calLastLo.at c, Reg.calLastHi.at c, Reg.calStatus.at c] := by
  rw [calAccept_eq]
  have hfound := Touches.of_regs (l := [Reg.calLastLo.at c, Reg.calLastHi.at c, Reg.calStatus.at c])
    ((calNoted_regs (res.foldl (calTaken · c kind) (calAccepted s c)) c kind).trans (calTaken_foldl_regs ..))
  exact (calAccepted_touches s c).trans (hfound.trans ((calBooks_status _ c).mono (by simp)))

theorem calAccept_consec (hr : kRising s.regs = true) (kind : Nat) (res : List (Nat × Nat × Int)) :
    (calAccept s c kind res).fld Fld.calStatusConsec c = 0 := by
  have hfound : (calNoted (res.foldl (calTaken · c kind) (calAccepted s c)) c kind).regs = (calAccepted s c).regs :=
    (calNoted_regs ..).trans (calTaken_foldl_regs ..)
  have haccepted := (calAccepted_touches s c).rising (State.count_rising s hr ..)
  rw [calAccept_eq, calBooks_consec (by rwa [hfound]), State.fld_of_regs hfound, calAccepted_consec hr]

theorem calAccept_trims (s : State) (c kind : Nat) (res : List (Nat × Nat × Int)) :
    ((calAccept s c kind res).ch c).trims = (s.ch c).trims := by
  rw [calAccept_eq, calBooks_ch, (calNoted_ch ..).1, calTaken_foldl_trims, calAccepted_ch]

/-- What an acceptance does after its results leaves the targets (R372). -/
theorem calAccept_target (hkind : kind ≠ 1) (hlanes : (res.map Prod.fst).Nodup) {r : Nat × Nat × Int} (hr : r ∈ res) :
    calTarget (calAccept s c kind res) c kind r.1 = r.2.2 := by
  have htarget := calTarget_foldl (s := calAccepted s c) (c := c) hkind hlanes hr
  rw [calAccept_eq]
  generalize res.foldl (calTaken · c kind) (calAccepted s c) = u at htarget ⊢
  obtain ⟨htrims, hcorr⟩ := calNoted_ch u c kind
  have hcurrent : (calBooks (calNoted u c kind) c).fld Fld.chFreqCurrent c = u.fld Fld.chFreqCurrent c := by
    refine ((calBooks_status _ c).fld ?_).trans (State.fld_of_regs (calNoted_regs ..) ..)
    simp [RegDef.at, Fld.chFreqCurrent, Reg.chFreq, Reg.calStatus]
  rw [calTarget_congr hkind hcurrent (by rw [calBooks_ch, htrims]) (by rw [calBooks_ch, hcorr]), htarget]

/-! ### The decision-feedback step (R365) -/

theorem dfeStep_cases (s : State) (c : Nat) : dfeStep s c = s ∨ dfeStep s c = (s.free 8).2
    ∨ ∃ v, dfeStep s c = (s.free 8).2.setFld Fld.phyEqDfe1 v c := by
  unfold dfeStep
  split
  · exact .inl rfl
  · dsimp only
    split
    · exact .inr (.inl rfl)
    · exact .inr (.inr ⟨_, rfl⟩)

theorem dfeStep_ch (s : State) (c : Nat) : (dfeStep s c).ch c = s.ch c := by
  rcases dfeStep_cases s c with h | h | ⟨v, h⟩
  · rw [h]
  · rw [h]
    rfl
  · rw [h, State.setFld_ch]
    rfl

theorem dfeStep_touches (s : State) (c : Nat) : Touches s (dfeStep s c) [Reg.phyEq.at c] := by
  rcases dfeStep_cases s c with h | h | ⟨v, h⟩
  · rw [h]
    exact .of_regs rfl
  · rw [h]
    exact .of_regs rfl
  · rw [h]
    exact (Touches.of_regs (State.free_regs ..)).setFld Fld.phyEqDfe1 v (List.mem_singleton_self _)

theorem PhyKeeps.dfeStep {γ : Type} {g : State → γ} (h : PhyKeeps c g) (s : State) : g (dfeStep s c) = g s := by
  rcases dfeStep_cases s c with hs | hs | ⟨v, hs⟩ <;> rw [hs]
  · exact h.free ..
  · exact (h.setFld ..).trans (h.free ..)

end

/-! ### A pass accepted (R371, R375) -/

/-- A pass whose results are all good. -/
def passAccepted (s : State) (c kind : Nat) (res : List CalRes) : State :=
  let u := calAccept s c kind (res.map (fun r => (r.lane, r.rank, r.value)))
  if kind = 2 then dfeStep u c else u

section
variable {s : State} {c kind : Nat} {p : CalPass} {res : List CalRes}

theorem judgePass_accepts (hgood : ∀ r ∈ res, calCheckRes s c p r = 0) (hwhy : p.why = 0) :
    judgePass s c p res = passAccepted s c p.kind res := by
  have hnone : res.find? (fun r => calCheckRes s c p r != 0) = none :=
    List.find?_eq_none.2 fun r hr => by simp [hgood r hr]
  unfold judgePass
  rw [hnone]
  exact if_neg (not_not.2 hwhy)

theorem passAccepted_touches (s : State) (c kind : Nat) (res : List CalRes) :
    Touches (calAccept s c kind (res.map (fun r => (r.lane, r.rank, r.value)))) (passAccepted s c kind res)
      [Reg.phyEq.at c] := by
  unfold passAccepted
  extract_lets u
  split
  · exact dfeStep_touches u c
  · exact .of_regs rfl

theorem passAccepted_ch (s : State) (c kind : Nat) (res : List CalRes) : (passAccepted s c kind res).ch c
    = (calAccept s c kind (res.map (fun r => (r.lane, r.rank, r.value)))).ch c := by
  unfold passAccepted
  extract_lets u
  split
  · exact dfeStep_ch u c
  · rfl

theorem passAccepted_vault (s : State) (c kind : Nat) (res : List CalRes) :
    (passAccepted s c kind res).vault c = s.vault c := by
  unfold passAccepted
  extract_lets u
  have hu : u.vault c = s.vault c := calAccept_vault ..
  split
  · exact ((phyKeeps_vault c).dfeStep u).trans hu
  · exact hu

theorem calAccept_tseqStaged (s : State) (c kind : Nat) (res : List (Nat × Nat × Int)) :
    (calAccept s c kind res).tseqStaged = s.tseqStaged := by
  have hnoted (u : State) : (calNoted u c kind).tseqStaged = u.tseqStaged := by
    unfold calNoted
    split <;> rfl
  rw [calAccept_eq]
  exact (hnoted _).trans (foldl_frame State.tseqStaged _ _ _ fun _ _ => rfl)

theorem passAccepted_tseqStaged (s : State) (c kind : Nat) (res : List CalRes) :
    (passAccepted s c kind res).tseqStaged = s.tseqStaged := by
  unfold passAccepted
  extract_lets u
  have hu : u.tseqStaged = s.tseqStaged := calAccept_tseqStaged ..
  split
  · exact ((phyKeeps_tseqStaged c).dfeStep u).trans hu
  · exact hu

theorem passAccepted_target (hkind : kind ≠ 1) (hlanes : (res.map (fun r => r.lane)).Nodup) {r : CalRes} (hr : r ∈ res) :
    calTarget (passAccepted s c kind res) c kind r.lane = r.value := by
  have hlanes' : ((res.map (fun r => (r.lane, r.rank, r.value))).map Prod.fst).Nodup := by rwa [List.map_map]
  have htarget := calAccept_target (s := s) (c := c) hkind hlanes' (List.mem_map_of_mem hr)
  have hch := passAccepted_ch s c kind res
  have hne := RegDef.at_ne (r := Reg.chFreq) (r' := Reg.phyEq) rfl (by decide) c
  rw [calTarget_congr hkind ((passAccepted_touches s c kind res).fld (mt List.mem_singleton.1 hne))
    (congrArg Channel.trims hch) (congrArg Channel.corr hch), htarget]

theorem passAccepted_trims (s : State) (c kind : Nat) (res : List CalRes) :
    ((passAccepted s c kind res).ch c).trims = (s.ch c).trims := by
  rw [passAccepted_ch, calAccept_trims]

theorem passAccepted_words (hr : kRising s.regs = true) (kind : Nat) (res : List CalRes) :
    (passAccepted s c kind res).rd (Reg.calCnt.at c) = satAdd32 (s.rd (Reg.calCnt.at c)) 1
      ∧ (passAccepted s c kind res).fld Fld.calStatusConsec c = 0 := by
  have hwords := passAccepted_touches s c kind res
  have hcount := RegDef.at_ne (r := Reg.calCnt) (r' := Reg.phyEq) rfl (by decide) c
  have hstatus := RegDef.at_ne (r := Reg.calStatus) (r' := Reg.phyEq) rfl (by decide) c
  refine ⟨?_, (hwords.fld (f := Fld.calStatusConsec) (mt List.mem_singleton.1 hstatus)).trans (calAccept_consec hr ..)⟩
  rw [hwords.rd (mt List.mem_singleton.1 hcount), (calAccept_counts ..).rd, State.rd_count s hr, if_pos rfl]
  simp [RegDef.at, Reg.calCnt, Reg.calLastLo, Reg.calLastHi, Reg.calStatus]

end

/-! ### A pass rejected (R374, R375, R495) -/

/-- The settings of a channel, their pending corrections, and the images that wait to take over. -/
def State.settings (s : State) (c : Nat) : KMap Word × List Corr × KMap Nat :=
  ((s.ch c).trims, (s.ch c).corr, s.tseqStaged)

section
variable {s : State} {c : Nat}

theorem State.wr_settings (s : State) (o : Nat) (w : Word) (c : Nat) : (s.wr o w).settings c = s.settings c := rfl

theorem State.info_settings (s : State) (a b : Nat) (x y : Word) (c : Nat) : (s.info a b x y).settings c = s.settings c := rfl

theorem State.modCh_settings (s : State) {c : Nat} {f : Channel → Channel}
    (hf : ∀ q, (f q).trims = q.trims ∧ (f q).corr = q.corr := by exact fun _ => ⟨rfl, rfl⟩) :
    (s.modCh (chan c) f).settings c = s.settings c := by
  obtain ⟨htrims, hcorr⟩ := hf (s.ch c)
  rw [State.settings, State.modCh_ch, htrims, hcorr]
  rfl

theorem setChSt_settings (s : State) (c : Nat) (st : ChSt) (why : Nat) : (setChSt s c st why).settings c = s.settings c := by
  unfold setChSt
  dsimp only
  split
  · rfl
  · exact (State.info_settings ..).trans (State.modCh_settings s)

theorem queueLog_settings (s : State) (c kind : Nat) (body : List Nat) :
    (queueLog s kind body).settings c = s.settings c := by
  unfold queueLog
  split <;> rfl

theorem beginFence_settings (s : State) (c why : Nat) : (beginFence s c why).settings c = s.settings c := by
  unfold beginFence
  extract_lets counted fencing swept tiered
  calc _ = swept.settings c := State.modCh_settings swept
    _ = fencing.settings c := queueLog_settings ..
    _ = counted.settings c := setChSt_settings ..
    _ = s.settings c := rfl

/-- An orderly fence begins, waits, or is not needed (R470). -/
theorem orderlyFence_cases (s : State) (c why : Nat) : orderlyFence s c why = s
    ∨ orderlyFence s c why = s.modCh (chan c) (fun q => { q with fencePend := why + 1 })
    ∨ orderlyFence s c why = beginFence s c why := by
  unfold orderlyFence
  split
  · split
    · exact .inr (.inl rfl)
    · exact .inr (.inr rfl)
  · split
    · exact .inr (.inl rfl)
    · exact .inr (.inr rfl)
  · exact .inl rfl

theorem orderlyFence_settings (s : State) (c why : Nat) : (orderlyFence s c why).settings c = s.settings c := by
  rcases orderlyFence_cases s c why with h | h | h <;> rw [h]
  · exact State.modCh_settings s
  · exact beginFence_settings ..

theorem beginFence_phySight (s : State) (hc : c < 16) (why : Nat) : (beginFence s c why).phySight = s.phySight := by
  have hsweep (u : State) : (u.setFlag Fld.tierSweepActive false c).phySight = u.phySight := by
    refine u.wr_phySight (Bool.eq_false_iff.2 fun h => ?_) _
    obtain ⟨hunit, -⟩ := (phyWord_iff _).1 h
    simp only [RegDef.at, Fld.tierSweepActive, Reg.tierSweep] at hunit
    omega
  simp [beginFence, hsweep]

theorem orderlyFence_phySight (s : State) (hc : c < 16) (why : Nat) : (orderlyFence s c why).phySight = s.phySight := by
  rcases orderlyFence_cases s c why with h | h | h <;> rw [h]
  · exact State.modCh_phySight s (chan c) fun _ => rfl
  · exact beginFence_phySight s hc why

/-- A weak lane of an ONLINE channel is counted and told (R338). -/
def laneTold (s : State) (c lane : Nat) (tx : Bool) (eye : Nat) : State :=
  (s.count Reg.phyCntLaneWeak 1 c).info Ev.phyLaneWeak (Src.chan c) (dw (c % 16 + lane % 256 * 256 + tx.toNat * 2 ^ 16))
    (dw eye)

/-- The policy may ask for a RETRAIN of a channel with a weak lane (R495). -/
theorem laneWeakOnline_cases (s : State) (c lane : Nat) (tx : Bool) (eye : Nat) : laneWeakOnline s c lane tx eye = s
    ∨ laneWeakOnline s c lane tx eye = laneTold s c lane tx eye
    ∨ laneWeakOnline s c lane tx eye
        = orderlyFence ((laneTold s c lane tx eye).modCh (chan c) (fun q => { q with plan := 1 })) c Why.policy := by
  unfold laneWeakOnline
  split
  · dsimp only
    split
    · exact .inr (.inr rfl)
    · exact .inr (.inl rfl)
  · exact .inl rfl

theorem laneTold_settings (s : State) (c lane : Nat) (tx : Bool) (eye : Nat) :
    (laneTold s c lane tx eye).settings c = s.settings c := rfl

theorem laneWeakOnline_settings (s : State) (c lane : Nat) (tx : Bool) (eye : Nat) :
    (laneWeakOnline s c lane tx eye).settings c = s.settings c := by
  rcases laneWeakOnline_cases s c lane tx eye with h | h | h <;> rw [h]
  · exact laneTold_settings ..
  · exact (orderlyFence_settings ..).trans ((State.modCh_settings _).trans (laneTold_settings ..))

theorem laneWeakOnline_vault (s : State) (c lane : Nat) (tx : Bool) (eye : Nat) :
    (laneWeakOnline s c lane tx eye).vault c = s.vault c := by
  have htold : (laneTold s c lane tx eye).vault c = s.vault c := (State.info_vault ..).trans (State.count_vault ..)
  rcases laneWeakOnline_cases s c lane tx eye with h | h | h <;> rw [h]
  · exact htold
  · exact (orderlyFence_vault ..).trans ((State.modCh_vault ..).trans htold)

/-- Of the PHY's words a weak lane moves its count alone. -/
theorem laneWeakOnline_rd (s : State) (hc : c < 16) (lane : Nat) (tx : Bool) (eye : Nat) {o : Nat} (ho : phyWord o = true)
    (hcount : Reg.phyCntLaneWeak.at c ≠ o) : (laneWeakOnline s c lane tx eye).rd o = s.rd o := by
  have htold : (laneTold s c lane tx eye).rd o = s.rd o := (State.rd_info ..).trans (State.rd_count_other s hcount 1)
  rcases laneWeakOnline_cases s c lane tx eye with h | h | h <;> rw [h]
  · exact htold
  · exact (rd_of_phySight (orderlyFence_phySight _ hc _) ho).trans ((State.rd_modCh ..).trans htold)

/-- A rejection that is not the third in a row: its records and one more in CONSEC (R374, R376). -/
def passRejected (s : State) (c kind reason lane rank : Nat) (old new : Int) : State :=
  (calRejected s c kind reason lane rank old new).setFld Fld.calStatusConsec (s.fld Fld.calStatusConsec c + 1) c

theorem calRejected_touches (s : State) (c kind reason lane rank : Nat) (old new : Int) :
    Touches (s.count Reg.calCntFail 1 c) (calRejected s c kind reason lane rank old new) [Reg.calFailInfo.at c] :=
  ((Touches.of_regs rfl).wr _ (List.mem_singleton_self _)).trans (.of_regs (State.info_regs ..))

theorem calReject_records (hconsec : s.fld Fld.calStatusConsec c < 2) (kind reason lane rank : Nat) (old new : Int) :
    calReject s c kind reason lane rank old new = passRejected s c kind reason lane rank old new := by
  have hne := RegDef.at_ne (r := Reg.calStatus) (r' := Reg.calFailInfo) rfl (by decide) c
  have hne' := RegDef.at_ne (r := Reg.calCntFail) (r' := Reg.calStatus) rfl (by decide) c
  have hkept : (calRejected s c kind reason lane rank old new).fld Fld.calStatusConsec c = s.fld Fld.calStatusConsec c :=
    ((calRejected_touches ..).fld (mt List.mem_singleton.1 hne)).trans (State.fld_congr (State.rd_count_other s hne' 1))
  have hless : (calRejected s c kind reason lane rank old new).fld Fld.calStatusConsec c + 1 < 3 := by omega
  rw [passRejected, ← hkept]
  exact if_pos hless

theorem passRejected_words (hr : kRising s.regs = true) (hconsec : s.fld Fld.calStatusConsec c < 2)
    (kind reason lane rank : Nat) (old new : Int) :
    (passRejected s c kind reason lane rank old new).rd (Reg.calCntFail.at c) = satAdd32 (s.rd (Reg.calCntFail.at c)) 1
      ∧ (passRejected s c kind reason lane rank old new).fld Fld.calStatusConsec c = s.fld Fld.calStatusConsec c + 1 := by
  have hrecords := calRejected_touches s c kind reason lane rank old new
  have hne := RegDef.at_ne (r := Reg.calStatus) (r' := Reg.calCntFail) rfl (by decide) c
  have hne' := RegDef.at_ne (r := Reg.calCntFail) (r' := Reg.calFailInfo) rfl (by decide) c
  refine ⟨?_, ?_⟩
  · refine (State.rd_wr_other hne _).trans ((hrecords.rd (mt List.mem_singleton.1 hne')).trans ?_)
    rw [State.rd_count s hr, if_pos rfl]
  · refine (State.fld_setFld _ (hrecords.rising (State.count_rising s hr ..)) Fld.calStatusConsec _ c 0 (by decide)).trans ?_
    exact Nat.mod_eq_of_lt (by simp only [Fld.calStatusConsec] at hconsec ⊢; omega)

/-- A pass with a failing result is rejected for the first of them (R371, R374). -/
theorem judgePass_rejects {p : CalPass} {res : List CalRes} {r : CalRes} (hr : r ∈ res) (hbad : calCheckRes s c p r ≠ 0)
    (hconsec : s.fld Fld.calStatusConsec c < 2) : ∃ reason lane rank old new,
      let u := passRejected s c p.kind reason lane rank old new
      judgePass s c p res = u ∨ ∃ tx eye, judgePass s c p res = laneWeakOnline u c lane tx eye := by
  unfold judgePass
  cases hfind : res.find? (fun r => calCheckRes s c p r != 0) with
  | none => exact absurd (List.find?_eq_none.1 hfind r hr) (by simpa using hbad)
  | some x =>
    dsimp only
    rw [calReject_records hconsec]
    refine ⟨calCheckRes s c p x, x.lane, x.rank, calTarget s c p.kind x.lane, x.value, ?_⟩
    split
    · exact .inr ⟨_, _, rfl⟩
    · exact .inl rfl

theorem passRejected_settings (s : State) (c kind reason lane rank : Nat) (old new : Int) :
    (passRejected s c kind reason lane rank old new).settings c = s.settings c :=
  (State.wr_settings ..).trans ((State.info_settings ..).trans ((State.wr_settings ..).trans (State.wr_settings ..)))

theorem passRejected_vault (s : State) (c kind reason lane rank : Nat) (old new : Int) :
    (passRejected s c kind reason lane rank old new).vault c = s.vault c :=
  (State.setFld_vault ..).trans (calRejected_vault ..)

/-- What a rejected pass leaves, and its two counts (R374 to R376). -/
theorem judgePass_rejected {p : CalPass} {res : List CalRes} {r : CalRes} (hrise : kRising s.regs = true) (hc : c < 16)
    (hr : r ∈ res) (hbad : calCheckRes s c p r ≠ 0) (hconsec : s.fld Fld.calStatusConsec c < 2) :
    (judgePass s c p res).settings c = s.settings c ∧ (judgePass s c p res).vault c = s.vault c
      ∧ (judgePass s c p res).rd (Reg.calCntFail.at c) = satAdd32 (s.rd (Reg.calCntFail.at c)) 1
      ∧ (judgePass s c p res).fld Fld.calStatusConsec c = s.fld Fld.calStatusConsec c + 1 := by
  obtain ⟨reason, lane, rank, old, new, h⟩ := judgePass_rejects hr hbad hconsec
  obtain ⟨hcount, hrow⟩ := passRejected_words hrise hconsec p.kind reason lane rank old new
  have hsettings := passRejected_settings s c p.kind reason lane rank old new
  have hvault := passRejected_vault s c p.kind reason lane rank old new
  generalize passRejected s c p.kind reason lane rank old new = u at h hcount hrow hsettings hvault
  rcases h with h | ⟨tx, eye, h⟩ <;> rw [h]
  · exact ⟨hsettings, hvault, hcount, hrow⟩
  · have hword {q : RegDef} (hstride : q.s1 = 0x1000) (hbase : 0x10000 ≤ q.base) (hphy : 0x400 ≤ q.base % 0x1000)
        (hne : Reg.phyCntLaneWeak.base ≠ q.base) : (laneWeakOnline u c lane tx eye).rd (q.at c) = u.rd (q.at c) :=
      laneWeakOnline_rd u hc lane tx eye ((phyWord_at hstride hbase c).trans (decide_eq_true hphy))
        (RegDef.at_ne hstride.symm hne c)
    refine ⟨(laneWeakOnline_settings ..).trans hsettings, (laneWeakOnline_vault ..).trans hvault, ?_, ?_⟩
    · rw [hword rfl (by decide) (by decide) (by decide), hcount]
    · exact (State.fld_congr (f := Fld.calStatusConsec) (hword rfl (by decide) (by decide) (by decide))).trans hrow

end

end Sys2Proof.Machine

end

/-! SUPPORT. The statement about calibration passes. -/

section

open Sys2Proof Sys2Proof.Machine

/-- Settles O36: results for lanes of their own do not touch each other's pending corrections, so each stands as the target
of its setting to the end (R372; log entry 39: the settings move later); a rejection, even one that finds a lane weak, leaves
settings and corrections. -/
theorem calibrationPasses : Obligations.CalibrationPasses := by
  intro c k s hw hruns hkind
  have hr := State.wf_regs_rising hw
  have hzq : calCode k ≠ 1 := by omega
  simp only [← State.ch_val]
  refine ⟨fun hfreq hkinds hperiod hnew => ?_, fun p res hopen hvddq hsr himage hgood hwhy hlanes _ => ?_,
    fun p res r hopen hvddq hsr himage hres hbad hconsec => ?_⟩
  · have hlimits := startPass_limits hzq hnew
    have hlast := congrArg List.getLast? hlimits
    have hlength := congrArg List.length hlimits
    rw [passLimits, List.getLast?_map, List.getLast?_concat, Option.map_eq_some_iff] at hlast
    obtain ⟨p, hp, hpair⟩ := hlast
    obtain ⟨hpkind, hcheck⟩ := Prod.mk.inj hpair
    refine ⟨opPassStart s c (calCode k), p, rfl, ?_⟩
    rw [opPassStart_starts hruns hkind hfreq hkinds hperiod hnew]
    exact ⟨hp, by simpa [passLimits] using hlength, hpkind, hcheck, otherChannels_of_vault (startPass_vault ..),
      startPass_chs s c _⟩
  · refine ⟨opPassEnd s c (calCode k) res, rfl, ?_⟩
    have hpkind : p.kind = calCode k := by simpa using List.find?_some hopen
    have hjudged := judgePass_accepts (c := c) hgood hwhy
    rw [hpkind] at hjudged
    rw [opPassEnd_judges hkind hopen hruns hvddq hsr (by rw [hjudged, passAccepted_tseqStaged, himage]), hjudged]
    have hregs := dropPass_regs (passAccepted s c (calCode k) res) c (calCode k)
    obtain ⟨htrims, hcorr⟩ := dropPass_keeps (passAccepted s c (calCode k) res) c (calCode k)
    have hvault := (dropPass_vault _ c (calCode k)).trans (passAccepted_vault s c (calCode k) res)
    have hshelf := shelf_of_vault hvault
    obtain ⟨hcount, hconsec⟩ := passAccepted_words (c := c) hr (calCode k) res
    refine ⟨dropPass_closed _ c _, fun r hmem => ?_, ?_, ?_, ?_, dataKept_of_shelf hshelf, congrArg Shelf.ledger hshelf,
      otherChannels_of_vault hvault⟩
    · rw [calTarget_congr hzq (State.fld_of_regs hregs ..) htrims hcorr]
      exact passAccepted_target hzq hlanes hmem
    · rw [State.rd, hregs]
      exact hcount
    · rw [State.fld_of_regs hregs, hconsec]
    · exact htrims.trans (passAccepted_trims ..)
  · refine ⟨opPassEnd s c (calCode k) res, rfl, ?_⟩
    obtain ⟨hsettings, hvault, hcount, hrow⟩ := judgePass_rejected hr c.isLt hres hbad hconsec
    obtain ⟨htrims, hcorr, hstaged⟩ : _ ∧ _ ∧ _ := by simpa only [State.settings, Prod.mk.injEq] using hsettings
    rw [opPassEnd_judges hkind hopen hruns hvddq hsr (hstaged.trans himage)]
    have hregs := dropPass_regs (judgePass s c p res) c (calCode k)
    obtain ⟨htrims', hcorr'⟩ := dropPass_keeps (judgePass s c p res) c (calCode k)
    have hshelf := shelf_of_vault ((dropPass_vault _ c (calCode k)).trans hvault)
    refine ⟨dropPass_closed _ c _, htrims'.trans htrims, hcorr'.trans hcorr, ?_, ?_,
      dataKept_of_shelf hshelf, congrArg Shelf.ledger hshelf⟩
    · rw [State.rd, hregs]
      exact hcount
    · rw [State.fld_of_regs hregs, hrow]

end

/-! SUPPORT. The statement about the state right after reset. -/

section

open Sys2Proof Sys2Proof.Machine

/-- Settles O38: every field is its default, and where no word is listed each register reads its reset word. -/
theorem resetState : Obligations.ResetState := by
  have hport (p : PortId) : State.reset.ports[p].st = .closed ∧ State.reset.ports[p].reqs = [] := by
    simp [State.reset]
  refine ⟨rfl, rfl, rfl, rfl, rfl, rfl, fun _ => rfl, hport, rfl, rfl, rfl, rfl, rfl, rfl, rfl, rfl, fun p r hr => ?_⟩
  rw [(hport p).2] at hr
  exact absurd hr List.not_mem_nil

end

/-! SUPPORT. A state in SAFE in which a channel changes by itself. -/

section

namespace Sys2Proof.Machine

/-- SAFE on a board without a flash part, channel 0 RETURNING, the journal's commit of its return waiting for the writer. -/
def returningState : State :=
  { State.reset with
    mode := .safe, start := .running, chs := State.reset.chs.set 0 { st := .returning }
    flash := { part := 0, log := [{ kind := LogKind.journal, body := [Jr.commit, 0] }] } }

/-- The writer runs in SAFE, and a board without a flash part completes the record at once (R490, log entry 56). -/
theorem returning_settles :
    returningState.chs[(0 : ChanId)].st = .returning ∧ (settle returningState).chs[(0 : ChanId)].st = .online := by
  decide +kernel

end Sys2Proof.Machine

end

/-! SUPPORT. The statement about what follows from a command by itself. -/

section

open Sys2Proof Sys2Proof.Machine

/-- Refutes O50, by its clause that no channel moves in SAFE: the log's writer goes on there, and a record that it completes
without a write, as every one is on a board without a flash part (log entry 56), ends the return of its channel (R490). On a
board with one, the record of a soft repair that finds no empty row in the journal changes its channel in the same way
(R497). -/
theorem not_whatFollowsByItself : ¬Obligations.WhatFollowsByItself := by
  intro h
  obtain ⟨-, hsafe, -⟩ := h returningState rfl
  obtain ⟨-, -, -, -, -, hchs, -⟩ := hsafe rfl
  obtain ⟨hbefore, hafter⟩ := returning_settles
  rw [hchs, hbefore] at hafter
  exact absurd hafter (by decide)

end

/-! SUPPORT. Mode requests (R455, R459, R461), and what a change of mode writes (R450). -/

section

namespace Sys2Proof.Machine

variable {s : State}

/-! ### A request (R455, R459) -/

theorem opModeReq_of_reset (h : s.mode = .reset) (n : Nat) : opModeReq s n = s := if_pos h

theorem Mode.code_lt (m : Mode) : m.code < 2 ^ 4 := by cases m <;> decide

/-- A request outside RESET shows in its word alone. -/
theorem opModeReq_waits (hr : kRising s.regs = true) (h : s.mode ≠ .reset) (m : Mode) :
    (opModeReq s m.code).flag Fld.blkModeReqPending = true ∧ (opModeReq s m.code).fld Fld.blkModeReqTarget = m.code
      ∧ OnlyWords s (opModeReq s m.code) [Reg.blkModeReq.at] := by
  have htarget := State.setFld_rising s hr Fld.blkModeReqTarget m.code 0 0
  rw [opModeReq, if_neg h]
  refine ⟨State.flag_setFlag htarget Fld.blkModeReqPending rfl (by decide), ?_,
    (OnlyWords.setFld hr Fld.blkModeReqTarget m.code 0 0).trans (OnlyWords.setFlag htarget Fld.blkModeReqPending true 0 0)⟩
  calc ((s.setFld Fld.blkModeReqTarget m.code).setFlag Fld.blkModeReqPending true).fld Fld.blkModeReqTarget
    _ = (s.setFld Fld.blkModeReqTarget m.code).fld Fld.blkModeReqTarget :=
      State.fld_setFld_beside _ htarget Fld.blkModeReqPending Fld.blkModeReqTarget 1 0 0 0 0 rfl (by decide) (by decide)
    _ = m.code % 2 ^ 4 := State.fld_setFld s hr Fld.blkModeReqTarget m.code 0 0 (by decide)
    _ = m.code := Nat.mod_eq_of_lt m.code_lt

/-! ### Its boundary (R461) -/

/-- A pending request names the mode in force, or a transition that may be made, or neither. -/
theorem modeRequest_cases (s : State) :
    Mode.ofCode (s.fld Fld.blkModeReqTarget) = some s.modeNow
      ∨ (∃ m, Mode.ofCode (s.fld Fld.blkModeReqTarget) = some m ∧ m ≠ s.modeNow ∧ modeEdge s m = true
          ∧ startFresh s = false)
      ∨ ∀ m, Mode.ofCode (s.fld Fld.blkModeReqTarget) = some m →
          m ≠ s.modeNow ∧ (modeEdge s m = false ∨ startFresh s = true) := by
  by_cases hsame : Mode.ofCode (s.fld Fld.blkModeReqTarget) = some s.modeNow
  · exact .inl hsame
  · by_cases hedge : ∃ m, Mode.ofCode (s.fld Fld.blkModeReqTarget) = some m ∧ m ≠ s.modeNow ∧ modeEdge s m = true
        ∧ startFresh s = false
    · exact .inr (.inl hedge)
    · refine .inr (.inr fun m hn => ?_)
      have hm : m ≠ s.modeNow := fun e => hsame (e ▸ hn)
      refine ⟨hm, ?_⟩
      cases he : modeEdge s m with
      | false => exact .inl rfl
      | true => exact .inr ((Bool.eq_false_or_eq_true _).resolve_right fun hf => hedge ⟨m, hn, hm, he, hf⟩)

/-- The request is pending no more. -/
def requestTaken (s : State) : State := s.setFlag Fld.blkModeReqPending false

/-- The request is accepted. -/
def requestMet (s : State) : State := (requestTaken s).setFlag Fld.blkModeReqRefused false

theorem modeBoundary_of_same (hp : s.flag Fld.blkModeReqPending = true)
    (hn : Mode.ofCode (s.fld Fld.blkModeReqTarget) = some s.modeNow) : modeBoundary s = requestMet s := by
  unfold modeBoundary
  rw [if_neg (by simp [hp])]
  simp only [hn]
  exact if_pos rfl

theorem modeBoundary_of_edge (hp : s.flag Fld.blkModeReqPending = true) {m : Mode}
    (hn : Mode.ofCode (s.fld Fld.blkModeReqTarget) = some m) (hm : m ≠ s.modeNow) (he : modeEdge s m = true)
    (hf : startFresh s = false) : modeBoundary s = changeMode (requestMet s) m := by
  have hedge : (modeEdge (requestTaken s) m && !startFresh (requestTaken s)) = true := by
    rw [show modeEdge (requestTaken s) m = modeEdge s m from rfl, he, show startFresh (requestTaken s) = startFresh s from rfl, hf]
    rfl
  unfold modeBoundary
  rw [if_neg (by simp [hp])]
  simp only [hn]
  exact (if_neg hm).trans (if_pos hedge)

theorem modeBoundary_of_refused (hp : s.flag Fld.blkModeReqPending = true)
    (h : ∀ m, Mode.ofCode (s.fld Fld.blkModeReqTarget) = some m →
      m ≠ s.modeNow ∧ (modeEdge s m = false ∨ startFresh s = true)) :
    modeBoundary s = refuseMode (requestTaken s) (s.fld Fld.blkModeReqTarget) := by
  unfold modeBoundary
  rw [if_neg (by simp [hp])]
  cases hn : Mode.ofCode (s.fld Fld.blkModeReqTarget) with
  | none => simp only [hn, requestTaken]
  | some m =>
    simp only [hn]
    obtain ⟨hm, hno⟩ := h m hn
    have hedge : ¬(modeEdge (requestTaken s) m && !startFresh (requestTaken s)) = true := by
      rw [show modeEdge (requestTaken s) m = modeEdge s m from rfl, show startFresh (requestTaken s) = startFresh s from rfl]
      rcases hno with he | hf
      · simp [he]
      · simp [hf]
    exact (if_neg hm).trans (if_neg hedge)

theorem requestTaken_rising (hr : kRising s.regs = true) : kRising (requestTaken s).regs = true :=
  State.setFlag_rising hr ..

theorem requestTaken_pending (hr : kRising s.regs = true) : (requestTaken s).flag Fld.blkModeReqPending = false :=
  State.flag_setFlag hr Fld.blkModeReqPending rfl (by decide)

/-- PENDING does not change with REFUSED. -/
theorem flag_pending_setFlag_refused (hr : kRising s.regs = true) (b : Bool) :
    (s.setFlag Fld.blkModeReqRefused b).flag Fld.blkModeReqPending = s.flag Fld.blkModeReqPending :=
  State.flag_setFlag_beside hr Fld.blkModeReqRefused Fld.blkModeReqPending rfl (by decide) (by decide)

theorem requestMet_rising (hr : kRising s.regs = true) : kRising (requestMet s).regs = true :=
  State.setFlag_rising (requestTaken_rising hr) ..

theorem requestMet_flags (hr : kRising s.regs = true) : (requestMet s).flag Fld.blkModeReqPending = false
    ∧ (requestMet s).flag Fld.blkModeReqRefused = false :=
  ⟨(flag_pending_setFlag_refused (requestTaken_rising hr) false).trans (requestTaken_pending hr),
    State.flag_setFlag (requestTaken_rising hr) Fld.blkModeReqRefused rfl (by decide)⟩

theorem requestTaken_only (hr : kRising s.regs = true) : OnlyWords s (requestTaken s) [Reg.blkModeReq.at] :=
  OnlyWords.setFlag hr Fld.blkModeReqPending false 0 0

theorem requestMet_only (hr : kRising s.regs = true) : OnlyWords s (requestMet s) [Reg.blkModeReq.at] :=
  (requestTaken_only hr).trans (OnlyWords.setFlag (requestTaken_rising hr) Fld.blkModeReqRefused false 0 0)

/-- A refusal shows in REFUSED, is counted, and leaves all but its two words and its event. -/
theorem refuseMode_refuses (hr : kRising s.regs = true) (n : Nat) :
    (refuseMode s n).flag Fld.blkModeReqPending = s.flag Fld.blkModeReqPending
      ∧ (refuseMode s n).flag Fld.blkModeReqRefused = true
      ∧ (refuseMode s n).rd Reg.blkCntRefused.at = satAdd32 (s.rd Reg.blkCntRefused.at) 1
      ∧ { refuseMode s n with regs := s.regs, evq := s.evq } = s
      ∧ WordsKept s (refuseMode s n) [Reg.blkModeReq.at, Reg.blkCntRefused.at] := by
  have hflagged := State.setFlag_rising hr Fld.blkModeReqRefused true 0 0
  have hcount (g : Fld) (hg : Reg.blkCntRefused.at ≠ g.reg.at) :
      (refuseMode s n).flag g = (s.setFlag Fld.blkModeReqRefused true).flag g :=
    (State.flag_info ..).trans (State.flag_count_other hflagged _ _ _ _ _ _ _ hg)
  have hne : Fld.blkModeReqRefused.reg.at ≠ Reg.blkCntRefused.at := by decide
  refine ⟨(hcount _ (by decide)).trans (flag_pending_setFlag_refused hr true),
    (hcount _ (by decide)).trans (State.flag_setFlag hr Fld.blkModeReqRefused rfl (by decide)), ?_, rfl, ?_⟩
  · rw [refuseMode, State.rd_info, State.rd_count _ hflagged, if_pos rfl, State.setFlag, State.rd_setFld s hr, if_neg hne]
  · have hwords := ((WordsKept.of_regs (s := s) rfl).setFlag hr Fld.blkModeReqRefused true 0 0
      (l := [Reg.blkModeReq.at, Reg.blkCntRefused.at]) List.mem_cons_self).count hflagged Reg.blkCntRefused 1 0 0
      (List.mem_cons_of_mem _ List.mem_cons_self)
    exact fun o ho => (State.rd_info ..).trans (hwords o ho)

/-! ### A change of mode (R450, R52) -/

theorem settlePort_frame (s : State) (p : PortId) : ∃ ports, settlePort s p = { s with ports := ports } := by
  unfold settlePort
  dsimp only
  split <;> exact ⟨_, rfl⟩

/-- A port that follows the mode shows its new advertisement, and moves nothing else of the window. -/
theorem updatePort_touches (s : State) (p : PortId) : Touches s (updatePort s p) [Reg.wpCcredAdv.at p.val] := by
  have hsettle (u : State) : (settlePort u p).regs = u.regs := by
    obtain ⟨ports, h⟩ := settlePort_frame u p
    rw [h]
  unfold updatePort
  split
  · split
    · exact ((Touches.of_regs rfl).setFld Fld.wpCcredAdvAdvertised _ (List.mem_singleton_self _)).trans (.of_regs rfl)
    · exact .of_regs rfl
  · refine .of_regs ?_
    simp only [apply_ite State.regs, hsettle, State.modPort_regs, ite_self]
  · exact .of_regs (hsettle s)
  · exact .of_regs rfl

/-- A port that follows the mode moves ports and words alone. -/
theorem updatePort_frame (s : State) (p : PortId) :
    ∃ regs ports, updatePort s p = { s with regs := regs, ports := ports } := by
  have hsettle (u : State) (hu : ∃ ports, u = { s with ports := ports }) :
      ∃ regs ports, settlePort u p = { s with regs := regs, ports := ports } := by
    obtain ⟨ports, rfl⟩ := hu
    obtain ⟨ports', h⟩ := settlePort_frame { s with ports := ports } p
    exact ⟨s.regs, ports', h⟩
  unfold updatePort
  split
  · split <;> exact ⟨_, _, rfl⟩
  · split
    · exact hsettle _ ⟨_, rfl⟩
    · split
      · exact hsettle _ ⟨_, rfl⟩
      · split <;> exact ⟨_, _, rfl⟩
  · exact hsettle s ⟨_, rfl⟩
  · exact ⟨_, _, rfl⟩

/-- A change of mode moves ports and words beside the mode's own fields. -/
theorem enterMode_frame (s : State) (m : Mode) :
    ∃ regs ports, enterMode s m = { setMode s m with regs := regs, ports := ports } := by
  refine List.foldlRecOn (motive := fun u : State => ∃ regs ports, u = { setMode s m with regs := regs, ports := ports })
    _ _ ⟨_, _, rfl⟩ ?_
  rintro _ ⟨regs, ports, rfl⟩ p -
  obtain ⟨regs', ports', h⟩ := updatePort_frame { setMode s m with regs := regs, ports := ports } (portOf p)
  exact ⟨regs', ports', h⟩

theorem enterMode_modes (s : State) (m : Mode) : (enterMode s m).mode = m ∧ (enterMode s m).prev = s.modeNow := by
  obtain ⟨regs, ports, h⟩ := enterMode_frame s m
  rw [h]
  exact ⟨rfl, rfl⟩

/-- The words that a change of mode may write beside its count: the ports' advertisements and the channels' sweeps. -/
def changeWords : List Nat :=
  (List.range 8).map (fun p => Reg.wpCcredAdv.at p) ++ (List.range 16).map (fun c => Reg.tierSweep.at c)

theorem enterMode_touches (s : State) (m : Mode) : Touches (s.count Reg.blkCntMode) (enterMode s m) changeWords := by
  refine .foldl (.of_regs rfl) fun u p hp => (updatePort_touches u (portOf p)).mono ?_
  rw [List.cons_subset]
  refine ⟨List.mem_append_left _ (List.mem_map.2 ⟨p % 8, ?_, rfl⟩), List.nil_subset _⟩
  exact List.mem_range.2 (Nat.mod_lt _ (by decide))

theorem sweepAll_touches (s : State) : Touches s (sweepAll s) changeWords := by
  refine .foldl (.of_regs rfl) fun u c hc => ?_
  have hword : Reg.tierSweep.at c ∈ changeWords := List.mem_append_right _ (List.mem_map.2 ⟨c, hc, rfl⟩)
  split
  · exact ((Touches.of_regs rfl).setFld Fld.tierSweepFrontier 0 hword).setFlag Fld.tierSweepActive true hword
  · exact (Touches.of_regs rfl).setFld Fld.tierSweepFrontier 0 hword
  · exact .of_regs rfl

theorem sweepAll_modes (s : State) : (sweepAll s).mode = s.mode ∧ (sweepAll s).prev = s.prev := by
  unfold sweepAll
  refine List.foldlRecOn (motive := fun u : State => u.mode = s.mode ∧ u.prev = s.prev) _ _ ⟨rfl, rfl⟩ fun u hu c _ => ?_
  split <;> exact hu

theorem beginDrain_frame (s : State) :
    (beginDrain s).regs = s.regs ∧ (beginDrain s).mode = s.mode ∧ (beginDrain s).prev = s.prev := ⟨rfl, rfl, rfl⟩

/-- What an accepted change sets going behind the mode: the drain, or the sweeps of a return from BYPASS (R455). -/
theorem changeMode_cases (s : State) (m : Mode) : ∃ u : State, u.regs = s.regs ∧ u.modeNow = s.modeNow
    ∧ (changeMode s m = enterMode u m ∨ changeMode s m = beginDrain (enterMode u m)
      ∨ changeMode s m = sweepAll (enterMode u m)) := by
  refine ⟨{ s with drain := [], drainOpen := false, testFrom := if m = .test then s.mode else s.testFrom }, rfl, rfl, ?_⟩
  unfold changeMode
  dsimp only
  split
  · exact .inr (.inl rfl)
  · split
    · exact .inr (.inr rfl)
    · exact .inl rfl

theorem changeMode_modes (s : State) (m : Mode) : (changeMode s m).mode = m ∧ (changeMode s m).prev = s.modeNow := by
  obtain ⟨u, -, hnow, h⟩ := changeMode_cases s m
  have hmodes : (enterMode u m).mode = m ∧ (enterMode u m).prev = s.modeNow := hnow ▸ enterMode_modes u m
  rcases h with h | h | h
  · rwa [h]
  · rw [h]
    exact (beginDrain_frame _).2.imp (·.trans hmodes.1) (·.trans hmodes.2)
  · rw [h]
    exact (sweepAll_modes _).imp (·.trans hmodes.1) (·.trans hmodes.2)

theorem changeMode_touches (s : State) (m : Mode) : Touches (s.count Reg.blkCntMode) (changeMode s m) changeWords := by
  obtain ⟨u, hregs, -, h⟩ := changeMode_cases s m
  have hcount : (u.count Reg.blkCntMode).regs = (s.count Reg.blkCntMode).regs := by
    unfold State.count State.wr State.rd
    rw [hregs]
  have hentered : Touches (s.count Reg.blkCntMode) (enterMode u m) changeWords :=
    (Touches.of_regs hcount).trans (enterMode_touches u m)
  rcases h with h | h | h
  · rwa [h]
  · rw [h]
    exact hentered.trans (.of_regs (beginDrain_frame _).1)
  · rw [h]
    exact hentered.trans (sweepAll_touches _)

/-- A change of mode is counted, and leaves the request's flags. -/
theorem changeMode_words (hr : kRising s.regs = true) (m : Mode) :
    (changeMode s m).rd Reg.blkCntMode.at = satAdd32 (s.rd Reg.blkCntMode.at) 1
      ∧ (∀ f : Fld, f.reg.at = Reg.blkModeReq.at → (changeMode s m).flag f = s.flag f) := by
  have htouch := changeMode_touches s m
  refine ⟨?_, fun f hf => ?_⟩
  · rw [htouch.rd (by decide), State.rd_count s hr, if_pos rfl]
  · refine (htouch.flag (by rw [hf]; decide)).trans (State.flag_count_other hr _ _ _ _ _ _ _ ?_)
    rw [hf]
    decide

end Sys2Proof.Machine

end

/-! SUPPORT. The statement about mode requests. -/

section

open Sys2Proof Sys2Proof.Machine

/-- Settles O48: a boundary that finds a request pending takes one of three courses (R461), the mode in force, an edge of the
table (R455) after the first epoch (R454), or a refusal. -/
theorem modeRequests : Obligations.ModeRequests := by
  refine ⟨fun x hx s hw => ?_, fun s hw hp => ?_⟩
  · have hexec : exec x.1 s = .next (settle (opModeReq s x.2.code)) := by
      simp only [List.mem_cons, List.not_mem_nil, or_false] at hx
      rcases hx with rfl | rfl | rfl | rfl | rfl <;> rfl
    rw [hexec]
    exact ⟨fun hm => ⟨_, rfl, opModeReq_waits (State.wf_regs_rising hw) hm x.2⟩, fun hm => by rw [opModeReq_of_reset hm]⟩
  · have hr := State.wf_regs_rising hw
    dsimp only
    rcases modeRequest_cases s with hn | ⟨m, hn, hm, hedge, hfresh⟩ | hno
    · rw [modeBoundary_of_same hp hn]
      obtain ⟨hpending, hrefused⟩ := requestMet_flags hr
      refine ⟨hpending, fun _ => ⟨hrefused, requestMet_only hr⟩, fun m hm hne => ?_, fun h => absurd rfl (h _ hn).1⟩
      exact absurd (Option.some.inj (hm.symm.trans hn)) hne
    · rw [modeBoundary_of_edge hp hn hm hedge hfresh]
      obtain ⟨hpending, hrefused⟩ := requestMet_flags hr
      obtain ⟨hmode, hprev⟩ := changeMode_modes (requestMet s) m
      obtain ⟨hcount, hflags⟩ := changeMode_words (requestMet_rising hr) m
      refine ⟨(hflags _ rfl).trans hpending, fun hsame => ?_, fun m' hm' _ _ _ => ?_, fun h => ?_⟩
      · exact absurd (Option.some.inj (hn.symm.trans hsame)) hm
      · cases Option.some.inj (hn.symm.trans hm')
        refine ⟨hmode, hprev, (hflags _ rfl).trans hrefused, hcount.trans ?_⟩
        rw [(requestMet_only hr).2 _ (by decide)]
      · exact absurd (h m hn).2 (by simp [hedge, hfresh])
    · rw [modeBoundary_of_refused hp hno]
      have hok := requestTaken_rising hr
      obtain ⟨hkept, hrefused, hcount, hframe, hwords⟩ := refuseMode_refuses hok (s.fld Fld.blkModeReqTarget)
      refine ⟨hkept.trans (requestTaken_pending hr), fun hsame => absurd rfl (hno _ hsame).1, fun m hm _ hedge hfresh => ?_,
        fun _ => ⟨hrefused, ?_, ?_, ?_⟩⟩
      · exact absurd (hno m hm).2 (by simp [hedge, hfresh])
      · rw [hcount, (requestTaken_only hr).2 _ (by decide)]
      · exact congrArg (fun u : State => { u with regs := s.regs }) hframe
      · exact fun o ho => (hwords o ho).trans ((requestTaken_only hr).2 o (fun h => ho (List.mem_cons.2 (.inl (List.mem_singleton.1 h)))))

end

/-! SUPPORT. Power groups: grants that come and that end (R697 to R700). -/

section

namespace Sys2Proof.Machine

variable {s : State} {g : Nat}

/-- The words that show the DIMMs' supplies. -/
def supplyWords : List Nat := (List.range 16).map (fun c => Reg.phyStatus.at c)

/-- A grant of a DDR4 channel's group carries its DIMMs' supplies, and its end takes them away (R697). -/
def supplied (s : State) (g : Nat) (b : Bool) : State :=
  if 3 ≤ g ∧ g < 19 ∧ s.fld Fld.phyPopGen (g - 3) = 1 then s.setFlag Fld.phyStatusDimmPwr b (g - 3) else s

theorem supplied_frame (s : State) (g : Nat) (b : Bool) : ∃ regs, supplied s g b = { s with regs := regs } := by
  unfold supplied
  split <;> exact ⟨_, rfl⟩

theorem supplied_touches (s : State) (g : Nat) (b : Bool) : Touches s (supplied s g b) supplyWords := by
  unfold supplied
  split
  · next h =>
    exact (Touches.of_regs rfl).setFlag _ _ (List.mem_map.2 ⟨g - 3, List.mem_range.2 (by omega), rfl⟩)
  · exact .of_regs rfl

theorem supplied_flag (hr : kRising s.regs = true) (b : Bool) (c : ChanId) (hgen : s.fld Fld.phyPopGen c.val = 1) :
    (supplied s (3 + c.val) b).flag Fld.phyStatusDimmPwr c.val = b := by
  have hc : 3 + c.val - 3 = c.val := by omega
  rw [supplied, hc, if_pos ⟨by omega, by omega, hgen⟩]
  exact State.flag_setFlag hr Fld.phyStatusDimmPwr rfl (by decide)

/-! ### A grant that comes (R698) -/

/-- The group's grant is taken. -/
def granted (s : State) (g : Nat) : State := { s with pins := { s.pins with pwrAck := s.pins.pwrAck ||| (1#25 <<< g) } }

theorem opAckRise_of_unasked (h : s.pins.pwrReq.getLsbD g = false) : opAckRise s g = s := by
  simp [opAckRise, h]

theorem opAckRise_of_asked (h : s.pins.pwrReq.getLsbD g = true) : opAckRise s g = supplied (granted s g) g true := by
  unfold opAckRise
  rw [if_neg (by simp [h])]
  rfl

/-- A grant that comes moves its pin, and shows in the supply of a DDR4 channel's DIMMs. -/
theorem opAckRise_takes (hr : kRising s.regs = true) (h : s.pins.pwrReq.getLsbD g = true) :
    (opAckRise s g).pins = { s.pins with pwrAck := s.pins.pwrAck ||| (1#25 <<< g) }
      ∧ (∀ c : ChanId, g = 3 + c.val → s.fld Fld.phyPopGen c.val = 1 →
          (opAckRise s g).flag Fld.phyStatusDimmPwr c.val = true)
      ∧ { opAckRise s g with pins := s.pins, regs := s.regs } = s ∧ WordsKept s (opAckRise s g) supplyWords := by
  rw [opAckRise_of_asked h]
  obtain ⟨regs, hframe⟩ := supplied_frame (granted s g) g true
  refine ⟨by rw [hframe]; rfl, fun c hg hgen => ?_, by rw [hframe]; rfl, (supplied_touches (granted s g) g true).1⟩
  rw [hg]
  exact supplied_flag (s := granted s (3 + c.val)) hr true c hgen

/-! ### A grant that ends (R699, R700) -/

/-- The group's grant has ended. -/
def ungranted (s : State) (g : Nat) : State :=
  { s with pins := { s.pins with pwrAck := s.pins.pwrAck &&& ~~~(1#25 <<< g) } }

/-- In RESET the lines of a channel whose grant has ended are gone (log entry 52). -/
def unfed (s : State) (g : Nat) : State := if 3 ≤ g ∧ g < 19 ∧ s.mode = .reset then loseDram s (g - 3) else s

/-- The group is in use: a grant that ends is a fault (R699, R700). -/
def groupUsed (s : State) (g : Nat) : Bool := s.pins.pwrReq.getLsbD g && !s.pins.holdupDone && !waitsGrants s

theorem opAckFall_of_ungranted (h : s.pins.pwrAck.getLsbD g = false) : opAckFall s g = s := by
  simp [opAckFall, h]

theorem opAckFall_of_granted (h : s.pins.pwrAck.getLsbD g = true) :
    opAckFall s g = if groupUsed s g then (unfed (supplied (ungranted s g) g false) g).report 89
      else unfed (supplied (ungranted s g) g false) g := by
  unfold opAckFall
  rw [if_neg (by simp [h])]
  rfl

theorem unfed_frame (s : State) (g : Nat) : ∃ dram tags, unfed s g = { s with dram := dram, tags := tags } := by
  unfold unfed
  split <;> exact ⟨_, _, rfl⟩

/-- A table without the entries that fail a test of their keys. -/
theorem kFind_filter_key {β : Type} (q : Nat → Bool) (m : KMap β) (k : Nat) :
    kFind (m.filter (fun e => q e.1)) k = if q k then kFind m k else none := by
  induction m with
  | nil => simp [kFind]
  | cons x m ih =>
    obtain ⟨a, v⟩ := x
    by_cases ha : a = k
    · subst ha
      cases hq : q a <;> simp [kFind, hq, ih]
    · cases hq : q a <;> simp [kFind, hq, ha, ih]

theorem kGet_filter_key {β : Type} (d : β) (q : Nat → Bool) (m : KMap β) (k : Nat) :
    kGet d (m.filter (fun e => q e.1)) k = if q k then kGet d m k else d := by
  unfold kGet
  rw [kFind_filter_key]
  split <;> rfl

theorem unfed_dram (s : State) (g k : Nat) : kGet 0 (unfed s g).dram k =
    if s.mode = .reset ∧ g = 3 + k / 2 ^ 34 ∧ k / 2 ^ 34 < 16 then 0 else kGet 0 s.dram k := by
  unfold unfed
  split
  · next h =>
    obtain ⟨hlo, hhi, hm⟩ := h
    refine (kGet_filter_key 0 (fun a => a / 2 ^ 34 != g - 3) s.dram k).trans ?_
    by_cases hk : k / 2 ^ 34 = g - 3
    · have hg : g = 3 + k / 2 ^ 34 ∧ k / 2 ^ 34 < 16 := by omega
      rw [if_neg (by rw [hk, bne_self_eq_false]; exact Bool.false_ne_true), if_pos ⟨hm, hg⟩]
    · have hg : ¬(s.mode = .reset ∧ g = 3 + k / 2 ^ 34 ∧ k / 2 ^ 34 < 16) := by omega
      rw [if_pos (by simpa using hk), if_neg hg]
  · next h =>
    have hg : ¬(s.mode = .reset ∧ g = 3 + k / 2 ^ 34 ∧ k / 2 ^ 34 < 16) :=
      fun ⟨hm, hg, hk⟩ => h ⟨by omega, by omega, hm⟩
    rw [if_neg hg]

/-- What a grant that ends leaves behind before the fault is reported. -/
theorem unfed_supplied (s : State) (g : Nat) : ∃ regs dram tags, unfed (supplied (ungranted s g) g false) g =
      { ungranted s g with regs := regs, dram := dram, tags := tags }
    ∧ WordsKept s (unfed (supplied (ungranted s g) g false) g) supplyWords
    ∧ ∀ k, kGet 0 dram k =
        if s.mode = .reset ∧ g = 3 + k / 2 ^ 34 ∧ k / 2 ^ 34 < 16 then 0 else kGet 0 s.dram k := by
  obtain ⟨regs, hsupplied⟩ := supplied_frame (ungranted s g) g false
  have hwords := (supplied_touches (ungranted s g) g false).1
  rw [hsupplied] at hwords ⊢
  obtain ⟨dram, tags, hunfed⟩ := unfed_frame { ungranted s g with regs := regs } g
  have hdram := unfed_dram { ungranted s g with regs := regs } g
  rw [hunfed] at hdram ⊢
  exact ⟨regs, dram, tags, rfl, hwords, hdram⟩

/-- A grant that ends moves its pin, is a fault where its group is in use, and takes a channel's lines in RESET. -/
theorem opAckFall_ends (h : s.pins.pwrAck.getLsbD g = true) :
    (opAckFall s g).pins = { s.pins with pwrAck := s.pins.pwrAck &&& ~~~(1#25 <<< g) }
      ∧ (opAckFall s g).flt.raised = s.flt.raised ++ (if groupUsed s g then [(89, none)] else [])
      ∧ (∀ k, kGet 0 (opAckFall s g).dram k =
          if s.mode = .reset ∧ g = 3 + k / 2 ^ 34 ∧ k / 2 ^ 34 < 16 then 0 else kGet 0 s.dram k)
      ∧ (opAckFall s g).ledger = s.ledger ∧ (opAckFall s g).ports = s.ports ∧ (opAckFall s g).chs = s.chs
      ∧ WordsKept s (opAckFall s g) supplyWords := by
  rw [opAckFall_of_granted h]
  obtain ⟨regs, dram, tags, hframe, hwords, hdram⟩ := unfed_supplied s g
  rw [hframe] at hwords ⊢
  cases groupUsed s g with
  | false => exact ⟨rfl, (List.append_nil _).symm, hdram, rfl, rfl, rfl, hwords⟩
  | true => exact ⟨rfl, rfl, hdram, rfl, rfl, rfl, hwords⟩

/-! ### A grant that does not come (R699) -/

theorem opAckTimeout_eq (s : State) (g : Nat) : opAckTimeout s g =
    if s.pins.pwrReq.getLsbD g = true ∧ s.pins.pwrAck.getLsbD g = false ∧ s.pins.holdupDone = false ∧ s.start ≠ .power
      ∧ s.start ≠ .last then s.report 89 else s := by
  simp [opAckTimeout, waitsGrants, and_assoc]

end Sys2Proof.Machine

end

/-! SUPPORT. The steps of a start up to the reading of the OTP (R426, R427, R604). -/

section

namespace Sys2Proof.Machine

variable {s : State}

/-! ### COLD_RST_n and REFCLK (R426, R427) -/

theorem opColdRelease_of_high (h : s.pins.coldRstN = true) : opColdRelease s = s := if_pos h

/-- The release starts the block and is counted. -/
theorem opColdRelease_starts (h : s.pins.coldRstN = false) :
    (opColdRelease s).pins.coldRstN = true ∧ (opColdRelease s).start = .refclk
      ∧ kGet 0 (opColdRelease s).life 0 = kGet 0 s.life 0 + 1
      ∧ { opColdRelease s with pins := s.pins, start := s.start, life := s.life } = s := by
  rw [opColdRelease, if_neg (by simp [h])]
  exact ⟨rfl, rfl, (kGet_kPut ..).trans (if_pos rfl), rfl⟩

theorem opRefclkLock_of_start (h : s.start ≠ .refclk) : opRefclkLock s = s := by
  simp [opRefclkLock, h]

/-- The clock has locked: SAFE_n is high, the groups of step 2 are asked for, and the words show both. -/
def clockLocked (s : State) : State :=
  ({ s with start := .power, pins := { s.pins with pwrReq := s.pins.pwrReq ||| 7, safeN := true } }.setFlag
    Fld.refclkStatusPresent true).setFld Fld.mpIfrevIfrev s.pins.mpIfrev.toNat

/-- A channel whose contents a warm reset lost is counted and reported (R423). -/
def noteWarmLost (s : State) (c : Nat) : State :=
  if s.warm && (s.ch c).warmLost then (s.count Reg.blkCntWarmLost).info Ev.warmLost Src.block (dw c) else s

theorem opRefclkLock_of_refclk (h : s.start = .refclk) :
    opRefclkLock s = (List.range 16).foldl noteWarmLost (clockLocked s) := by
  unfold opRefclkLock
  rw [if_neg (by simp [h])]
  rfl

theorem clockLocked_words (hr : kRising s.regs = true) : (clockLocked s).flag Fld.refclkStatusPresent = true
    ∧ (clockLocked s).fld Fld.mpIfrevIfrev = s.pins.mpIfrev.toNat
    ∧ Touches s (clockLocked s) [Reg.refclkStatus.at, Reg.mpIfrev.at] := by
  let u : State := { s with start := .power, pins := { s.pins with pwrReq := s.pins.pwrReq ||| 7, safeN := true } }
  have hu : kRising u.regs = true := hr
  have hpresent := State.setFlag_rising hu Fld.refclkStatusPresent true 0 0
  refine ⟨?_, ?_, ((Touches.of_regs rfl).setFlag Fld.refclkStatusPresent true List.mem_cons_self).setFld Fld.mpIfrevIfrev _
    (List.mem_cons_of_mem _ List.mem_cons_self)⟩
  · refine (State.flag_congr ?_).trans (State.flag_setFlag hu Fld.refclkStatusPresent rfl (by decide))
    exact State.rd_wr_other (by decide) _
  · exact (State.fld_setFld _ hpresent Fld.mpIfrevIfrev _ 0 0 (by decide)).trans (Nat.mod_eq_of_lt s.pins.mpIfrev.isLt)

theorem noteWarmLost_frame (s : State) (l : List Nat) :
    ∃ regs evq, l.foldl noteWarmLost s = { s with regs := regs, evq := evq } := by
  refine List.foldlRecOn (motive := fun u : State => ∃ regs evq, u = { s with regs := regs, evq := evq }) l _
    ⟨_, _, rfl⟩ ?_
  rintro _ ⟨regs, evq, rfl⟩ c -
  unfold noteWarmLost
  split <;> exact ⟨_, _, rfl⟩

theorem noteWarmLost_touches (s : State) (l : List Nat) : Touches s (l.foldl noteWarmLost s) [Reg.blkCntWarmLost.at] := by
  refine .foldl (.of_regs rfl) fun u c _ => ?_
  unfold noteWarmLost
  split
  · exact ((Touches.of_regs rfl).count Reg.blkCntWarmLost 1 (List.mem_singleton_self _)).trans (.of_regs rfl)
  · exact .of_regs rfl

/-- A cold start has lost no channel's contents to a warm reset. -/
theorem noteWarmLost_of_cold (h : s.warm = false) (l : List Nat) : l.foldl noteWarmLost s = s := by
  refine List.foldlRecOn (motive := fun u : State => u = s) l _ rfl ?_
  rintro _ rfl c -
  simp [noteWarmLost, h]

/-- The lock of REFCLK brings step 2 of the start. -/
theorem opRefclkLock_locks (hr : kRising s.regs = true) (h : s.start = .refclk) :
    (opRefclkLock s).start = .power
      ∧ (opRefclkLock s).pins = { s.pins with pwrReq := s.pins.pwrReq ||| 7, safeN := true }
      ∧ (opRefclkLock s).flag Fld.refclkStatusPresent = true
      ∧ (opRefclkLock s).fld Fld.mpIfrevIfrev = s.pins.mpIfrev.toNat
      ∧ { opRefclkLock s with regs := s.regs, evq := s.evq, start := s.start, pins := s.pins } = s
      ∧ (s.warm = false → WordsKept s (opRefclkLock s) [Reg.refclkStatus.at, Reg.mpIfrev.at]) := by
  obtain ⟨hpresent, hifrev, hwords⟩ := clockLocked_words hr
  have htouch := noteWarmLost_touches (clockLocked s) (List.range 16)
  obtain ⟨regs, evq, hframe⟩ := noteWarmLost_frame (clockLocked s) (List.range 16)
  rw [opRefclkLock_of_refclk h]
  refine ⟨by rw [hframe]; rfl, by rw [hframe]; rfl, (htouch.flag (by decide)).trans hpresent,
    (htouch.fld (by decide)).trans hifrev, by rw [hframe]; rfl, fun hcold => ?_⟩
  rw [noteWarmLost_of_cold (s := clockLocked s) hcold]
  exact hwords.1

/-! ### What steps 3 to 6 leave alone (R426) -/

/-- What the steps of a start before LOAD leave alone: lines, tags, the ledger, the ports, the fuses, and the requests of the
power groups of steps 2 and 5. -/
structure Holdings where
  dram : KMap Line
  tags : KMap Tag
  ledger : List LEntry
  ports : Vector Port 8
  otp : KMap (BitVec 8)
  asked : BitVec 25

def State.holdings (s : State) : Holdings :=
  { dram := s.dram, tags := s.tags, ledger := s.ledger, ports := s.ports, otp := s.flash.otp,
    asked := s.pins.pwrReq &&& 0xFFFFFF }

/-- The words that steps 3 to 6 write beside OTP_SLOT. -/
def prepareWords : List Nat :=
  [Reg.blkUnit.at, Reg.lfInfo.at, Reg.flCntProg.at, Reg.flCntErase.at, Reg.flCntComplete.at, Reg.flCntRollback.at,
    Reg.logStatus.at, Reg.spareInvSram.at, Reg.sramStatus.at]

/-- A step of the start between the OTP records and LOAD. -/
def Prepares (s t : State) : Prop := Touches s t prepareWords ∧ t.holdings = s.holdings

section
variable {t u : State}

theorem Prepares.refl (s : State) : Prepares s s := ⟨.of_regs rfl, rfl⟩

theorem Prepares.trans (h : Prepares s t) (h' : Prepares t u) : Prepares s u := ⟨h.1.trans h'.1, h'.2.trans h.2⟩

/-- A change beside the words and the holdings. -/
theorem Prepares.update (h : Prepares s t) {evq : EvQueue} {flt : FaultNet} {lfsr : Vector (BitVec 32) 16} {sram : Sram}
    {flash : Flash} (hotp : flash.otp = t.flash.otp := by rfl) :
    Prepares s { t with evq := evq, flt := flt, lfsr := lfsr, sram := sram, flash := flash } := by
  refine h.trans ⟨.of_regs rfl, ?_⟩
  simp only [State.holdings, hotp]

theorem Prepares.setFld (h : Prepares s t) (f : Fld) (v : Nat) {i k : Nat} (ho : f.reg.at i k ∈ prepareWords) :
    Prepares s (t.setFld f v i k) := ⟨h.1.setFld f v ho, h.2⟩

theorem Prepares.setFlag (h : Prepares s t) (f : Fld) (b : Bool) {i k : Nat} (ho : f.reg.at i k ∈ prepareWords) :
    Prepares s (t.setFlag f b i k) := ⟨h.1.setFlag f b ho, h.2⟩

theorem Prepares.count (h : Prepares s t) (r : RegDef) (n : Nat) {i k : Nat} (ho : r.at i k ∈ prepareWords) :
    Prepares s (t.count r n i k) := ⟨h.1.count r n ho, h.2⟩

theorem Prepares.info (h : Prepares s t) (a b : Nat) (x y : Word) : Prepares s (t.info a b x y) := h.update

theorem Prepares.foldl {α : Type} {f : State → α → State} {l : List α} (h : Prepares s t)
    (hf : ∀ u, ∀ a ∈ l, Prepares u (f u a)) : Prepares s (l.foldl f t) :=
  List.foldlRecOn (motive := fun u => Prepares s u) l f h fun u hu a ha => hu.trans (hf u a ha)

end

/-! ### The flash's log (R595 to R599) -/

theorem programAt_prepares (s : State) (a : Nat) (l : List (BitVec 8)) : Prepares s (programAt s a l) :=
  ((Prepares.refl s).update).count Reg.flCntProg _ (by decide)

theorem eraseAt_prepares (s : State) (a n : Nat) : Prepares s (eraseAt s a n) :=
  ((Prepares.refl s).update).count Reg.flCntErase _ (by decide)

theorem writeBase_prepares (s : State) (kind copy seq isq : Nat) (content : KMap Nat) :
    Prepares s (writeBase s kind copy seq isq content).2 :=
  ((eraseAt_prepares s _ _).trans (programAt_prepares _ _ _)).trans (programAt_prepares _ _ _)

theorem writeEntry_prepares (s : State) (kind copy page isq : Nat) (runs : List (Nat × List Nat)) :
    Prepares s (writeEntry s kind copy page isq runs).2 :=
  (programAt_prepares s _ _).trans (programAt_prepares _ _ _)

theorem noteComplete_prepares (s : State) (kind isq : Nat) : Prepares s (noteComplete s kind isq) :=
  (((Prepares.refl s).count Reg.flCntComplete 1 (by decide)).setFlag Fld.logStatusCompleted true (by decide)).info ..

theorem completeIntent_prepares (s : State) (page isq : Nat) : Prepares s (completeIntent s page isq) := by
  have hfinish {t : State} (ht : Prepares s t) (kind a : Nat) (l : List (BitVec 8)) :
      Prepares s (noteComplete (programAt t a l) kind isq) :=
    (ht.trans (programAt_prepares ..)).trans (noteComplete_prepares ..)
  unfold completeIntent
  extract_lets a kind compact copy first len finish slot old seq pages p need u
  have hu : Prepares s u := .foldl (.refl s) fun v i _ => programAt_prepares v _ _
  split
  · exact .refl s
  · split
    · split
      · exact .refl s
      · exact hfinish (writeBase_prepares ..) ..
    · split
      · exact .refl s
      · split
        · exact hfinish (hu.trans (writeEntry_prepares ..)) ..
        · exact hfinish (hu.trans (writeBase_prepares ..)) ..

theorem readKind_prepares (s : State) (kind : Nat) : Prepares s (readKind s kind) := by
  unfold readKind
  extract_lets copy flash slot len
  split
  · exact (Prepares.refl s).update
  · split
    extract_lets u
    have hu : Prepares s u := (Prepares.refl s).update
    split
    · exact (hu.setFlag Fld.logStatusDamaged true (by decide)).info ..
    · exact hu

theorem readKinds_prepares (s : State) : Prepares s (readKinds s) := by
  unfold readKinds
  exact Prepares.foldl (.update (.refl s)) fun u kind _ => readKind_prepares u kind

theorem recoverLog_prepares (s : State) : Prepares s (recoverLog s) := by
  unfold recoverLog
  split
  · exact .refl s
  · extract_lets flash u flash' v
    have hu : Prepares s u := (Prepares.refl s).update
    have hv : Prepares s v := by
      unfold v
      split
      · exact hu.update
      · extract_lets w next a torn x
        have hw : Prepares s w := hu.trans (completeIntent_prepares ..)
        have hx : Prepares s x := by
          unfold x
          split
          · exact ((hw.count Reg.flCntRollback 1 (by decide)).setFlag Fld.logStatusRolledBack true (by decide)).info ..
          · exact hw
        exact hx.update
    exact hv.trans (readKinds_prepares v)

/-! ### The flash, the stored repairs and the march test (R429, R560, R574) -/

theorem discover_prepares (s : State) : Prepares s (discover s) := by
  unfold discover
  extract_lets p
  split
  · exact .refl s
  · exact (((((Prepares.refl s).setFld Fld.lfInfoSize _ (by decide)).setFlag Fld.lfInfoFound _ (by decide)).setFlag
      Fld.lfInfoQuad _ (by decide)).setFlag Fld.lfInfoAddr4 _ (by decide)).setFld Fld.lfInfoSck _ (by decide)

theorem sramBooks_prepares (s : State) : Prepares s (sramBooks s) :=
  (((((Prepares.refl s).setFld Fld.spareInvSramGroupsFree _ (by decide)).setFld Fld.spareInvSramGroupsUsed _
    (by decide)).setFlag Fld.spareInvSramBankLedger _ (by decide)).setFlag Fld.spareInvSramBankStaging _ (by decide)).setFld
    Fld.spareInvSramRowcol _ (by decide)

/-- The group of the spares is none of steps 2 and 5. -/
theorem askSpares_prepares (s : State) : Prepares s (askSpares s) := by
  have hasked : (s.pins.pwrReq ||| (1#25 <<< 24)) &&& 0xFFFFFF = s.pins.pwrReq &&& 0xFFFFFF := by
    rw [BitVec.and_or_distrib_right]
    exact BitVec.or_zero
  exact ⟨.of_regs rfl, by simp only [State.holdings, askSpares, hasked]⟩

theorem storedRepairs_prepares (s : State) : Prepares s (storedRepairs s) := by
  unfold storedRepairs
  extract_lets otp log all fixes repl sram u
  have hu : Prepares s u := (Prepares.refl s).update
  refine Prepares.trans ?_ (sramBooks_prepares _)
  split
  · exact hu
  · exact hu.trans (askSpares_prepares u)

theorem beginStartMarch_prepares (s : State) : Prepares s (beginStartMarch s) :=
  ((Prepares.refl s).update).setFlag Fld.sramStatusMtBusy true (by decide)

/-! ### The OTP records (R604) -/

theorem otpSlotOk_congr {t : State} (h : t.flash.otp = s.flash.otp) (k i : Nat) : otpSlotOk t k i = otpSlotOk s k i := by
  simp only [otpSlotOk, otpSlotBytes, h]

/-- The valid slot of a record is in the fuses alone. -/
theorem otpValid_congr {t : State} (h : t.flash.otp = s.flash.otp) (k : Nat) : otpValid t k = otpValid s k := by
  simp only [otpValid, otpSlotOk_congr h]

theorem otpByte_congr {t : State} (h : t.flash.otp = s.flash.otp) (k i : Nat) : otpByte t k i = otpByte s k i := by
  simp only [otpByte, otpSlotBytes, otpValid_congr h, h]

/-- A record's valid slot as OTP_SLOT shows it: 7 for none. -/
def shownSlot (s : State) (k : Nat) : Nat := (otpValid s k).getD 7

theorem shownSlot_lt (s : State) (k : Nat) : shownSlot s k < 2 ^ 3 := by
  unfold shownSlot
  cases h : otpValid s k with
  | none => decide
  | some i =>
    have hi : i ∈ [3, 2, 1, 0] := List.mem_of_find?_eq_some h
    simp only [List.mem_cons, List.not_mem_nil, or_false] at hi
    rw [Option.getD_some]
    omega

/-- The valid slots of the first `n` records are shown. -/
def slotsShown (s : State) (n : Nat) : State :=
  (List.range n).foldl (fun u k => u.setFld (Fld.otpSlotSlot k) (shownSlot u k)) s

theorem slotsShown_succ (s : State) (n : Nat) :
    slotsShown s (n + 1) = (slotsShown s n).setFld (Fld.otpSlotSlot n) (shownSlot (slotsShown s n) n) := by
  simp [slotsShown, List.range_succ]

theorem slotsShown_frame (s : State) (n : Nat) : ∃ regs, slotsShown s n = { s with regs := regs } := by
  induction n with
  | zero => exact ⟨_, rfl⟩
  | succ n ih =>
    obtain ⟨regs, h⟩ := ih
    rw [slotsShown_succ, h]
    exact ⟨_, rfl⟩

theorem slotsShown_holdings (s : State) (n : Nat) : (slotsShown s n).holdings = s.holdings := by
  obtain ⟨regs, h⟩ := slotsShown_frame s n
  rw [h]
  rfl

theorem slotsShown_fields (hr : kRising s.regs = true) {n : Nat} (hn : n ≤ 7) :
    kRising (slotsShown s n).regs = true ∧ ∀ k < n, (slotsShown s n).fld (Fld.otpSlotSlot k) = shownSlot s k := by
  induction n with
  | zero => exact ⟨hr, fun k hk => absurd hk (Nat.not_lt_zero k)⟩
  | succ n ih =>
    obtain ⟨hrn, hfields⟩ := ih (by omega)
    obtain ⟨regs, hframe⟩ := slotsShown_frame s n
    have hslot : shownSlot (slotsShown s n) n = shownSlot s n := by
      rw [hframe]
      rfl
    have hin (k : Nat) (hk : k ≤ 6) : (Fld.otpSlotSlot k).lo + (Fld.otpSlotSlot k).w ≤ 32 := by
      simp only [Fld.otpSlotSlot]
      omega
    rw [slotsShown_succ, hslot]
    refine ⟨State.setFld_rising _ hrn .., fun k hk => ?_⟩
    by_cases hkn : k = n
    · subst hkn
      exact (State.fld_setFld _ hrn (Fld.otpSlotSlot k) _ 0 0 (hin k (by omega))).trans (Nat.mod_eq_of_lt (shownSlot_lt s k))
    · rw [← hfields k (by omega)]
      refine State.fld_setFld_beside _ hrn (Fld.otpSlotSlot n) (Fld.otpSlotSlot k) _ 0 0 0 0 rfl (hin n (by omega)) ?_
      simp only [Fld.otpSlotSlot]
      omega

/-- The unit's identity, which the victims' LFSRs follow (R181). -/
def identified (s : State) : State :=
  loadLfsrs (s.setFld Fld.blkUnitId (leNat ((List.range 4).map (fun i => BitVec.ofNat 8 (otpByte s 0 (1 + i))))))

theorem identified_prepares (s : State) : Prepares s (identified s) :=
  ((Prepares.refl s).setFld Fld.blkUnitId _ (by decide)).update

/-- A slot with bits burned fails its check. -/
def slotSpoiled (s : State) : Bool :=
  (List.range 7).any (fun k => (List.range 4).any (fun i => otpSlotUsed s k i && !otpSlotOk s k i))

theorem readOtp_eq (s : State) : readOtp s = if slotSpoiled (identified (slotsShown s 7))
    then (identified (slotsShown s 7)).report 82 else identified (slotsShown s 7) := rfl

theorem readOtp_prepares (s : State) : Prepares (slotsShown s 7) (readOtp s) := by
  have hidentified := identified_prepares (slotsShown s 7)
  rw [readOtp_eq]
  generalize identified (slotsShown s 7) = u at hidentified
  split
  · exact hidentified.update
  · exact hidentified

/-- Steps 3 to 6 up to the request of step 5's groups. -/
def otpPrepared (s : State) : State :=
  storedRepairs (if (discover (readOtp s)).flag Fld.lfInfoFound then recoverLog (discover (readOtp s)) else discover (readOtp s))

theorem otpPrepared_prepares (s : State) : Prepares (slotsShown s 7) (otpPrepared s) := by
  have hfound : Prepares (slotsShown s 7) (discover (readOtp s)) := (readOtp_prepares s).trans (discover_prepares _)
  refine Prepares.trans ?_ (storedRepairs_prepares _)
  split
  · exact hfound.trans (recoverLog_prepares _)
  · exact hfound

/-- The groups of step 5 are asked for. -/
def stepFiveAsked (s : State) : State :=
  { s with start := .last, pins := { s.pins with pwrReq := s.pins.pwrReq ||| 0xFFFFF8 } }

theorem opOtpRead_of_start (h : s.start ≠ .otp) : opOtpRead s = s := by
  simp [opOtpRead, h]

theorem opOtpRead_of_otp (h : s.start = .otp) : opOtpRead s = stepFiveAsked (otpPrepared s)
    ∨ opOtpRead s = beginStartMarch (stepFiveAsked (otpPrepared s)) := by
  unfold opOtpRead
  rw [if_neg (by simp [h])]
  extract_lets found recovered repaired pins asked
  have hrepaired : repaired = otpPrepared s := rfl
  have hasked : asked = stepFiveAsked repaired := rfl
  rw [← hrepaired, ← hasked]
  split
  · exact .inr rfl
  · exact .inl rfl

theorem stepFiveAsked_fld (s : State) (f : Fld) (i k : Nat) : (stepFiveAsked s).fld f i k = s.fld f i k := rfl

theorem stepFiveAsked_holdings (s : State) :
    (stepFiveAsked s).holdings = { s.holdings with asked := s.holdings.asked ||| 0xFFFFF8 } := by
  have hasked : (s.pins.pwrReq ||| 0xFFFFF8) &&& 0xFFFFFF = (s.pins.pwrReq &&& 0xFFFFFF) ||| 0xFFFFF8 := by
    rw [BitVec.and_or_distrib_right]
    rfl
  simp only [State.holdings, stepFiveAsked, hasked]

/-- The records are read: their slots are shown, and step 5's groups are asked for. -/
theorem opOtpRead_reads (hr : kRising s.regs = true) (h : s.start = .otp) :
    (opOtpRead s).start = .last ∧ (opOtpRead s).holdings = { s.holdings with asked := s.holdings.asked ||| 0xFFFFF8 }
      ∧ ∀ k < 7, (opOtpRead s).fld (Fld.otpSlotSlot k) = shownSlot s k := by
  obtain ⟨-, hslots⟩ := slotsShown_fields hr le_rfl
  obtain ⟨htouch, hheld⟩ := otpPrepared_prepares s
  have hword : Reg.otpSlot.at ∉ prepareWords := by decide
  have hasked : (stepFiveAsked (otpPrepared s)).holdings = { s.holdings with asked := s.holdings.asked ||| 0xFFFFF8 } := by
    rw [stepFiveAsked_holdings, hheld, slotsShown_holdings]
  have hfields (k : Nat) (hk : k < 7) : (stepFiveAsked (otpPrepared s)).fld (Fld.otpSlotSlot k) = shownSlot s k :=
    (stepFiveAsked_fld ..).trans ((htouch.fld (f := Fld.otpSlotSlot k) hword).trans (hslots k hk))
  rcases opOtpRead_of_otp h with heq | heq
  · rw [heq]
    exact ⟨rfl, hasked, hfields⟩
  · obtain ⟨hmarch, hmarchHeld⟩ := beginStartMarch_prepares (stepFiveAsked (otpPrepared s))
    rw [heq]
    exact ⟨rfl, hmarchHeld.trans hasked, fun k hk => (hmarch.fld (f := Fld.otpSlotSlot k) hword).trans (hfields k hk)⟩

end Sys2Proof.Machine

end

/-! SUPPORT. LOAD without a Last (R442, R443, R448, R581 to R587), and the wait for media (R451). -/

section

namespace Sys2Proof.Machine

variable {s t : State}

/-! ### What a copy of the Last is read from (R580, R583, R587) -/

theorem flashBytes_congr (h : t.flash = s.flash) (a n : Nat) : flashBytes t a n = flashBytes s a n := by
  simp only [flashBytes, h]

theorem flashWord_congr (h : t.flash = s.flash) (a : Nat) : flashWord t a = flashWord s a :=
  congrArg leNat (flashBytes_congr h a 4)

theorem flashByte_congr (h : t.flash = s.flash) (a : Nat) : flashByte t a = flashByte s a := by
  simp only [flashByte, h]

theorem flashSize_congr (h : t.rd Reg.lfInfo.at = s.rd Reg.lfInfo.at) : flashSize t = flashSize s := by
  have hfound : t.flag Fld.lfInfoFound = s.flag Fld.lfInfoFound := State.flag_congr h
  have hsize : t.fld Fld.lfInfoSize = s.fld Fld.lfInfoSize := State.fld_congr h
  rw [flashSize, flashSize, hfound, hsize]

theorem lastRecords_congr (h : t.flash = s.flash) (last n a : Nat) : lastRecords t last n a = lastRecords s last n a := by
  induction n generalizing a with
  | zero => rfl
  | succ n ih => simp only [lastRecords, flashWord_congr h, flashBytes_congr h, ih]

/-- The records of a copy are in the flash, whose size LF_INFO shows. -/
theorem lastCopy_congr (h : t.flash = s.flash) (hinfo : t.rd Reg.lfInfo.at = s.rd Reg.lfInfo.at) (b : Bool) :
    lastCopy t b = lastCopy s b := by
  have hsize := flashSize_congr hinfo
  have hcopy : copyAt t b = copyAt s b := by rw [copyAt, copyAt, hsize]
  have hword : flashWord t = flashWord s := funext (flashWord_congr h)
  have hbytes : flashBytes t = flashBytes s := funext₂ (flashBytes_congr h)
  have hotp : otpByte t = otpByte s := funext₂ (otpByte_congr (congrArg Flash.otp h))
  have hrecords : lastRecords t = lastRecords s := funext₃ (lastRecords_congr h)
  rw [lastCopy, lastCopy, hsize, hcopy, hword, hbytes, hotp, hrecords]

/-- What excludes a copy is in the flash, the interface revision of media and the unit's identity. -/
theorem excludedBy_congr (h : t.flash = s.flash) (hifrev : t.rd Reg.mpIfrev.at = s.rd Reg.mpIfrev.at)
    (hunit : t.rd Reg.blkUnit.at = s.rd Reg.blkUnit.at) (l : List LastRec) : excludedBy t l = excludedBy s l := by
  have hentry : entryExcludes t = entryExcludes s := funext fun a => by
    have hrev : t.fld Fld.mpIfrevIfrev = s.fld Fld.mpIfrevIfrev := State.fld_congr hifrev
    simp only [entryExcludes, flashByte_congr h, hrev]
  have hid : t.fld Fld.blkUnitId = s.fld Fld.blkUnitId := State.fld_congr hunit
  simp only [excludedBy, hentry, flashByte_congr h, flashWord_congr h, hid]

/-! ### The headers (R581, R582) -/

/-- The words that tell of the copies: their sequences, their status, and BLK_STATUS. -/
def lastWords : List Nat := [Reg.lastSeqA.at, Reg.lastSeqB.at, Reg.lastStatus.at, Reg.blkStatus.at]

/-- A step of LOAD that tells of the copies in its words and events. -/
def Tells (s t : State) : Prop := (∃ regs evq, t = { s with regs := regs, evq := evq }) ∧ Touches s t lastWords

theorem Tells.refl (s : State) : Tells s s := ⟨⟨_, _, rfl⟩, .of_regs rfl⟩

theorem Tells.setFld (h : Tells s t) (f : Fld) (v : Nat) {i k : Nat} (ho : f.reg.at i k ∈ lastWords) :
    Tells s (t.setFld f v i k) := by
  obtain ⟨⟨regs, evq, rfl⟩, htouch⟩ := h
  exact ⟨⟨_, _, rfl⟩, htouch.setFld f v ho⟩

theorem Tells.info (h : Tells s t) (a b : Nat) (x y : Word) : Tells s (t.info a b x y) := by
  obtain ⟨⟨regs, evq, rfl⟩, htouch⟩ := h
  exact ⟨⟨_, _, rfl⟩, htouch.trans (.of_regs rfl)⟩

theorem Tells.flash (h : Tells s t) : t.flash = s.flash := by
  obtain ⟨⟨regs, evq, rfl⟩, -⟩ := h
  rfl

theorem Tells.lastCopy (h : Tells s t) (b : Bool) : lastCopy t b = lastCopy s b :=
  lastCopy_congr h.flash (h.2.rd (by decide)) b

theorem Tells.excludedBy (h : Tells s t) (l : List LastRec) : excludedBy t l = excludedBy s l :=
  excludedBy_congr h.flash (h.2.rd (by decide)) (h.2.rd (by decide)) l

theorem readHeaders_tells (s : State) : Tells s (readHeaders s) :=
  ((((Tells.refl s).setFld Fld.lastSeqASeq _ (by decide)).setFld Fld.lastSeqBSeq _ (by decide)).setFld
    Fld.lastStatusValidA _ (by decide)).setFld Fld.lastStatusValidB _ (by decide)

/-- Copies that tie are told of (R581). -/
def tieTold (s : State) (tie : Bool) : State :=
  if tie then (s.setFlag Fld.lastStatusTie true).info Ev.lastTie Src.flash (s.rd Reg.lastSeqA.at) else s

/-- No valid copy is told of (R442). -/
def noneTold (s : State) : State :=
  if !s.flag Fld.lastStatusValidA && !s.flag Fld.lastStatusValidB then
    s.info Ev.lastNone Src.flash (s.rd Reg.lastStatus.at) (dw (!s.flag Fld.lfInfoFound).toNat)
  else s

/-- The headers have been read and told of. -/
def headersTold (s : State) : State := noneTold (tieTold (readHeaders s) (chooseLast (readHeaders s)).2)

theorem headersTold_tells (s : State) : Tells (readHeaders s) (headersTold s) := by
  have htie : Tells (readHeaders s) (tieTold (readHeaders s) (chooseLast (readHeaders s)).2) := by
    unfold tieTold
    split
    · exact ((Tells.refl _).setFld Fld.lastStatusTie _ (by decide)).info ..
    · exact .refl _
  unfold headersTold noneTold
  split
  · exact htie.info ..
  · exact htie

/-! ### No Last is used (R442, R448) -/

/-- Words alone, kept in their canonical form. -/
def WordsOnly (s t : State) : Prop :=
  ∃ regs, t = { s with regs := regs } ∧ (kRising s.regs = true → kRising regs = true)

theorem WordsOnly.refl (s : State) : WordsOnly s s := ⟨_, rfl, id⟩

theorem WordsOnly.setFld (h : WordsOnly s t) (f : Fld) (v i k : Nat) : WordsOnly s (t.setFld f v i k) := by
  obtain ⟨regs, rfl, hr⟩ := h
  exact ⟨_, rfl, fun h => State.setFld_rising { s with regs := regs } (hr h) f v i k⟩

theorem WordsOnly.foldl {α : Type} {f : State → α → State} (h : WordsOnly s t)
    (hf : ∀ u a, WordsOnly s u → WordsOnly s (f u a)) (l : List α) : WordsOnly s (l.foldl f t) :=
  List.foldlRecOn (motive := WordsOnly s) l f h fun u hu a _ => hf u a hu

theorem romImages_words (s : State) : WordsOnly s (romImages s) :=
  ((((WordsOnly.refl s).setFld Fld.imgPseqVerVersion _ 0 0).setFld Fld.imgPseqVerIfrev _ 0 0).setFld
    Fld.spareInvImgRomPseq _ 0 0 |>.foldl
      (fun _ c h => (h.setFld Fld.imgTseqVerVersion _ c 0).setFld Fld.imgTseqVerIfrev _ c 0) _).setFld
    Fld.spareInvImgRomTseq _ 0 0

theorem noLast_words (s : State) : WordsOnly s (noLast s) :=
  ((romImages_words s).setFld Fld.blkStatusImageFallback _ 0 0).setFld Fld.blkStatusNoLast _ 0 0

theorem noLast_flags (hr : kRising s.regs = true) : (noLast s).flag Fld.blkStatusNoLast = true
    ∧ (noLast s).flag Fld.blkStatusImageFallback = true := by
  obtain ⟨regs, hframe, hrising⟩ := romImages_words s
  have hrom : kRising (romImages s).regs = true := by
    rw [hframe]
    exact hrising hr
  have hfallback := State.setFlag_rising hrom Fld.blkStatusImageFallback true 0 0
  exact ⟨State.flag_setFlag hfallback Fld.blkStatusNoLast rfl (by decide),
    (State.flag_setFlag_beside hfallback Fld.blkStatusNoLast Fld.blkStatusImageFallback rfl (by decide) (by decide)).trans
      (State.flag_setFlag hrom Fld.blkStatusImageFallback rfl (by decide))⟩

/-! ### The retired ways (step 11) -/

theorem loadWays_frame (s : State) :
    ∃ regs ways, loadWays s = { s with regs := regs, retiredLog := ways } := by
  unfold loadWays
  extract_lets ways u
  obtain ⟨regs, h, -⟩ := (WordsOnly.refl u).foldl
    (f := fun v c => v.setFld Fld.tierRetiredWays (ways.countP (fun x => x.1 == c)) c)
    (fun v c h => h.setFld Fld.tierRetiredWays _ c 0) (List.range 16)
  exact ⟨regs, ways, h⟩

theorem loadWays_touches (s : State) :
    Touches s (loadWays s) ((List.range 16).map (fun c => Reg.tierRetired.at c)) := by
  unfold loadWays
  extract_lets ways u
  have hu : Touches s u ((List.range 16).map (fun c => Reg.tierRetired.at c)) := .of_regs rfl
  exact hu.foldl fun v c hc => (Touches.of_regs rfl).setFld Fld.tierRetiredWays _ (List.mem_map.2 ⟨c, hc, rfl⟩)

/-! ### The Last has been read (R426, R442, R581) -/

theorem opLastRead_of_start (h : s.start ≠ .load) : opLastRead s = s := by
  simp [opLastRead, h]

/-- The copy that LOAD chooses excludes itself, or there is none. -/
def lastUnused (s : State) : Prop :=
  let pick := (chooseLast (readHeaders s)).1
  pick = 0 ∨ (excludedBy (readHeaders s) ((lastCopy s (pick == 2)).getD [])).isSome = true

theorem Tells.trans {u : State} (h : Tells s t) (h' : Tells t u) : Tells s u := by
  obtain ⟨⟨regs, evq, rfl⟩, htouch⟩ := h
  obtain ⟨⟨regs', evq', rfl⟩, htouch'⟩ := h'
  exact ⟨⟨regs', evq', rfl⟩, htouch.trans htouch'⟩

/-- A copy that excludes itself is told of (R448). -/
def incompatTold (s : State) (pick k : Nat) : State :=
  (s.setFlag Fld.blkStatusIncompat true).info Ev.lastIncompat Src.flash (dw (pick + k % 16 * 16))

theorem incompatTold_tells (s : State) (pick k : Nat) : Tells s (incompatTold s pick k) :=
  ((Tells.refl s).setFld Fld.blkStatusIncompat _ (by decide)).info ..

/-- What LOAD makes of the copy that it chose. -/
def chosenLoaded (s : State) (pick : Nat) : State :=
  if pick = 0 then noLast s
  else match excludedBy s (if pick = 0 then [] else (lastCopy s (pick == 2)).getD []) with
    | some k => noLast (incompatTold s pick k)
    | none => useLast s pick (if pick = 0 then [] else (lastCopy s (pick == 2)).getD [])

/-- LOAD is done, and its end waits for the epoch boundary of step 12 (R426). -/
def loadDone (s : State) : State := { s with start := .boundary }

theorem loadDone_flag (s : State) (f : Fld) : (loadDone s).flag f = s.flag f := rfl

theorem loadDone_start (s : State) : (loadDone s).start = .boundary := rfl

/-- LOAD has chosen a copy, or none, from the headers that it read. -/
def lastTaken (s : State) : State :=
  loadDone (loadWays (chosenLoaded (noneTold (tieTold s (chooseLast s).2)) (chooseLast s).1))

theorem opLastRead_of_load (h : s.start = .load) : opLastRead s = lastTaken (readHeaders s) := by
  unfold opLastRead
  rw [if_neg (by simp [h])]
  extract_lets u
  have hu : readHeaders s = u := rfl
  rw [hu]
  clear_value u
  unfold lastTaken
  obtain ⟨pick, tie⟩ := chooseLast u
  rfl

/-- LOAD without a Last takes the ROM images. -/
theorem chosenLoaded_of_unused (h : lastUnused s) :
    ∃ u, Tells s u ∧ chosenLoaded (headersTold s) (chooseLast (readHeaders s)).1 = noLast u := by
  have hread := readHeaders_tells s
  have htold := headersTold_tells s
  have hall := hread.trans htold
  unfold lastUnused at h
  dsimp only at h
  generalize (chooseLast (readHeaders s)).1 = pick at h
  unfold chosenLoaded
  by_cases hpick : pick = 0
  · exact ⟨_, hall, if_pos hpick⟩
  · obtain ⟨k, hk⟩ := Option.isSome_iff_exists.1 (h.resolve_left hpick)
    refine ⟨_, hall.trans (incompatTold_tells _ pick k), ?_⟩
    rw [if_neg hpick, if_neg hpick, hall.lastCopy, htold.excludedBy, hk]

theorem opLastRead_start (h : s.start = .load) : (opLastRead s).start = .boundary := by
  rw [opLastRead_of_load h, lastTaken, loadDone_start]

/-- The ROM images are taken, and the retired ways read: words and the list of ways alone. -/
theorem loadWays_noLast_frame (s : State) :
    ∃ regs ways, loadWays (noLast s) = { s with regs := regs, retiredLog := ways } := by
  obtain ⟨regs, hwords, -⟩ := noLast_words s
  obtain ⟨regs', ways, hframe⟩ := loadWays_frame (noLast s)
  rw [hframe, hwords]
  exact ⟨_, _, rfl⟩

/-- LOAD without a Last shows it, and keeps what the stores and the ledger hold. -/
theorem opLastRead_unused (hr : kRising s.regs = true) (h : s.start = .load) (hunused : lastUnused s) :
    (opLastRead s).flag Fld.blkStatusNoLast = true ∧ (opLastRead s).flag Fld.blkStatusImageFallback = true
      ∧ DataKept s (opLastRead s) ∧ (opLastRead s).ledger = s.ledger ∧ (opLastRead s).pend = s.pend := by
  obtain ⟨u, ⟨⟨regs, evq, hu⟩, htouch⟩, hchosen⟩ := chosenLoaded_of_unused hunused
  obtain ⟨hnone, hfallback⟩ := noLast_flags (htouch.rising hr)
  have hways := loadWays_touches (noLast u)
  rw [opLastRead_of_load h, lastTaken, ← headersTold, hchosen]
  refine ⟨(loadDone_flag ..).trans ((hways.flag (by decide)).trans hnone),
    (loadDone_flag ..).trans ((hways.flag (by decide)).trans hfallback), ?_⟩
  obtain ⟨regs', ways, hframe⟩ := loadWays_noLast_frame u
  rw [hframe, hu]
  exact ⟨⟨rfl, rfl, rfl, rfl⟩, rfl, rfl⟩

/-! ### The wait for media (R451) -/

theorem opMpWait_of_start (h : s.start ≠ .waitMp) : opMpWait s = s := by
  simp [opMpWait, h]

theorem opMpWait_waits (h : s.start = .waitMp) : (opMpWait s).mpWaits = s.mpWaits + 1
    ∧ { opMpWait s with mpWaits := s.mpWaits, evq := s.evq } = s := by
  unfold opMpWait
  rw [if_neg (by simp [h])]
  exact ⟨rfl, rfl⟩

end Sys2Proof.Machine

end

/-! SUPPORT. The statement about the start's steps and the power groups. -/

section

namespace Sys2Proof.Machine

/-- Commands that leave the same state have the same outcome. -/
theorem next_settle_congr {s t : State} (h : s = t) :
    (Host.Outcome.next (settle s) : Host.Outcome State Fault Refusal) = .next (settle t) := by
  rw [h]

end Sys2Proof.Machine

open Sys2Proof Sys2Proof.Machine

/-- Settles O46: each step's own lemmas say what it does, and that it does nothing where another step is waited for. -/
theorem startAndPower : Obligations.StartAndPower := by
  refine ⟨⟨fun s h => ⟨_, rfl, opColdRelease_starts h⟩,
    fun s hw h => ⟨_, rfl, opRefclkLock_locks (State.wf_regs_rising hw) h⟩, fun s hw h => ?_, fun s hw h => ?_,
    fun s h => ⟨_, rfl, opMpWait_waits h⟩, fun s => ?_⟩, fun g s hw => ?_⟩
  · obtain ⟨hstart, hheld, hslots⟩ := opOtpRead_reads (State.wf_regs_rising hw) h
    exact ⟨_, rfl, hstart, congrArg Holdings.asked hheld, fun k => hslots k.val k.isLt, congrArg Holdings.otp hheld,
      congrArg Holdings.dram hheld, congrArg Holdings.tags hheld, congrArg Holdings.ledger hheld,
      congrArg Holdings.ports hheld⟩
  · exact ⟨_, rfl, opLastRead_start h, opLastRead_unused (State.wf_regs_rising hw) h⟩
  · exact ⟨fun h => next_settle_congr (opColdRelease_of_high h), fun h => next_settle_congr (opRefclkLock_of_start h),
      fun h => next_settle_congr (opOtpRead_of_start h), fun h => next_settle_congr (opLastRead_of_start h),
      fun h => next_settle_congr (opMpWait_of_start h)⟩
  · exact ⟨fun h => ⟨_, rfl, opAckRise_takes (State.wf_regs_rising hw) h⟩,
      fun h => next_settle_congr (opAckRise_of_unasked h), fun h => ⟨_, rfl, opAckFall_ends h⟩,
      fun h => next_settle_congr (opAckFall_of_ungranted h), next_settle_congr (opAckTimeout_eq s g.val)⟩

end

/-! SUPPORT. LOAD begins (R426, R441): the change of mode and the SPD reads of every slot. -/

section

namespace Sys2Proof.Machine

/-- The words that the beginning of LOAD may write. -/
def loadWords : List Nat :=
  Reg.blkCntMode.at :: Reg.regCntReject.at :: ((List.range 4).map (fun q => Reg.sbCtl.at q) ++ changeWords)

theorem readSpd_touches (s : State) {c : Nat} (hc : c < 16) : Touches s (readSpd s c) loadWords := by
  have hq : c / 4 < 4 := by omega
  have hwords : [Reg.sbCtl.at (c / 4), Reg.regCntReject.at] ⊆ loadWords := by
    refine List.cons_subset.2 ⟨?_, List.cons_subset.2 ⟨List.mem_cons_of_mem _ List.mem_cons_self, List.nil_subset _⟩⟩
    exact List.mem_cons_of_mem _ (List.mem_cons_of_mem _
      (List.mem_append_left _ (List.mem_map.2 ⟨c / 4, List.mem_range.2 hq, rfl⟩)))
  exact .foldl (.of_regs rfl) fun u d _ => .foldl (.of_regs rfl) fun v off _ => (sbQueue_touches v hq _).mono hwords

theorem readSpd_offBand (s : State) {c : Nat} (hc : c < 16) : (readSpd s c).offBand = s.offBand := by
  have hq : c / 4 < 4 := by omega
  exact foldl_frame State.offBand _ _ _ fun u d => foldl_frame State.offBand _ _ _ fun v off => sbQueue_offBand v hq _

theorem beginLoad_touches (s : State) : Touches s (beginLoad s) loadWords := by
  have hchange : changeWords ⊆ loadWords := fun o ho =>
    List.mem_cons_of_mem _ (List.mem_cons_of_mem _ (List.mem_append_right _ ho))
  have hcount : Touches s (State.count { s with start := .load } Reg.blkCntMode) loadWords :=
    (Touches.of_regs rfl).count Reg.blkCntMode 1 List.mem_cons_self
  exact (hcount.trans ((enterMode_touches { s with start := .load } .load).mono hchange)).foldl
    fun u c hc => readSpd_touches u (List.mem_range.1 hc)

/-- The beginning of LOAD moves the mode, the ports and the sideband, and leaves the stores and the outputs. -/
theorem beginLoad_frame (s : State) : (beginLoad s).mode = .load ∧ (beginLoad s).start = .load ∧ (beginLoad s).out = s.out
    ∧ DataKept s (beginLoad s) := by
  have hread : (beginLoad s).offBand = (enterMode { s with start := .load } .load).offBand := by
    unfold beginLoad
    generalize enterMode { s with start := .load } .load = v
    exact List.foldlRecOn (motive := fun u : State => u.offBand = v.offBand) (List.range 16) readSpd rfl
      fun u hu c hc => (readSpd_offBand u (List.mem_range.1 hc)).trans hu
  obtain ⟨regs, ports, hentered⟩ := enterMode_frame { s with start := .load } .load
  rw [hentered] at hread
  generalize beginLoad s = t at hread
  obtain ⟨-, ⟨hdram, htags, hbytes, hotp⟩, -⟩ := frame_of_offBand hread
  exact ⟨(congrArg State.mode hread :), (congrArg State.start hread :), (congrArg State.out hread :), hdram, htags, hbytes,
    hotp⟩

end Sys2Proof.Machine

end

/-! SUPPORT. Frames of the bead chain: which course a frame takes (R434, R437, R438), and its chain address (R439, R441). -/

section

namespace Sys2Proof.Machine

variable {s : State} {f : List (BitVec 8)}

/-! ### The course of a frame (R434, R437, R438) -/

theorem exec_frameRows {mk : List (BitVec 8) → Instr} (h : mk ∈ frameRows) (f : List (BitVec 8)) (s : State) :
    exec (mk f) s = .next (settle (opFrame s f)) := by
  simp only [frameRows, List.mem_cons, List.not_mem_nil, or_false] at h
  rcases h with rfl | rfl | rfl | rfl | rfl | rfl <;> rfl

theorem opFrame_of_bad (hrst : s.pins.coldRstN = true) (h : frameOk f = false ∨ frameWellFormed f = false) :
    opFrame s f = badFrame s f := by
  have hbad : (!frameOk f || !frameWellFormed f) = true := by
    rcases h with h | h <;> simp [h]
  unfold opFrame
  rw [if_neg (by simp [hrst]), if_pos hbad]

theorem opBadFrame_of_released (hrst : s.pins.coldRstN = true) : opBadFrame s f = badFrame s f := by
  rw [opBadFrame, if_neg (by simp [hrst])]

section
variable (hrst : s.pins.coldRstN = true) (hok : frameOk f = true) (hform : frameWellFormed f = true)
include hrst hok hform

theorem opFrame_of_bead (hcmd : frameByte f 1 = 1) : opFrame s f = takeBead s f := by
  unfold opFrame
  rw [if_neg (by simp [hrst]), if_neg (by simp [hok, hform])]
  exact if_pos hcmd

variable (hcmd : frameByte f 1 ≠ 1)
include hcmd

/-- A SAFE to every unit acts where it may, and goes on. -/
theorem opFrame_of_bcast (hbcast : frameBcast f = true) : opFrame s f =
    (if s.flag Fld.chainCtlSafeEn then (s.count Reg.chainCntFrame).report 92 else s).drive (.chain f) := by
  unfold opFrame
  rw [if_neg (by simp [hrst]), if_neg (by simp [hok, hform])]
  exact (if_neg hcmd).trans (if_pos hbcast)

variable (hbcast : frameBcast f = false)
include hbcast

theorem opFrame_of_unaddressed (haddr : addressed s f = false) : opFrame s f = s.drive (.chain f) := by
  unfold opFrame
  rw [if_neg (by simp [hrst]), if_neg (by simp [hok, hform])]
  exact (if_neg hcmd).trans ((if_neg (by simp [hbcast])).trans (if_pos (by simp [haddr])))

variable (haddr : addressed s f = true)
include haddr

theorem opFrame_of_answered (hresp : frameResp f = true) : opFrame s f = chainDup s f := by
  unfold opFrame
  rw [if_neg (by simp [hrst]), if_neg (by simp [hok, hform])]
  exact (if_neg hcmd).trans ((if_neg (by simp [hbcast])).trans ((if_neg (by simp [haddr])).trans (if_pos hresp)))

/-- The commands of R437 to one unit, each counted (R440). -/
theorem opFrame_of_command (hresp : frameResp f = false) :
    (frameByte f 1 = 2 → opFrame s f = chainReg (s.count Reg.chainCntFrame) f false)
      ∧ (frameByte f 1 = 3 → opFrame s f = chainReg (s.count Reg.chainCntFrame) f true)
      ∧ (frameByte f 1 = 4 → opFrame s f = chainPop (s.count Reg.chainCntFrame) f)
      ∧ (frameByte f 1 = 5 → opFrame s f = chainSafe (s.count Reg.chainCntFrame) f)
      ∧ (frameByte f 1 = 6 → opFrame s f = chainIdent (s.count Reg.chainCntFrame) f) := by
  unfold opFrame
  rw [if_neg (by simp [hrst]), if_neg (by simp [hok, hform])]
  dsimp only
  rw [if_neg hcmd, if_neg (by simp [hbcast]), if_neg (by simp [haddr]), if_neg (by simp [hresp])]
  refine ⟨fun h => ?_, fun h => ?_, fun h => ?_, fun h => ?_, fun h => ?_⟩ <;> simp only [h]

end

/-! ### Frames that go on (R434, R438, R440) -/

theorem State.count_frame (s : State) (r : RegDef) (n i k : Nat) : ∃ regs, s.count r n i k = { s with regs := regs } :=
  ⟨_, rfl⟩

theorem State.count_words (s : State) (r : RegDef) : WordsKept s (s.count r) [r.at] := fun o ho =>
  State.rd_count_other s (fun e : r.at = o => ho (e ▸ List.mem_cons_self)) 1

theorem State.info_frame (s : State) (a b : Nat) (x y : Word) : ∃ evq, s.info a b x y = { s with evq := evq } := ⟨_, rfl⟩

/-- A frame that goes on unchanged is counted as bad. -/
theorem badFrame_counts (hr : kRising s.regs = true) (f : List (BitVec 8)) : (badFrame s f).out = s.out ++ [.chain f]
    ∧ (badFrame s f).rd Reg.chainCntCrc.at = satAdd32 (s.rd Reg.chainCntCrc.at) 1
    ∧ WordsKept s (badFrame s f) [Reg.chainCntCrc.at] ∧ { badFrame s f with regs := s.regs, out := s.out } = s := by
  have hword (o : Nat) : (badFrame s f).rd o = (s.count Reg.chainCntCrc).rd o := State.rd_drive ..
  obtain ⟨regs, hframe⟩ := s.count_frame Reg.chainCntCrc 1 0 0
  refine ⟨by rw [badFrame, hframe]; rfl, ?_, fun o ho => ?_, by rw [badFrame, hframe]; rfl⟩
  · rw [hword, State.rd_count s hr, if_pos rfl]
  · rw [hword, s.count_words Reg.chainCntCrc o ho]

/-- A frame answered already goes on with DUP. -/
theorem chainDup_counts (hr : kRising s.regs = true) (f : List (BitVec 8)) :
    (chainDup s f).out = s.out ++ [.chain (frameWith f (f.length - 2) [f.getD (f.length - 2) 0 ||| 0x80])]
      ∧ (chainDup s f).rd Reg.chainCntDup.at = satAdd32 (s.rd Reg.chainCntDup.at) 1
      ∧ WordsKept s (chainDup s f) [Reg.chainCntDup.at]
      ∧ { chainDup s f with regs := s.regs, out := s.out, evq := s.evq } = s := by
  have hword (o : Nat) : (chainDup s f).rd o = (s.count Reg.chainCntDup).rd o :=
    (State.rd_drive ..).trans (State.rd_info ..)
  obtain ⟨regs, hcount⟩ := s.count_frame Reg.chainCntDup 1 0 0
  obtain ⟨evq, hinfo⟩ := (s.count Reg.chainCntDup).info_frame Ev.chainDup Src.chain
    (dw (frameAddr f + frameByte f 1 * 256)) 0
  refine ⟨by rw [chainDup, hinfo, hcount]; rfl, ?_, fun o ho => ?_, by rw [chainDup, hinfo, hcount]; rfl⟩
  · rw [hword, State.rd_count s hr, if_pos rfl]
  · rw [hword, s.count_words Reg.chainCntDup o ho]

/-! ### The chain address (R439, R441) -/

/-- An address and its source, shown as valid. -/
def addressShown (s : State) (a source : Nat) : State :=
  ((s.setFld Fld.chainStatusAddr a).setFld Fld.chainStatusSource source).setFlag Fld.chainStatusValid true

theorem addressShown_fields (hr : kRising s.regs = true) {a source : Nat} (ha : a < 64) (hsource : source < 4) :
    kRising (addressShown s a source).regs = true ∧ (addressShown s a source).fld Fld.chainStatusAddr = a
      ∧ (addressShown s a source).fld Fld.chainStatusSource = source
      ∧ (addressShown s a source).flag Fld.chainStatusValid = true
      ∧ (addressShown s a source).flag Fld.chainStatusTiedLow = s.flag Fld.chainStatusTiedLow := by
  have haddr := State.setFld_rising s hr Fld.chainStatusAddr a 0 0
  have hboth := State.setFld_rising _ haddr Fld.chainStatusSource source 0 0
  have hvalid (g : Fld) (hg : g.reg.at = Reg.chainStatus.at) (hd : 9 ≤ g.lo ∨ g.lo + g.w ≤ 8) :
      (addressShown s a source).fld g
        = ((s.setFld Fld.chainStatusAddr a).setFld Fld.chainStatusSource source).fld g :=
    State.fld_setFld_beside _ hboth Fld.chainStatusValid g 1 0 0 0 0 hg.symm (by decide) hd
  have hsrc (g : Fld) (hg : g.reg.at = Reg.chainStatus.at) (hd : 8 ≤ g.lo ∨ g.lo + g.w ≤ 6) :
      ((s.setFld Fld.chainStatusAddr a).setFld Fld.chainStatusSource source).fld g
        = (s.setFld Fld.chainStatusAddr a).fld g :=
    State.fld_setFld_beside _ haddr Fld.chainStatusSource g source 0 0 0 0 hg.symm (by decide) hd
  have htied : (addressShown s a source).fld Fld.chainStatusTiedLow = s.fld Fld.chainStatusTiedLow := by
    rw [hvalid _ rfl (by decide), hsrc _ rfl (by decide)]
    exact State.fld_setFld_beside s hr Fld.chainStatusAddr _ a 0 0 0 0 rfl (by decide) (by decide)
  refine ⟨State.setFlag_rising hboth .., ?_, ?_, State.flag_setFlag hboth _ rfl (by decide), ?_⟩
  · rw [hvalid _ rfl (by decide), hsrc _ rfl (by decide), State.fld_setFld s hr _ a 0 0 (by decide)]
    exact Nat.mod_eq_of_lt ha
  · rw [hvalid _ rfl (by decide), State.fld_setFld _ haddr _ source 0 0 (by decide)]
    exact Nat.mod_eq_of_lt hsource
  · rw [State.flag, htied, State.flag]

theorem addressShown_frame (s : State) (a source : Nat) : ∃ regs, addressShown s a source = { s with regs := regs } :=
  ⟨_, rfl⟩

theorem addressShown_touches (s : State) (a source : Nat) : Touches s (addressShown s a source) [Reg.chainStatus.at] :=
  (((Touches.of_regs rfl).setFld Fld.chainStatusAddr _ List.mem_cons_self).setFld Fld.chainStatusSource _
    List.mem_cons_self).setFlag Fld.chainStatusValid _ List.mem_cons_self

/-- A BEAD of COUNT below 64 gives the address, of 64 or more overflows (R439). -/
def beadTaken (s : State) (n : Nat) : State :=
  if n < 64 then ((addressShown s n 1).count Reg.chainCntAddr).info Ev.chainAddr Src.chain (dw (n + 64)) (dw n)
  else s.setFlag Fld.chainStatusOverflow true

theorem beadTaken_frame (s : State) (n : Nat) : ∃ regs evq, beadTaken s n = { s with regs := regs, evq := evq } := by
  unfold beadTaken
  split
  · obtain ⟨regs, hshown⟩ := addressShown_frame s n 1
    obtain ⟨regs', hcount⟩ := (addressShown s n 1).count_frame Reg.chainCntAddr 1 0 0
    obtain ⟨evq, hinfo⟩ := ((addressShown s n 1).count Reg.chainCntAddr).info_frame Ev.chainAddr Src.chain
      (dw (n + 64)) (dw n)
    exact ⟨regs', evq, by rw [hinfo, hcount, hshown]⟩
  · exact ⟨_, _, rfl⟩

theorem beadTaken_touches (s : State) (n : Nat) : Touches s (beadTaken s n) [Reg.chainStatus.at, Reg.chainCntAddr.at] := by
  unfold beadTaken
  split
  · have hshown := (addressShown_touches s n 1).mono (l' := [Reg.chainStatus.at, Reg.chainCntAddr.at]) (by decide)
    exact (hshown.count Reg.chainCntAddr 1 (by decide)).trans (.of_regs rfl)
  · exact (Touches.of_regs rfl).setFlag Fld.chainStatusOverflow true List.mem_cons_self

theorem beadTaken_of_lt (hr : kRising s.regs = true) {n : Nat} (hn : n < 64) :
    (beadTaken s n).fld Fld.chainStatusAddr = n ∧ (beadTaken s n).fld Fld.chainStatusSource = 1
      ∧ (beadTaken s n).flag Fld.chainStatusValid = true
      ∧ (beadTaken s n).rd Reg.chainCntAddr.at = satAdd32 (s.rd Reg.chainCntAddr.at) 1 := by
  obtain ⟨hshown, haddr, hsource, hvalid, -⟩ := addressShown_fields hr hn (by decide : 1 < 4)
  have hword : (beadTaken s n).rd Reg.chainStatus.at = (addressShown s n 1).rd Reg.chainStatus.at := by
    rw [beadTaken, if_pos hn, State.rd_info, State.rd_count_other _ (by decide)]
  refine ⟨(State.fld_congr hword).trans haddr, (State.fld_congr hword).trans hsource,
    (State.flag_congr hword).trans hvalid, ?_⟩
  rw [beadTaken, if_pos hn, State.rd_info, State.rd_count _ hshown, if_pos rfl, (addressShown_touches s n 1).rd (by decide)]

theorem beadTaken_of_le (hr : kRising s.regs = true) {n : Nat} (hn : 64 ≤ n) :
    (beadTaken s n).flag Fld.chainStatusOverflow = true
      ∧ (beadTaken s n).fld Fld.chainStatusAddr = s.fld Fld.chainStatusAddr := by
  rw [beadTaken, if_neg (by omega)]
  exact ⟨State.flag_setFlag hr Fld.chainStatusOverflow rfl (by decide),
    State.fld_setFld_beside s hr Fld.chainStatusOverflow Fld.chainStatusAddr 1 0 0 0 0 rfl (by decide) (by decide)⟩

/-- The BEAD goes on with COUNT + 1. -/
def beadSent (s : State) (f : List (BitVec 8)) : State :=
  (beadTaken (s.count Reg.chainCntFrame) (frameByte f 3)).drive
    (.chain (frameWith f 3 [BitVec.ofNat 8 (min (frameByte f 3 + 1) 255)]))

/-- A BEAD that has gone on: its words, its frame and its output. -/
theorem beadSent_keeps (s : State) (f : List (BitVec 8)) :
    Touches s (beadSent s f) [Reg.chainCntFrame.at, Reg.chainStatus.at, Reg.chainCntAddr.at]
      ∧ (beadSent s f).out = s.out ++ [.chain (frameWith f 3 [BitVec.ofNat 8 (min (frameByte f 3 + 1) 255)])]
      ∧ { beadSent s f with regs := s.regs, out := s.out, evq := s.evq } = s := by
  have htouch := beadTaken_touches (s.count Reg.chainCntFrame) (frameByte f 3)
  obtain ⟨regs, evq, hframe⟩ := beadTaken_frame (s.count Reg.chainCntFrame) (frameByte f 3)
  refine ⟨?_, ?_, ?_⟩
  · refine (((Touches.of_regs rfl).count Reg.chainCntFrame 1 List.mem_cons_self).trans (htouch.mono ?_)).trans (.of_regs rfl)
    exact List.subset_cons_self _ _
  · rw [beadSent, hframe]
    rfl
  · rw [beadSent, hframe]
    rfl

theorem takeBead_eq (s : State) (f : List (BitVec 8)) :
    takeBead s f = if s.mode = .enumerate then beginLoad (beadSent s f) else beadSent s f := by
  have hmode : (beadSent s f).mode = s.mode := (congrArg State.mode (beadSent_keeps s f).2.2 :)
  rw [← hmode]
  rfl

/-- What the BEAD shows stands where LOAD begins, too. -/
theorem takeBead_keeps (s : State) (f : List (BitVec 8)) :
    Touches (beadSent s f) (takeBead s f) loadWords ∧ (takeBead s f).out = (beadSent s f).out := by
  rw [takeBead_eq]
  split
  · exact ⟨beginLoad_touches _, (beginLoad_frame _).2.2.1⟩
  · exact ⟨.of_regs rfl, rfl⟩

/-- A BEAD gives the address or overflows (R439), and ends ENUMERATE (R441). -/
theorem takeBead_acts (hr : kRising s.regs = true) (f : List (BitVec 8)) :
    (s.out ++ [.chain (frameWith f 3 [BitVec.ofNat 8 (min (frameByte f 3 + 1) 255)])]) <+: (takeBead s f).out
      ∧ (frameByte f 3 < 64 → (takeBead s f).fld Fld.chainStatusAddr = frameByte f 3
          ∧ (takeBead s f).fld Fld.chainStatusSource = 1 ∧ (takeBead s f).flag Fld.chainStatusValid = true
          ∧ (takeBead s f).rd Reg.chainCntAddr.at = satAdd32 (s.rd Reg.chainCntAddr.at) 1)
      ∧ (64 ≤ frameByte f 3 → (takeBead s f).flag Fld.chainStatusOverflow = true
          ∧ (takeBead s f).fld Fld.chainStatusAddr = s.fld Fld.chainStatusAddr)
      ∧ (s.mode = .enumerate → (takeBead s f).mode = .load ∧ (takeBead s f).start = .load)
      ∧ (s.mode ≠ .enumerate → { takeBead s f with regs := s.regs, out := s.out, evq := s.evq } = s
          ∧ WordsKept s (takeBead s f) [Reg.chainCntFrame.at, Reg.chainStatus.at, Reg.chainCntAddr.at]) := by
  obtain ⟨hwords, hout, hframe⟩ := beadSent_keeps s f
  obtain ⟨htouch, hsame⟩ := takeBead_keeps s f
  have hcounted := State.count_rising s hr Reg.chainCntFrame 1 0 0
  have hstatus : (s.count Reg.chainCntFrame).rd Reg.chainStatus.at = s.rd Reg.chainStatus.at :=
    State.rd_count_other s (by decide) 1
  refine ⟨by rw [hsame, hout], fun hn => ?_, fun hn => ?_, fun hm => ?_, fun hm => ?_⟩
  · obtain ⟨haddr, hsource, hvalid, hcount⟩ := beadTaken_of_lt hcounted hn
    refine ⟨(htouch.fld (by decide)).trans haddr, (htouch.fld (by decide)).trans hsource,
      (htouch.flag (by decide)).trans hvalid, ?_⟩
    rw [htouch.rd (by decide)]
    refine hcount.trans ?_
    rw [State.rd_count_other s (by decide) 1]
  · obtain ⟨hoverflow, haddr⟩ := beadTaken_of_le hcounted hn
    exact ⟨(htouch.flag (by decide)).trans hoverflow,
      (htouch.fld (by decide)).trans (haddr.trans (State.fld_congr hstatus))⟩
  · rw [takeBead_eq, if_pos hm]
    obtain ⟨hmode, hstart, -⟩ := beginLoad_frame (beadSent s f)
    exact ⟨hmode, hstart⟩
  · rw [takeBead_eq, if_neg hm]
    exact ⟨hframe, hwords.1⟩

end Sys2Proof.Machine

end

/-! SUPPORT. What a command of the chain's master does (R437, R645, R667), and ENUMERATE without a BEAD (R441). -/

section

namespace Sys2Proof.Machine

variable {s : State} {f : List (BitVec 8)}

/-! ### READ and WRITE (R437, R667) -/

/-- OFFSET and DATA of a READ or a WRITE. -/
def frameOff (f : List (BitVec 8)) : Nat := frameByte f 3 * 2 ^ 16 + frameByte f 4 * 2 ^ 8 + frameByte f 5

def frameData (f : List (BitVec 8)) : Nat :=
  frameByte f 6 * 2 ^ 24 + frameByte f 7 * 2 ^ 16 + frameByte f 8 * 2 ^ 8 + frameByte f 9

theorem frameData_word (f : List (BitVec 8)) : (dw (frameData f)).toNat = frameData f := by
  have hbyte (i : Nat) : frameByte f i < 256 := (f.getD i 0).isLt
  have h6 := hbyte 6
  have h7 := hbyte 7
  have h8 := hbyte 8
  have h9 := hbyte 9
  have hlt : frameData f < 2 ^ 32 := by
    unfold frameData
    omega
  rw [dw, BitVec.toNat_ofNat, Nat.mod_eq_of_lt hlt]

/-- A whole word's access without an error is aligned. -/
theorem aligned_of_accessReason {off : Nat} {w b : Bool} (h : accessReason s off 4 w b = none) : off / 4 * 4 = off := by
  have hmod : off % 4 = 0 := by
    by_contra hmod
    unfold accessReason at h
    rw [if_pos hmod] at h
    split at h <;> exact absurd h (by simp)
  omega

theorem access_read {off : Nat} (h : accessReason s off 4 false false = none) (data : Word) :
    oneAccess s true off 4 4 false data false =
      (if inMirror off then beamWord s (off - 0x80000) else readReg s off, false, s) := by
  unfold oneAccess
  rw [h]
  unfold access
  rw [aligned_of_accessReason h]
  cases inMirror off <;> simp only [le_refl, if_true, Bool.false_eq_true, if_false, BitVec.and_allOnes]

theorem access_write {off : Nat} (h : accessReason s off 4 true false = none) (hmirror : inMirror off = false) (data : Word) :
    oneAccess s true off 4 4 true data false = (0, false, writeWord s off data) := by
  unfold oneAccess
  rw [h]
  unfold access
  rw [aligned_of_accessReason h]
  simp only [hmirror, le_refl, if_true, Bool.false_eq_true, if_false, BitVec.and_allOnes, BitVec.not_allOnes, BitVec.and_zero,
    BitVec.zero_or]

/-- A READ's answer is the word at its offset. -/
theorem chainReg_read (hm : s.mode ≠ .reset) (hoff : frameOff f < 2 ^ 20)
    (h : accessReason s (frameOff f) 4 false false = none) : chainReg s f false =
      s.drive (.chain (answerFrame f ((f.drop 3).take 3 ++ bytesBig 4 (if inMirror (frameOff f)
        then beamWord s (frameOff f - 0x80000) else readReg s (frameOff f)).toNat) 0)) := by
  have haccess : chainAccess s f false =
      (0, if inMirror (frameOff f) then beamWord s (frameOff f - 0x80000) else readReg s (frameOff f), s) := by
    unfold chainAccess
    rw [if_neg hm, if_neg (by simp), ← frameOff, if_neg (Nat.not_le.2 hoff), access_read h]
    rfl
  rw [chainReg, haccess]

/-- A WRITE that CHAIN_CTL does not let write is answered with STATUS 3. -/
theorem chainReg_barred (hm : s.mode ≠ .reset) (hen : s.flag Fld.chainCtlWrEn = false) : chainReg s f true =
    s.drive (.chain (answerFrame f ((f.drop 3).take 3 ++ bytesBig 4 (frameData f)) 3)) := by
  have haccess : chainAccess s f true = (3, dw (frameData f), s) := by
    unfold chainAccess
    rw [if_neg hm, if_pos (by simp [hen]), frameData]
  rw [chainReg, haccess, frameData_word]

/-- A WRITE writes its word and is answered with it. -/
theorem chainReg_write (hm : s.mode ≠ .reset) (hen : s.flag Fld.chainCtlWrEn = true) (hoff : frameOff f < 2 ^ 20)
    (hmirror : inMirror (frameOff f) = false) (h : accessReason s (frameOff f) 4 true false = none) : chainReg s f true =
      (writeWord s (frameOff f) (dw (frameData f))).drive
        (.chain (answerFrame f ((f.drop 3).take 3 ++ bytesBig 4 (frameData f)) 0)) := by
  have haccess : chainAccess s f true = (0, dw (frameData f), writeWord s (frameOff f) (dw (frameData f))) := by
    unfold chainAccess
    rw [if_neg hm, if_neg (by simp [hen]), ← frameOff, ← frameData, if_neg (Nat.not_le.2 hoff), access_write h hmirror]
    rfl
  rw [chainReg, haccess, frameData_word]

/-! ### EVQ_POP, SAFE (R437, R645) -/

theorem chainPop_of_none (h : s.evq.first = none) (f : List (BitVec 8)) :
    chainPop s f = s.drive (.chain (answerFrame f (bytesBig 16 0) 4)) := by
  unfold chainPop popItem
  rw [h]

/-- An item without bad words is popped and answered with. -/
theorem chainPop_of_some {i : EvItem} (h : s.evq.first = some i) (hbad : i.bad = 0) (f : List (BitVec 8)) :
    chainPop s f = ({ s with evq := { s.evq with items := s.evq.items.erase i } } : State).drive
      (.chain (answerFrame f ((i.words.map (fun w => bytesBig 4 w.toNat)).flatten) 0)) := by
  unfold chainPop popItem
  rw [h]
  dsimp only
  rw [if_pos hbad]

/-! ### ENUMERATE without a BEAD (R441) -/

theorem opNoBead_of_mode (h : s.mode ≠ .enumerate) (tied : Bool) : opNoBead s tied = s := if_neg h

/-- The fallback address: the OTP record's, or 0. -/
def fallbackShown (s : State) : State :=
  addressShown s (if (otpValid s 1).isSome then otpByte s 1 1 % 64 else 0) (if (otpValid s 1).isSome then 2 else 3)

theorem fallbackAddr_eq (s : State) : ∃ a b x y, fallbackAddr s = (fallbackShown s).info a b x y := ⟨_, _, _, _, rfl⟩

/-- An input that is tied low shows. -/
def tiedShown (s : State) (tied : Bool) : State := if tied then s.setFlag Fld.chainStatusTiedLow true else s

theorem opNoBead_of_enumerate (h : s.mode = .enumerate) (tied : Bool) :
    opNoBead s tied = beginLoad (fallbackAddr (tiedShown s tied)) := if_pos h

theorem tiedShown_frame (s : State) (tied : Bool) : ∃ regs, tiedShown s tied = { s with regs := regs } := by
  unfold tiedShown
  split <;> exact ⟨_, rfl⟩

theorem tiedShown_flag (hr : kRising s.regs = true) (tied : Bool) : kRising (tiedShown s tied).regs = true
    ∧ (tied = true → (tiedShown s tied).flag Fld.chainStatusTiedLow = true) := by
  cases tied with
  | false => exact ⟨hr, fun h => absurd h (by decide)⟩
  | true => exact ⟨State.setFlag_rising hr .., fun _ => State.flag_setFlag hr Fld.chainStatusTiedLow rfl (by decide)⟩

/-- The fallback address moves words and events alone. -/
theorem fallbackAddr_tied_frame (s : State) (tied : Bool) :
    ∃ regs evq, fallbackAddr (tiedShown s tied) = { s with regs := regs, evq := evq } := by
  obtain ⟨a, b, x, y, hfall⟩ := fallbackAddr_eq (tiedShown s tied)
  obtain ⟨evq, hinfo⟩ := (fallbackShown (tiedShown s tied)).info_frame a b x y
  obtain ⟨regs, htied⟩ := tiedShown_frame s tied
  obtain ⟨regs', hshown⟩ := addressShown_frame (tiedShown s tied)
    (if (otpValid (tiedShown s tied) 1).isSome then otpByte (tiedShown s tied) 1 1 % 64 else 0)
    (if (otpValid (tiedShown s tied) 1).isSome then 2 else 3)
  exact ⟨regs', evq, by rw [hfall, hinfo, fallbackShown, hshown, htied]⟩

/-- The fallback address is valid and in its range, and leaves TIED_LOW as it is. -/
theorem fallbackAddr_fields (hr : kRising s.regs = true) :
    (fallbackAddr s).fld Fld.chainStatusAddr = (if (otpValid s 1).isSome then otpByte s 1 1 % 64 else 0)
      ∧ (fallbackAddr s).fld Fld.chainStatusSource = (if (otpValid s 1).isSome then 2 else 3)
      ∧ (fallbackAddr s).flag Fld.chainStatusValid = true
      ∧ (fallbackAddr s).flag Fld.chainStatusTiedLow = s.flag Fld.chainStatusTiedLow := by
  have haddr : (if (otpValid s 1).isSome then otpByte s 1 1 % 64 else 0) < 64 := by
    split <;> omega
  have hsource : (if (otpValid s 1).isSome then 2 else 3) < 4 := by
    split <;> decide
  obtain ⟨-, hfields⟩ := addressShown_fields hr haddr hsource
  obtain ⟨a, b, x, y, hfall⟩ := fallbackAddr_eq s
  rw [hfall]
  simp only [State.fld_info, State.flag_info]
  exact hfields

/-- ENUMERATE without a BEAD ends with the fallback address, and LOAD begins. -/
theorem opNoBead_falls_back (hr : kRising s.regs = true) (h : s.mode = .enumerate) (tied : Bool) :
    (opNoBead s tied).mode = .load ∧ (opNoBead s tied).start = .load
      ∧ (opNoBead s tied).fld Fld.chainStatusAddr = (if (otpValid s 1).isSome then otpByte s 1 1 % 64 else 0)
      ∧ (opNoBead s tied).fld Fld.chainStatusSource = (if (otpValid s 1).isSome then 2 else 3)
      ∧ (opNoBead s tied).flag Fld.chainStatusValid = true
      ∧ (tied = true → (opNoBead s tied).flag Fld.chainStatusTiedLow = true) ∧ DataKept s (opNoBead s tied) := by
  obtain ⟨hrising, hlow⟩ := tiedShown_flag hr tied
  obtain ⟨haddr, hsource, hvalid, hkept⟩ := fallbackAddr_fields hrising
  have hotp : (tiedShown s tied).flash.otp = s.flash.otp := by
    obtain ⟨regs, hframe⟩ := tiedShown_frame s tied
    rw [hframe]
  rw [otpValid_congr hotp, otpByte_congr hotp] at haddr
  rw [otpValid_congr hotp] at hsource
  obtain ⟨regs, evq, hframe⟩ := fallbackAddr_tied_frame s tied
  have hword : Reg.chainStatus.at ∉ loadWords := by decide
  rw [opNoBead_of_enumerate h]
  generalize fallbackAddr (tiedShown s tied) = u at *
  obtain ⟨hmode, hstart, -, hdata⟩ := beginLoad_frame u
  have htouch := beginLoad_touches u
  refine ⟨hmode, hstart, (htouch.fld hword).trans haddr, (htouch.fld hword).trans hsource, (htouch.flag hword).trans hvalid,
    fun ht => (htouch.flag hword).trans (hkept.trans (hlow ht)), ?_⟩
  rw [hframe] at hdata ⊢
  exact hdata

end Sys2Proof.Machine

end

/-! SUPPORT. The statement about the frames of the bead chain. -/

section

namespace Sys2Proof.Machine

variable {s : State} {f : List (BitVec 8)}

/-- A SAFE to every unit goes on, and is counted and reported where CHAIN_CTL lets it act. -/
theorem opFrame_bcast_acts (hrst : s.pins.coldRstN = true) (hok : frameOk f = true)
    (hform : frameWellFormed f = true) (hcmd : frameByte f 1 ≠ 1) (hbcast : frameBcast f = true) :
    (opFrame s f).out = s.out ++ [.chain f]
      ∧ (opFrame s f).flt.raised = s.flt.raised ++ (if s.flag Fld.chainCtlSafeEn then [(92, none)] else [])
      ∧ WordsKept s (opFrame s f) [Reg.chainCntFrame.at] := by
  rw [opFrame_of_bcast hrst hok hform hcmd hbcast]
  cases s.flag Fld.chainCtlSafeEn with
  | false => exact ⟨rfl, (List.append_nil _).symm, WordsKept.of_regs rfl⟩
  | true =>
    obtain ⟨regs, hcount⟩ := s.count_frame Reg.chainCntFrame 1 0 0
    have hwords := s.count_words Reg.chainCntFrame
    rw [hcount] at hwords ⊢
    exact ⟨rfl, rfl, hwords⟩

/-- An EVQ_POP takes the first item and leaves all else but its count. -/
theorem chainPop_takes {i : EvItem} (h : s.evq.first = some i) (hbad : i.bad = 0) :
    let t := chainPop (s.count Reg.chainCntFrame) f
    t.out = s.out ++ [.chain (answerFrame f ((i.words.map (fun w => bytesBig 4 w.toNat)).flatten) 0)]
      ∧ t.evq.items = s.evq.items.erase i ∧ WordsKept s t [Reg.chainCntFrame.at]
      ∧ { t with regs := s.regs, out := s.out, evq := s.evq } = s := by
  obtain ⟨regs, hcount⟩ := s.count_frame Reg.chainCntFrame 1 0 0
  have hwords := s.count_words Reg.chainCntFrame
  rw [hcount] at hwords ⊢
  rw [chainPop_of_some (s := { s with regs := regs }) h hbad]
  exact ⟨rfl, rfl, hwords, rfl⟩

end Sys2Proof.Machine

open Sys2Proof Sys2Proof.Machine

/-- Settles O47: a frame takes one of the courses of R434, R437 and R438, and each course has its lemma. -/
theorem chainFrames : Obligations.ChainFrames := by
  refine ⟨fun mk hmk f s hrst hw => ?_, fun f s hrst hw => ?_, fun tied s hw => ?_⟩
  · have hr := State.wf_regs_rising hw
    rw [exec_frameRows hmk]
    refine ⟨fun hbad => ?_, fun hok hform hcmd => ?_, fun hok hform hcmd hbcast => ?_,
      fun hok hform hcmd hbcast haddr => ?_, fun hok hform hcmd hbcast haddr => ⟨fun hresp => ?_, fun hresp => ?_⟩⟩
    · rw [opFrame_of_bad hrst hbad]
      exact ⟨_, rfl, badFrame_counts hr f⟩
    · rw [opFrame_of_bead hrst hok hform hcmd]
      exact ⟨_, rfl, takeBead_acts hr f⟩
    · exact ⟨_, rfl, opFrame_bcast_acts hrst hok hform hcmd hbcast⟩
    · rw [opFrame_of_unaddressed hrst hok hform hcmd hbcast haddr]
    · rw [opFrame_of_answered hrst hok hform hcmd hbcast haddr hresp]
      exact ⟨_, rfl, chainDup_counts hr f⟩
    · obtain ⟨hread, hwrite, hpop, hsafe, hident⟩ := opFrame_of_command hrst hok hform hcmd hbcast haddr hresp
      have hen (g : Fld) (hg : Reg.chainCntFrame.at ≠ g.reg.at) : (s.count Reg.chainCntFrame).flag g = s.flag g :=
        State.flag_count_other hr _ _ _ _ _ _ _ hg
      refine ⟨fun hc hm hoff hacc => ?_, fun hc hm hwr => ?_, fun hc hm hwr hoff hmirror hacc => ?_,
        fun hc => ⟨fun i hi hbad => ?_, fun hnone => ?_⟩, fun hc => ?_, fun hc => ?_⟩
      · rw [hread hc]
        exact next_settle_congr (chainReg_read hm hoff hacc)
      · rw [hwrite hc]
        exact next_settle_congr (chainReg_barred hm ((hen _ (by decide)).trans hwr))
      · rw [hwrite hc]
        exact next_settle_congr (chainReg_write hm ((hen _ (by decide)).trans hwr) hoff hmirror hacc)
      · rw [hpop hc]
        exact ⟨_, rfl, chainPop_takes hi hbad⟩
      · rw [hpop hc]
        exact next_settle_congr (chainPop_of_none (s := s.count Reg.chainCntFrame) hnone f)
      · rw [hsafe hc, chainSafe, hen _ (by decide)]
      · rw [hident hc, chainIdent, State.rd_count_other s (by decide)]
        rfl
  · have hcounts := badFrame_counts (State.wf_regs_rising hw) f
    rw [← opBadFrame_of_released hrst] at hcounts
    exact ⟨_, rfl, hcounts⟩
  · have hexec : exec (if tied then .enumerateTiedLow else .enumerateTimeout) s = .next (settle (opNoBead s tied)) := by
      cases tied <;> rfl
    dsimp only
    rw [hexec]
    refine ⟨fun hm => ⟨_, rfl, opNoBead_falls_back (State.wf_regs_rising hw) hm tied⟩, fun hm => ?_⟩
    rw [opNoBead_of_mode hm]

end

/-! SUPPORT. Updates of register words and events: what they write, and that they move nothing else. -/

section

namespace Sys2Proof.Machine

section
variable {s t u : State} {l l' : List Nat}

/-! ### Fields of words, a word at a time -/

theorem State.rd_setFld_of_ne (s : State) {f : Fld} {i k j : Nat} (h : f.reg.at i k ≠ j) (v : Nat) :
    (s.setFld f v i k).rd j = s.rd j := State.rd_wr_other h _

theorem State.rd_setFlag_of_ne (s : State) {f : Fld} {i k j : Nat} (h : f.reg.at i k ≠ j) (b : Bool) :
    (s.setFlag f b i k).rd j = s.rd j := State.rd_wr_other h _

theorem State.flag_setFlag_of_ne (s : State) {f g : Fld} {i k i' k' : Nat} (h : f.reg.at i k ≠ g.reg.at i' k') (b : Bool) :
    (s.setFlag f b i k).flag g i' k' = s.flag g i' k' := State.flag_congr (State.rd_wr_other h _)

theorem State.flag_count_of_ne (s : State) {r : RegDef} {g : Fld} {i k i' k' : Nat} (h : r.at i k ≠ g.reg.at i' k') (n : Nat) :
    (s.count r n i k).flag g i' k' = s.flag g i' k' := State.flag_congr (State.rd_wr_other h _)

/-- A counter has counted. -/
theorem State.rd_count_self (hr : kRising s.regs = true) (r : RegDef) (n i k : Nat) :
    (s.count r n i k).rd (r.at i k) = satAdd32 (s.rd (r.at i k)) n := (State.rd_count s hr ..).trans (if_pos rfl)

/-- What a field can hold, it reads after it has been put there. -/
theorem State.fld_setFld_of_lt (hr : kRising s.regs = true) (f : Fld) {v : Nat} (i k : Nat) (h : f.lo + f.w ≤ 32)
    (hv : v < 2 ^ f.w) : (s.setFld f v i k).fld f i k = v :=
  (State.fld_setFld s hr f v i k h).trans (Nat.mod_eq_of_lt hv)

/-! ### Updates of words alone -/

/-- `t` is `s` with the words at `l` written, and nothing else moved. -/
def Writes (s t : State) (l : List Nat) : Prop := (∃ regs, t = { s with regs := regs }) ∧ Touches s t l

theorem Writes.refl (s : State) (l : List Nat) : Writes s s l := ⟨⟨_, rfl⟩, .of_regs rfl⟩

theorem Writes.touches (h : Writes s t l) : Touches s t l := h.2

theorem Writes.trans (h : Writes s t l) (h' : Writes t u l) : Writes s u l := by
  obtain ⟨⟨_, rfl⟩, htouch⟩ := h
  obtain ⟨⟨_, rfl⟩, htouch'⟩ := h'
  exact ⟨⟨_, rfl⟩, htouch.trans htouch'⟩

theorem Writes.mono (h : Writes s t l) (hl : l ⊆ l') : Writes s t l' := ⟨h.1, h.2.mono hl⟩

theorem Writes.wr (h : Writes s t l) {o : Nat} (w : Word) (ho : o ∈ l) : Writes s (t.wr o w) l := by
  obtain ⟨⟨_, rfl⟩, htouch⟩ := h
  exact ⟨⟨_, rfl⟩, htouch.wr w ho⟩

theorem Writes.setFld (h : Writes s t l) (f : Fld) (v : Nat) {i k : Nat} (ho : f.reg.at i k ∈ l) :
    Writes s (t.setFld f v i k) l := h.wr _ ho

theorem Writes.setFlag (h : Writes s t l) (f : Fld) (b : Bool) {i k : Nat} (ho : f.reg.at i k ∈ l) :
    Writes s (t.setFlag f b i k) l := h.wr _ ho

theorem Writes.count (h : Writes s t l) (r : RegDef) (n : Nat) {i k : Nat} (ho : r.at i k ∈ l) :
    Writes s (t.count r n i k) l := h.wr _ ho

theorem Writes.modCh_rest (h : Writes s t l) (d : ChanId) (f : Channel → Channel) :
    { t.modCh d f with regs := s.regs, chs := s.chs } = s := by
  obtain ⟨⟨_, rfl⟩, -⟩ := h
  rfl

theorem Writes.only (h : Writes s t l) : OnlyWords s t l := by
  obtain ⟨⟨_, rfl⟩, htouch⟩ := h
  exact ⟨rfl, htouch.1⟩

/-! ### Updates of words and events -/

/-- `t` is `s` with the words at `l` written and events told, and nothing else moved. -/
def Shows (s t : State) (l : List Nat) : Prop := (∃ regs evq, t = { s with regs := regs, evq := evq }) ∧ Touches s t l

theorem Writes.shows (h : Writes s t l) : Shows s t l := by
  obtain ⟨⟨_, rfl⟩, htouch⟩ := h
  exact ⟨⟨_, _, rfl⟩, htouch⟩

theorem Shows.touches (h : Shows s t l) : Touches s t l := h.2

theorem Shows.trans (h : Shows s t l) (h' : Shows t u l) : Shows s u l := by
  obtain ⟨⟨_, _, rfl⟩, htouch⟩ := h
  obtain ⟨⟨_, _, rfl⟩, htouch'⟩ := h'
  exact ⟨⟨_, _, rfl⟩, htouch.trans htouch'⟩

theorem Shows.mono (h : Shows s t l) (hl : l ⊆ l') : Shows s t l' := ⟨h.1, h.2.mono hl⟩

theorem Shows.event (h : Shows s t l) (a b c : Nat) (x y : Word) : Shows s (t.event a b c x y) l := by
  obtain ⟨⟨_, _, rfl⟩, htouch⟩ := h
  exact ⟨⟨_, _, rfl⟩, htouch.trans (.of_regs rfl)⟩

theorem Shows.info (h : Shows s t l) (a b : Nat) (x y : Word) : Shows s (t.info a b x y) l := h.event ..

/-- Beside its words and events, nothing of the state moves. -/
theorem Shows.rest (h : Shows s t l) : { t with regs := s.regs, evq := s.evq } = s := by
  obtain ⟨⟨_, _, rfl⟩, -⟩ := h
  rfl

theorem Shows.rest_chs (h : Shows s t l) : { t with regs := s.regs, chs := s.chs, evq := s.evq } = s := by
  obtain ⟨⟨_, _, rfl⟩, -⟩ := h
  rfl

/-- Words and events are none of the stores, no entry and no channel. -/
theorem Shows.vault (h : Shows s t l) (c : Nat) : t.vault c = s.vault c := by
  obtain ⟨⟨_, _, rfl⟩, -⟩ := h
  rfl

/-- Whether the log takes records is a matter of the mode and the fault net. -/
theorem Shows.logOpen (h : Shows s t l) : logOpen t = logOpen s := by
  obtain ⟨⟨_, _, rfl⟩, -⟩ := h
  rfl

theorem Shows.chs (h : Shows s t l) : t.chs = s.chs := by
  obtain ⟨⟨_, _, rfl⟩, -⟩ := h
  rfl

theorem Shows.ch (h : Shows s t l) (c : Nat) : t.ch c = s.ch c := by
  obtain ⟨⟨_, _, rfl⟩, -⟩ := h
  rfl

end

end Sys2Proof.Machine

end

/-! SUPPORT. An orderly fence as it begins or waits (R470, R471), and the timers of a channel (R473, R492, R495). -/

section

namespace Sys2Proof.Machine

section
variable {s : State} {c : Nat}

/-! ### Orderly fences (R470, R471) -/

/-- Nothing holds the fence of an ONLINE channel back. -/
theorem orderlyFence_begins (hst : (s.ch c).st = .online) (hfreq : (s.ch c).freq = .none) (hways : s.retiring = [])
    (why : Nat) : orderlyFence s c why = beginFence s c why := by
  simp [orderlyFence, hst, hfreq, hways]

/-- The fence of an ONLINE channel waits for a frequency change. -/
theorem orderlyFence_waits (hst : (s.ch c).st = .online) (hfreq : (s.ch c).freq ≠ .none) (why : Nat) :
    orderlyFence s c why = s.modCh (chan c) (fun q => { q with fencePend := why + 1 }) := by
  simp [orderlyFence, hst, hfreq]

theorem queueLog_ch (s : State) (kind : Nat) (body : List Nat) (c : Nat) : (queueLog s kind body).ch c = s.ch c := by
  unfold queueLog
  split <;> rfl

theorem beginFence_ch (s : State) (c why : Nat) :
    ((beginFence s c why).ch c).st = .fencing ∧ ((beginFence s c why).ch c).plan = (s.ch c).plan := by
  unfold beginFence
  extract_lets counted fencing swept tiered
  have hswept : swept.ch c = { s.ch c with st := .fencing } :=
    calc swept.ch c
      _ = fencing.ch c := (State.setFlag_ch ..).trans (queueLog_ch ..)
      _ = { counted.ch c with st := .fencing } := setChSt_ch ..
      _ = { s.ch c with st := .fencing } := rfl
  rw [State.modCh_ch, hswept]
  exact ⟨rfl, rfl⟩

/-- A fence that begins is counted. -/
theorem beginFence_counts (hr : kRising s.regs = true) (why : Nat) :
    (beginFence s c why).rd (Reg.chCntFence.at c) = satAdd32 (s.rd (Reg.chCntFence.at c)) 1 := by
  have hne : Reg.tierSweep.at c ≠ Reg.chCntFence.at c := by
    simp only [RegDef.at, Reg.tierSweep, Reg.chCntFence]
    omega
  unfold beginFence
  extract_lets counted fencing swept tiered
  have hlogged : (queueLog fencing LogKind.journal [Jr.opened, c]).regs = (s.count Reg.chCntFence 1 c).regs := by
    rw [queueLog_regs, setChSt_regs]
    rfl
  calc swept.rd (Reg.chCntFence.at c)
    _ = (queueLog fencing LogKind.journal [Jr.opened, c]).rd (Reg.chCntFence.at c) := State.rd_wr_other hne _
    _ = (s.count Reg.chCntFence 1 c).rd (Reg.chCntFence.at c) := (WordsKept.of_regs (l := []) hlogged) _ List.not_mem_nil
    _ = satAdd32 (s.rd (Reg.chCntFence.at c)) 1 := (State.rd_count s hr ..).trans (if_pos rfl)

end

section
variable {s : State} {c : Nat}

/-! ### A channel's timers (R473, R492, R495) -/

/-- The channel with its record that a slow fence has been warned of. -/
def fenceTold (s : State) (c : Nat) : State := s.modCh (chan c) (fun q => { q with fenceWarned := true })

/-- A slow fence is warned of by one event, with the number of dirty sectors left (R473). -/
theorem opFenceSlow_warns (hst : (s.ch c).st = .fencing) (hnew : (s.ch c).fenceWarned = false)
    (hwarn : s.fld Fld.svcPolicyFenceWarn ≠ 0) :
    ∃ n : Nat, opFenceSlow s c = (fenceTold s c).info Ev.fenceSlow (Src.chan c) (dw (c % 16)) (dw n) :=
  ⟨_, if_pos (by simp [hst, hnew, hwarn])⟩

theorem opFenceSlow_of_not (h : (s.ch c).st ≠ .fencing ∨ (s.ch c).fenceWarned = true ∨ s.fld Fld.svcPolicyFenceWarn = 0) :
    opFenceSlow s c = s := by
  refine if_neg ?_
  rcases h with h | h | h <;> simp [h]

/-- The count of RETRAINs starts afresh with a new window (R492). -/
theorem opRetrainWindow_of_mode (hm : s.mode ≠ .reset) : opRetrainWindow s c
    = (s.setFld Fld.chRetrainCount 0 c).modCh (chan c) (fun q => { q with retrainFrom := s.us }) := if_neg hm

/-- The policy's RETRAIN is next for the channel (R495). -/
def retrainPlanned (s : State) (c : Nat) : State := s.modCh (chan c) (fun q => { q with plan := 1 })

theorem retrainPlanned_ch (s : State) (c : Nat) : (retrainPlanned s c).ch c = { s.ch c with plan := 1 } := State.modCh_ch ..

theorem opEndtapTimer_fences (hcmd : s.modeNow.noChCmd = false) (hst : (s.ch c).st = .online)
    (hpolicy : s.flag Fld.svcPolicyRetrainEndtap = true) (htaps : s.fld Fld.phyEndtapReleased c ≠ 0)
    (hfreq : (s.ch c).freq = .none) (hways : s.retiring = []) :
    opEndtapTimer s c = beginFence (retrainPlanned s c) c Why.policy := by
  have hch := retrainPlanned_ch s c
  unfold opEndtapTimer
  rw [if_neg (by simp [hcmd, hst, hpolicy, htaps])]
  exact orderlyFence_begins ((congrArg Channel.st hch).trans hst) ((congrArg Channel.freq hch).trans hfreq) hways _

theorem opEndtapTimer_of_not (h : s.modeNow.noChCmd = true ∨ (s.ch c).st ≠ .online
    ∨ s.flag Fld.svcPolicyRetrainEndtap = false) : opEndtapTimer s c = s := by
  refine if_pos ?_
  rcases h with h | h | h <;> simp [h]

end

end Sys2Proof.Machine

end

/-! SUPPORT. The statement about a channel's timers. -/

section

open Sys2Proof Sys2Proof.Machine

/-- Settles O52: each timer is one update of its channel, and released end taps begin an orderly fence under the plan for
RETRAIN. -/
theorem channelTimers : Obligations.ChannelTimers := by
  intro c s hw
  have hr := State.wf_regs_rising hw
  simp only [← State.ch_val]
  refine ⟨fun hst hnew hwarn => ?_, fun h => next_settle_congr (opFenceSlow_of_not h), fun hm => ?_,
    fun hcmd hst hpolicy htaps hfreq hways => ?_, fun h => next_settle_congr (opEndtapTimer_of_not h)⟩
  · obtain ⟨n, htold⟩ := opFenceSlow_warns hst hnew hwarn
    refine ⟨_, next_settle_congr htold, ?_, otherChannels_of_vault ((State.info_vault ..).trans (State.modCh_vault ..)),
      List.length_append, rfl⟩
    rw [State.info_ch, fenceTold, State.modCh_ch]
  · have hset := OnlyWords.setFld hr Fld.chRetrainCount 0 c.val 0
    refine ⟨_, next_settle_congr (opRetrainWindow_of_mode hm), ?_, hset.2, otherChannels_of_vault (State.modCh_vault ..),
      hset.modCh_rest ..⟩
    exact (State.fld_modCh ..).trans (State.fld_setFld s hr Fld.chRetrainCount 0 c.val 0 (by decide))
  · obtain ⟨hfenced, hplan⟩ := beginFence_ch (retrainPlanned s c.val) c.val Why.policy
    have hplanned := congrArg Channel.plan (retrainPlanned_ch s c.val)
    have hvault : (beginFence (retrainPlanned s c.val) c.val Why.policy).vault c.val = s.vault c.val :=
      (beginFence_vault ..).trans (State.modCh_vault ..)
    exact ⟨_, next_settle_congr (opEndtapTimer_fences hcmd hst hpolicy htaps hfreq hways), hfenced, hplan.trans hplanned,
      dataKept_of_shelf (shelf_of_vault hvault), congrArg Shelf.ledger (shelf_of_vault hvault),
      otherChannels_of_vault hvault⟩

end

/-! SUPPORT. Commands that a channel refuses (R469), and the marks and repairs of CH_SVC (R497, R500 to R502). -/

section

namespace Sys2Proof.Machine

section
variable {s t : State} {c : Nat}

/-! ### Refusals (R469) -/

theorem svcCntRefused_ne_chState (c : Nat) : Reg.svcCntRefused.at ≠ Reg.chState.at c := by
  simp only [RegDef.at, Reg.svcCntRefused, Reg.chState]
  omega

theorem chRefuse_shows (s : State) (c : Nat) (w : Word) :
    Shows s (chRefuse s c w) [Reg.chState.at c, Reg.svcCntRefused.at] :=
  (((Writes.refl ..).setFlag Fld.chStateRefused true List.mem_cons_self).count Reg.svcCntRefused 1
    (List.mem_cons_of_mem _ List.mem_cons_self)).shows.info ..

/-- A refusal is shown and counted. -/
theorem chRefuse_counts (hr : kRising s.regs = true) (w : Word) : (chRefuse s c w).flag Fld.chStateRefused c = true
    ∧ (chRefuse s c w).rd Reg.svcCntRefused.at = satAdd32 (s.rd Reg.svcCntRefused.at) 1 := by
  have hne := svcCntRefused_ne_chState c
  have hset := State.setFlag_rising hr Fld.chStateRefused true c 0
  unfold chRefuse
  dsimp only
  rw [State.flag_info, State.rd_info, State.flag_count_of_ne _ hne, State.rd_count_self hset,
    State.flag_setFlag hr _ rfl (by decide), State.rd_setFlag_of_ne _ hne.symm]
  exact ⟨rfl, rfl⟩

/-! ### The fields that a command of CH_SVC leaves (R516) -/

theorem putSvc_writes (s : State) (c : Nat) (w : Word) : Writes s (putSvc s c w) [Reg.chSvc.at c] :=
  ((Writes.refl ..).setFld Fld.chSvcDev _ List.mem_cons_self).setFld Fld.chSvcRank _ List.mem_cons_self

theorem svcOpen_putSvc (s : State) (c : Nat) (w : Word) : svcOpen (putSvc s c w) c = svcOpen s c := rfl

theorem pprState_putSvc (s : State) (c : Nat) (w : Word) : pprState (putSvc s c w) c = pprState s c := rfl

/-- A register of a channel's row beside CH_SVC. -/
theorem not_mem_svcWord {r : RegDef} (hstride : r.s1 = Reg.chSvc.s1) (hbase : r.base ≠ Reg.chSvc.base) (c : Nat) :
    r.at c ∉ [Reg.chSvc.at c] := mt List.mem_singleton.1 (RegDef.at_ne hstride hbase c)

theorem mayMark_putSvc (s : State) (c : Nat) (w : Word) (rank : Nat) : mayMark (putSvc s c w) c rank = mayMark s c rank := by
  have hput := (putSvc_writes s c w).touches
  have hpop := not_mem_svcWord (r := Reg.phyPop) rfl (by decide) c
  have hwidth := hput.fld (f := Fld.phyPopWidth) hpop
  have hranks := hput.fld (f := Fld.phyPopRanks) hpop
  have hvalid := hput.fld (f := Fld.chMarkValid rank) (not_mem_svcWord (r := Reg.chMark) rfl (by decide) c)
  rw [mayMark, hwidth, hvalid, hranks]
  rfl

theorem svcRow_putSvc (s : State) (c : Nat) (w : Word) : svcRow (putSvc s c w) c = svcRow s c := by
  have hput := (putSvc_writes s c w).touches
  have hword := not_mem_svcWord (r := Reg.chSvcRow) rfl (by decide) c
  have hrank := hput.fld (f := Fld.chSvcRowRank) hword
  have hbank := hput.fld (f := Fld.chSvcRowBank) hword
  have hrow := hput.fld (f := Fld.chSvcRowRow) hword
  rw [svcRow, hrank, hbank, hrow]
  rfl

theorem softAble_putSvc (s : State) (c : Nat) (w : Word) : softAble (putSvc s c w) = softAble s := by
  have hne : Reg.spareInvImg.at ∉ [Reg.chSvc.at c] := by
    simp only [RegDef.at, Reg.spareInvImg, Reg.chSvc, List.mem_singleton]
    omega
  rw [softAble, (putSvc_writes s c w).touches.flag (f := Fld.spareInvImgRomPseq) hne]
  rfl

/-- A command that the channel does not take is refused, once its fields stand. -/
theorem svcRefused_shows (s : State) (c : Nat) (w : Word) :
    Shows s (chRefuse (putSvc s c w) c w) [Reg.chSvc.at c, Reg.chState.at c, Reg.svcCntRefused.at] :=
  ((putSvc_writes s c w).shows.mono (by simp)).trans ((chRefuse_shows ..).mono (List.subset_cons_self ..))

theorem svcRefused_counts (hr : kRising s.regs = true) (w : Word) :
    (chRefuse (putSvc s c w) c w).flag Fld.chStateRefused c = true
      ∧ (chRefuse (putSvc s c w) c w).rd Reg.svcCntRefused.at = satAdd32 (s.rd Reg.svcCntRefused.at) 1 := by
  have hput := (putSvc_writes s c w).touches
  have hne : Reg.svcCntRefused.at ∉ [Reg.chSvc.at c] := by
    simp only [RegDef.at, Reg.svcCntRefused, Reg.chSvc, List.mem_singleton]
    omega
  obtain ⟨hflag, hcount⟩ := chRefuse_counts (c := c) (hput.rising hr) w
  exact ⟨hflag, hcount.trans (congrArg (satAdd32 · 1) (hput.rd hne))⟩

/-! ### A command that is taken (R469, R516) -/

/-- The state in which a command of CH_SVC has been taken. -/
def svcTaken (s : State) (c : Nat) (w : Word) : State := svcAccept (putSvc s c w) c

theorem svcTaken_writes (s : State) (c : Nat) (w : Word) : Writes s (svcTaken s c w) [Reg.chSvc.at c, Reg.chState.at c] :=
  ((putSvc_writes s c w).mono (by simp)).setFlag Fld.chStateRefused false (List.mem_cons_of_mem _ List.mem_cons_self)

theorem opMark_eq (hm : s.mode ≠ .reset) (w : Word) : opMark s c w =
    if svcOpen s c && mayMark s c (Fld.chSvcRank.of w) then
      markDevice (svcTaken s c w) c (Fld.chSvcRank.of w) (Fld.chSvcDev.of w) 1
    else chRefuse (putSvc s c w) c w := by
  unfold opMark
  rw [if_neg hm]
  dsimp only
  rw [svcOpen_putSvc, mayMark_putSvc]
  rfl

/-- A rank's mark is given up (R502). -/
def markGiven (s : State) (c r : Nat) : State :=
  if s.fld (Fld.chMarkValid r) c = 0 then s
  else queueLog ((s.setFld (Fld.chMarkDev r) 0 c).setFld (Fld.chMarkValid r) 0 c) LogKind.journal [Jr.unmark, c, r]

theorem opUnmark_eq (hm : s.mode ≠ .reset) (w : Word) : opUnmark s c w =
    if svcOpen s c && ((s.ch c).st == .fenced || (s.ch c).st == .service) then
      markGiven (svcTaken s c w) c (Fld.chSvcRank.of w)
    else chRefuse (putSvc s c w) c w := by
  unfold opUnmark
  rw [if_neg hm]
  rfl

/-- The row goes before those that the policy wants repaired (R497). -/
def rowWanted (s : State) (c : Nat) (l : Loc) : State :=
  s.modCh (chan c) (fun q => { q with pprWant := l :: q.pprWant.erase l })

theorem opPprSoft_eq (hm : s.mode ≠ .reset) (w : Word) : opPprSoft s c w =
    if svcOpen s c && (softAble s && pprState s c) then rowWanted (svcTaken s c w) c (svcRow s c)
    else chRefuse (putSvc s c w) c w := by
  unfold opPprSoft
  rw [if_neg hm]
  dsimp only
  rw [svcOpen_putSvc, softAble_putSvc, pprState_putSvc, svcRow_putSvc, Bool.and_assoc]
  rfl

/-- A hard repair of a row begins (R500). -/
def hardBegun (s : State) (c : Nat) (l : Loc) : State := s.modCh (chan c) (fun q => { q with ppr := 7, pprLoc := some l })

/-- Without a free resource in its bank group it is counted as impossible (R499). -/
def hardImpossible (s : State) (c : Nat) (l : Loc) : State :=
  (s.count Reg.chCntPprNone 1 c).info Ev.pprNone (Src.chan c) (formC c l) 1

theorem opPprHard_eq (hm : s.mode ≠ .reset) (w : Word) : opPprHard s c w =
    if svcOpen s c && ((s.ch c).st == .service && (s.ch c).powered) then
      if kGet 0 (s.ch c).pprFree (pprGroup s c (svcRow s c)) = 0 then hardImpossible (svcTaken s c w) c (svcRow s c)
      else hardBegun (svcTaken s c w) c (svcRow s c)
    else chRefuse (putSvc s c w) c w := by
  have hpop : Reg.phyPop.at c ∉ [Reg.chSvc.at c, Reg.chState.at c] := by
    simp [RegDef.at, Reg.phyPop, Reg.chSvc, Reg.chState]
  have hgen : (svcAccept (putSvc s c w) c).fld Fld.phyPopGen c = s.fld Fld.phyPopGen c :=
    (svcTaken_writes s c w).touches.fld hpop
  have hgroup (l : Loc) : pprGroup (svcAccept (putSvc s c w) c) c l = pprGroup s c l := by
    rw [pprGroup, State.groups, hgen]
    rfl
  unfold opPprHard
  rw [if_neg hm]
  dsimp only
  rw [svcOpen_putSvc, svcRow_putSvc, ← Bool.and_assoc, hgroup]
  rfl

/-! ### What a command leaves (R497 to R502) -/

/-- The fields of a rank in CH_MARK. -/
theorem chMark_fits {r : Nat} (h : r < 4) : (Fld.chMarkDev r).lo + (Fld.chMarkDev r).w ≤ 32
    ∧ (Fld.chMarkValid r).lo + (Fld.chMarkValid r).w ≤ 32
    ∧ (Fld.chMarkDev r).lo + (Fld.chMarkDev r).w ≤ (Fld.chMarkValid r).lo := by
  simp only [Fld.chMarkDev, Fld.chMarkValid]
  omega

/-- A rank's two fields in CH_MARK, written together. -/
def putMark (s : State) (c r dev valid : Nat) : State :=
  (s.setFld (Fld.chMarkDev r) dev c).setFld (Fld.chMarkValid r) valid c

theorem putMark_writes (s : State) (c r dev valid : Nat) : Writes s (putMark s c r dev valid) [Reg.chMark.at c] :=
  ((Writes.refl ..).setFld (Fld.chMarkDev r) dev List.mem_cons_self).setFld (Fld.chMarkValid r) valid List.mem_cons_self

theorem putMark_fields (hr : kRising s.regs = true) {r dev valid : Nat} (hrank : r < 4) (hdev : dev < 32) (hvalid : valid < 2) :
    (putMark s c r dev valid).fld (Fld.chMarkValid r) c = valid ∧ (putMark s c r dev valid).fld (Fld.chMarkDev r) c = dev := by
  obtain ⟨hdfit, hvfit, hbeside⟩ := chMark_fits hrank
  have hset := State.setFld_rising s hr (Fld.chMarkDev r) dev c 0
  refine ⟨State.fld_setFld_of_lt hset _ c 0 hvfit hvalid, ?_⟩
  exact (State.fld_setFld_beside _ hset (Fld.chMarkValid r) (Fld.chMarkDev r) valid c 0 c 0 rfl hvfit (.inr hbeside)).trans
    (State.fld_setFld_of_lt hr _ c 0 hdfit hdev)

/-- The log takes a record while it is open (R520). -/
theorem queueLog_of_open (h : logOpen s = true) (kind : Nat) (body : List Nat) : queueLog s kind body
    = { s with flash := { s.flash with log := s.flash.log ++ [{ kind := kind, body := body }] } } := if_pos h

theorem logOpen_of_svcOpen (h : svcOpen s c = true) : logOpen s = true := (Bool.and_eq_true_iff.1 h).2

/-- The record of a channel's command in the journal. -/
def journal (body : List Nat) : LogRec := { kind := LogKind.journal, body := body }

/-- The words that MARK and UNMARK may write. -/
def markWords (c : Nat) : List Nat := [Reg.chSvc.at c, Reg.chMark.at c, Reg.chState.at c]

theorem putMark_taken (s : State) (c : Nat) (w : Word) (r dev valid : Nat) :
    Writes s (putMark (svcTaken s c w) c r dev valid) (markWords c) :=
  ((svcTaken_writes s c w).mono (by simp [markWords])).trans ((putMark_writes ..).mono (by simp [markWords]))

/-- A device of a rank is marked, and the journal has it (R501). -/
theorem markDevice_marks (hr : kRising s.regs = true) (hlog : logOpen s = true) {w : Word} :
    let r := Fld.chSvcRank.of w
    let t := markDevice (svcTaken s c w) c r (Fld.chSvcDev.of w) 1
    t.fld (Fld.chMarkValid r) c = 1 ∧ t.fld (Fld.chMarkDev r) c = Fld.chSvcDev.of w
      ∧ t.flash.log = s.flash.log ++ [journal [Jr.mark, c, r, Fld.chSvcDev.of w]]
      ∧ WordsKept s t (markWords c) ∧ { t with regs := s.regs, evq := s.evq, flash := s.flash } = s := by
  intro r t
  have hmarked := putMark_taken s c w r (Fld.chSvcDev.of w) 1
  obtain ⟨hvalid, hdev⟩ := putMark_fields (c := c) (dev := Fld.chSvcDev.of w) (valid := 1)
    ((svcTaken_writes s c w).touches.rising hr) (r := r) (Nat.mod_lt _ (by decide)) (Nat.mod_lt _ (by decide)) (by decide)
  have hopen := hmarked.shows.logOpen.trans hlog
  have ht : t = (queueLog (putMark (svcTaken s c w) c r (Fld.chSvcDev.of w) 1) LogKind.journal
      [Jr.mark, c, r, Fld.chSvcDev.of w]).info Ev.mark (Src.chan c) (formD c r (Fld.chSvcDev.of w)) (dw 1) := rfl
  clear_value t
  generalize putMark (svcTaken s c w) c r (Fld.chSvcDev.of w) 1 = u at hmarked hvalid hdev hopen ht
  rw [queueLog_of_open hopen] at ht
  obtain ⟨⟨regs, rfl⟩, htouch⟩ := hmarked
  subst ht
  exact ⟨hvalid, hdev, rfl, htouch.1, rfl⟩

/-- A mark given up leaves the journal's record, where there was one to give up (R502). -/
theorem markGiven_gives (hr : kRising s.regs = true) (hlog : logOpen s = true) {w : Word} :
    let r := Fld.chSvcRank.of w
    let t := markGiven (svcTaken s c w) c r
    t.fld (Fld.chMarkValid r) c = 0
      ∧ t.flash.log = s.flash.log ++ (if s.fld (Fld.chMarkValid r) c = 0 then [] else [journal [Jr.unmark, c, r]])
      ∧ WordsKept s t (markWords c) ∧ { t with regs := s.regs, flash := s.flash } = s := by
  intro r t
  have htaken := svcTaken_writes s c w
  have hmark : Reg.chMark.at c ∉ [Reg.chSvc.at c, Reg.chState.at c] := by
    simp [RegDef.at, Reg.chMark, Reg.chSvc, Reg.chState]
  have hvalid : (svcTaken s c w).fld (Fld.chMarkValid r) c = s.fld (Fld.chMarkValid r) c := htaken.touches.fld hmark
  by_cases hnone : s.fld (Fld.chMarkValid r) c = 0
  · have ht : t = svcTaken s c w := if_pos (hvalid.trans hnone)
    rw [ht, if_pos hnone, List.append_nil]
    obtain ⟨⟨regs, hframe⟩, htouch⟩ := htaken.mono (l' := markWords c) (by simp [markWords])
    exact ⟨hvalid.trans hnone, by rw [hframe], htouch.1, by rw [hframe]⟩
  · have hcleared := putMark_taken s c w r 0 0
    obtain ⟨hgiven, -⟩ := putMark_fields (c := c) (dev := 0) (valid := 0) (htaken.touches.rising hr) (r := r)
      (Nat.mod_lt _ (by decide)) (by decide) (by decide)
    have hopen := hcleared.shows.logOpen.trans hlog
    have ht : t = queueLog (putMark (svcTaken s c w) c r 0 0) LogKind.journal [Jr.unmark, c, r] :=
      if_neg (fun h => hnone (hvalid.symm.trans h))
    clear_value t
    generalize putMark (svcTaken s c w) c r 0 0 = u at hcleared hgiven hopen ht
    rw [queueLog_of_open hopen] at ht
    obtain ⟨⟨regs, rfl⟩, htouch⟩ := hcleared
    subst ht
    rw [if_neg hnone]
    exact ⟨hgiven, rfl, htouch.1, rfl⟩

/-- A repair that is not made is counted, and moves no channel (R499). -/
theorem hardImpossible_counts (hr : kRising s.regs = true) (w : Word) (l : Loc) :
    let t := hardImpossible (svcTaken s c w) c l
    t.chs = s.chs ∧ t.rd (Reg.chCntPprNone.at c) = satAdd32 (s.rd (Reg.chCntPprNone.at c)) 1
      ∧ { t with regs := s.regs, chs := s.chs, evq := s.evq } = s := by
  have htaken := svcTaken_writes s c w
  have hne : Reg.chCntPprNone.at c ∉ [Reg.chSvc.at c, Reg.chState.at c] := by
    simp [RegDef.at, Reg.chCntPprNone, Reg.chSvc, Reg.chState]
  have hall : Shows s (hardImpossible (svcTaken s c w) c l) [Reg.chCntPprNone.at c, Reg.chSvc.at c, Reg.chState.at c] :=
    ((htaken.mono (List.subset_cons_self ..)).count Reg.chCntPprNone 1 List.mem_cons_self).shows.info ..
  refine ⟨hall.chs, ?_, hall.rest_chs⟩
  rw [hardImpossible, State.rd_info, State.rd_count_self (htaken.touches.rising hr), htaken.touches.rd hne]

theorem svcTaken_vault (s : State) (c : Nat) (w : Word) (f : Channel → Channel) :
    ((svcTaken s c w).modCh (chan c) f).vault c = s.vault c :=
  (State.modCh_vault ..).trans ((svcTaken_writes s c w).shows.vault c)

end

end Sys2Proof.Machine

end

/-! SUPPORT. The statement about marks and repairs. -/

section

open Sys2Proof Sys2Proof.Machine

/-- Settles O53: where the channel takes a command, its fields stand and the command's own update follows; where it does not,
they stand and the refusal follows. -/
theorem marksAndRepairs : Obligations.MarksAndRepairs := by
  intro c w s hw hm r
  have hr := State.wf_regs_rising hw
  have htaken := svcTaken_writes s c.val w
  simp only [← State.ch_val]
  refine ⟨fun hopen => ⟨fun hmark => ?_, fun hst => ?_, fun hsoft hppr => ?_, fun hst hpower => ?_⟩, fun x hx hno => ?_⟩
  · refine ⟨_, next_settle_congr ((opMark_eq hm w).trans (if_pos (by simp [hopen, hmark, r]))), ?_⟩
    exact markDevice_marks hr (logOpen_of_svcOpen hopen)
  · refine ⟨_, next_settle_congr ((opUnmark_eq hm w).trans (if_pos (by simpa [hopen] using hst))), ?_⟩
    exact markGiven_gives hr (logOpen_of_svcOpen hopen)
  · refine ⟨_, next_settle_congr ((opPprSoft_eq hm w).trans (if_pos (by simp [hopen, hsoft, hppr]))), ?_,
      otherChannels_of_vault (svcTaken_vault ..), htaken.touches.1, htaken.modCh_rest ..⟩
    rw [rowWanted, State.modCh_ch, htaken.shows.ch]
  · have htakes : (svcOpen s c.val && ((s.ch c.val).st == .service && (s.ch c.val).powered)) = true := by
      rw [hopen, hst, hpower]
      rfl
    refine ⟨_, next_settle_congr ((opPprHard_eq hm w).trans (if_pos htakes)), ?_⟩
    by_cases hfree : kGet 0 (s.ch c.val).pprFree (pprGroup s c.val (svcRow s c.val)) = 0
    · rw [if_pos hfree]
      obtain ⟨hchs, hcount, hframe⟩ := hardImpossible_counts (c := c.val) hr w (svcRow s c.val)
      exact ⟨fun h => absurd hfree h, fun _ => ⟨hchs, hcount⟩, fun d _ => by rw [hchs], hframe⟩
    · rw [if_neg hfree]
      refine ⟨fun _ => ?_, fun h => absurd h hfree, otherChannels_of_vault (svcTaken_vault ..), ?_⟩
      · rw [hardBegun, State.modCh_ch]
        exact ⟨rfl, rfl⟩
      · obtain ⟨⟨_, hframe⟩, -⟩ := htaken
        rw [hframe]
        rfl
  · have hrefused := svcRefused_shows s c.val w
    obtain ⟨hflag, hcount⟩ := svcRefused_counts (c := c.val) hr w
    have hexec : exec x.1 s = .next (settle (chRefuse (putSvc s c.val w) c.val w)) := by
      have hif : ¬ (svcOpen s c.val && x.2) = true := Bool.eq_false_iff.1 hno
      simp only [List.mem_cons, List.not_mem_nil, or_false] at hx
      rcases hx with rfl | rfl | rfl | rfl
      · exact next_settle_congr ((opMark_eq hm w).trans (if_neg hif))
      · exact next_settle_congr ((opUnmark_eq hm w).trans (if_neg hif))
      · exact next_settle_congr ((opPprSoft_eq hm w).trans (if_neg hif))
      · exact next_settle_congr ((opPprHard_eq hm w).trans (if_neg hif))
    exact ⟨_, hexec, hflag, hcount, hrefused.touches.1, hrefused.rest⟩

end

/-! SUPPORT. Images loaded in service (R509 to R512): what a load reads, its acceptance and its refusal, and the channels
that take a TSEQ image or wait with it. -/

section

namespace Sys2Proof.Machine

section
variable {s t : State}

/-! ### What a load reads (R509, R583, R586) -/

theorem lastFind_congr (h : t.flash = s.flash) (l : List LastRec) (typ arg : Nat) :
    lastFind t l typ arg = lastFind s l typ arg := by
  have hblob : blobOk t = blobOk s := funext fun r => by simp only [blobOk, flashWord_congr h, flashBytes_congr h]
  rw [lastFind, lastFind, hblob]

/-- An image is chosen by the flash and by the interface revision of media. -/
theorem imageOf_congr (h : t.flash = s.flash) (hifrev : t.rd Reg.mpIfrev.at = s.rd Reg.mpIfrev.at) (l : List LastRec)
    (typ : Nat) (want : Option Nat) : imageOf t l typ want = imageOf s l typ want := by
  have hhead : imageHead t = imageHead s := funext fun r => by simp only [imageHead, flashByte_congr h]
  have hrev : t.fld Fld.mpIfrevIfrev = s.fld Fld.mpIfrevIfrev := State.fld_congr hifrev
  rw [imageOf, imageOf, lastFind_congr h, hhead, hrev]

theorem putImg_writes (s : State) (w : Word) : Writes s (putImg s w) [Reg.imgCtl.at] :=
  ((Writes.refl ..).setFld Fld.imgCtlCopy _ List.mem_cons_self).setFld Fld.imgCtlChannels _ List.mem_cons_self

theorem Writes.flash {l : List Nat} (h : Writes s t l) : t.flash = s.flash := by
  obtain ⟨⟨_, rfl⟩, -⟩ := h
  rfl

/-- The images that wait are no word and no event. -/
theorem Shows.tseqStaged {l : List Nat} (h : Shows s t l) : t.tseqStaged = s.tseqStaged := by
  obtain ⟨⟨_, _, rfl⟩, -⟩ := h
  rfl

theorem tseqRev_putImg (s : State) (w : Word) : tseqRev (putImg s w) = tseqRev s := by
  have hfld (c : Nat) : (putImg s w).fld Fld.imgTseqVerIfrev c = s.fld Fld.imgTseqVerIfrev c := by
    refine (putImg_writes s w).touches.fld ?_
    simp only [RegDef.at, Fld.imgTseqVerIfrev, Reg.imgTseqVer, Reg.imgCtl, List.mem_singleton]
    omega
  simp only [tseqRev, hfld]

theorem imageOf_putImg (s : State) (w : Word) (typ : Nat) (want : Option Nat) :
    imageOf (putImg s w) (imgRecords (putImg s w) w) typ want = imageOf s (imgRecords s w) typ want := by
  have hput := putImg_writes s w
  have hrecords : imgRecords (putImg s w) w = imgRecords s w :=
    congrArg (Option.getD · []) (lastCopy_congr hput.flash (hput.touches.rd (by decide)) _)
  rw [hrecords, imageOf_congr hput.flash (hput.touches.rd (by decide))]

/-! ### Acceptance and refusal (R510, R512, R516) -/

theorem imgAccept_writes (s : State) : Writes s (imgAccept s) [Reg.imgStatus.at] :=
  ((Writes.refl ..).setFlag Fld.imgStatusRefused false List.mem_cons_self).setFld Fld.imgStatusCode 0 List.mem_cons_self

theorem imgBooks_writes (s : State) : Writes s (imgBooks s) [Reg.imgStatus.at] :=
  ((Writes.refl ..).setFlag Fld.imgStatusStaged _ List.mem_cons_self).setFlag Fld.imgStatusBusy _ List.mem_cons_self

/-- Another flag of the same register, after a field has been written. -/
theorem State.flag_setFld_beside (hr : kRising s.regs = true) (f g : Fld) (v : Nat) {i k i' k' : Nat}
    (h : f.reg.at i k = g.reg.at i' k') (hw : f.lo + f.w ≤ 32) (hd : f.lo + f.w ≤ g.lo ∨ g.lo + g.w ≤ f.lo) :
    (s.setFld f v i k).flag g i' k' = s.flag g i' k' := by
  unfold State.flag
  rw [State.fld_setFld_beside s hr f g v i k i' k' h hw hd]

theorem imgAccept_refused (hr : kRising s.regs = true) : (imgAccept s).flag Fld.imgStatusRefused = false :=
  (State.flag_setFld_beside (State.setFlag_rising hr Fld.imgStatusRefused false 0 0) Fld.imgStatusCode Fld.imgStatusRefused 0
    rfl (by decide) (by decide)).trans (State.flag_setFlag hr _ rfl (by decide))

/-- An image waits (R516). -/
theorem imgBooks_waiting (hr : kRising s.regs = true) (h : (s.pseqStaged.isSome || !s.tseqStaged.isEmpty) = true) :
    (imgBooks s).flag Fld.imgStatusStaged = true ∧ (imgBooks s).flag Fld.imgStatusBusy = true
      ∧ (imgBooks s).flag Fld.imgStatusRefused = s.flag Fld.imgStatusRefused := by
  have hstaged := State.setFlag_rising hr Fld.imgStatusStaged true 0 0
  unfold imgBooks
  dsimp only
  rw [h]
  refine ⟨?_, State.flag_setFlag hstaged _ rfl (by decide), ?_⟩
  · rw [State.flag_setFlag_beside hstaged Fld.imgStatusBusy Fld.imgStatusStaged rfl (by decide) (by decide),
      State.flag_setFlag hr _ rfl (by decide)]
  · rw [State.flag_setFlag_beside hstaged Fld.imgStatusBusy Fld.imgStatusRefused rfl (by decide) (by decide),
      State.flag_setFlag_beside hr Fld.imgStatusStaged Fld.imgStatusRefused rfl (by decide) (by decide)]

theorem imgRefused_shows (s : State) (w : Word) (code : Nat) :
    Shows s (imgRefuse (putImg s w) w code) [Reg.imgCtl.at, Reg.imgStatus.at, Reg.svcCntImgRefused.at] :=
  (((((putImg_writes s w).mono (by simp)).count Reg.svcCntImgRefused 1 (by simp)).setFlag Fld.imgStatusRefused true
    (by simp [Fld.imgStatusRefused])).setFld Fld.imgStatusCode code (by simp [Fld.imgStatusCode])).shows.info ..

/-- A refusal shows its code and is counted (R512). -/
theorem imgRefuse_counts (hr : kRising s.regs = true) (w : Word) (code : Nat) :
    (imgRefuse s w code).flag Fld.imgStatusRefused = true ∧ (imgRefuse s w code).fld Fld.imgStatusCode = code % 16
      ∧ (imgRefuse s w code).rd Reg.svcCntImgRefused.at = satAdd32 (s.rd Reg.svcCntImgRefused.at) 1 := by
  have hcounted := State.count_rising s hr Reg.svcCntImgRefused 1 0 0
  have hflagged := State.setFlag_rising hcounted Fld.imgStatusRefused true 0 0
  unfold imgRefuse
  rw [State.flag_info, State.fld_info, State.rd_info,
    State.flag_setFld_beside hflagged Fld.imgStatusCode Fld.imgStatusRefused code rfl (by decide) (by decide),
    State.flag_setFlag hcounted Fld.imgStatusRefused rfl (by decide),
    State.fld_setFld _ hflagged Fld.imgStatusCode code 0 0 (by decide), State.rd_setFld_of_ne _ (by decide),
    State.rd_setFlag_of_ne _ (by decide), State.rd_count_self hr]
  exact ⟨rfl, rfl, rfl⟩

theorem imgRefused_counts (hr : kRising s.regs = true) (w : Word) (code : Nat) :
    (imgRefuse (putImg s w) w code).flag Fld.imgStatusRefused = true
      ∧ (imgRefuse (putImg s w) w code).fld Fld.imgStatusCode = code % 16
      ∧ (imgRefuse (putImg s w) w code).rd Reg.svcCntImgRefused.at = satAdd32 (s.rd Reg.svcCntImgRefused.at) 1 := by
  have hput := (putImg_writes s w).touches
  obtain ⟨hflag, hcode, hcount⟩ := imgRefuse_counts (hput.rising hr) w code
  exact ⟨hflag, hcode, hcount.trans (congrArg (satAdd32 · 1) (hput.rd (by decide)))⟩

/-! ### PSEQ's image (R510) -/

/-- A load is accepted, with the fields of IMG_CTL that it leaves. -/
def imgTaken (s : State) (w : Word) : State := imgAccept (putImg s w)

theorem imgTaken_writes (s : State) (w : Word) : Writes s (imgTaken s w) [Reg.imgCtl.at, Reg.imgStatus.at] :=
  ((putImg_writes s w).mono (by simp)).trans ((imgAccept_writes _).mono (by simp))

/-- PSEQ's image waits for the next epoch boundary. -/
def pseqWaits (s : State) (w : Word) (im : Nat × Nat) : State := imgBooks { imgTaken s w with pseqStaged := some im }

theorem opImgPseq_fits (hm : s.mode ≠ .reset) {w : Word} {r : Nat} {im : Nat × Nat} (hrev : tseqRev s = some r)
    (him : imageOf s (imgRecords s w) 0x11 (some r) = .inl im) : opImgPseq s w = pseqWaits s w im := by
  unfold opImgPseq
  rw [if_neg hm]
  dsimp only
  rw [tseqRev_putImg, hrev]
  dsimp only
  rw [imageOf_putImg, him]
  rfl

theorem opImgPseq_of_disagree (hm : s.mode ≠ .reset) (w : Word) (hrev : tseqRev s = none) :
    opImgPseq s w = imgRefuse (putImg s w) w 3 := by
  unfold opImgPseq
  rw [if_neg hm]
  dsimp only
  rw [tseqRev_putImg, hrev]

theorem opImgPseq_refused (hm : s.mode ≠ .reset) {w : Word} {r code : Nat} (hrev : tseqRev s = some r)
    (him : imageOf s (imgRecords s w) 0x11 (some r) = .inr code) : opImgPseq s w = imgRefuse (putImg s w) w code := by
  unfold opImgPseq
  rw [if_neg hm]
  dsimp only
  rw [tseqRev_putImg, hrev]
  dsimp only
  rw [imageOf_putImg, him]

theorem pseqWaits_shows (hr : kRising s.regs = true) (w : Word) (im : Nat × Nat) :
    let t := pseqWaits s w im
    t.pseqStaged = some im ∧ t.flag Fld.imgStatusStaged = true ∧ t.flag Fld.imgStatusBusy = true
      ∧ t.flag Fld.imgStatusRefused = false ∧ WordsKept s t [Reg.imgCtl.at, Reg.imgStatus.at]
      ∧ { t with regs := s.regs, pseqStaged := s.pseqStaged } = s := by
  have hrefused : (imgTaken s w).flag Fld.imgStatusRefused = false :=
    imgAccept_refused ((putImg_writes s w).touches.rising hr)
  have htaken := imgTaken_writes s w
  unfold pseqWaits
  generalize imgTaken s w = u at hrefused htaken
  obtain ⟨hstaged, hbusy, hkept⟩ := imgBooks_waiting (s := { u with pseqStaged := some im }) (htaken.touches.rising hr) rfl
  have hbooks := imgBooks_writes { u with pseqStaged := some im }
  generalize imgBooks { u with pseqStaged := some im } = t at hstaged hbusy hkept hbooks
  obtain ⟨⟨regs, rfl⟩, htouch⟩ := htaken
  obtain ⟨⟨regs', rfl⟩, htouch'⟩ := hbooks
  exact ⟨rfl, hstaged, hbusy, hkept.trans hrefused,
    (htouch.trans ((Touches.of_regs rfl).trans (htouch'.mono (by simp)))).1, rfl⟩

/-! ### TSEQ's images (R511) -/

/-- A TSEQ image waits for the boundary of a channel. -/
def tseqWaits (s : State) (c w : Nat) : State :=
  ({ s with tseqStaged := kPut s.tseqStaged c w } : State).setFlag Fld.imgTseqVerPending true c

/-- The channels that IMG_CTL names. -/
def imgChannels (w : Word) : List Nat := (List.range 16).filter (fun c => Fld.imgCtlChannels.of w / 2 ^ c % 2 == 1)

/-- TSEQ's image goes to every named channel. -/
def tseqLoaded (s : State) (w : Word) (v rev : Nat) : State :=
  imgBooks ((imgChannels w).foldl (stageTseq v rev) (imgTaken s w))

theorem ifrev_putImg (s : State) (w : Word) : (putImg s w).fld Fld.imgPseqVerIfrev = s.fld Fld.imgPseqVerIfrev :=
  (putImg_writes s w).touches.fld (by decide)

theorem opImgTseq_fits (hm : s.mode ≠ .reset) {w : Word} {v rev : Nat}
    (him : imageOf s (imgRecords s w) 0x10 (some (s.fld Fld.imgPseqVerIfrev)) = .inl (v, rev)) :
    opImgTseq s w = tseqLoaded s w v rev := by
  unfold opImgTseq
  rw [if_neg hm]
  dsimp only
  rw [ifrev_putImg, imageOf_putImg, him]
  rfl

theorem opImgTseq_refused (hm : s.mode ≠ .reset) {w : Word} {code : Nat}
    (him : imageOf s (imgRecords s w) 0x10 (some (s.fld Fld.imgPseqVerIfrev)) = .inr code) :
    opImgTseq s w = imgRefuse (putImg s w) w code := by
  unfold opImgTseq
  rw [if_neg hm]
  dsimp only
  rw [ifrev_putImg, imageOf_putImg, him]

theorem mem_imgChannels {c : Nat} (hc : c < 16) (w : Word) : c ∈ imgChannels w ↔ getBits w (16 + c) 1 = 1 := by
  have hbit : Fld.imgCtlChannels.of w / 2 ^ c % 2 = getBits w (16 + c) 1 := by
    have hread := getBits_bit w 16 16 c
    rw [getBits_one, ← Nat.toNat_testBit, Fld.of, Fld.imgCtlChannels, hread, decide_eq_true hc, Bool.true_and]
  simp [imgChannels, hc, hbit]

theorem imgChannels_lt {w : Word} {c : Nat} (h : c ∈ imgChannels w) : c < 16 := List.mem_range.1 (List.mem_filter.1 h).1

theorem imgChannels_nodup (w : Word) : (imgChannels w).Nodup := List.nodup_range.filter _

end

section
variable {s t u : State} {c d v rev : Nat}

/-- The running image that a channel shows (R511). -/
def versionShown (s : State) (c w : Nat) : State :=
  ((s.setFld Fld.imgTseqVerVersion (w % 2 ^ 16) c).setFld Fld.imgTseqVerIfrev (w / 2 ^ 16 % 256) c).setFlag
    Fld.imgTseqVerPending false c

theorem versionShown_fields (hr : kRising s.regs = true) (w : Nat) :
    (versionShown s c w).fld Fld.imgTseqVerVersion c = w % 2 ^ 16
      ∧ (versionShown s c w).fld Fld.imgTseqVerIfrev c = w / 2 ^ 16 % 256
      ∧ (versionShown s c w).flag Fld.imgTseqVerPending c = false := by
  have hversion := State.setFld_rising s hr Fld.imgTseqVerVersion (w % 2 ^ 16) c 0
  have hifrev := State.setFld_rising _ hversion Fld.imgTseqVerIfrev (w / 2 ^ 16 % 256) c 0
  refine ⟨?_, ?_, State.flag_setFlag hifrev _ rfl (by decide)⟩
  · exact (State.fld_setFld_beside _ hifrev Fld.imgTseqVerPending Fld.imgTseqVerVersion _ c 0 c 0 rfl (by decide)
      (by decide)).trans ((State.fld_setFld_beside _ hversion Fld.imgTseqVerIfrev Fld.imgTseqVerVersion _ c 0 c 0 rfl
        (by decide) (by decide)).trans (State.fld_setFld_of_lt hr _ c 0 (by decide) (Nat.mod_lt _ (by decide))))
  · exact (State.fld_setFld_beside _ hifrev Fld.imgTseqVerPending Fld.imgTseqVerIfrev _ c 0 c 0 rfl (by decide)
      (by decide)).trans (State.fld_setFld_of_lt hversion _ c 0 (by decide) (Nat.mod_lt _ (by decide)))

/-- The fields of a channel's version are in one word. -/
theorem tseqVer_congr (h : t.rd (Reg.imgTseqVer.at d) = s.rd (Reg.imgTseqVer.at d)) :
    t.fld Fld.imgTseqVerVersion d = s.fld Fld.imgTseqVerVersion d ∧ t.fld Fld.imgTseqVerIfrev d = s.fld Fld.imgTseqVerIfrev d
      ∧ t.flag Fld.imgTseqVerPending d = s.flag Fld.imgTseqVerPending d :=
  ⟨State.fld_congr h, State.fld_congr h, State.flag_congr h⟩

/-- A switch shows the image that takes over, and leaves its records (R511, R516). -/
theorem tseqTaken_shows (s : State) (c w : Nat) : Shows (versionShown { s with tseqStaged := kErase s.tseqStaged c } c w)
    (tseqTaken s c w) [Reg.spareInvImg.at, Reg.svcCntImgSwitch.at, Reg.imgStatus.at] := by
  unfold tseqTaken
  exact ((((Writes.refl ..).setFld Fld.spareInvImgRomTseq _ (by simp [Fld.spareInvImgRomTseq])).count Reg.svcCntImgSwitch 1
    (by simp)).shows.info ..).trans ((imgBooks_writes _).mono (by simp)).shows

theorem tseqTaken_chs (s : State) (c w : Nat) : (tseqTaken s c w).chs = s.chs := (tseqTaken_shows s c w).chs

theorem tseqTaken_ch (s : State) (c w d : Nat) : (tseqTaken s c w).ch d = s.ch d := (tseqTaken_shows s c w).ch d

theorem tseqTaken_staged (s : State) (c w : Nat) : (tseqTaken s c w).tseqStaged = kErase s.tseqStaged c :=
  (tseqTaken_shows s c w).tseqStaged

theorem tseqTaken_fields (hr : kRising s.regs = true) (hc : c < 16) (w : Nat) :
    (tseqTaken s c w).fld Fld.imgTseqVerVersion c = w % 2 ^ 16
      ∧ (tseqTaken s c w).fld Fld.imgTseqVerIfrev c = w / 2 ^ 16 % 256
      ∧ (tseqTaken s c w).flag Fld.imgTseqVerPending c = false := by
  have hnot : Reg.imgTseqVer.at c ∉ [Reg.spareInvImg.at, Reg.svcCntImgSwitch.at, Reg.imgStatus.at] := by
    simp only [RegDef.at, Reg.imgTseqVer, Reg.spareInvImg, Reg.svcCntImgSwitch, Reg.imgStatus, List.mem_cons,
      List.not_mem_nil, or_false]
    omega
  obtain ⟨hver, hrev, hpend⟩ := tseqVer_congr ((tseqTaken_shows s c w).touches.rd hnot)
  obtain ⟨hversion, hifrev, hpending⟩ :=
    versionShown_fields (s := { s with tseqStaged := kErase s.tseqStaged c }) (c := c) hr w
  exact ⟨hver.trans hversion, hrev.trans hifrev, hpend.trans hpending⟩

/-- Outside RETRAIN no training restarts. -/
theorem switchTseq_takes {w : Nat} (h : kFind s.tseqStaged c = some w) (hst : (s.ch c).st ≠ .retrain) :
    switchTseq s c = tseqTaken s c w := by
  have hch := tseqTaken_ch s c w c
  unfold switchTseq
  rw [h]
  unfold tseqTaken at hch ⊢
  dsimp only at hch ⊢
  rw [hch]
  split
  · exact if_neg hst
  · rfl

theorem tseqWaits_find (s : State) (c w : Nat) : kFind (tseqWaits s c w).tseqStaged c = some w :=
  (kFind_kPut ..).trans (if_pos rfl)

/-- A FENCED channel outside TRAIN switches at once. -/
theorem stageTseq_switches (hst : (s.ch c).st = .fenced) (hm : s.mode ≠ .train) :
    stageTseq v rev s c = tseqTaken (tseqWaits s c (v + rev * 2 ^ 16)) c (v + rev * 2 ^ 16) := by
  have hcond : ((s.ch c).st = .fenced && s.mode != .train) = true := by simp [hst, hm]
  exact (if_pos hcond).trans (switchTseq_takes (tseqWaits_find ..) (hst.trans_ne (by decide)))

/-- Every other channel waits with it. -/
theorem stageTseq_waits (h : (s.ch c).st ≠ .fenced ∨ s.mode = .train) :
    stageTseq v rev s c = tseqWaits s c (v + rev * 2 ^ 16) := by
  have hcond : ¬ ((s.ch c).st = .fenced && s.mode != .train) = true := by rcases h with h | h <;> simp [h]
  exact if_neg hcond

theorem stageTseq_cases (s : State) (c v rev : Nat) :
    stageTseq v rev s c = tseqWaits s c (v + rev * 2 ^ 16)
      ∨ stageTseq v rev s c = tseqTaken (tseqWaits s c (v + rev * 2 ^ 16)) c (v + rev * 2 ^ 16) := by
  by_cases h : (s.ch c).st = .fenced ∧ s.mode ≠ .train
  · exact .inr (stageTseq_switches h.1 h.2)
  · exact .inl (stageTseq_waits (by rwa [not_and_or, not_not] at h))

/-- A load moves no channel, no store, no entry and no mode. -/
theorem stageTseq_keeps (v rev : Nat) (s : State) (c : Nat) :
    (stageTseq v rev s c).shelf = s.shelf ∧ (stageTseq v rev s c).chs = s.chs := by
  have hwaits (w : Nat) : (tseqWaits s c w).shelf = s.shelf ∧ (tseqWaits s c w).chs = s.chs := ⟨rfl, rfl⟩
  obtain ⟨hshelf, hchs⟩ := hwaits (v + rev * 2 ^ 16)
  rcases stageTseq_cases s c v rev with h | h
  · rw [h]
    exact ⟨hshelf, hchs⟩
  · rw [h]
    exact ⟨(shelf_of_vault (tseqTaken_vault ..)).trans hshelf, (tseqTaken_chs ..).trans hchs⟩

theorem tseqWaits_touches (s : State) (c w : Nat) : Touches s (tseqWaits s c w) [Reg.imgTseqVer.at c] :=
  (Touches.of_regs rfl).setFlag Fld.imgTseqVerPending true List.mem_cons_self

theorem stageTseq_touches (v rev : Nat) (s : State) (c : Nat) : Touches s (stageTseq v rev s c) (passWords c) := by
  have hwaits := (tseqWaits_touches s c (v + rev * 2 ^ 16)).mono (l' := passWords c) (by simp [passWords])
  rcases stageTseq_cases s c v rev with h | h
  · rw [h]
    exact hwaits
  · rw [h]
    exact hwaits.trans (tseqTaken_touches ..)

/-! ### The image of one channel -/

/-- The image that waits for a channel, and the word that shows it and the running one. -/
def tseqImage (s : State) (d : Nat) : Option Nat × Word := (kFind s.tseqStaged d, s.rd (Reg.imgTseqVer.at d))

theorem Writes.image {l : List Nat} (h : Writes s t l) (hd : Reg.imgTseqVer.at d ∉ l) : tseqImage t d = tseqImage s d := by
  have hword := h.touches.rd hd
  obtain ⟨⟨_, rfl⟩, -⟩ := h
  exact congrArg (Prod.mk _) hword

theorem kFind_kErase_other {β : Type} (m : KMap β) {k j : Nat} (h : k ≠ j) : kFind (kErase m k) j = kFind m j := by
  induction m with
  | nil => rfl
  | cons x m ih =>
    by_cases hx : x.1 = k
    · simp [kErase, kFind, hx, h]
    · simp [kErase, kFind, hx, ih]

theorem imgTseqVer_not_mem_passWords (hc : c < 16) (hd : d < 16) (hne : c ≠ d) : Reg.imgTseqVer.at d ∉ passWords c := by
  simp only [passWords, List.mem_cons, List.not_mem_nil, or_false, not_or, RegDef.at, Reg.imgTseqVer, Reg.calCnt, Reg.calLastLo,
    Reg.calLastHi, Reg.calStatus, Reg.calFailInfo, Reg.chCntFence, Reg.tierSweep, Reg.spareInvImg, Reg.svcCntImgSwitch,
    Reg.imgStatus, Reg.trnCtl, Reg.trnStatus, Reg.regCntReject]
  omega

/-- The load of one channel leaves the others' images. -/
theorem stageTseq_image (hc : c < 16) (hd : d < 16) (hne : c ≠ d) :
    tseqImage (stageTseq v rev s c) d = tseqImage s d := by
  have hword := (stageTseq_touches v rev s c).rd (imgTseqVer_not_mem_passWords hc hd hne)
  have hput (w : Nat) : kFind (tseqWaits s c w).tseqStaged d = kFind s.tseqStaged d := (kFind_kPut ..).trans (if_neg hne)
  refine Prod.ext ?_ hword
  rcases stageTseq_cases s c v rev with h | h
  · rw [h]
    exact hput _
  · rw [h]
    exact ((congrArg (kFind · d) (tseqTaken_staged ..)).trans (kFind_kErase_other _ hne)).trans (hput _)

theorem foldl_stageTseq_image {l : List Nat} (hl : ∀ c ∈ l, c < 16) (hd : d < 16) (hnot : d ∉ l) :
    tseqImage (l.foldl (stageTseq v rev) s) d = tseqImage s d :=
  List.foldlRecOn (motive := fun u => tseqImage u d = tseqImage s d) l _ rfl fun _ hu c hc =>
    (stageTseq_image (hl c hc) hd (fun h => hnot (h ▸ hc))).trans hu

theorem foldl_stageTseq_keeps (l : List Nat) (s : State) (v rev : Nat) :
    (l.foldl (stageTseq v rev) s).shelf = s.shelf ∧ (l.foldl (stageTseq v rev) s).chs = s.chs :=
  ⟨foldl_frame State.shelf _ l s fun u c => (stageTseq_keeps v rev u c).1,
    foldl_frame State.chs _ l s fun u c => (stageTseq_keeps v rev u c).2⟩

/-- Of the loads of several channels, a channel's own decides of its image. -/
theorem foldl_stageTseq_image_of_mem {l : List Nat} (hl : ∀ c ∈ l, c < 16) (hnodup : l.Nodup) (hr : kRising s.regs = true)
    (hd : d ∈ l) : ∃ u, u.shelf = s.shelf ∧ u.chs = s.chs ∧ kRising u.regs = true
      ∧ tseqImage (l.foldl (stageTseq v rev) s) d = tseqImage (stageTseq v rev u d) d := by
  obtain ⟨l₁, l₂, rfl⟩ := List.append_of_mem hd
  have hlater : d ∉ l₂ := (List.nodup_cons.1 (List.nodup_append.1 hnodup).2.1).1
  obtain ⟨hshelf, hchs⟩ := foldl_stageTseq_keeps l₁ s v rev
  refine ⟨_, hshelf, hchs, List.foldlRecOn (motive := fun u : State => kRising u.regs = true) l₁ _ hr fun _ hu c _ =>
    (stageTseq_touches v rev _ c).rising hu, ?_⟩
  rw [List.foldl_append, List.foldl_cons]
  exact foldl_stageTseq_image (fun c hc => hl c (by simp [hc])) (hl d hd) hlater

/-- A load leaves everything but images, words and events. -/
theorem tseqLoaded_keeps (s : State) (w : Word) (v rev : Nat) :
    (tseqLoaded s w v rev).shelf = s.shelf ∧ (tseqLoaded s w v rev).chs = s.chs := by
  obtain ⟨hshelf, hchs⟩ := foldl_stageTseq_keeps (imgChannels w) (imgTaken s w) v rev
  have hbooks := (imgBooks_writes ((imgChannels w).foldl (stageTseq v rev) (imgTaken s w))).shows
  have htaken := (imgTaken_writes s w).shows
  exact ⟨((shelf_of_vault (hbooks.vault 0)).trans hshelf).trans (shelf_of_vault (htaken.vault 0)),
    (hbooks.chs.trans hchs).trans htaken.chs⟩

/-- A register of the channels' versions is none of the image controls. -/
theorem imgTseqVer_not_mem_controls (hd : d < 16) : Reg.imgTseqVer.at d ∉ [Reg.imgCtl.at, Reg.imgStatus.at] := by
  simp only [RegDef.at, Reg.imgTseqVer, Reg.imgCtl, Reg.imgStatus, List.mem_cons, List.not_mem_nil, or_false]
  omega

theorem tseqLoaded_image_of_not_named {w : Word} (hd : d < 16) (h : getBits w (16 + d) 1 = 0) :
    tseqImage (tseqLoaded s w v rev) d = tseqImage s d := by
  have hnot : d ∉ imgChannels w := by simp [mem_imgChannels hd, h]
  have hcontrols := imgTseqVer_not_mem_controls hd
  calc tseqImage (tseqLoaded s w v rev) d
    _ = tseqImage ((imgChannels w).foldl (stageTseq v rev) (imgTaken s w)) d :=
      (imgBooks_writes _).image (fun h => hcontrols (List.mem_cons_of_mem _ h))
    _ = tseqImage (imgTaken s w) d := foldl_stageTseq_image (fun _ => imgChannels_lt) hd hnot
    _ = tseqImage s d := (imgTaken_writes s w).image hcontrols

/-- A named channel's image is that of its own load, from a state with the same channels and mode. -/
theorem tseqLoaded_image_of_named {w : Word} (hr : kRising s.regs = true) (hd : d < 16) (h : getBits w (16 + d) 1 = 1) :
    ∃ u, u.ch d = s.ch d ∧ u.mode = s.mode ∧ kRising u.regs = true
      ∧ tseqImage (tseqLoaded s w v rev) d = tseqImage (stageTseq v rev u d) d := by
  have htaken := imgTaken_writes s w
  obtain ⟨u, hshelf, hchs, hrising, himage⟩ := foldl_stageTseq_image_of_mem (v := v) (rev := rev)
    (fun _ => imgChannels_lt) (imgChannels_nodup w) (htaken.touches.rising hr) ((mem_imgChannels hd w).2 h)
  refine ⟨u, congrArg (·[chan d]) (hchs.trans htaken.shows.chs), ?_, hrising, ?_⟩
  · exact congrArg Shelf.mode (hshelf.trans (shelf_of_vault (htaken.shows.vault 0)))
  · exact ((imgBooks_writes _).image (fun h => imgTseqVer_not_mem_controls hd (List.mem_cons_of_mem _ h))).trans himage

/-- The image of a channel that waits. -/
theorem tseqWaits_image (hr : kRising s.regs = true) (w : Nat) :
    kFind (tseqWaits s c w).tseqStaged c = some w ∧ (tseqWaits s c w).flag Fld.imgTseqVerPending c = true :=
  ⟨tseqWaits_find .., State.flag_setFlag hr _ rfl (by decide)⟩

end

end Sys2Proof.Machine

end

/-! SUPPORT. The statement about images. -/

section

open Sys2Proof Sys2Proof.Machine

/-- Settles O54: PSEQ's load is one update, and of TSEQ's loads each channel's own decides of its image. -/
theorem imagesLoad : Obligations.ImagesLoad := by
  intro w s hw hm
  have hr := State.wf_regs_rising hw
  refine ⟨fun r im hrev him => ?_, fun code hcode => ?_, fun v rev him hv hrev => ?_, fun code him => ?_⟩
  · exact ⟨_, next_settle_congr (opImgPseq_fits hm hrev him), pseqWaits_shows hr w im⟩
  · have hexec : opImgPseq s w = imgRefuse (putImg s w) w code := by
      rcases hcode with ⟨hrev, rfl⟩ | ⟨r, hrev, him⟩
      · exact opImgPseq_of_disagree hm w hrev
      · exact opImgPseq_refused hm hrev him
    obtain ⟨hflag, hfld, hcount⟩ := imgRefused_counts hr w code
    have hshows := imgRefused_shows s w code
    exact ⟨_, next_settle_congr hexec, hflag, hfld, hcount, hshows.touches.1, hshows.rest⟩
  · obtain ⟨hshelf, hchs⟩ := tseqLoaded_keeps s w v rev
    have hversion : (v + rev * 2 ^ 16) % 2 ^ 16 = v := by omega
    have hifrev : (v + rev * 2 ^ 16) / 2 ^ 16 % 256 = rev := by omega
    simp only [← State.ch_val]
    refine ⟨_, next_settle_congr (opImgTseq_fits hm him), fun c hnamed hst => ?_, fun c hnamed hst htrain => ?_,
      fun c hnot => congrArg Prod.snd (tseqLoaded_image_of_not_named c.isLt hnot), hchs, dataKept_of_shelf hshelf,
      congrArg Shelf.ledger hshelf⟩
    · obtain ⟨u, hch, hmode, hrising, himage⟩ := tseqLoaded_image_of_named (s := s) (v := v) (rev := rev) hr c.isLt hnamed
      rw [stageTseq_waits (by rwa [hch, hmode])] at himage
      obtain ⟨hfind, hflag⟩ := tseqWaits_image (c := c.val) hrising (v + rev * 2 ^ 16)
      obtain ⟨-, -, hpending⟩ := tseqVer_congr (congrArg Prod.snd himage)
      exact ⟨(congrArg Prod.fst himage).trans hfind, hpending.trans hflag⟩
    · obtain ⟨u, hch, hmode, hrising, himage⟩ := tseqLoaded_image_of_named (s := s) (v := v) (rev := rev) hr c.isLt hnamed
      rw [stageTseq_switches (by rwa [hch]) (by rwa [hmode])] at himage
      obtain ⟨hver, hrevision, hpend⟩ := tseqVer_congr (congrArg Prod.snd himage)
      obtain ⟨hshown, hpartner, hpending⟩ :=
        tseqTaken_fields ((tseqWaits_touches u c (v + rev * 2 ^ 16)).rising hrising) c.isLt (v + rev * 2 ^ 16)
      exact ⟨(hver.trans hshown).trans hversion, (hrevision.trans hpartner).trans hifrev, hpend.trans hpending⟩
  · obtain ⟨hflag, -, hcount⟩ := imgRefused_counts hr w code
    exact ⟨_, next_settle_congr (opImgTseq_refused hm him), hflag,
      (imgRefused_shows s w code).tseqStaged, hcount⟩

end

/-! SUPPORT. OTP burns: how one begins, how it is refused, and what its end leaves in the fuses (R605 to R608). -/

section

namespace Sys2Proof.Machine

section
variable {s t : State} {k slot : Nat} {l : List (BitVec 8)}

/-! ### What a burn goes by (R605, R607, R608) -/

theorem State.wf_otp_rising (h : s.wf = true) : kRising s.flash.otp = true := by
  have hk : kWf (fun _ => (0 : BitVec 8)) s.flash.otp = true := by
    simp only [State.wf, Bool.and_eq_true] at h
    exact h.2
  exact (kRising_iff _).2 ((kWf_iff _ _).1 hk).1

theorem otpFree_congr (h : t.flash = s.flash) (k : Nat) : otpFree t k = otpFree s k := by
  have hused : otpSlotUsed t k = otpSlotUsed s k := funext fun i => by simp only [otpSlotUsed, otpSlotBytes, h]
  rw [otpFree, otpFree, hused]

theorem otpLocked_congr (h : t.flash = s.flash) (k : Nat) : otpLocked t k = otpLocked s k := by
  have hslots : otpSlotBytes t = otpSlotBytes s := by
    funext k i
    simp only [otpSlotBytes, h]
  simp only [otpLocked, otpSlotOk, hslots]

/-! ### A burn begins (R605) -/

/-- The flags of a burn that has been taken. -/
def burnTaken (s : State) : State :=
  ((s.setFlag Fld.otpStatusRefused false).setFlag Fld.otpStatusFail false).setFlag Fld.otpStatusBusy true

theorem burnTaken_writes (s : State) : Writes s (burnTaken s) [Reg.otpStatus.at] :=
  (((Writes.refl ..).setFlag Fld.otpStatusRefused false List.mem_cons_self).setFlag Fld.otpStatusFail false
    List.mem_cons_self).setFlag Fld.otpStatusBusy true List.mem_cons_self

theorem burnTaken_flags (hr : kRising s.regs = true) : (burnTaken s).flag Fld.otpStatusBusy = true
    ∧ (burnTaken s).flag Fld.otpStatusRefused = false := by
  have hrefused := State.setFlag_rising hr Fld.otpStatusRefused false 0 0
  have hfail := State.setFlag_rising hrefused Fld.otpStatusFail false 0 0
  refine ⟨State.flag_setFlag hfail _ rfl (by decide), ?_⟩
  rw [burnTaken, State.flag_setFlag_beside hfail Fld.otpStatusBusy Fld.otpStatusRefused rfl (by decide) (by decide),
    State.flag_setFlag_beside hrefused Fld.otpStatusFail Fld.otpStatusRefused rfl (by decide) (by decide),
    State.flag_setFlag hr _ rfl (by decide)]

/-- The burn of a record under way. -/
def burning (s : State) (k : Nat) : State :=
  { burnTaken s with flash := { s.flash with
      burn := some (k, 4 - otpFree s k, slotBytes (otpPlace k).2 (burnContent (burnTaken s) k)) } }

theorem startBurn_begins (hmode : s.modeNow.noChCmd = false) (hburn : s.flash.burn = none) (hk : k < 7)
    (hfree : otpFree s k ≠ 0) (hlock : otpLocked s k = false) : startBurn s k = burning s k := by
  have hflash : (burnTaken s).flash = s.flash := (burnTaken_writes s).flash
  have hslot := otpFree_congr hflash k
  have hnot : ¬ (7 ≤ k ∨ otpFree s k = 0) := by omega
  unfold startBurn
  rw [if_neg (by simp [hmode]), if_neg (by simp [hburn]), if_neg hnot, if_neg (by simp [hlock])]
  unfold burnTaken at hflash hslot
  dsimp only
  rw [hslot, hflash]
  rfl

theorem burning_burns (hr : kRising s.regs = true) (k : Nat) : ∃ l, (burning s k).flash.burn = some (k, 4 - otpFree s k, l)
    ∧ (burning s k).flag Fld.otpStatusBusy = true ∧ (burning s k).flag Fld.otpStatusRefused = false
    ∧ DataKept s (burning s k) ∧ (burning s k).ledger = s.ledger := by
  obtain ⟨hbusy, hrefused⟩ := burnTaken_flags hr
  have htaken := burnTaken_writes s
  unfold burning
  generalize burnTaken s = u at hbusy hrefused htaken
  obtain ⟨⟨_, rfl⟩, -⟩ := htaken
  exact ⟨_, rfl, hbusy, hrefused, ⟨rfl, rfl, rfl, rfl⟩, rfl⟩

/-! ### A burn is refused (R605, R607, R608) -/

theorem startBurn_refused (h : s.modeNow.noChCmd = true ∨ s.flash.burn.isSome = true ∨ 7 ≤ k ∨ otpFree s k = 0
    ∨ otpLocked s k = true) : ∃ why, startBurn s k = otpRefuse s k why := by
  unfold startBurn
  split
  · exact ⟨_, rfl⟩
  next hmode =>
    split
    · exact ⟨_, rfl⟩
    next hburn =>
      split
      · exact ⟨_, rfl⟩
      next hslot =>
        refine ⟨1, if_pos ?_⟩
        rcases h with h | h | h | h | h
        · exact absurd h hmode
        · exact absurd h hburn
        · exact absurd (.inl h) hslot
        · exact absurd (.inr h) hslot
        · exact h

theorem otpRefuse_shows (s : State) (k why : Nat) : Shows s (otpRefuse s k why) [Reg.otpStatus.at] := by
  have htold (x y : Word) : Shows s ((s.setFlag Fld.otpStatusRefused true).info Ev.otpRefused Src.flash x y)
      [Reg.otpStatus.at] := ((Writes.refl ..).setFlag Fld.otpStatusRefused true List.mem_cons_self).shows.info ..
  unfold otpRefuse
  dsimp only
  split
  · exact (htold _ _).info ..
  · exact htold _ _

theorem otpRefuse_refuses (hr : kRising s.regs = true) (k why : Nat) :
    (otpRefuse s k why).flag Fld.otpStatusRefused = true := by
  unfold otpRefuse
  dsimp only
  split
  · rw [State.flag_info, State.flag_info, State.flag_setFlag hr _ rfl (by decide)]
  · rw [State.flag_info, State.flag_setFlag hr _ rfl (by decide)]

theorem Shows.flash {l : List Nat} (h : Shows s t l) : t.flash = s.flash := by
  obtain ⟨⟨_, _, rfl⟩, -⟩ := h
  rfl

/-! ### The burn ends (R603, R605, R606) -/

theorem burnBytes_cons (m : KMap (BitVec 8)) (a : Nat) (x : BitVec 8) (l : List (BitVec 8)) :
    burnBytes m a (x :: l) = burnBytes (kSet 0 m a (kGet 0 m a ||| x)) (a + 1) l := by
  simp only [burnBytes, List.length_cons, List.range_succ_eq_map, List.zip_cons_cons, List.foldl_cons, List.zip_map_left,
    List.foldl_map, Prod.map_fst, Prod.map_snd, Nat.add_zero, id_eq, Nat.succ_eq_add_one, Nat.add_assoc, Nat.add_comm 1]

/-- The bits of a burn join those that are burned already. -/
theorem kGet_burnBytes {m : KMap (BitVec 8)} (hm : kRising m = true) (a : Nat) (l : List (BitVec 8)) (i : Nat) :
    kGet 0 (burnBytes m a l) i = if a ≤ i ∧ i < a + l.length then kGet 0 m i ||| l.getD (i - a) 0 else kGet 0 m i := by
  induction l generalizing m a with
  | nil => exact (if_neg (by simp)).symm
  | cons x l ih =>
    rw [burnBytes_cons, ih (kRising_kSet hm ..), kGet_kSet hm, List.length_cons]
    by_cases hi : a = i
    · subst hi
      simp
    · rw [if_neg hi]
      by_cases hin : a + 1 ≤ i ∧ i < a + 1 + l.length
      · have hidx : i - a = i - (a + 1) + 1 := by omega
        rw [if_pos hin, if_pos (by omega), hidx, List.getD_cons_succ]
      · rw [if_neg hin, if_neg (by omega)]

/-- The burn is over and counted. -/
def burnEnded (s : State) : State := (s.count Reg.otpCntBurn).setFlag Fld.otpStatusBusy false

/-- The fuses take the burn. -/
def burned (s : State) (k slot : Nat) (l : List (BitVec 8)) : State :=
  { burnEnded s with flash := { s.flash with
      burn := none, otp := burnBytes s.flash.otp ((otpPlace k).1 + slot * (otpPlace k).2) l } }

/-- The slot of a burn that failed is spoiled. -/
def burnSpoiled (s : State) (k slot : Nat) : State :=
  ({ burnEnded s with flash := { s.flash with burn := none, otpSpoiled := s.flash.otpSpoiled ++ [(k, slot)] } } : State).setFlag
    Fld.otpStatusFail true

theorem opBurnDone_none (h : s.flash.burn = none) (ok : Bool) : opBurnDone s ok = s := by
  unfold opBurnDone
  rw [h]

theorem opBurnDone_burns (h : s.flash.burn = some (k, slot, l)) : opBurnDone s true = burned s k slot l := by
  unfold opBurnDone
  rw [h]
  rfl

theorem opBurnDone_fails (h : s.flash.burn = some (k, slot, l)) :
    ∃ x : Word, opBurnDone s false = (burnSpoiled s k slot).info Ev.otpBurnFail Src.flash x := by
  unfold opBurnDone
  rw [h]
  exact ⟨_, rfl⟩

theorem burnEnded_counts (hr : kRising s.regs = true) : (burnEnded s).flag Fld.otpStatusBusy = false
    ∧ (burnEnded s).rd Reg.otpCntBurn.at = satAdd32 (s.rd Reg.otpCntBurn.at) 1 ∧ kRising (burnEnded s).regs = true := by
  have hcounted := State.count_rising s hr Reg.otpCntBurn 1 0 0
  refine ⟨State.flag_setFlag hcounted _ rfl (by decide), ?_, State.setFlag_rising hcounted ..⟩
  rw [burnEnded, State.rd_setFlag_of_ne _ (by decide), State.rd_count_self hr]

/-- A spoiled slot counts as used. -/
theorem otpSlotUsed_of_spoiled (h : (k, slot) ∈ s.flash.otpSpoiled) : otpSlotUsed s k slot = true := by
  have hany : s.flash.otpSpoiled.any (fun x => x.1 == k && x.2 == slot) = true := List.any_eq_true.2 ⟨_, h, by simp⟩
  rw [otpSlotUsed, hany, Bool.or_true]

theorem burnSpoiled_fails (hr : kRising s.regs = true) (k slot : Nat) :
    (burnSpoiled s k slot).flag Fld.otpStatusBusy = false ∧ (burnSpoiled s k slot).flag Fld.otpStatusFail = true
      ∧ (burnSpoiled s k slot).flash
        = { s.flash with burn := none, otpSpoiled := s.flash.otpSpoiled ++ [(k, slot)] } := by
  obtain ⟨hbusy, -, hrising⟩ := burnEnded_counts hr
  unfold burnSpoiled
  generalize burnEnded s = u at hbusy hrising
  refine ⟨?_, State.flag_setFlag (s := { u with flash := _ }) hrising _ rfl (by decide), State.setFlag_flash ..⟩
  exact (State.flag_setFlag_beside (s := { u with flash := _ }) hrising Fld.otpStatusFail Fld.otpStatusBusy rfl (by decide)
    (by decide)).trans hbusy

end

end Sys2Proof.Machine

end

/-! SUPPORT. The statement about burns. -/

section

open Sys2Proof Sys2Proof.Machine

/-- Settles O55: a burn is begun or refused as its premises say, and its end writes byte by byte or spoils the slot. -/
theorem otpBurns : Obligations.OtpBurns := by
  refine ⟨fun x hx s hw hm => ?_, fun w s hw hm => ?_, fun k slot l s hw hburn => ⟨?_, ?_⟩,
    fun ok s hburn => next_settle_congr (opBurnDone_none hburn ok)⟩
  · have hr := State.wf_regs_rising hw
    have hexec : exec x.1 s = .next (settle (startBurn s x.2)) ∧ x.2 < 7 := by
      have hsvc (k : Nat) : opSvcBurn s k = startBurn s k := if_neg hm
      simp only [List.mem_cons, List.not_mem_nil, or_false] at hx
      rcases hx with rfl | rfl
      · exact ⟨next_settle_congr (hsvc 3), by decide⟩
      · exact ⟨next_settle_congr (hsvc 4), by decide⟩
    obtain ⟨hexec, hk⟩ := hexec
    refine ⟨fun hmode hburn hfree hlock => ?_, fun hno => ?_⟩
    · obtain ⟨l, hburns⟩ := burning_burns hr x.2
      exact ⟨_, l, hexec.trans (next_settle_congr (startBurn_begins hmode hburn hk hfree hlock)), hburns⟩
    · obtain ⟨why, hrefuse⟩ := startBurn_refused (s := s) (k := x.2) (by tauto)
      have hshows := otpRefuse_shows s x.2 why
      exact ⟨_, hexec.trans (next_settle_congr hrefuse), otpRefuse_refuses hr x.2 why, hshows.flash, hshows.touches.1⟩
  · intro k
    have hr := State.wf_regs_rising hw
    have hexec : opOtpBurn s w = startBurn (s.setFld Fld.otpCtlRecord k) k := if_neg hm
    have hput : Writes s (s.setFld Fld.otpCtlRecord k) [Reg.otpCtl.at] := (Writes.refl ..).setFld _ _ List.mem_cons_self
    generalize s.setFld Fld.otpCtlRecord k = u at hexec hput
    have hfree := otpFree_congr hput.flash k
    have hlock := otpLocked_congr hput.flash k
    rw [← hfree, ← hlock]
    obtain ⟨⟨regs, rfl⟩, htouch⟩ := hput
    refine ⟨fun hmode hburn hk hslot hopen => ?_, fun hno => ?_⟩
    · obtain ⟨l, hburns⟩ := burning_burns (htouch.rising hr) k
      exact ⟨_, l, next_settle_congr (hexec.trans (startBurn_begins hmode hburn hk hslot hopen)), hburns⟩
    · obtain ⟨why, hrefuse⟩ := startBurn_refused (s := { s with regs := regs }) (k := k) (by
        rcases hno with h | h | h | h
        · exact .inl h
        · exact .inr (.inl h)
        · exact .inr (.inr (.inl h.ge))
        · exact .inr (.inr (.inr h)))
      have hshows := otpRefuse_shows { s with regs := regs } k why
      exact ⟨_, next_settle_congr (hexec.trans hrefuse), otpRefuse_refuses (htouch.rising hr) k why, hshows.flash,
        ((htouch.mono (by simp)).trans (hshows.touches.mono (by simp))).1⟩
  · have hr := State.wf_regs_rising hw
    obtain ⟨hbusy, hcount, -⟩ := burnEnded_counts hr
    exact ⟨_, next_settle_congr (opBurnDone_burns hburn), rfl, hbusy,
      fun i => kGet_burnBytes (State.wf_otp_rising hw) _ l i, hcount⟩
  · obtain ⟨hbusy, hfail, hfused⟩ := burnSpoiled_fails (State.wf_regs_rising hw) k slot
    obtain ⟨x, hdone⟩ := opBurnDone_fails hburn
    have hflash := (State.info_flash (burnSpoiled s k slot) Ev.otpBurnFail Src.flash x 0).trans hfused
    refine ⟨_, next_settle_congr hdone, by rw [hflash], (State.flag_info ..).trans hbusy,
      (State.flag_info ..).trans hfail, by rw [hflash], otpSlotUsed_of_spoiled ?_⟩
    rw [hflash]
    simp

end

/-! SUPPORT. The background test of the SRAM arrays, phase by phase (R561 to R569). -/

section

namespace Sys2Proof.Machine

/-! ### Updates that serve no request -/

/-- `t` is `s` with the words at `l` written, and no store, entry, channel or mode moved. -/
def Tends (s t : State) (l : List Nat) : Prop := Touches s t l ∧ t.shelf = s.shelf ∧ t.chs = s.chs

section
variable {s t u : State} {l l' : List Nat}

theorem Tends.refl (s : State) (l : List Nat) : Tends s s l := ⟨.of_regs rfl, rfl, rfl⟩

theorem Tends.touches (h : Tends s t l) : Touches s t l := h.1

theorem Tends.trans (h : Tends s t l) (h' : Tends t u l) : Tends s u l := by
  obtain ⟨htouch, hshelf, hchs⟩ := h
  obtain ⟨htouch', hshelf', hchs'⟩ := h'
  exact ⟨htouch.trans htouch', hshelf'.trans hshelf, hchs'.trans hchs⟩

theorem Tends.mono (h : Tends s t l) (hl : l ⊆ l') : Tends s t l' := ⟨h.1.mono hl, h.2⟩

theorem Shows.tends (h : Shows s t l) : Tends s t l := ⟨h.touches, shelf_of_vault (h.vault 0), h.chs⟩

theorem Tends.dataKept (h : Tends s t l) : DataKept s t := dataKept_of_shelf h.2.1

theorem Tends.ledger (h : Tends s t l) : t.ledger = s.ledger := congrArg Shelf.ledger h.2.1

/-- A new record of the engines moves no word. -/
theorem Tends.sram (s : State) (x : Sram) (l : List Nat) : Tends s { s with sram := x } l := ⟨.of_regs rfl, rfl, rfl⟩

theorem Tends.report (s : State) (src : Nat) (n : Option Nat) (l : List Nat) : Tends s (s.report src n) l :=
  ⟨.of_regs rfl, rfl, rfl⟩

theorem Tends.askSpares (s : State) (l : List Nat) : Tends s (askSpares s) l := ⟨.of_regs rfl, rfl, rfl⟩

theorem Tends.queueLog (s : State) (kind : Nat) (body : List Nat) (l : List Nat) : Tends s (queueLog s kind body) l := by
  refine ⟨.of_regs (queueLog_regs ..), shelf_of_vault (queueLog_vault s 0 ..), ?_⟩
  unfold Machine.queueLog
  split <;> rfl

end

section
variable {s : State} {p : Nat}

/-! ### The phase that shows (R562) -/

/-- The words that show the background test. -/
def bgtWords : List Nat := [Reg.sramBgtPos.at, Reg.sramStatus.at]

theorem bgtPhase_writes (s : State) (p : Nat) : Writes s (bgtPhase s p) bgtWords :=
  (((Writes.refl ..).setFld Fld.sramBgtPosPhase p (by decide)).setFlag Fld.sramStatusBgtActive _ (by decide)).setFlag
    Fld.sramStatusBorrowed _ (by decide)

theorem bgtIs_iff : bgtIs s p = true ↔ s.fld Fld.sramBgtPosPhase = p := beq_iff_eq

/-- A phase shows with its flags, and leaves the region's place. -/
theorem bgtPhase_fields (hr : kRising s.regs = true) (hp : p < 8) :
    bgtIs (bgtPhase s p) p = true ∧ (bgtPhase s p).flag Fld.sramStatusBgtActive = (p != 0)
      ∧ (bgtPhase s p).flag Fld.sramStatusBorrowed = (p == 3 || p == 4)
      ∧ (bgtPhase s p).fld Fld.sramBgtPosArray = s.fld Fld.sramBgtPosArray
      ∧ (bgtPhase s p).fld Fld.sramBgtPosRegion = s.fld Fld.sramBgtPosRegion := by
  have hphase := State.setFld_rising s hr Fld.sramBgtPosPhase p 0 0
  have hactive := State.setFlag_rising hphase Fld.sramStatusBgtActive (p != 0) 0 0
  have hword : (bgtPhase s p).rd Reg.sramBgtPos.at = (s.setFld Fld.sramBgtPosPhase p).rd Reg.sramBgtPos.at :=
    (State.rd_setFlag_of_ne _ (by decide) _).trans (State.rd_setFlag_of_ne _ (by decide) _)
  refine ⟨bgtIs_iff.2 ?_, ?_, State.flag_setFlag hactive _ rfl (by decide), ?_, ?_⟩
  · exact (State.fld_congr hword).trans (State.fld_setFld_of_lt hr Fld.sramBgtPosPhase 0 0 (by decide) hp)
  · exact (State.flag_setFlag_beside hactive Fld.sramStatusBorrowed Fld.sramStatusBgtActive rfl (by decide) (by decide)).trans
      (State.flag_setFlag hphase _ rfl (by decide))
  · exact (State.fld_congr hword).trans (State.fld_setFld_beside s hr Fld.sramBgtPosPhase Fld.sramBgtPosArray p 0 0 0 0 rfl
      (by decide) (by decide))
  · exact (State.fld_congr hword).trans (State.fld_setFld_beside s hr Fld.sramBgtPosPhase Fld.sramBgtPosRegion p 0 0 0 0 rfl
      (by decide) (by decide))

theorem regionNow_bgtPhase (hr : kRising s.regs = true) (hp : p < 8) : regionNow (bgtPhase s p) = regionNow s := by
  obtain ⟨-, -, -, harray, hregion⟩ := bgtPhase_fields hr hp
  rw [regionNow, harray, hregion, regionNow]

/-! ### A region begins (R561) -/

/-- The number of an array and of a region in it fit their fields. -/
theorem regionOf_fits {n : Nat} (h : n < allRegions) : (regionOf n).1 < 2 ^ 4 ∧ (regionOf n).2 < 2 ^ 14 := by
  have hbounds : firstRegion 0 = 0 ∧ firstRegion 1 = 10240 ∧ firstRegion 2 = 14336 ∧ firstRegion 3 = 16896
    ∧ firstRegion 4 = 18016 ∧ firstRegion 5 = 20192 := by decide
  obtain ⟨h0, h1, h2, h3, h4, h5⟩ := hbounds
  have hn : n < 20192 := h
  have hlist : List.range 5 = [0, 1, 2, 3, 4] := by decide
  unfold regionOf
  rw [hlist]
  simp only [List.find?_cons, List.find?_nil, Nat.reduceAdd, h1, h2, h3, h4, h5]
  rcases Nat.lt_or_ge n 10240 with hn0 | hn0
  · simp [hn0, h0]
    omega
  rcases Nat.lt_or_ge n 14336 with hn1 | hn1
  · simp [hn1, Nat.not_lt.2 hn0, h1]
    omega
  rcases Nat.lt_or_ge n 16896 with hn2 | hn2
  · simp [hn2, Nat.not_lt.2 hn0, Nat.not_lt.2 hn1, h2]
    omega
  rcases Nat.lt_or_ge n 18016 with hn3 | hn3
  · simp [hn3, Nat.not_lt.2 hn0, Nat.not_lt.2 hn1, Nat.not_lt.2 hn2, h3]
    omega
  · simp [hn, Nat.not_lt.2 hn0, Nat.not_lt.2 hn1, Nat.not_lt.2 hn2, Nat.not_lt.2 hn3, h4]
    omega

/-- The place of the region in SRAM_BGT_POS. -/
def regionPlaced (s : State) (n : Nat) : State :=
  (s.setFld Fld.sramBgtPosArray (regionOf n).1).setFld Fld.sramBgtPosRegion (regionOf n).2

theorem regionPlaced_writes (s : State) (n : Nat) : Writes s (regionPlaced s n) bgtWords :=
  ((Writes.refl ..).setFld Fld.sramBgtPosArray _ (by decide)).setFld Fld.sramBgtPosRegion _ (by decide)

theorem beginRegion_eq (s : State) (n : Nat) :
    beginRegion s n = bgtPhase { regionPlaced s n with sram := { s.sram with abandoned := false } } 1 := rfl

theorem beginRegion_begins (hr : kRising s.regs = true) {n : Nat} (hn : n < allRegions) :
    bgtIs (beginRegion s n) 1 = true ∧ (beginRegion s n).fld Fld.sramBgtPosArray = (regionOf n).1
      ∧ (beginRegion s n).fld Fld.sramBgtPosRegion = (regionOf n).2
      ∧ (beginRegion s n).flag Fld.sramStatusBgtActive = true ∧ (beginRegion s n).flag Fld.sramStatusBorrowed = false
      ∧ Touches s (beginRegion s n) bgtWords
      ∧ ∃ regs, beginRegion s n = { s with regs := regs, sram := { s.sram with abandoned := false } } := by
  obtain ⟨hafit, hrfit⟩ := regionOf_fits hn
  have hset := State.setFld_rising s hr Fld.sramBgtPosArray (regionOf n).1 0 0
  have hplaced := regionPlaced_writes s n
  have harray : (regionPlaced s n).fld Fld.sramBgtPosArray = (regionOf n).1 :=
    (State.fld_setFld_beside _ hset Fld.sramBgtPosRegion Fld.sramBgtPosArray _ 0 0 0 0 rfl (by decide) (by decide)).trans
      (State.fld_setFld_of_lt hr Fld.sramBgtPosArray 0 0 (by decide) hafit)
  have hregion : (regionPlaced s n).fld Fld.sramBgtPosRegion = (regionOf n).2 :=
    State.fld_setFld_of_lt hset Fld.sramBgtPosRegion 0 0 (by decide) hrfit
  rw [beginRegion_eq]
  generalize regionPlaced s n = u at hplaced harray hregion
  obtain ⟨⟨regs, rfl⟩, htouch⟩ := hplaced
  obtain ⟨hphase, hactive, hborrowed, ha, hb⟩ :=
    bgtPhase_fields (s := { s with regs := regs, sram := { s.sram with abandoned := false } }) (p := 1)
      (htouch.rising hr) (by decide)
  have hwrites := bgtPhase_writes { s with regs := regs, sram := { s.sram with abandoned := false } } 1
  generalize bgtPhase { s with regs := regs, sram := { s.sram with abandoned := false } } 1 = t at *
  obtain ⟨⟨regs', rfl⟩, htouch'⟩ := hwrites
  exact ⟨hphase, ha.trans harray, hb.trans hregion, hactive, hborrowed,
    (htouch.trans (.of_regs rfl)).trans htouch', _, rfl⟩

/-- The next region of the pass (R561). -/
def nextRegion (s : State) : State := { s with sram := { s.sram with bgtNext := freeRegion s 128 s.sram.bgtNext + 1 } }

theorem opRegionStart_begins (hruns : bgtRuns s = true) (hurgent : s.sram.urgent = [])
    (hn : freeRegion s 128 s.sram.bgtNext < allRegions) :
    opRegionStart s = beginRegion (nextRegion s) (freeRegion s 128 s.sram.bgtNext) := by
  unfold opRegionStart
  rw [if_neg (by simp [hruns]), hurgent]
  exact if_pos hn

theorem opRegionStart_of_not (h : bgtRuns s = false) : opRegionStart s = s := if_pos (by simp [h])

/-! ### The copy in DRAM (R564) -/

/-- The DRAM copy is one more access, and its entries go behind the ledger's. -/
theorem saveToDram_saves (s : State) :
    s.ledger <+: (saveToDram s).ledger ∧ (saveToDram s).regs = s.regs ∧ DataKept s (saveToDram s) := by
  have hsame : s.ledger <+: s.ledger ∧ s.regs = s.regs ∧ DataKept s s := ⟨List.prefix_rfl, rfl, rfl, rfl, rfl, rfl⟩
  unfold saveToDram
  split
  · exact hsame
  · split
    · exact hsame
    · extract_lets unit ls dl
      split
      next id u hjob =>
        have hu : u = (newJob s _ .bgt true ls 0 dl false).2 := (congrArg Prod.snd hjob).symm
        have hledger : u.ledger = s.ledger ∧ u.regs = s.regs ∧ DataKept s u := by
          rw [hu]
          exact ⟨rfl, rfl, rfl, rfl, rfl, rfl⟩
        clear_value ls
        clear hjob hu
        obtain ⟨hledger, hregs, hdram, htags, hbytes, hotp⟩ := hledger
        have hadded : ∀ es : List LEntry, ∃ new, es.foldl addEntry u = { u with ledger := u.ledger ++ new } := fun es => by
          obtain ⟨new, hnew, -⟩ := foldl_addEntry u es
          exact ⟨new, hnew⟩
        rw [← List.foldl_map]
        obtain ⟨new, hnew⟩ := hadded (ls.map _)
        rw [hnew]
        exact ⟨hledger ▸ List.prefix_append .., hregs, hdram, htags, hbytes, hotp⟩

end

end Sys2Proof.Machine

end

/-! SUPPORT. The background test: regions missed, tested and restored, and accesses to them (R563 to R567). -/

section

namespace Sys2Proof.Machine

section
variable {s t : State}

/-! ### A region missed, and the end of a pass (R561, R566) -/

/-- The counters of regions skipped and of passes. -/
def passCounts : List Nat := [Reg.sramCntBgtSkip.at, Reg.sramCntBgtPass.at]

theorem missRegion_tends (s : State) : Tends s (missRegion s) passCounts := by
  unfold missRegion
  extract_lets n k engines erased
  split
  · exact .sram ..
  · have hcounted : Shows erased ((erased.count Reg.sramCntBgtSkip).info Ev.sramBgtSkip Src.sram
        (dw (erased.fld Fld.sramBgtPosArray + erased.fld Fld.sramBgtPosRegion * 16))) passCounts :=
      ((Writes.refl ..).count Reg.sramCntBgtSkip 1 (by decide)).shows.info ..
    exact (Tends.sram ..).trans hcounted.tends

/-- A region missed fewer times than ABANDON_MAX is to be retried. -/
theorem missRegion_retries (h : kGet 0 s.sram.retry (regionNow s) + 1 < s.fld Fld.sramBgtCtlAbandonMax) :
    kGet 0 (missRegion s).sram.retry (regionNow s) = kGet 0 s.sram.retry (regionNow s) + 1 := by
  unfold missRegion
  dsimp only
  rw [if_pos h, kGet, kFind_kPut, if_pos rfl, Option.getD_some]

theorem passEnds_tends (s : State) : Tends s (passEnds s) passCounts := by
  unfold passEnds
  split
  · have hcounted : Writes s (s.count Reg.sramCntBgtPass) passCounts := (Writes.refl ..).count Reg.sramCntBgtPass 1 (by decide)
    exact hcounted.shows.tends.trans (.sram ..)
  · exact .refl ..

theorem passEnds_retry (s : State) : (passEnds s).sram.retry = s.sram.retry := by
  unfold passEnds
  split <;> rfl

/-- What shows of the background test stays while its passes are counted. -/
theorem bgtShown_of_touches {l : List Nat} (h : Touches s t l) (hpos : Reg.sramBgtPos.at ∉ l) (hstatus : Reg.sramStatus.at ∉ l)
    (p : Nat) : bgtIs t p = bgtIs s p ∧ t.flag Fld.sramStatusBgtActive = s.flag Fld.sramStatusBgtActive
      ∧ t.flag Fld.sramStatusBorrowed = s.flag Fld.sramStatusBorrowed :=
  ⟨congrArg (· == p) (h.fld (f := Fld.sramBgtPosPhase) hpos), h.flag (f := Fld.sramStatusBgtActive) hstatus,
    h.flag (f := Fld.sramStatusBorrowed) hstatus⟩

theorem bgtPhase_tends (s : State) (p : Nat) : Tends s (bgtPhase s p) bgtWords := (bgtPhase_writes s p).shows.tends

theorem bgtPhase_sram (s : State) (p : Nat) : (bgtPhase s p).sram = s.sram := rfl

/-! ### A region that does not drain (R562, R566) -/

/-- A region that does not drain is left, and counts as missed. -/
def regionLeft (s : State) : State := passEnds (missRegion (bgtPhase s 0))

theorem regionLeft_tends (s : State) : Tends (bgtPhase s 0) (regionLeft s) passCounts :=
  (missRegion_tends _).trans (passEnds_tends _)

theorem regionLeft_retries (hr : kRising s.regs = true)
    (h : kGet 0 s.sram.retry (regionNow s) + 1 < s.fld Fld.sramBgtCtlAbandonMax) :
    kGet 0 (regionLeft s).sram.retry (regionNow s) = kGet 0 s.sram.retry (regionNow s) + 1 := by
  have hnow := regionNow_bgtPhase (s := s) (p := 0) hr (by decide)
  have hmax := (bgtPhase_writes s 0).touches.fld (f := Fld.sramBgtCtlAbandonMax) (i := 0) (k := 0) (by decide)
  have hmissed := missRegion_retries (s := bgtPhase s 0) (by rwa [hnow, hmax, bgtPhase_sram])
  rw [hnow, bgtPhase_sram] at hmissed
  rw [regionLeft, passEnds_retry, hmissed]

/-! ### Accesses to a borrowed region (R565) -/

theorem opRedirect_abandons (h : bgtIs s 3 = true) : opRedirect s = (({ s.count Reg.sramCntRedirect with
    sram := { s.sram with abandoned := true } } : State).count Reg.sramCntBgtAbandon).setFld Fld.sramBgtPosPhase 4 := by
  have hphase : (s.count Reg.sramCntRedirect).fld Fld.sramBgtPosPhase = 3 :=
    (State.fld_congr (State.rd_wr_other (by decide) _)).trans (bgtIs_iff.1 h)
  unfold opRedirect bgtAbandon
  rw [if_pos h, hphase]
  rfl

theorem opRedirect_counts (h : bgtIs s 4 = true) : opRedirect s = s.count Reg.sramCntRedirect := by
  have hphase := bgtIs_iff.1 h
  have hnot : ¬ bgtIs s 3 = true := fun h3 => by
    have := bgtIs_iff.1 h3
    omega
  exact (if_neg hnot).trans (if_pos h)

/-- An access during TEST abandons it: its region is restored next. -/
theorem opRedirect_abandoned (hr : kRising s.regs = true) (h : bgtIs s 3 = true) :
    bgtIs (opRedirect s) 4 = true ∧ (opRedirect s).sram.abandoned = true
      ∧ (opRedirect s).rd Reg.sramCntRedirect.at = satAdd32 (s.rd Reg.sramCntRedirect.at) 1
      ∧ (opRedirect s).rd Reg.sramCntBgtAbandon.at = satAdd32 (s.rd Reg.sramCntBgtAbandon.at) 1
      ∧ DataKept s (opRedirect s) ∧ (opRedirect s).ledger = s.ledger := by
  have hredirect := State.rd_count_self (r := Reg.sramCntRedirect) (n := 1) (i := 0) (k := 0) hr
  have hcounted : Writes s (s.count Reg.sramCntRedirect) [Reg.sramCntRedirect.at] :=
    (Writes.refl ..).count Reg.sramCntRedirect 1 (by decide)
  rw [opRedirect_abandons h]
  generalize s.count Reg.sramCntRedirect = u at hredirect hcounted
  have hkept := hcounted.touches.rd (o := Reg.sramCntBgtAbandon.at) (by decide)
  have hrising : kRising u.regs = true := hcounted.touches.rising hr
  obtain ⟨⟨regs, rfl⟩, -⟩ := hcounted
  have hgiven := State.rd_count_self (s := { s with regs := regs, sram := { s.sram with abandoned := true } })
    (r := Reg.sramCntBgtAbandon) (n := 1) (i := 0) (k := 0) hrising
  have hset := State.count_rising { s with regs := regs, sram := { s.sram with abandoned := true } } hrising
    Reg.sramCntBgtAbandon 1 0 0
  refine ⟨bgtIs_iff.2 (State.fld_setFld_of_lt hset _ 0 0 (by decide) (by decide)), rfl, ?_, ?_, ⟨rfl, rfl, rfl, rfl⟩, rfl⟩
  · rw [State.rd_setFld_of_ne _ (by decide)]
    exact (State.rd_wr_other (by decide) _).trans hredirect
  · rw [State.rd_setFld_of_ne _ (by decide), hgiven]
    exact congrArg (satAdd32 · 1) hkept

/-! ### The test's result (R560, R563, R567) -/

/-- The words that repairs may write. -/
def repairWords : List Nat := [Reg.sramCntRepair.at, Reg.spareInvSram.at, Reg.sramStatus.at, Reg.svcCntGroup.at]

theorem sramBooks_writes (s : State) : Writes s (sramBooks s) [Reg.spareInvSram.at] :=
  (((((Writes.refl ..).setFld Fld.spareInvSramGroupsFree _ (by decide)).setFld Fld.spareInvSramGroupsUsed _
    (by decide)).setFlag Fld.spareInvSramBankLedger _ (by decide)).setFlag Fld.spareInvSramBankStaging _
    (by decide)).setFld Fld.spareInvSramRowcol _ (by decide)

theorem addFix_tends (s : State) (f : SramFix) : Tends s (addFix s f) repairWords := by
  unfold addFix
  extract_lets engines fixed booked d0 told
  have hcounted : Writes fixed (fixed.count Reg.sramCntRepair) repairWords :=
    (Writes.refl ..).count Reg.sramCntRepair 1 (by decide)
  have hbooked : Tends s booked repairWords := (Tends.sram ..).trans
    (hcounted.trans ((sramBooks_writes _).mono (by decide))).shows.tends
  clear_value booked
  have htold : Tends s told repairWords :=
    (hbooked.trans ((Writes.refl booked repairWords).shows.event ..).tends).trans (.report ..)
  exact htold.trans (.queueLog ..)

theorem copyTurn_tends (s : State) : Tends s (copyTurn s) repairWords := by
  unfold copyTurn
  split
  · split
    · have hcopy (u : State) : Writes u (u.setFlag Fld.sramStatusCopying true) repairWords :=
        (Writes.refl ..).setFlag Fld.sramStatusCopying true (by decide)
      exact (Tends.sram ..).trans (hcopy _).shows.tends
    · exact .refl ..
  · exact .refl ..

theorem replaceGroup_tends (s : State) (g : Nat) : Tends s (replaceGroup s g) repairWords := by
  unfold replaceGroup
  extract_lets engines failed
  have hfailed : Tends s failed repairWords := .sram ..
  clear_value failed
  split
  · exact hfailed
  · split
    · exact hfailed.trans ((Writes.refl failed repairWords).shows.info ..).tends
    · exact (hfailed.trans ((Tends.sram ..).trans (.askSpares ..))).trans (copyTurn_tends _)

theorem groupFails_tends (s : State) (g : Nat) : Tends s (groupFails s g) repairWords :=
  (Tends.report ..).trans (replaceGroup_tends ..)

theorem repairCells_tends (s : State) (g m : Nat) (row : Bool) (i : Nat) : Tends s (repairCells s g m row i).2 repairWords := by
  unfold repairCells
  split
  · exact addFix_tends ..
  · exact groupFails_tends ..

theorem foundColumn_tends (s : State) (g m i : Nat) : Tends s (foundColumn s g m i) repairWords := by
  unfold foundColumn
  split
  · exact .refl ..
  · dsimp only
    split
    · exact (Tends.sram ..).trans (groupFails_tends ..)
    · exact .sram ..

/-- What a test finds is repaired, kept for the group's next march test or reported, and serves no request. -/
theorem applyMarch_tends (s : State) (g : Nat) (bg : Bool) (r : MarchRes) : Tends s (applyMarch s g bg r) repairWords := by
  cases r with
  | pass => exact .refl ..
  | repaired m row i =>
    unfold applyMarch
    dsimp only
    split
    · exact foundColumn_tends ..
    · exact repairCells_tends ..
  | fail => exact groupFails_tends ..

/-! ### A region restored (R563) -/

/-- A tested region counts, and needs no retry. -/
def regionCounted (s : State) : State :=
  { s.count Reg.sramCntBgtRegion with sram := { s.sram with retry := kErase s.sram.retry (regionNow s) } }

theorem opRestoreDone_misses (h : bgtIs s 4 = true) (habandoned : s.sram.abandoned = true) : opRestoreDone s = regionLeft s := by
  unfold opRestoreDone
  rw [if_pos h]
  dsimp only
  rw [bgtPhase_sram, if_pos habandoned]
  rfl

theorem opRestoreDone_counts (h : bgtIs s 4 = true) (habandoned : s.sram.abandoned = false) :
    opRestoreDone s = passEnds (regionCounted (bgtPhase s 0)) := by
  unfold opRestoreDone
  rw [if_pos h]
  dsimp only
  rw [bgtPhase_sram, if_neg (by simp [habandoned])]
  rfl

theorem regionCounted_tends (s : State) : Tends s (regionCounted s) [Reg.sramCntBgtRegion.at] := by
  have hcounted : Writes s (s.count Reg.sramCntBgtRegion) [Reg.sramCntBgtRegion.at] :=
    (Writes.refl ..).count Reg.sramCntBgtRegion 1 (by decide)
  exact hcounted.shows.tends.trans (.sram ..)

end

end Sys2Proof.Machine

end

/-! SUPPORT. March tests on request and group copies (R505, R557 to R560). -/

section

namespace Sys2Proof.Machine

section
variable {s t : State} {g n : Nat} {keep : Bool}

/-! ### Requests (R559) -/

/-- The fields of SRAM_MT_CTL that a request leaves. -/
def marchPut (s : State) (g : Nat) (keep : Bool) : State :=
  (s.setFld Fld.sramMtCtlGroup g).setFlag Fld.sramMtCtlPreserve keep

theorem marchPut_writes (s : State) (g : Nat) (keep : Bool) : Writes s (marchPut s g keep) [Reg.sramMtCtl.at] :=
  ((Writes.refl ..).setFld Fld.sramMtCtlGroup g (by decide)).setFlag Fld.sramMtCtlPreserve keep (by decide)

/-- What forbids a march test (R559): the block mode, another test or replacement, the group's own service, or the want of a
spare group. -/
def marchForbidden (s : State) (g : Nat) (keep : Bool) : Bool :=
  s.mode == .holdup || s.mode == .safe || s.modeNow == .recover || s.sram.march.isSome || s.sram.copying.isSome
    || !s.sram.waiting.isEmpty || !marchMode s g keep || (keep && (freeGroup s).isNone)

theorem opMarch_refuses (hm : s.mode ≠ .reset) {w : Word}
    (h : marchForbidden s (Fld.sramMtCtlGroup.of w) (Fld.sramMtCtlPreserve.of w == 1) = true) :
    ∃ why, opMarch s w = marchRefuse (marchPut s (Fld.sramMtCtlGroup.of w) (Fld.sramMtCtlPreserve.of w == 1))
      (Fld.sramMtCtlGroup.of w) why := by
  unfold opMarch
  extract_lets g keep put
  rw [if_neg hm]
  have hforbidden : marchForbidden put g keep = true := h
  change ∃ why, _ = marchRefuse put g why
  clear_value put g keep
  split
  · exact ⟨_, rfl⟩
  next hmode =>
    split
    · exact ⟨_, rfl⟩
    next hbusy =>
      split
      · exact ⟨_, rfl⟩
      next hgroup =>
        refine ⟨2, if_pos ?_⟩
        simp only [Bool.or_eq_true, decide_eq_true_eq, not_or] at hmode hbusy
        simp only [marchForbidden, Bool.or_eq_true, beq_iff_eq] at hforbidden
        tauto

theorem opMarch_starts (hm : s.mode ≠ .reset) {w : Word}
    (h : marchForbidden s (Fld.sramMtCtlGroup.of w) (Fld.sramMtCtlPreserve.of w == 1) = false) :
    opMarch s w = startMarch (marchPut s (Fld.sramMtCtlGroup.of w) (Fld.sramMtCtlPreserve.of w == 1))
      (Fld.sramMtCtlGroup.of w) (Fld.sramMtCtlPreserve.of w == 1) := by
  unfold opMarch
  extract_lets g keep put
  rw [if_neg hm]
  have hforbidden : marchForbidden put g keep = false := h
  change _ = startMarch put g keep
  clear_value put g keep
  simp only [marchForbidden, Bool.or_eq_false_iff, beq_eq_false_iff_ne] at hforbidden
  obtain ⟨⟨⟨⟨⟨⟨⟨hholdup, hsafe⟩, hrecover⟩, hmarch⟩, hcopying⟩, hwaiting⟩, hgroup⟩, hspare⟩ := hforbidden
  rw [if_neg (by simp [hholdup, hsafe, hrecover]), if_neg (by simp only [hmarch, hcopying, hwaiting]; decide),
    if_neg (by rw [hgroup]; decide), if_neg (by rw [hspare]; decide)]

theorem marchRefuse_shows (s : State) (g why : Nat) : Shows s (marchRefuse s g why) [Reg.sramMtStatus.at] :=
  ((Writes.refl ..).setFlag Fld.sramMtStatusRefused true (by decide)).shows.info ..

theorem marchRefuse_refuses (hr : kRising s.regs = true) (g why : Nat) :
    (marchRefuse s g why).flag Fld.sramMtStatusRefused = true :=
  (State.flag_info ..).trans (State.flag_setFlag hr _ rfl (by decide))

/-! ### A march test starts (R559) -/

/-- The background test leaves the region of a group that is to be marched. -/
def marchCleared (s : State) (g : Nat) : State :=
  if !bgtIs s 0 && regionGroup (regionNow s) == g then bgtAbandon s else s

/-- The words that the start of a march test may write beside its own flags. -/
def clearWords : List Nat := [Reg.sramBgtPos.at, Reg.sramStatus.at, Reg.sramCntBgtAbandon.at]

/-- To abandon a region is a matter of words and of its mark. -/
theorem bgtAbandon_marks (s : State) : Touches s (bgtAbandon s) clearWords
    ∧ ∃ regs b, bgtAbandon s = { s with regs := regs, sram := { s.sram with abandoned := b } } := by
  have hsame : Touches s s clearWords ∧ ∃ regs b, s = { s with regs := regs, sram := { s.sram with abandoned := b } } :=
    ⟨.of_regs rfl, _, _, rfl⟩
  unfold bgtAbandon
  split
  · exact hsame
  · have hset (u : State) : Writes u ((u.count Reg.sramCntBgtAbandon).setFld Fld.sramBgtPosPhase 4) clearWords :=
      ((Writes.refl ..).count Reg.sramCntBgtAbandon 1 (by decide)).setFld Fld.sramBgtPosPhase 4 (by decide)
    obtain ⟨⟨regs, hwritten⟩, htouch⟩ := hset { s with sram := { s.sram with abandoned := true } }
    exact ⟨(Touches.of_regs rfl).trans htouch, regs, true, hwritten⟩
  · exact hsame
  · have hset : Writes s ((s.setFld Fld.sramBgtPosPhase 0).setFlag Fld.sramStatusBgtActive false) clearWords :=
      ((Writes.refl ..).setFld Fld.sramBgtPosPhase 0 (by decide)).setFlag Fld.sramStatusBgtActive false (by decide)
    obtain ⟨⟨regs, hwritten⟩, htouch⟩ := hset
    exact ⟨htouch, regs, _, hwritten⟩

theorem marchCleared_marks (s : State) (g : Nat) : Touches s (marchCleared s g) clearWords
    ∧ ∃ regs b, marchCleared s g = { s with regs := regs, sram := { s.sram with abandoned := b } } := by
  unfold marchCleared
  split
  · exact bgtAbandon_marks s
  · exact ⟨.of_regs rfl, _, _, rfl⟩

/-- The flags of a march test that starts, and its count. -/
def marchShown (s : State) : State :=
  ((((((s.setFlag Fld.sramMtStatusRefused false).setFlag Fld.sramMtStatusBusy true).setFlag Fld.sramStatusMtBusy true).setFlag
    Fld.sramMtStatusPass false).setFlag Fld.sramMtStatusFail false).setFlag Fld.sramMtStatusRepaired false).count
    Reg.sramCntMtRun

/-- The words of a march test's flags and count. -/
def marchWords : List Nat := [Reg.sramMtStatus.at, Reg.sramStatus.at, Reg.sramCntMtRun.at]

theorem marchShown_writes (s : State) : Writes s (marchShown s) marchWords :=
  ((((((((Writes.refl ..).setFlag Fld.sramMtStatusRefused false (by decide)).setFlag Fld.sramMtStatusBusy true
    (by decide)).setFlag Fld.sramStatusMtBusy true (by decide)).setFlag Fld.sramMtStatusPass false (by decide)).setFlag
    Fld.sramMtStatusFail false (by decide)).setFlag Fld.sramMtStatusRepaired false (by decide))).count Reg.sramCntMtRun 1
    (by decide)

theorem marchShown_flags (hr : kRising s.regs = true) : (marchShown s).flag Fld.sramMtStatusBusy = true
    ∧ (marchShown s).flag Fld.sramStatusMtBusy = true ∧ (marchShown s).flag Fld.sramMtStatusRefused = false
    ∧ (marchShown s).rd Reg.sramCntMtRun.at = satAdd32 (s.rd Reg.sramCntMtRun.at) 1 := by
  have h1 := State.setFlag_rising hr Fld.sramMtStatusRefused false 0 0
  have h2 := State.setFlag_rising h1 Fld.sramMtStatusBusy true 0 0
  have h3 := State.setFlag_rising h2 Fld.sramStatusMtBusy true 0 0
  have h4 := State.setFlag_rising h3 Fld.sramMtStatusPass false 0 0
  have h5 := State.setFlag_rising h4 Fld.sramMtStatusFail false 0 0
  have h6 := State.setFlag_rising h5 Fld.sramMtStatusRepaired false 0 0
  refine ⟨?_, ?_, ?_, ?_⟩
  · rw [marchShown, State.flag_count_of_ne _ (by decide),
      State.flag_setFlag_beside h5 Fld.sramMtStatusRepaired Fld.sramMtStatusBusy rfl (by decide) (by decide),
      State.flag_setFlag_beside h4 Fld.sramMtStatusFail Fld.sramMtStatusBusy rfl (by decide) (by decide),
      State.flag_setFlag_beside h3 Fld.sramMtStatusPass Fld.sramMtStatusBusy rfl (by decide) (by decide),
      State.flag_setFlag_of_ne _ (by decide), State.flag_setFlag h1 _ rfl (by decide)]
  · rw [marchShown, State.flag_count_of_ne _ (by decide), State.flag_setFlag_of_ne _ (by decide),
      State.flag_setFlag_of_ne _ (by decide), State.flag_setFlag_of_ne _ (by decide), State.flag_setFlag h2 _ rfl (by decide)]
  · rw [marchShown, State.flag_count_of_ne _ (by decide),
      State.flag_setFlag_beside h5 Fld.sramMtStatusRepaired Fld.sramMtStatusRefused rfl (by decide) (by decide),
      State.flag_setFlag_beside h4 Fld.sramMtStatusFail Fld.sramMtStatusRefused rfl (by decide) (by decide),
      State.flag_setFlag_beside h3 Fld.sramMtStatusPass Fld.sramMtStatusRefused rfl (by decide) (by decide),
      State.flag_setFlag_of_ne _ (by decide),
      State.flag_setFlag_beside h1 Fld.sramMtStatusBusy Fld.sramMtStatusRefused rfl (by decide) (by decide),
      State.flag_setFlag hr _ rfl (by decide)]
  · rw [marchShown, State.rd_count_self h6, State.rd_setFlag_of_ne _ (by decide), State.rd_setFlag_of_ne _ (by decide),
      State.rd_setFlag_of_ne _ (by decide), State.rd_setFlag_of_ne _ (by decide), State.rd_setFlag_of_ne _ (by decide),
      State.rd_setFlag_of_ne _ (by decide)]

/-- The march test of a group is under way. -/
def marchOpened (s : State) (g : Nat) (keep : Bool) : State :=
  { marchShown (marchCleared s g) with sram := { (marchCleared s g).sram with march := some (g, keep) } }

/-- A preserving test copies its group to a spare first. -/
def marchSpared (s : State) (n : Nat) : State :=
  askSpares (({ s with sram := { s.sram with marchSpare := n, marchStep := 1 } } : State).setFlag Fld.sramStatusCopying true)

theorem freeGroup_marchOpened (s : State) (g : Nat) (keep : Bool) : freeGroup (marchOpened s g keep) = freeGroup s := by
  obtain ⟨-, regs, b, hcleared⟩ := marchCleared_marks s g
  have hbusy (n : Nat) : spareBusy (marchOpened s g keep) n = spareBusy s n := by
    rw [marchOpened, hcleared]
    rfl
  simp only [freeGroup, hbusy]

theorem startMarch_preserving (h : freeGroup s = some n) :
    startMarch s g true = marchSpared (marchOpened s g true) n := by
  have hfree := (freeGroup_marchOpened s g true).trans h
  unfold startMarch
  extract_lets
  split
  next m _ hm =>
    obtain rfl : m = n := Option.some.inj (hm.symm.trans hfree)
    rfl
  next hnot => exact (hnot n rfl hfree).elim

theorem startMarch_destroying (s : State) (g : Nat) :
    startMarch s g false = if 122 ≤ g then askSpares (marchOpened s g false) else marchOpened s g false := rfl

/-- The start of a march test, with the step that it begins with and the power that it asks for. -/
structure MarchStarts (s t : State) (g : Nat) (keep : Bool) : Prop where
  march : t.sram.march = some (g, keep)
  busy : t.flag Fld.sramMtStatusBusy = true
  shown : t.flag Fld.sramStatusMtBusy = true
  refused : t.flag Fld.sramMtStatusRefused = false
  counted : t.rd Reg.sramCntMtRun.at = satAdd32 (s.rd Reg.sramCntMtRun.at) 1
  rest : { t with regs := s.regs, sram := s.sram, pins := s.pins } = s

theorem marchOpened_starts (hr : kRising s.regs = true) (g : Nat) (keep : Bool) :
    MarchStarts s (marchOpened s g keep) g keep ∧ kRising (marchOpened s g keep).regs = true := by
  obtain ⟨htouch, regs, b, hcleared⟩ := marchCleared_marks s g
  have hcount := htouch.rd (o := Reg.sramCntMtRun.at) (by decide)
  have hrising := htouch.rising hr
  unfold marchOpened
  rw [hcleared] at hcount hrising ⊢
  obtain ⟨hbusy, hshown, hrefused, hcounted⟩ := marchShown_flags hrising
  have hwrites := marchShown_writes { s with regs := regs, sram := { s.sram with abandoned := b } }
  generalize marchShown { s with regs := regs, sram := { s.sram with abandoned := b } } = u at *
  have hrisen := hwrites.touches.rising hrising
  obtain ⟨⟨regs', rfl⟩, -⟩ := hwrites
  exact ⟨⟨rfl, hbusy, hshown, hrefused, hcounted.trans (congrArg (satAdd32 · 1) hcount), rfl⟩, hrisen⟩

theorem MarchStarts.askSpares (h : MarchStarts s t g keep) : MarchStarts s (askSpares t) g keep := by
  obtain ⟨hmarch, hbusy, hshown, hrefused, hcounted, hrest⟩ := h
  exact ⟨hmarch, hbusy, hshown, hrefused, hcounted, hrest⟩

theorem MarchStarts.spared (h : MarchStarts s t g keep) (hr : kRising t.regs = true) (n : Nat) :
    MarchStarts s (marchSpared t n) g keep := by
  obtain ⟨hmarch, hbusy, hshown, hrefused, hcounted, hrest⟩ := h
  refine MarchStarts.askSpares ⟨hmarch, ?_, ?_, ?_, ?_, hrest⟩
  · exact (State.flag_setFlag_of_ne _ (by decide) _).trans hbusy
  · exact (State.flag_setFlag_beside (s := { t with sram := { t.sram with marchSpare := n, marchStep := 1 } }) hr
      Fld.sramStatusCopying Fld.sramStatusMtBusy rfl (by decide) (by decide)).trans hshown
  · exact (State.flag_setFlag_of_ne _ (by decide) _).trans hrefused
  · exact (State.rd_setFlag_of_ne _ (by decide) _).trans hcounted

/-- A march test that is permitted starts; a preserving one begins with its copy. -/
theorem startMarch_starts (hr : kRising s.regs = true) (hfree : (keep && (freeGroup s).isNone) = false) :
    MarchStarts s (startMarch s g keep) g keep ∧ (keep = true → (startMarch s g keep).sram.marchStep = 1) := by
  obtain ⟨hopened, hrising⟩ := marchOpened_starts hr g keep
  cases keep with
  | false =>
    rw [startMarch_destroying]
    split
    · exact ⟨hopened.askSpares, fun h => nomatch h⟩
    · exact ⟨hopened, fun h => nomatch h⟩
  | true =>
    obtain ⟨n, hn⟩ : ∃ n, freeGroup s = some n := Option.isSome_iff_exists.1 (by simpa using hfree)
    rw [startMarch_preserving hn]
    exact ⟨hopened.spared hrising n, fun _ => rfl⟩

/-! ### A march test ends (R560) -/

/-- The engines at the end of a march test: a preserving one is copied back. -/
def marchLeft (s : State) (g : Nat) (keep : Bool) : State :=
  { s with sram := { s.sram with cols := s.sram.cols.filter (fun x => x.1 != g)
                                 march := if keep then s.sram.march else none
                                 marchStep := if keep then 3 else 0 } }

/-- The flags of a march test that found nothing. -/
def marchPassed (s : State) (keep : Bool) : State :=
  (((((s.setFlag Fld.sramMtStatusPass true).setFlag Fld.sramMtStatusFail false).setFlag Fld.sramMtStatusRepaired
    false).setFlag Fld.sramMtStatusBusy false).setFlag Fld.sramStatusMtBusy false).setFlag Fld.sramStatusCopying keep

theorem marchResult_passes (s : State) (g : Nat) (keep : Bool) : ∃ x y, marchResult s g keep .pass
    = (marchPassed (marchLeft s g keep) keep).info Ev.sramMtDone Src.sram x y := by
  have hbad : ((!s.sram.failed.contains g) && s.sram.failed.contains g || MarchRes.pass == .fail) = false := by
    cases s.sram.failed.contains g <;> rfl
  unfold marchResult applyMarch
  dsimp only
  rw [hbad]
  exact ⟨_, _, rfl⟩

theorem opMarchDone_passes (hmarch : s.sram.march = some (g, keep)) (hstart : s.sram.atStart = false)
    (hstep : keep = true → s.sram.marchStep = 2) : opMarchDone s .pass = marchResult s g keep .pass := by
  have hready : ¬ (keep && decide (s.sram.marchStep ≠ 2)) = true := by
    cases keep with
    | false => simp
    | true => simp [hstep rfl]
  unfold opMarchDone
  rw [hmarch]
  dsimp only
  rw [if_neg (by simp [hstart])]
  exact if_neg hready

theorem opMarchDone_none (h : s.sram.march = none) (r : MarchRes) : opMarchDone s r = s := by
  unfold opMarchDone
  rw [h]

theorem marchPassed_writes (s : State) (keep : Bool) :
    Writes s (marchPassed s keep) [Reg.sramMtStatus.at, Reg.sramStatus.at] :=
  ((((((Writes.refl ..).setFlag Fld.sramMtStatusPass true (by decide)).setFlag Fld.sramMtStatusFail false
    (by decide)).setFlag Fld.sramMtStatusRepaired false (by decide)).setFlag Fld.sramMtStatusBusy false
    (by decide)).setFlag Fld.sramStatusMtBusy false (by decide)).setFlag Fld.sramStatusCopying keep (by decide)

theorem marchPassed_flags (hr : kRising s.regs = true) (keep : Bool) : (marchPassed s keep).flag Fld.sramMtStatusPass = true
    ∧ (marchPassed s keep).flag Fld.sramMtStatusFail = false ∧ (marchPassed s keep).flag Fld.sramMtStatusBusy = false := by
  have h1 := State.setFlag_rising hr Fld.sramMtStatusPass true 0 0
  have h2 := State.setFlag_rising h1 Fld.sramMtStatusFail false 0 0
  have h3 := State.setFlag_rising h2 Fld.sramMtStatusRepaired false 0 0
  refine ⟨?_, ?_, ?_⟩
  · rw [marchPassed, State.flag_setFlag_of_ne _ (by decide), State.flag_setFlag_of_ne _ (by decide),
      State.flag_setFlag_beside h3 Fld.sramMtStatusBusy Fld.sramMtStatusPass rfl (by decide) (by decide),
      State.flag_setFlag_beside h2 Fld.sramMtStatusRepaired Fld.sramMtStatusPass rfl (by decide) (by decide),
      State.flag_setFlag_beside h1 Fld.sramMtStatusFail Fld.sramMtStatusPass rfl (by decide) (by decide),
      State.flag_setFlag hr _ rfl (by decide)]
  · rw [marchPassed, State.flag_setFlag_of_ne _ (by decide), State.flag_setFlag_of_ne _ (by decide),
      State.flag_setFlag_beside h3 Fld.sramMtStatusBusy Fld.sramMtStatusFail rfl (by decide) (by decide),
      State.flag_setFlag_beside h2 Fld.sramMtStatusRepaired Fld.sramMtStatusFail rfl (by decide) (by decide),
      State.flag_setFlag h1 _ rfl (by decide)]
  · rw [marchPassed, State.flag_setFlag_of_ne _ (by decide), State.flag_setFlag_of_ne _ (by decide),
      State.flag_setFlag h3 _ rfl (by decide)]

/-- A clean result (R559, R560). -/
theorem marchResult_clean (hr : kRising s.regs = true) (hmarch : s.sram.march = some (g, keep)) :
    let t := marchResult s g keep .pass
    t.flag Fld.sramMtStatusPass = true ∧ t.flag Fld.sramMtStatusFail = false ∧ t.flag Fld.sramMtStatusBusy = false
      ∧ t.sram.march = (if keep then some (g, keep) else none) ∧ (keep = true → t.sram.marchStep = 3)
      ∧ WordsKept s t [Reg.sramMtStatus.at, Reg.sramStatus.at]
      ∧ { t with regs := s.regs, evq := s.evq, sram := s.sram } = s := by
  obtain ⟨x, y, hresult⟩ := marchResult_passes s g keep
  have hwrites := (marchPassed_writes (marchLeft s g keep) keep).shows.info Ev.sramMtDone Src.sram x y
  obtain ⟨hpass, hfail, hbusy⟩ := marchPassed_flags (s := marchLeft s g keep) hr keep
  have hflags (f : Fld) := State.flag_info (marchPassed (marchLeft s g keep) keep) Ev.sramMtDone Src.sram x y f 0 0
  rw [← hflags] at hpass hfail hbusy
  rw [hresult]
  generalize (marchPassed (marchLeft s g keep) keep).info Ev.sramMtDone Src.sram x y = t at *
  obtain ⟨⟨regs, evq, rfl⟩, htouch⟩ := hwrites
  exact ⟨hpass, hfail, hbusy, by rw [← hmarch]; rfl, fun h => if_pos h, htouch.1, rfl⟩

/-! ### Group copies (R505) -/

theorem opCopyDone_none (hmarch : s.sram.march = none) (hcopying : s.sram.copying = none) : opCopyDone s = s := by
  unfold opCopyDone
  rw [hmarch, hcopying]

/-- The copy of a replacement is over. -/
def copyEnded (s : State) : State :=
  ({ s with sram := { s.sram with copying := none } } : State).setFlag Fld.sramStatusCopying false

theorem opCopyDone_replaces (hmarch : s.sram.march = none) (hcopying : s.sram.copying = some (g, n)) :
    opCopyDone s = groupReplaced (copyEnded s) g n := by
  unfold opCopyDone
  rw [hmarch, hcopying]
  rfl

/-- The books of a group that its spare serves. -/
def groupServed (s : State) (g n : Nat) : State :=
  { s with sram := { s.sram with
    replaced := kPut s.sram.replaced g n, failed := s.sram.failed.erase g, cols := s.sram.cols.filter (fun x => x.1 != g) } }

theorem causeEnds_tends (s : State) (src : Nat) (l : List Nat) : Tends s (causeEnds s src) l := by
  unfold causeEnds
  split
  · exact .refl ..
  · exact ⟨.of_regs rfl, rfl, rfl⟩

theorem causeEnds_sram (s : State) (src : Nat) : (causeEnds s src).sram = s.sram := by
  unfold causeEnds
  split <;> rfl

theorem queueLog_sram (s : State) (kind : Nat) (body : List Nat) : (queueLog s kind body).sram = s.sram := by
  unfold queueLog
  split <;> rfl

/-- A group that its spare serves is counted. -/
def groupCounted (s : State) (g n : Nat) : State := (sramBooks (groupServed s g n)).count Reg.svcCntGroup

/-- It is told and recorded. -/
def groupLogged (s : State) (g n : Nat) : State :=
  queueLog ((groupCounted s g n).info Ev.sramGroup Src.sram
    (dw (g % 128 + n % 128 * 256 + (if decide (122 ≤ n) then 0 else 2 ^ 16)))) LogKind.sram [groupEntry g n]

theorem groupReplaced_eq (s : State) (g n : Nat) : groupReplaced s g n
    = if (groupLogged s g n).sram.failed.isEmpty then causeEnds (groupLogged s g n) 81 else groupLogged s g n := by
  rw [groupReplaced]
  rfl

theorem groupCounted_writes (s : State) (g n : Nat) :
    Writes (groupServed s g n) (groupCounted s g n) [Reg.spareInvSram.at, Reg.svcCntGroup.at] :=
  ((sramBooks_writes _).mono (by decide)).count Reg.svcCntGroup 1 (by decide)

/-- A replacement moves the engines' records alone (R505). -/
theorem groupReplaced_replaces (hr : kRising s.regs = true) (g n : Nat) :
    Tends s (groupReplaced s g n) [Reg.spareInvSram.at, Reg.svcCntGroup.at]
      ∧ (groupReplaced s g n).sram.copying = s.sram.copying ∧ kFind (groupReplaced s g n).sram.replaced g = some n
      ∧ (groupReplaced s g n).rd Reg.svcCntGroup.at = satAdd32 (s.rd Reg.svcCntGroup.at) 1 := by
  have hbooks := sramBooks_writes (groupServed s g n)
  have hcounted := groupCounted_writes s g n
  have hcount : (groupCounted s g n).rd Reg.svcCntGroup.at = satAdd32 (s.rd Reg.svcCntGroup.at) 1 :=
    (State.rd_count_self (hbooks.touches.rising hr) ..).trans
      (congrArg (satAdd32 · 1) (hbooks.touches.rd (o := Reg.svcCntGroup.at) (by decide)))
  have hlogged : Tends s (groupLogged s g n) [Reg.spareInvSram.at, Reg.svcCntGroup.at] :=
    ((Tends.sram s _ _).trans (hcounted.shows.info ..).tends).trans (.queueLog ..)
  have hsram : (groupLogged s g n).sram = (groupServed s g n).sram := by
    rw [groupLogged, queueLog_sram]
    obtain ⟨⟨_, hregs⟩, -⟩ := hcounted
    rw [hregs]
    rfl
  have hlogcount : (groupLogged s g n).rd Reg.svcCntGroup.at = satAdd32 (s.rd Reg.svcCntGroup.at) 1 :=
    ((WordsKept.of_regs (l := []) (queueLog_regs ..)) _ List.not_mem_nil).trans ((State.rd_info ..).trans hcount)
  have hfind : kFind (groupServed s g n).sram.replaced g = some n := (kFind_kPut ..).trans (if_pos rfl)
  rw [groupReplaced_eq]
  generalize groupLogged s g n = v at *
  split
  · rw [causeEnds_sram, hsram]
    have hends := causeEnds_tends v 81 []
    exact ⟨hlogged.trans (hends.mono (List.nil_subset _)), rfl, hfind,
      (hends.touches.rd List.not_mem_nil).trans hlogcount⟩
  · rw [hsram]
    exact ⟨hlogged, rfl, hfind, hlogcount⟩

end

end Sys2Proof.Machine

end

/-! SUPPORT. The commands of the background test, phase by phase (R561 to R565). -/

section

namespace Sys2Proof.Machine

section
variable {s : State}

/-- The region that drains, once its records of an earlier copy are gone. -/
def regionSaved (s : State) : State := bgtPhase { s with sram := { s.sram with saveJob := none, saveDone := false } } 2

theorem opRegionDrained_eq (h : bgtIs s 1 = true) : opRegionDrained s = saveToDram (regionSaved s) := if_pos h

/-- A drained region is saved. -/
theorem regionSaved_saves (hr : kRising s.regs = true) :
    bgtIs (saveToDram (regionSaved s)) 2 = true ∧ s.ledger <+: (saveToDram (regionSaved s)).ledger
      ∧ WordsKept s (saveToDram (regionSaved s)) bgtWords ∧ DataKept s (saveToDram (regionSaved s)) := by
  have hphase := (bgtPhase_fields (s := { s with sram := { s.sram with saveJob := none, saveDone := false } }) (p := 2) hr
    (by decide)).1
  have htends : Tends s (regionSaved s) bgtWords := (Tends.sram s _ _).trans (bgtPhase_tends _ _)
  obtain ⟨hledger, hregs, hdram, htags, hbytes, hotp⟩ := saveToDram_saves (regionSaved s)
  change bgtIs (regionSaved s) 2 = true at hphase
  obtain ⟨hdram', htags', hbytes', hotp'⟩ := htends.dataKept
  have hshown := (bgtShown_of_touches (l := []) (.of_regs hregs) List.not_mem_nil List.not_mem_nil 2).1
  exact ⟨hshown.trans hphase, htends.ledger ▸ hledger, (htends.touches.trans (.of_regs hregs)).1, hdram.trans hdram',
    htags.trans htags', hbytes.trans hbytes', hotp.trans hotp'⟩

/-- A region that is left, or counted and released, shows the idle phase. -/
theorem idle_of_tends {t : State} {l : List Nat} (hr : kRising s.regs = true) (h : Tends (bgtPhase s 0) t l)
    (hpos : Reg.sramBgtPos.at ∉ l) (hstatus : Reg.sramStatus.at ∉ l) :
    bgtIs t 0 = true ∧ t.flag Fld.sramStatusBgtActive = false ∧ t.flag Fld.sramStatusBorrowed = false
      ∧ DataKept s t ∧ t.ledger = s.ledger := by
  obtain ⟨hphase, hactive, hborrowed, -⟩ := bgtPhase_fields (p := 0) hr (by decide)
  obtain ⟨hphase', hactive', hborrowed'⟩ := bgtShown_of_touches h.touches hpos hstatus 0
  have hall := ((bgtPhase_tends s 0).mono (List.subset_append_left _ l)).trans (h.mono (List.subset_append_right bgtWords l))
  exact ⟨hphase'.trans hphase, hactive'.trans hactive, hborrowed'.trans hborrowed, hall.dataKept, hall.ledger⟩

theorem opDrainTimeout_eq (h : bgtIs s 1 = true) : opDrainTimeout s = regionLeft s := if_pos h

theorem opSaveDone_eq (h : bgtIs s 2 = true) : opSaveDone s = bgtPhase s 3 := if_pos h

/-- The region as its test left it. -/
def regionTested (s : State) (r : MarchRes) : State := applyMarch s (cellsOf s (regionGroup (regionNow s))) true r

theorem opTestDone_eq (h : bgtIs s 3 = true) (r : MarchRes) : opTestDone s r = bgtPhase (regionTested s r) 4 := if_pos h

theorem bgtPhase_tested (hr : kRising s.regs = true) (r : MarchRes) :
    bgtIs (bgtPhase (regionTested s r) 4) 4 = true ∧ (bgtPhase (regionTested s r) 4).flag Fld.sramStatusBorrowed = true
      ∧ (r = .pass → OnlyWords s (bgtPhase (regionTested s r) 4) bgtWords)
      ∧ DataKept s (bgtPhase (regionTested s r) 4) ∧ (bgtPhase (regionTested s r) 4).ledger = s.ledger := by
  have htested : Tends s (regionTested s r) repairWords := applyMarch_tends ..
  obtain ⟨hphase, -, hborrowed, -⟩ := bgtPhase_fields (s := regionTested s r) (p := 4) (htested.touches.rising hr) (by decide)
  have hall := (htested.mono (List.subset_append_left _ bgtWords)).trans
    ((bgtPhase_tends (regionTested s r) 4).mono (List.subset_append_right repairWords _))
  refine ⟨hphase, hborrowed, fun hpass => ?_, hall.dataKept, hall.ledger⟩
  subst hpass
  exact (bgtPhase_writes s 4).only

/-- A region that its test has not lost is counted (R563). -/
theorem opRestoreDone_idle (hr : kRising s.regs = true) (h : bgtIs s 4 = true) :
    bgtIs (opRestoreDone s) 0 = true ∧ (opRestoreDone s).flag Fld.sramStatusBgtActive = false
      ∧ (opRestoreDone s).flag Fld.sramStatusBorrowed = false ∧ DataKept s (opRestoreDone s)
      ∧ (opRestoreDone s).ledger = s.ledger := by
  cases hgiven : s.sram.abandoned with
  | true =>
    rw [opRestoreDone_misses h hgiven]
    exact idle_of_tends hr (regionLeft_tends s) (by decide) (by decide)
  | false =>
    rw [opRestoreDone_counts h hgiven]
    have hends : Tends (bgtPhase s 0) (passEnds (regionCounted (bgtPhase s 0))) (Reg.sramCntBgtRegion.at :: passCounts) :=
      ((regionCounted_tends _).mono (by simp)).trans ((passEnds_tends _).mono (List.subset_cons_self ..))
    exact idle_of_tends hr hends (by decide) (by decide)

theorem opRestoreDone_region (hr : kRising s.regs = true) (h : bgtIs s 4 = true) (hkept : s.sram.abandoned = false) :
    (opRestoreDone s).rd Reg.sramCntBgtRegion.at = satAdd32 (s.rd Reg.sramCntBgtRegion.at) 1 := by
  have hphase := (bgtPhase_writes s 0).touches
  have hcount : (regionCounted (bgtPhase s 0)).rd Reg.sramCntBgtRegion.at
      = satAdd32 ((bgtPhase s 0).rd Reg.sramCntBgtRegion.at) 1 := State.rd_count_self (hphase.rising hr) ..
  rw [opRestoreDone_counts h hkept, (passEnds_tends _).touches.rd (by decide), hcount, hphase.rd (by decide)]

/-- A command that the phase does not wait for changes nothing. -/
theorem bgt_commands_idle (h1 : bgtIs s 1 = false) (h2 : bgtIs s 2 = false) (h3 : bgtIs s 3 = false) (h4 : bgtIs s 4 = false)
    (r : MarchRes) : ∀ c ∈ [Instr.bgtRegionDrained, .bgtDrainTimeout, .bgtSaveDone, .bgtTestDone r, .bgtRestoreDone, .bgtRedirect],
      exec c s = .next (settle s) := by
  intro c hc
  simp only [List.mem_cons, List.not_mem_nil, or_false] at hc
  rcases hc with rfl | rfl | rfl | rfl | rfl | rfl
  · exact next_settle_congr (if_neg (by simp [h1]) : opRegionDrained s = s)
  · exact next_settle_congr (if_neg (by simp [h1]) : opDrainTimeout s = s)
  · exact next_settle_congr (if_neg (by simp [h2]) : opSaveDone s = s)
  · exact next_settle_congr (if_neg (by simp [h3]) : opTestDone s r = s)
  · exact next_settle_congr (if_neg (by simp [h4]) : opRestoreDone s = s)
  · exact next_settle_congr ((if_neg (by simp [h3])).trans (if_neg (by simp [h4])) : opRedirect s = s)

end

end Sys2Proof.Machine

end

/-! SUPPORT. The statement about the SRAM tests. -/

section

open Sys2Proof Sys2Proof.Machine

/-- Settles O59: each command of the background test is the update of the phase that waits for it; a march test is begun,
passed or refused, and a copy ends, by one update each. -/
theorem sramTests : Obligations.SramTests := by
  refine ⟨fun s hw => ?_, fun s hw => ?_⟩
  · have hr := State.wf_regs_rising hw
    refine ⟨fun hruns hurgent => ?_, fun hnot => next_settle_congr (opRegionStart_of_not hnot), fun h1 => ⟨?_, ?_⟩, fun h2 => ?_,
      fun h3 => ⟨fun r => ?_, ?_⟩, fun h4 => ⟨?_, ?_⟩, fun r ⟨h1, h2, h3, h4⟩ => bgt_commands_idle h1 h2 h3 h4 r⟩
    · intro n hn
      obtain ⟨hphase, harray, hregion, hactive, hborrowed, htouch, regs, hbegun⟩ :=
        beginRegion_begins (s := nextRegion s) hr hn
      refine ⟨_, next_settle_congr (opRegionStart_begins hruns hurgent hn), hphase, harray, hregion, ?_, hactive, hborrowed,
        htouch.1, ?_⟩
      · rw [hbegun]
        rfl
      · rw [hbegun]
        rfl
    · exact ⟨_, next_settle_congr (opRegionDrained_eq h1), regionSaved_saves hr⟩
    · obtain ⟨hphase, hactive, -, hdata, hledger⟩ := idle_of_tends hr (regionLeft_tends s) (by decide) (by decide)
      exact ⟨_, next_settle_congr (opDrainTimeout_eq h1), hphase, hactive, regionLeft_retries hr, hdata, hledger⟩
    · obtain ⟨hphase, -, hborrowed, -⟩ := bgtPhase_fields (p := 3) hr (by decide)
      exact ⟨_, next_settle_congr (opSaveDone_eq h2), hphase, hborrowed, (bgtPhase_writes s 3).only⟩
    · exact ⟨_, next_settle_congr (opTestDone_eq h3 r), bgtPhase_tested hr r⟩
    · exact ⟨_, rfl, opRedirect_abandoned hr h3⟩
    · obtain ⟨hphase, hactive, hborrowed, hdata, hledger⟩ := opRestoreDone_idle hr h4
      exact ⟨_, rfl, hphase, hactive, hborrowed, opRestoreDone_region hr h4, hdata, hledger⟩
    · have hcounted : Writes s (s.count Reg.sramCntRedirect) [Reg.sramCntRedirect.at] :=
        (Writes.refl ..).count Reg.sramCntRedirect 1 (by decide)
      exact ⟨_, next_settle_congr (opRedirect_counts h4), State.rd_count_self hr .., hcounted.only⟩
  · have hr := State.wf_regs_rising hw
    refine ⟨fun w hm => ?_, fun g keep hmarch hstart hstep => ?_, fun r hnone => next_settle_congr (opMarchDone_none hnone r),
      fun g n hmarch hcopying => ?_, fun hmarch hcopying => next_settle_congr (opCopyDone_none hmarch hcopying)⟩
    · intro g keep no
      have hput := marchPut_writes s g keep
      refine ⟨fun hno => ?_, fun hyes => ?_⟩
      · obtain ⟨why, hexec⟩ := opMarch_refuses hm hno
        have hrefused := marchRefuse_shows (marchPut s g keep) g why
        have hall : Shows s (marchRefuse (marchPut s g keep) g why) [Reg.sramMtCtl.at, Reg.sramMtStatus.at] :=
          (hput.shows.mono (by simp)).trans (hrefused.mono (by simp))
        exact ⟨_, next_settle_congr hexec, marchRefuse_refuses (hput.touches.rising hr) g why, hall.touches.1, hall.rest⟩
      · have hspare : (keep && (freeGroup (marchPut s g keep)).isNone) = false := (Bool.or_eq_false_iff.1 hyes).2
        obtain ⟨⟨hmarch, hbusy, hshown, hrefused, hcounted, hrest⟩, hstep⟩ :=
          startMarch_starts (g := g) (hput.touches.rising hr) hspare
        have hcount := hput.touches.rd (o := Reg.sramCntMtRun.at) (by decide)
        refine ⟨_, next_settle_congr (opMarch_starts hm hyes), hmarch, hbusy, hshown, hrefused,
          hcounted.trans (congrArg (satAdd32 · 1) hcount), hstep, ?_⟩
        generalize startMarch (marchPut s g keep) g keep = t at hrest
        obtain ⟨⟨regs, hframe⟩, -⟩ := hput
        rw [hframe] at hrest
        exact congrArg (fun u : State => { u with regs := s.regs }) hrest
    · exact ⟨_, next_settle_congr (opMarchDone_passes hmarch hstart hstep), marchResult_clean hr hmarch⟩
    · have hended : Writes { s with sram := { s.sram with copying := none } } (copyEnded s) [Reg.sramStatus.at] :=
        (Writes.refl ..).setFlag Fld.sramStatusCopying false (by decide)
      have hcopied : (copyEnded s).sram.copying = none := rfl
      have hflag : (copyEnded s).flag Fld.sramStatusCopying = false :=
        State.flag_setFlag (s := { s with sram := { s.sram with copying := none } }) hr _ rfl (by decide)
      obtain ⟨htends, hcopying', hfind, hcount⟩ := groupReplaced_replaces (hended.touches.rising hr) g n
      have hall := ((Tends.sram s _ _).trans (hended.shows.tends.mono (List.subset_append_left _ _))).trans
        (htends.mono (List.subset_append_right [Reg.sramStatus.at] _))
      exact ⟨_, next_settle_congr (opCopyDone_replaces hmarch hcopying), hcopying'.trans hcopied, hfind,
        (htends.touches.flag (f := Fld.sramStatusCopying) (by decide)).trans hflag,
        hcount.trans (congrArg (satAdd32 · 1) (hended.touches.rd (o := Reg.svcCntGroup.at) (by decide))), hall.dataKept,
        hall.ledger, hall.2.2⟩

end

/-! SUPPORT. What stands of a channel's post while a command of CH_STATE works (R467 to R469), and the power of its DIMMs
(R484, R485). -/

section

namespace Sys2Proof.Machine

/-- What the commands of a channel leave or move: the channel's state, its training and its power, the log's queue, the
lines of DRAM, and the other channels. -/
structure Post where
  st : ChSt
  trained : Bool
  powered : Bool
  log : List LogRec
  dram : KMap Line
  others : ChanId → Option Channel

/-- The post of channel `c`. -/
def State.post (s : State) (c : Nat) : Post :=
  { st := (s.ch c).st, trained := (s.ch c).trained, powered := (s.ch c).powered, log := s.flash.log, dram := s.dram
    others := (s.beside c).others }

section
variable {s t : State} {c : Nat}

theorem otherChannels_of_others {c : ChanId} (h : (t.post c).others = (s.post c).others) : OtherChannels s t c :=
  fun d hd => by simpa [State.post, State.beside, hd] using congrFun h d

/-! ### The post of a channel after an update -/

theorem Shows.post {l : List Nat} (h : Shows s t l) (c : Nat) : t.post c = s.post c := by
  obtain ⟨⟨_, _, rfl⟩, -⟩ := h
  rfl

theorem State.modCh_post (s : State) (c : Nat) (f : Channel → Channel) : (s.modCh (chan c) f).post c
    = { s.post c with st := (f (s.ch c)).st, trained := (f (s.ch c)).trained, powered := (f (s.ch c)).powered } := by
  have hothers : ((s.modCh (chan c) f).beside c).others = (s.beside c).others :=
    congrArg Vault.others (State.modCh_vault (s := s) (c := c) f)
  rw [State.post, hothers, State.modCh_ch]
  rfl

/-- A record of the channel that is none of its post. -/
theorem State.modCh_post_kept (s : State) (c : Nat) {f : Channel → Channel} (hst : ∀ q, (f q).st = q.st)
    (htrained : ∀ q, (f q).trained = q.trained) (hpowered : ∀ q, (f q).powered = q.powered) :
    (s.modCh (chan c) f).post c = s.post c := by
  rw [State.modCh_post, hst, htrained, hpowered]
  rfl

theorem State.modCh_post_untrained (s : State) (c : Nat) {f : Channel → Channel} (hst : ∀ q, (f q).st = q.st)
    (htrained : ∀ q, (f q).trained = false) (hpowered : ∀ q, (f q).powered = q.powered) :
    (s.modCh (chan c) f).post c = { s.post c with trained := false } := by
  rw [State.modCh_post, hst, htrained, hpowered]
  rfl

theorem setChSt_post (s : State) (c : Nat) (st : ChSt) (why : Nat) :
    (setChSt s c st why).post c = { s.post c with st := st } := by
  unfold setChSt
  dsimp only
  split
  · next h => rw [← h]; rfl
  · exact ((Writes.refl _ []).shows.info ..).post c |>.trans (State.modCh_post ..)

/-- A record joins the log's queue, where it is open. -/
theorem queueLog_post (s : State) (kind : Nat) (body : List Nat) (c : Nat) :
    (queueLog s kind body).post c = { s.post c with log := (queueLog s kind body).flash.log } := by
  unfold queueLog
  split <;> rfl

theorem startSr_post (s : State) (c : Nat) (why : SrWhy) : (startSr s c why).post c = s.post c := by
  unfold startSr
  refine State.modCh_post_kept s c (fun q => ?_) (fun q => ?_) (fun q => ?_) <;> split <;> rfl

/-- What the sideband does moves no post. -/
theorem post_of_offBand (h : t.offBand = s.offBand) (c : Nat) : t.post c = s.post c :=
  (congrArg (State.post · c) h : t.offBand.post c = s.offBand.post c)

theorem withdrawJob_post (s : State) (c id : Nat) : (withdrawJob s c id).post c = s.post c := by
  have hcounted : (if (s.ch c).busNext.any (fun b => b.2 = id) then s.count Reg.chCntDead 1 (chan c) else s).post c
      = s.post c := by
    split <;> rfl
  unfold withdrawJob endJob
  dsimp only
  refine (State.modCh_post_kept _ _ ?_ ?_ ?_).trans ((State.modCh_post_kept _ _ ?_ ?_ ?_).trans hcounted)
    <;> exact fun _ => rfl

theorem dropEntries_post (s : State) (p : LEntry → Bool) (c : Nat) : (dropEntries s p).post c = s.post c := by
  unfold dropEntries
  dsimp only
  split <;> rfl

theorem freeStaging_post (s : State) (e : LEntry) (c : Nat) : (freeStaging s e).post c = s.post c := by
  unfold freeStaging
  split <;> rfl

/-- An entry of the channel that leaves the ledger takes its access along. -/
theorem releaseEntry_post (s : State) {e : LEntry} (h : e.ch = c) : (releaseEntry s e).post c = s.post c := by
  unfold releaseEntry
  dsimp only
  rw [dropEntries_post, h]
  split
  · rw [withdrawJob_post, freeStaging_post]
  · exact freeStaging_post ..

/-! ### The DIMMs go off (R345, R483 to R485) -/

/-- The power of the DIMMs is taken away: through their PMICs, or with the channel's power group. -/
def powerAsked (s : State) (c : Nat) : State :=
  if 2 ≤ s.fld Fld.phyPopGen c then pmicPower s c false
  else { s with pins := { s.pins with pwrReq := s.pins.pwrReq &&& ~~~(1#25 <<< (3 + c)) } }

/-- What shows of it. -/
def powerShown (s : State) (c : Nat) : State :=
  ((s.setFlag Fld.phyStatusDimmPwr false c).setFlag Fld.phyStatusDrvOn false c).setFld Fld.trimValidValid 0 c

/-- The channel without its DIMMs' power. -/
def powerLost (s : State) (c : Nat) : State :=
  s.modCh (chan c) (fun q => { q with
    powered := false, trims := [], sr := .active, srWhy := .none, srRanks := [], warmLost := true, wasReset := true, debt := [],
    softRows := [], corr := [], passes := [] })

/-- In PLAIN the staged writes that were kept are released unapplied (R483). -/
def keptReleased (s : State) (c : Nat) : State := if s.mode = .plain then (keptWrites s c).foldl releaseEntry s else s

theorem powerOff_eq (s : State) (c : Nat) : powerOff s c =
    { keptReleased (powerLost (powerShown (powerAsked s c) c) c) c with
      dram := (keptReleased (powerLost (powerShown (powerAsked s c) c) c) c).dram.filter (fun e => e.1 / 2 ^ 34 != c) } := rfl

theorem pmicPower_offBand (s : State) (hc : c < 16) (on : Bool) : (pmicPower s c on).offBand = s.offBand := by
  have hq : c / 4 < 4 := by omega
  exact foldl_frame State.offBand _ _ _ fun u d => sbQueue_offBand u hq _

theorem pmicPower_touches (s : State) (hc : c < 16) (on : Bool) :
    Touches s (pmicPower s c on) [Reg.sbCtl.at (c / 4), Reg.regCntReject.at] := by
  have hq : c / 4 < 4 := by omega
  exact .foldl (.of_regs rfl) fun u d _ => sbQueue_touches u hq _

theorem powerAsked_post (s : State) (hc : c < 16) : (powerAsked s c).post c = s.post c := by
  unfold powerAsked
  split
  · exact post_of_offBand (pmicPower_offBand s hc false) c
  · rfl

theorem powerAsked_rising (hr : kRising s.regs = true) (hc : c < 16) : kRising (powerAsked s c).regs = true := by
  unfold powerAsked
  split
  · exact (pmicPower_touches s hc false).rising hr
  · exact hr

theorem powerShown_shows (s : State) (c : Nat) : Shows s (powerShown s c) [Reg.phyStatus.at c, Reg.trimValid.at c] :=
  ((((Writes.refl ..).setFlag Fld.phyStatusDimmPwr false List.mem_cons_self).setFlag Fld.phyStatusDrvOn false
    List.mem_cons_self).setFld Fld.trimValidValid 0 (List.mem_cons_of_mem _ List.mem_cons_self)).shows

theorem powerShown_dimmPwr (hr : kRising s.regs = true) : (powerShown s c).flag Fld.phyStatusDimmPwr c = false := by
  have hset := State.setFlag_rising hr Fld.phyStatusDimmPwr false c 0
  have hne := RegDef.at_ne (r := Reg.trimValid) (r' := Reg.phyStatus) rfl (by decide) c
  exact (State.flag_congr (State.rd_setFld_of_ne _ hne _)).trans ((State.flag_setFlag_beside hset Fld.phyStatusDrvOn
    Fld.phyStatusDimmPwr rfl (by decide) (by decide)).trans (State.flag_setFlag hr _ rfl (by decide)))

theorem powerLost_post (s : State) (c : Nat) : (powerLost s c).post c = { s.post c with powered := false } :=
  State.modCh_post ..

theorem keptReleased_post (s : State) (c : Nat) : (keptReleased s c).post c = s.post c := by
  unfold keptReleased
  split
  · refine List.foldlRecOn (motive := fun u : State => u.post c = s.post c) _ _ rfl fun u hu e he => ?_
    have hch : e.ch = c := by
      have hkept := (List.mem_filter.1 he).2
      simp only [Bool.and_eq_true, beq_iff_eq] at hkept
      exact hkept.1.1.1
    exact (releaseEntry_post u hch).trans hu
  · rfl

/-- The words of the PHY stay while entries are released. -/
theorem keptReleased_phySight (s : State) (c : Nat) : (keptReleased s c).phySight = s.phySight := by
  unfold keptReleased
  split
  · exact foldl_frame State.phySight _ _ _ fun u e => releaseEntry_phySight u e
  · rfl

/-- DIMMs that go off lose their lines, and their channel shows it. -/
theorem powerOff_post (s : State) (hc : c < 16) : (powerOff s c).post c
    = { s.post c with powered := false, dram := s.dram.filter (fun e => e.1 / 2 ^ 34 != c) } := by
  have hpost : (keptReleased (powerLost (powerShown (powerAsked s c) c) c) c).post c
      = { s.post c with powered := false } := by
    rw [keptReleased_post, powerLost_post, (powerShown_shows ..).post, powerAsked_post s hc]
  rw [powerOff_eq]
  generalize keptReleased (powerLost (powerShown (powerAsked s c) c) c) c = u at hpost
  have hdram : u.dram = s.dram := congrArg Post.dram hpost
  rw [← hdram]
  exact congrArg (fun p : Post => { p with dram := u.dram.filter (fun e => e.1 / 2 ^ 34 != c) }) hpost

theorem powerOff_dimmPwr (hr : kRising s.regs = true) (hc : c < 16) :
    (powerOff s c).flag Fld.phyStatusDimmPwr c = false := by
  have hshown := powerShown_dimmPwr (c := c) (powerAsked_rising hr hc)
  have hword : phyWord (Reg.phyStatus.at c) = true := (phyWord_at rfl (by decide) c).trans (by decide)
  rw [powerOff_eq]
  generalize powerShown (powerAsked s c) c = u at hshown
  have hkept := rd_of_phySight (keptReleased_phySight (powerLost u c) c) hword
  generalize keptReleased (powerLost u c) c = v at hkept
  exact (State.flag_congr (f := Fld.phyStatusDimmPwr) (i := c) (k := 0)
    (t := { v with dram := v.dram.filter (fun e => e.1 / 2 ^ 34 != c) }) (s := powerLost u c) hkept).trans hshown

/-! ### Commands accepted and refused (R467, R469) -/

/-- An accepted command takes back an earlier refusal and the policy's plan. -/
def chTaken (s : State) (c : Nat) : State :=
  (s.setFlag Fld.chStateRefused false c).modCh (chan c) (fun q => { q with plan := 0 })

theorem opCh_refuses (hm : s.mode ≠ .reset) {cmd : ChCmd}
    (h : s.modeNow.noChCmd = true ∨ chBusy s c = true ∨ chAllowed s c cmd = false) :
    opCh s c cmd = chRefuse s c cmd.word := by
  have hcond : (s.modeNow.noChCmd || chBusy s c || !chAllowed s c cmd) = true := by
    rcases h with h | h | h <;> rw [h] <;> simp
  exact (if_neg hm).trans (if_pos hcond)

theorem opCh_takes (hm : s.mode ≠ .reset) {cmd : ChCmd} (hmode : s.modeNow.noChCmd = false) (hbusy : chBusy s c = false)
    (hallowed : chAllowed s c cmd = true) : opCh s c cmd = chAct (chTaken s c) c cmd Why.command := by
  have hcond : ¬ (s.modeNow.noChCmd || chBusy s c || !chAllowed s c cmd) = true := by
    rw [hmode, hbusy, hallowed]
    decide
  exact (if_neg hm).trans (if_neg hcond)

theorem chTaken_ch (s : State) (c : Nat) : (chTaken s c).ch c = { s.ch c with plan := 0 } := State.modCh_ch ..

theorem chTaken_st (s : State) (c : Nat) : ((chTaken s c).ch c).st = (s.ch c).st := by
  rw [chTaken_ch]

theorem chTaken_touches (s : State) (c : Nat) : Touches s (chTaken s c) [Reg.chState.at c] :=
  ((Touches.of_regs rfl).setFlag Fld.chStateRefused false List.mem_cons_self).trans (.of_regs rfl)

theorem chTaken_vault (s : State) (c : Nat) : (chTaken s c).vault c = s.vault c := State.modCh_vault ..

theorem chTaken_post (s : State) (c : Nat) : (chTaken s c).post c = s.post c :=
  State.modCh_post_kept _ _ (fun _ => rfl) (fun _ => rfl) (fun _ => rfl)

theorem chTaken_refused (hr : kRising s.regs = true) : (chTaken s c).flag Fld.chStateRefused c = false :=
  State.flag_setFlag hr _ rfl (by decide)

/-! ### SERVICE (R484) -/

/-- The channel in SERVICE. -/
def chServiced (s : State) (c why : Nat) : State :=
  (setChSt s c .service why).modCh (chan c) (fun q => { q with trained := false })

theorem chServiced_post (s : State) (c why : Nat) :
    (chServiced s c why).post c = { s.post c with st := .service, trained := false } := by
  refine (State.modCh_post_untrained _ _ ?_ ?_ ?_).trans (congrArg ({ · with trained := false }) (setChSt_post ..))
    <;> exact fun _ => rfl

theorem chServiced_vault (s : State) (c why : Nat) : (chServiced s c why).vault c = s.vault c :=
  (State.modCh_vault ..).trans (setChSt_vault ..)

theorem chServiced_regs (s : State) (c why : Nat) : (chServiced s c why).regs = s.regs := setChSt_regs ..

theorem enterService_eq (s : State) (c : Nat) (off : Bool) (why : Nat) : enterService s c off why =
    if (s.ch c).st = .retired then queueLog (chServiced s c why) LogKind.journal [Jr.unretire, c]
    else if off then powerOff (chServiced s c why) c
    else if ((chServiced s c why).ch c).powered then startSr (chServiced s c why) c .service
    else chServiced s c why := rfl

/-- In SERVICE the channel is untrained, with its DIMMs on or off. -/
theorem enterService_post (s : State) (hc : c < 16) (off : Bool) (why : Nat) :
    ((enterService s c off why).post c).st = .service ∧ ((enterService s c off why).post c).trained = false
      ∧ ((enterService s c off why).post c).others = (s.post c).others := by
  have hserved := chServiced_post s c why
  rw [enterService_eq]
  split
  · rw [queueLog_post, hserved]
    exact ⟨rfl, rfl, rfl⟩
  · split
    · rw [powerOff_post _ hc, hserved]
      exact ⟨rfl, rfl, rfl⟩
    · split
      · rw [startSr_post, hserved]
        exact ⟨rfl, rfl, rfl⟩
      · rw [hserved]
        exact ⟨rfl, rfl, rfl⟩

theorem enterService_vault (s : State) (c why : Nat) : (enterService s c false why).vault c = s.vault c := by
  have hserved := chServiced_vault s c why
  rw [enterService_eq]
  split
  · exact (queueLog_vault ..).trans hserved
  · split
    · contradiction
    · split
      · exact (State.modCh_vault ..).trans hserved
      · exact hserved

theorem enterService_off (h : (s.ch c).st = .fenced) (why : Nat) :
    enterService s c true why = powerOff (chServiced s c why) c := by
  rw [enterService_eq, if_neg (by simp [h])]
  exact if_pos rfl

/-! ### RETIRE (R493) -/

/-- The channel RETIRED. -/
def chRetired (s : State) (c why : Nat) : State :=
  (setChSt s c .retired why).modCh (chan c) (fun q => { q with trained := false, plan := 0 })

theorem enterRetired_eq (s : State) (c why : Nat) : enterRetired s c why = chRetired
    (if ((queueLog s LogKind.journal [Jr.retire, c]).ch c).powered then powerOff (queueLog s LogKind.journal [Jr.retire, c]) c
      else queueLog s LogKind.journal [Jr.retire, c]) c why := rfl

theorem chRetired_post (s : State) (c why : Nat) :
    (chRetired s c why).post c = { s.post c with st := .retired, trained := false } := by
  refine (State.modCh_post_untrained _ _ ?_ ?_ ?_).trans (congrArg ({ · with trained := false }) (setChSt_post ..))
    <;> exact fun _ => rfl

/-- A RETIRED channel's record is in the journal's queue. -/
theorem enterRetired_post (s : State) (hc : c < 16) (hlog : logOpen s = true) (why : Nat) :
    ((enterRetired s c why).post c).st = .retired ∧ ((enterRetired s c why).post c).trained = false
      ∧ ((enterRetired s c why).post c).others = (s.post c).others
      ∧ journal [Jr.retire, c] ∈ ((enterRetired s c why).post c).log := by
  have hqueued := queueLog_post s LogKind.journal [Jr.retire, c] c
  have hrecord : journal [Jr.retire, c] ∈ (queueLog s LogKind.journal [Jr.retire, c]).flash.log := by
    rw [queueLog_of_open hlog]
    exact List.mem_append_right _ List.mem_cons_self
  rw [enterRetired_eq]
  generalize queueLog s LogKind.journal [Jr.retire, c] = u at hqueued hrecord
  rw [chRetired_post]
  split
  · rw [powerOff_post _ hc, hqueued]
    exact ⟨rfl, rfl, rfl, hrecord⟩
  · rw [hqueued]
    exact ⟨rfl, rfl, rfl, hrecord⟩

/-! ### RETURN (R490) -/

/-- The arbiters run again and the sweep starts. -/
def returnSwept (s : State) (c : Nat) : State :=
  ((setFreeze s c false).setFld Fld.tierSweepFrontier 0 c).setFlag Fld.tierSweepActive true c

/-- The channel is on its way back, with an empty share of the tag cache. -/
def chReturning (s : State) (c why : Nat) : State :=
  { setChSt s c .returning why with caches := (setChSt s c .returning why).caches.set (chan c) [] }

theorem enterReturn_eq (s : State) (c why : Nat) : ∃ wake : Bool, enterReturn s c why
    = (chReturning (returnSwept s c) c why).modCh (chan c)
      (fun q => { q with geomOld := 0, sr := if wake then .exiting else q.sr, srRanks := [] }) := ⟨_, rfl⟩

theorem chReturning_post (s : State) (c why : Nat) : (chReturning s c why).post c = { s.post c with st := .returning } :=
  setChSt_post s c .returning why

theorem chReturning_vault (s : State) (c why : Nat) : (chReturning s c why).vault c = s.vault c := setChSt_vault ..

theorem chReturning_regs (s : State) (c why : Nat) : (chReturning s c why).regs = s.regs := setChSt_regs ..

theorem enterReturn_st (s : State) (c why : Nat) : ((enterReturn s c why).ch c).st = .returning := by
  obtain ⟨wake, h⟩ := enterReturn_eq s c why
  rw [h, State.modCh_ch]
  exact congrArg Post.st (chReturning_post ..)

theorem enterReturn_vault (s : State) (c why : Nat) : (enterReturn s c why).vault c = s.vault c := by
  obtain ⟨wake, h⟩ := enterReturn_eq s c why
  rw [h, State.modCh_vault, chReturning_vault]
  rfl

theorem returnSwept_fields (hr : kRising s.regs = true) : (returnSwept s c).flag Fld.tierSweepActive c = true
    ∧ (returnSwept s c).fld Fld.tierSweepFrontier c = 0 ∧ (returnSwept s c).flag Fld.chArbCtlFreeze c = false
    ∧ (returnSwept s c).flag Fld.chArbCtlFreezeData c = false := by
  have h1 := State.setFlag_rising hr Fld.chArbCtlFreeze false c 0
  have h2 := State.setFlag_rising h1 Fld.chArbCtlFreezeData false c 0
  have h3 := State.setFld_rising _ h2 Fld.tierSweepFrontier 0 c 0
  have hne : Reg.tierSweep.at c ≠ Reg.chArbCtl.at c := by
    simp only [RegDef.at, Reg.tierSweep, Reg.chArbCtl]
    omega
  unfold returnSwept setFreeze
  refine ⟨State.flag_setFlag h3 _ rfl (by decide), ?_, ?_, ?_⟩
  · exact (State.fld_setFld_beside _ h3 Fld.tierSweepActive Fld.tierSweepFrontier _ c 0 c 0 rfl (by decide)
      (by decide)).trans (State.fld_setFld_of_lt h2 _ c 0 (by decide) (by decide))
  · rw [State.flag_setFlag_of_ne _ hne, State.flag_congr (State.rd_setFld_of_ne _ hne _),
      State.flag_setFlag_beside h1 Fld.chArbCtlFreezeData Fld.chArbCtlFreeze rfl (by decide) (by decide),
      State.flag_setFlag hr _ rfl (by decide)]
  · rw [State.flag_setFlag_of_ne _ hne, State.flag_congr (State.rd_setFld_of_ne _ hne _),
      State.flag_setFlag h1 _ rfl (by decide)]

theorem enterReturn_fields (hr : kRising s.regs = true) (why : Nat) :
    (enterReturn s c why).flag Fld.tierSweepActive c = true ∧ (enterReturn s c why).fld Fld.tierSweepFrontier c = 0
      ∧ (enterReturn s c why).flag Fld.chArbCtlFreeze c = false
      ∧ (enterReturn s c why).flag Fld.chArbCtlFreezeData c = false := by
  obtain ⟨wake, h⟩ := enterReturn_eq s c why
  have hregs : (enterReturn s c why).regs = (returnSwept s c).regs := by
    rw [h, State.modCh_regs, chReturning_regs]
  have hkept : Touches (returnSwept s c) (enterReturn s c why) [] := .of_regs hregs
  have hflag (f : Fld) : (enterReturn s c why).flag f c = (returnSwept s c).flag f c := hkept.flag List.not_mem_nil
  have hfld (f : Fld) : (enterReturn s c why).fld f c = (returnSwept s c).fld f c := hkept.fld List.not_mem_nil
  rw [hflag, hflag, hflag, hfld]
  exact returnSwept_fields hr

end

end Sys2Proof.Machine

end

/-! SUPPORT. RETRAIN and DISCARD (R480, R488). -/

section

namespace Sys2Proof.Machine

section
variable {s t u : State} {c : Nat}

/-! ### What the preparation of a training moves (R314, R488) -/

/-- The words of a channel that the preparation and the beginning of a training may write. -/
def retrainWords (c : Nat) : List Nat :=
  [Reg.chFspRate.at c, Reg.chFreq.at c, Reg.chMark.at c, Reg.chTemp.at c, Reg.phyStatus.at c] ++ (timOffs c ++ passWords c)

/-- `t` is `s` further on the way to a training of channel `c`, which keeps its state. -/
structure Readied (c : Nat) (s t : State) : Prop where
  touches : Touches s t (retrainWords c)
  vault : t.vault c = s.vault c
  st : (t.ch c).st = (s.ch c).st

namespace Readied

theorem refl (c : Nat) (s : State) : Readied c s s := ⟨.of_regs rfl, rfl, rfl⟩

theorem trans (h : Readied c s t) (h' : Readied c t u) : Readied c s u :=
  ⟨h.touches.trans h'.touches, h'.vault.trans h.vault, h'.st.trans h.st⟩

theorem wr (s : State) {o : Nat} (w : Word) (ho : o ∈ retrainWords c) : Readied c s (s.wr o w) :=
  ⟨(Touches.of_regs rfl).wr w ho, rfl, rfl⟩

theorem setFld (s : State) (f : Fld) (v : Nat) (ho : f.reg.at c ∈ retrainWords c) : Readied c s (s.setFld f v c) := wr s _ ho

theorem setFlag (s : State) (f : Fld) (b : Bool) (ho : f.reg.at c ∈ retrainWords c) : Readied c s (s.setFlag f b c) := wr s _ ho

theorem modCh (s : State) (c : Nat) {f : Channel → Channel} (hf : ∀ q, (f q).st = q.st) : Readied c s (s.modCh (chan c) f) :=
  ⟨.of_regs rfl, State.modCh_vault .., by rw [State.modCh_ch, hf]⟩

theorem queueLog (s : State) (kind : Nat) (body : List Nat) (c : Nat) : Readied c s (queueLog s kind body) :=
  ⟨.of_regs (queueLog_regs ..), queueLog_vault .., congrArg Channel.st (queueLog_ch ..)⟩

theorem foldl {α : Type} {f : State → α → State} (l : List α) (s : State) (hf : ∀ u, ∀ a ∈ l, Readied c u (f u a)) :
    Readied c s (l.foldl f s) :=
  List.foldlRecOn (motive := fun u => Readied c s u) l f (refl c s) fun u hu a ha => hu.trans (hf u a ha)

end Readied

theorem mem_retrainWords {r : RegDef} (h : r ∈ [Reg.chFspRate, Reg.chFreq, Reg.chMark, Reg.chTemp, Reg.phyStatus]) (c : Nat) :
    r.at c ∈ retrainWords c :=
  List.mem_append_left _ (List.mem_map_of_mem (f := fun r : RegDef => r.at c) h)

theorem timOffs_subset_retrainWords (c : Nat) : timOffs c ⊆ retrainWords c :=
  fun _ h => List.mem_append_right _ (List.mem_append_left _ h)

theorem passWords_subset_retrainWords (c : Nat) : passWords c ⊆ retrainWords c :=
  fun _ h => List.mem_append_right _ (List.mem_append_right _ h)

theorem trainPoint_readied (s : State) (c : Nat) : Readied c s (trainPoint s c).2 := by
  unfold trainPoint
  extract_lets gen max_ cur rate want r
  split
  · exact .refl ..
  · exact (Readied.setFld _ (Fld.chFspRateRate 0) r (mem_retrainWords (by simp [Fld.chFspRateRate]) c)).trans
      (.setFld _ Fld.chFreqCurrent 0 (mem_retrainWords (by simp [Fld.chFreqCurrent]) c))

/-- The mark of a rank, as the journal has it. -/
theorem putMark_readied (s : State) (c r dev valid : Nat) :
    Readied c s ((s.setFld (Fld.chMarkDev r) dev c).setFld (Fld.chMarkValid r) valid c) :=
  (Readied.setFld _ (Fld.chMarkDev r) dev (mem_retrainWords (by simp [Fld.chMarkDev]) c)).trans
    (.setFld _ (Fld.chMarkValid r) valid (mem_retrainWords (by simp [Fld.chMarkValid]) c))

theorem newModule_readied (s : State) (c d serial : Nat) : Readied c s (newModule s c d serial) := by
  refine (Readied.queueLog s LogKind.journal [Jr.module, c, d, serial] c).trans (.foldl _ _ fun u r _ => ?_)
  refine ((putMark_readied u c r 0 0).trans (.queueLog ..)).trans (.modCh _ _ ?_)
  exact fun _ => rfl

theorem applyJournal_readied (s : State) (c : Nat) : Readied c s (applyJournal s c) := by
  unfold applyJournal
  extract_lets moduled known touched marked rows
  have hmoduled : Readied c s moduled := .foldl _ _ fun u d _ => by
    dsimp only
    split
    · exact .refl ..
    · exact newModule_readied ..
  have hmarked : Readied c s marked := hmoduled.trans (.foldl _ _ fun u r _ => by
    dsimp only
    split
    · exact .refl ..
    · exact putMark_readied ..)
  split
  · exact hmarked
  · refine hmarked.trans (.modCh _ _ ?_)
    exact fun _ => rfl

theorem setTempLimit_readied (s : State) (c : Nat) : Readied c s (setTempLimit s c) := by
  unfold setTempLimit
  extract_lets l
  split
  · exact .refl ..
  · exact .setFld _ Fld.chTempLimit _ (mem_retrainWords (by simp [Fld.chTempLimit]) c)

theorem exited_readied (s : State) (c : Nat) : Readied c s (exited s c) := by
  unfold exited
  refine (Readied.modCh s c ?_).trans (.foldl _ _ fun u k _ => .modCh u c ?_) <;> exact fun _ => rfl

theorem putTimings_readied (s : State) (c : Nat) (ws : List Nat) : Readied c s (putTimings s c ws) :=
  .foldl _ _ fun u _ hx => .wr u _ (timOffs_subset_retrainWords c (List.of_mem_zip hx).1)

theorem turnsTwo_readied (s : State) (c : Nat) : Readied c s (turnsTwo s c) := by
  have hword : Reg.chTimE.at c ∈ retrainWords c := timOffs_subset_retrainWords c (by simp [timOffs])
  exact ((((Readied.refl c s).trans (.setFld _ Fld.chTimETurnRr 2 hword)).trans (.setFld _ Fld.chTimETurnWw 2 hword)).trans
    (.setFld _ Fld.chTimETurnRw 2 hword)).trans (.setFld _ Fld.chTimETurnWr 2 hword)

/-- A set point's timings are words alone, some of them free values. -/
theorem loadTimings_readied (s : State) (c sp : Nat) : Readied c s (loadTimings s c sp) := by
  unfold loadTimings
  split
  · exact putTimings_readied ..
  · split
    · exact .refl ..
    · generalize hdraws : List.foldl _ (([] : List Nat), s) (timOffs c) = draws
      have hdrawn : Readied c s draws.2 := by
        rw [← hdraws]
        refine ⟨.of_regs (foldl_snd_frame State.regs _ _ _ fun _ _ => rfl), ?_, ?_⟩
        · exact foldl_snd_frame (State.vault · c) _ _ _ fun _ _ => rfl
        · exact foldl_snd_frame (fun y : State => (y.ch c).st) _ _ _ fun _ _ => rfl
      exact hdrawn.trans ((putTimings_readied ..).trans (turnsTwo_readied ..))

theorem startTraining_readied (s : State) (hc : c < 16) (sp : Nat) : Readied c s (startTraining s c sp) := by
  have hst : ((startTraining s c sp).ch c).st = (s.ch c).st := by
    have hlo : 0x10000 ≤ Reg.trnCtl.at c := by simp only [RegDef.at, Reg.trnCtl]; omega
    have hhi : Reg.trnCtl.at c < 0x30000 := by simp only [RegDef.at, Reg.trnCtl]; omega
    have happlied : ((if unitMayApply s then applyReg s (Reg.trnCtl.at c) else s).ch c).st = (s.ch c).st := by
      split
      · have hchs := (frame_of_offBand (applyReg_words s hlo hhi).1).1
        rw [State.ch, hchs, State.ch]
      · rfl
    unfold startTraining
    dsimp only
    rw [State.modCh_ch]
    exact happlied
  exact ⟨(startTraining_touches s hc sp).mono (passWords_subset_retrainWords c), startTraining_vault s hc sp, hst⟩

/-- The PHY of the channel that shows itself ready. -/
theorem phyReady_readied (s : State) (c : Nat) :
    Readied c s (((s.setFlag Fld.phyStatusLocked true c).setFlag Fld.phyStatusDrvOn true c).setFlag Fld.phyStatusVddqOk
      true c) :=
  ((Readied.setFlag _ Fld.phyStatusLocked true (mem_retrainWords (by simp [Fld.phyStatusLocked]) c)).trans
    (.setFlag _ Fld.phyStatusDrvOn true (mem_retrainWords (by simp [Fld.phyStatusDrvOn]) c))).trans
    (.setFlag _ Fld.phyStatusVddqOk true (mem_retrainWords (by simp [Fld.phyStatusVddqOk]) c))

theorem beginTraining_readied (s : State) (hc : c < 16) : Readied c s (beginTraining s c) := by
  unfold beginTraining
  split
  next sp u hpoint =>
    have hu : Readied c s u := by
      have h := trainPoint_readied s c
      rwa [hpoint] at h
    dsimp only
    have hready := (((hu.trans (applyJournal_readied u c)).trans (setTempLimit_readied _ c)).trans
      (loadTimings_readied _ c sp)).trans (phyReady_readied _ c)
    refine ((hready.trans (.modCh _ _ ?_)).trans (exited_readied _ c)).trans (startTraining_readied _ hc sp)
    exact fun _ => rfl

theorem prepTurn_readied (s : State) (hc : c < 16) : Readied c s (prepTurn s c) := by
  unfold prepTurn
  split
  · exact .refl ..
  · split
    · exact .refl ..
    · split
      · exact beginTraining_readied s hc
      · exact .refl ..

/-! ### RETRAIN (R488, R492) -/

/-- The preparation of the training, or the reading of the SPDs where the DIMMs were off. -/
def retrainTurn (s : State) (c : Nat) : State := if (s.ch c).powered then prepTurn s c else readSpd s c

/-- The channel in RETRAIN, counted, before its training. -/
def chRetrained (s : State) (c why from_ geom : Nat) : State :=
  (setChSt (countRetrain s c) c .retrain why).modCh (chan c) (fun q => { q with trn := .prep, trnFrom := from_, geomOld := geom })

theorem enterRetrain_eq (s : State) (c why : Nat) :
    ∃ from_ geom, enterRetrain s c why = retrainTurn (chRetrained s c why from_ geom) c := ⟨_, _, rfl⟩

theorem chRetrained_keeps (s : State) (c why from_ geom : Nat) :
    (chRetrained s c why from_ geom).regs = (countRetrain s c).regs ∧ (chRetrained s c why from_ geom).vault c = s.vault c
      ∧ ((chRetrained s c why from_ geom).ch c).st = .retrain := by
  refine ⟨(State.modCh_regs ..).trans (setChSt_regs ..), (State.modCh_vault ..).trans (setChSt_vault ..), ?_⟩
  rw [chRetrained, State.modCh_ch, setChSt_ch]

theorem retrainTurn_keeps (s : State) (hc : c < 16) : Touches s (retrainTurn s c) (retrainWords c ++ loadWords)
    ∧ DataKept s (retrainTurn s c) ∧ (retrainTurn s c).ledger = s.ledger
    ∧ ((retrainTurn s c).ch c).st = (s.ch c).st := by
  unfold retrainTurn
  split
  · obtain ⟨htouch, hvault, hst⟩ := prepTurn_readied s hc
    have hshelf := shelf_of_vault hvault
    exact ⟨htouch.mono (List.subset_append_left ..), dataKept_of_shelf hshelf, congrArg Shelf.ledger hshelf, hst⟩
  · obtain ⟨hchs, hdata, hledger, -⟩ := frame_of_offBand (readSpd_offBand s hc)
    refine ⟨(readSpd_touches s hc).mono (List.subset_append_right ..), hdata, hledger, ?_⟩
    rw [State.ch, hchs, State.ch]

/-- The counts of RETRAIN stand apart from the words of its training. -/
theorem retrainCounts_not_mem (hc : c < 16) : Reg.chCntRetrain.at c ∉ retrainWords c ++ loadWords
    ∧ Reg.chRetrain.at c ∉ retrainWords c ++ loadWords := by
  constructor
  all_goals
    simp only [retrainWords, loadWords, changeWords, timOffs, passWords, List.mem_append, List.mem_cons, List.not_mem_nil,
      or_false, List.map_cons, List.map_nil, List.mem_map, List.mem_range, RegDef.at]
    simp only [Reg.chCntRetrain, Reg.chRetrain, Reg.chFspRate, Reg.chFreq, Reg.chMark, Reg.chTemp, Reg.phyStatus, Reg.chTimA,
      Reg.chTimB, Reg.chTimC, Reg.chTimD, Reg.chTimE, Reg.chTimF, Reg.chTimG, Reg.chTimH, Reg.chTimI, Reg.chTimJ, Reg.chTimK,
      Reg.calCnt, Reg.calLastLo, Reg.calLastHi, Reg.calStatus, Reg.calFailInfo, Reg.chCntFence, Reg.tierSweep,
      Reg.imgTseqVer, Reg.spareInvImg, Reg.svcCntImgSwitch, Reg.imgStatus, Reg.trnCtl, Reg.trnStatus, Reg.regCntReject,
      Reg.blkCntMode, Reg.sbCtl, Reg.wpCcredAdv]
    rintro h
    omega

theorem countRetrain_counts (hr : kRising s.regs = true) :
    (countRetrain s c).rd (Reg.chCntRetrain.at c) = satAdd32 (s.rd (Reg.chCntRetrain.at c)) 1
      ∧ (countRetrain s c).fld Fld.chRetrainCount c = min (s.fld Fld.chRetrainCount c + 1) 15 := by
  have hcounted := State.count_rising s hr Reg.chCntRetrain 1 c 0
  have hne := RegDef.at_ne (r := Reg.chRetrain) (r' := Reg.chCntRetrain) rfl (by decide) c
  refine ⟨(State.rd_setFld_of_ne _ hne _).trans (State.rd_count_self hr ..), ?_⟩
  exact State.fld_setFld_of_lt hcounted Fld.chRetrainCount c 0 (by decide) (Nat.lt_succ_of_le (min_le_right ..))

/-- RETRAIN is counted, and its channel trains. -/
theorem enterRetrain_retrains (hr : kRising s.regs = true) (hc : c < 16) (why : Nat) :
    ((enterRetrain s c why).ch c).st = .retrain
      ∧ (enterRetrain s c why).rd (Reg.chCntRetrain.at c) = satAdd32 (s.rd (Reg.chCntRetrain.at c)) 1
      ∧ (enterRetrain s c why).fld Fld.chRetrainCount c = min (s.fld Fld.chRetrainCount c + 1) 15
      ∧ DataKept s (enterRetrain s c why) ∧ (enterRetrain s c why).ledger = s.ledger := by
  obtain ⟨hcount, hfld⟩ := countRetrain_counts (c := c) hr
  obtain ⟨hcnot, hfnot⟩ := retrainCounts_not_mem hc
  obtain ⟨from_, geom, heq⟩ := enterRetrain_eq s c why
  obtain ⟨hregs, hvault, hst⟩ := chRetrained_keeps s c why from_ geom
  have hshelf := shelf_of_vault hvault
  obtain ⟨hdram, htags, hbytes, hotp⟩ := dataKept_of_shelf hshelf
  obtain ⟨htouch, ⟨hdram', htags', hbytes', hotp'⟩, hledger, hstate⟩ := retrainTurn_keeps (chRetrained s c why from_ geom) hc
  have hall := (Touches.of_regs hregs).trans htouch
  rw [heq]
  exact ⟨hstate.trans hst, (hall.rd hcnot).trans hcount, (hall.fld (f := Fld.chRetrainCount) hfnot).trans hfld,
    ⟨hdram'.trans hdram, htags'.trans htags, hbytes'.trans hbytes, hotp'.trans hotp⟩,
    hledger.trans (congrArg Shelf.ledger hshelf)⟩

end

section
variable {s t : State} {c : Nat}

/-! ### DISCARD (R480) -/

/-- A tag that DISCARD gives up: a retired way stays retired. -/
def tagGiven (c : Nat) (e : Nat × Tag) : Option (Nat × Tag) :=
  if e.1 / 2 ^ 28 = c then (if e.2.retired then some (e.1, { retired := true }) else none) else some e

/-- A table that gives some of its entries up or changes them, each under its own key. -/
theorem kFind_filterMap {β : Type} {f : Nat × β → Option (Nat × β)} (hkey : ∀ e x, f e = some x → x.1 = e.1) {m : KMap β}
    (hm : kRising m = true) (k : Nat) :
    kFind (m.filterMap f) k = (kFind m k).bind (fun v => (f (k, v)).map Prod.snd) := by
  rw [kRising_iff] at hm
  induction m with
  | nil => rfl
  | cons e m ih =>
    obtain ⟨a, v⟩ := e
    obtain ⟨hlt, hm⟩ := List.pairwise_cons.1 hm
    by_cases ha : a = k
    · subst ha
      have hrest : kFind m a = none := kFind_none_of_lt hlt
      cases hf : f (a, v) with
      | none => simp [kFind, hf, ih hm, hrest]
      | some x =>
        obtain rfl : x.1 = a := hkey _ x hf
        simp [kFind, hf]
    · have hskip : kFind (((a, v) :: m).filterMap f) k = kFind (m.filterMap f) k := by
        cases hf : f (a, v) with
        | none => simp [hf]
        | some x =>
          have hne : x.1 ≠ k := by rwa [hkey _ x hf]
          simp [kFind, hf, hne]
      rw [hskip, ih hm, kFind, if_neg ha]

/-- The directory of the channel after DISCARD. -/
theorem kGet_tagGiven {m : KMap Tag} (hm : kRising m = true) (c k : Nat) : kGet {} (m.filterMap (tagGiven c)) k
    = if k / 2 ^ 28 = c then { retired := (kGet {} m k).retired } else kGet {} m k := by
  have hkey : ∀ e x, tagGiven c e = some x → x.1 = e.1 := by
    intro e x h
    unfold tagGiven at h
    split at h
    · split at h
      · rw [← Option.some.inj h]
      · contradiction
    · rw [← Option.some.inj h]
  rw [kGet, kGet, kFind_filterMap hkey hm]
  by_cases hk : k / 2 ^ 28 = c
  · have hown (v : Tag) : tagGiven c (k, v) = if v.retired then some (k, { retired := true }) else none := if_pos hk
    rw [if_pos hk]
    cases kFind m k with
    | none => rfl
    | some v =>
      rw [Option.bind_some, hown, Option.getD_some]
      cases v.retired <;> rfl
  · have hother (v : Tag) : tagGiven c (k, v) = some (k, v) := if_neg hk
    rw [if_neg hk]
    cases kFind m k with
    | none => rfl
    | some v => rw [Option.bind_some, hother, Option.map_some]

theorem resumeCheck_shows (s : State) : Shows s (resumeCheck s) [Reg.tierStatus.at] := by
  unfold resumeCheck
  split
  · exact ((Writes.refl ..).setFlag Fld.tierStatusDirtyFull false List.mem_cons_self).shows.info ..
  · exact (Writes.refl ..).shows

/-- The kept writes go to media. -/
def keptDiscarded (s : State) (c : Nat) : State :=
  (keptWrites s c).foldl (fun s e => modEntry s e.idx discardEntry) s

theorem keptDiscarded_eq (s : State) (c : Nat) : ∃ ledger, keptDiscarded s c = { s with ledger := ledger } := by
  refine List.foldlRecOn (motive := fun u : State => ∃ ledger, u = { s with ledger := ledger }) _ _ ⟨s.ledger, rfl⟩
    fun u hu e _ => ?_
  obtain ⟨ledger, rfl⟩ := hu
  exact ⟨_, rfl⟩

/-- The channel's tags and persist entries are given up. -/
def tagsGiven (s : State) (c : Nat) : State :=
  { s with tags := s.tags.filterMap (tagGiven c), pidx := s.pidx.filter (fun k => k / 2 ^ 28 != c)
           caches := s.caches.set (chan c) [] }

/-- The channel is clean, without its tags. -/
def chCleaned (s : State) (c : Nat) : State :=
  (resumeCheck (tagsGiven (keptDiscarded s c) c)).modCh (chan c) (fun q => { q with unclean := false })

theorem discardChannel_eq (s : State) (c : Nat) : ∃ (f : LEntry → LEntry) (x y : Word), discardChannel s c
    = ({ chCleaned s c with ledger := (chCleaned s c).ledger.map f } : State).info Ev.chDiscard (Src.chan c) x y :=
  ⟨_, _, _, rfl⟩

theorem chCleaned_keeps (s : State) (c : Nat) : ((chCleaned s c).ch c).unclean = false
    ∧ (chCleaned s c).post c = s.post c ∧ (chCleaned s c).tags = s.tags.filterMap (tagGiven c) := by
  obtain ⟨ledger, hkept⟩ := keptDiscarded_eq s c
  have hresume := resumeCheck_shows (tagsGiven (keptDiscarded s c) c)
  have hpost : (chCleaned s c).post c = (resumeCheck (tagsGiven (keptDiscarded s c) c)).post c := by
    refine State.modCh_post_kept _ _ ?_ ?_ ?_ <;> exact fun _ => rfl
  refine ⟨congrArg Channel.unclean (State.modCh_ch ..), hpost.trans ?_, ?_⟩
  · rw [hresume.post, hkept]
    rfl
  · obtain ⟨⟨_, _, hshown⟩, -⟩ := hresume
    rw [chCleaned, hshown, hkept]
    rfl

/-- DISCARD gives the channel's tags up and keeps its lines. -/
theorem discardChannel_discards (s : State) (c : Nat) : ((discardChannel s c).ch c).unclean = false
    ∧ (discardChannel s c).post c = s.post c ∧ (discardChannel s c).tags = s.tags.filterMap (tagGiven c) := by
  obtain ⟨f, x, y, heq⟩ := discardChannel_eq s c
  obtain ⟨hclean, hpost, htags⟩ := chCleaned_keeps s c
  rw [heq]
  generalize chCleaned s c = u at hclean hpost htags
  exact ⟨hclean, hpost, htags⟩

end

end Sys2Proof.Machine

end

/-! SUPPORT. The commands of CH_STATE, each from the state in which it has been accepted (R467 to R469). -/

section

namespace Sys2Proof.Machine

section
variable {s : State} {c : Nat}

/-! ### The table of R468 -/

theorem chAllowed_fence (h : (s.ch c).st = .online) : chAllowed s c .fence = true := by
  unfold chAllowed
  dsimp only
  rw [h]

theorem chAllowed_discard (h : (s.ch c).unclean = true) : chAllowed s c .discard = true := by
  unfold chAllowed
  exact h

theorem st_of_chAllowed_ret (h : chAllowed s c .ret = true) : (s.ch c).st = .fenced ∨ (s.ch c).st = .returning := by
  unfold chAllowed at h
  dsimp only at h
  cases hst : (s.ch c).st with
  | fenced => exact .inl rfl
  | returning => exact .inr rfl
  | _ =>
    rw [hst] at h
    contradiction

theorem logOpen_of_chAllowed_retire (h : chAllowed s c .retire = true) : logOpen s = true := by
  unfold chAllowed at h
  dsimp only at h
  cases hst : (s.ch c).st with
  | fenced =>
    rw [hst] at h
    exact h
  | service =>
    rw [hst] at h
    exact h
  | _ =>
    rw [hst] at h
    contradiction

/-! ### FENCE (R470, R471) -/

theorem chAct_fence (h : (s.ch c).st = .online) (why : Nat) : chAct s c .fence why = orderlyFence s c why := by
  unfold chAct
  rw [h]

/-- The fence that the command asks for. -/
def chFenced (s : State) (c : Nat) : State := orderlyFence (chTaken s c) c Why.command

theorem opCh_fence (hm : s.mode ≠ .reset) (hmode : s.modeNow.noChCmd = false) (hbusy : chBusy s c = false)
    (hst : (s.ch c).st = .online) : opCh s c .fence = chFenced s c :=
  (opCh_takes hm hmode hbusy (chAllowed_fence hst)).trans (chAct_fence ((chTaken_st s c).trans hst) _)

theorem chFenced_begins (hr : kRising s.regs = true) (hst : (s.ch c).st = .online) (hfreq : (s.ch c).freq = .none)
    (hways : s.retiring = []) : ((chFenced s c).ch c).st = .fencing
      ∧ (chFenced s c).rd (Reg.chCntFence.at c) = satAdd32 (s.rd (Reg.chCntFence.at c)) 1 := by
  have htouch := chTaken_touches s c
  have hne := RegDef.at_ne (r := Reg.chCntFence) (r' := Reg.chState) rfl (by decide) c
  rw [chFenced, orderlyFence_begins ((chTaken_st s c).trans hst) (by rw [chTaken_ch, hfreq]) hways,
    beginFence_counts (htouch.rising hr), htouch.rd (mt List.mem_singleton.1 hne)]
  exact ⟨(beginFence_ch ..).1, rfl⟩

theorem chFenced_waits (hst : (s.ch c).st = .online) (hfreq : (s.ch c).freq ≠ .none) :
    ((chFenced s c).ch c).st = .online ∧ ((chFenced s c).ch c).fencePend = 1 := by
  have htaken := (chTaken_st s c).trans hst
  rw [chFenced, orderlyFence_waits htaken (by rwa [chTaken_ch]), State.modCh_ch]
  exact ⟨htaken, rfl⟩

theorem chFenced_vault (s : State) (c : Nat) : (chFenced s c).vault c = s.vault c :=
  (orderlyFence_vault ..).trans (chTaken_vault ..)

theorem chFenced_refused (hr : kRising s.regs = true) (hc : c < 16) : (chFenced s c).flag Fld.chStateRefused c = false := by
  have hnot : Reg.chState.at c ∉ passWords c := by
    simp only [passWords, List.mem_cons, List.not_mem_nil, or_false, RegDef.at, Reg.chState, Reg.calCnt, Reg.calLastLo,
      Reg.calLastHi, Reg.calStatus, Reg.calFailInfo, Reg.chCntFence, Reg.tierSweep, Reg.imgTseqVer, Reg.spareInvImg,
      Reg.svcCntImgSwitch, Reg.imgStatus, Reg.trnCtl, Reg.trnStatus, Reg.regCntReject]
    omega
  exact ((orderlyFence_touches (chTaken s c) Why.command).flag (f := Fld.chStateRefused) hnot).trans (chTaken_refused hr)

/-! ### SERVICE with POWER_OFF (R484, R485) -/

/-- SERVICE from the accepted command. -/
def chToService (s : State) (c : Nat) (off : Bool) : State := enterService (chTaken s c) c off Why.command

theorem chToService_post (s : State) (hc : c < 16) (off : Bool) : ((chToService s c off).ch c).st = .service
    ∧ ((chToService s c off).ch c).trained = false ∧ ((chToService s c off).post c).others = (s.post c).others := by
  obtain ⟨hst, htrained, hothers⟩ := enterService_post (chTaken s c) hc off Why.command
  exact ⟨hst, htrained, hothers.trans (congrArg Post.others (chTaken_post s c))⟩

theorem chToService_vault (s : State) (c : Nat) : (chToService s c false).vault c = s.vault c :=
  (enterService_vault ..).trans (chTaken_vault ..)

/-- A FENCED channel in SERVICE without power has no line left. -/
theorem chToService_off (hr : kRising s.regs = true) (hc : c < 16) (hst : (s.ch c).st = .fenced) :
    ((chToService s c true).ch c).powered = false ∧ (chToService s c true).flag Fld.phyStatusDimmPwr c = false
      ∧ (chToService s c true).dram = s.dram.filter (fun e => e.1 / 2 ^ 34 != c) := by
  have hoff : chToService s c true = powerOff (chServiced (chTaken s c) c Why.command) c :=
    enterService_off ((chTaken_st s c).trans hst) _
  have hserved := chServiced_post (chTaken s c) c Why.command
  rw [chTaken_post] at hserved
  have hrising : kRising (chServiced (chTaken s c) c Why.command).regs = true := by
    rw [chServiced_regs]
    exact (chTaken_touches s c).rising hr
  rw [hoff]
  generalize chServiced (chTaken s c) c Why.command = u at hserved hrising
  have hlost := powerOff_post u hc
  have hdram : u.dram = s.dram := congrArg Post.dram hserved
  rw [← hdram]
  exact ⟨congrArg Post.powered hlost, powerOff_dimmPwr hrising hc, congrArg Post.dram hlost⟩

theorem kGet_filter_channel (m : KMap Line) (c k : Nat) :
    kGet 0 (m.filter (fun e => e.1 / 2 ^ 34 != c)) k = if k / 2 ^ 34 = c then 0 else kGet 0 m k := by
  rw [kGet_filter_key 0 (fun a => a / 2 ^ 34 != c)]
  by_cases hk : k / 2 ^ 34 = c
  · rw [if_pos hk, if_neg (by rw [hk, bne_self_eq_false]; decide)]
  · rw [if_neg hk, if_pos (bne_iff_ne.2 hk)]

/-! ### RETRAIN (R488) -/

theorem chTaken_retrains (hr : kRising s.regs = true) (hc : c < 16) :
    ((enterRetrain (chTaken s c) c Why.command).ch c).st = .retrain
      ∧ (enterRetrain (chTaken s c) c Why.command).rd (Reg.chCntRetrain.at c) = satAdd32 (s.rd (Reg.chCntRetrain.at c)) 1
      ∧ (enterRetrain (chTaken s c) c Why.command).fld Fld.chRetrainCount c = min (s.fld Fld.chRetrainCount c + 1) 15
      ∧ DataKept s (enterRetrain (chTaken s c) c Why.command)
      ∧ (enterRetrain (chTaken s c) c Why.command).ledger = s.ledger := by
  have htouch := chTaken_touches s c
  have hcounter := RegDef.at_ne (r := Reg.chCntRetrain) (r' := Reg.chState) rfl (by decide) c
  have hwindow := RegDef.at_ne (r := Reg.chRetrain) (r' := Reg.chState) rfl (by decide) c
  rw [← htouch.rd (mt List.mem_singleton.1 hcounter),
    ← htouch.fld (f := Fld.chRetrainCount) (mt List.mem_singleton.1 hwindow)]
  exact enterRetrain_retrains (htouch.rising hr) hc Why.command

/-! ### RETURN (R490) -/

theorem chAct_ret_of_fenced (h : (s.ch c).st = .fenced) (why : Nat) : chAct s c .ret why = enterReturn s c why := by
  unfold chAct
  rw [h]

theorem chAct_ret_of_returning (h : (s.ch c).st = .returning) (why : Nat) : chAct s c .ret why = s := by
  unfold chAct
  rw [h]

/-- A channel that the command returns is RETURNING, and was it already or sweeps from set 0. -/
theorem chAct_ret (hr : kRising s.regs = true) (h : chAllowed s c .ret = true) :
    ((chAct (chTaken s c) c .ret Why.command).ch c).st = .returning
      ∧ (chAct (chTaken s c) c .ret Why.command).vault c = s.vault c
      ∧ ((s.ch c).st = .fenced → (chAct (chTaken s c) c .ret Why.command).flag Fld.tierSweepActive c = true
        ∧ (chAct (chTaken s c) c .ret Why.command).fld Fld.tierSweepFrontier c = 0
        ∧ (chAct (chTaken s c) c .ret Why.command).flag Fld.chArbCtlFreeze c = false
        ∧ (chAct (chTaken s c) c .ret Why.command).flag Fld.chArbCtlFreezeData c = false) := by
  have htaken := chTaken_st s c
  rcases st_of_chAllowed_ret h with hst | hst
  · rw [chAct_ret_of_fenced (htaken.trans hst)]
    exact ⟨enterReturn_st .., (enterReturn_vault ..).trans (chTaken_vault ..),
      fun _ => enterReturn_fields ((chTaken_touches s c).rising hr) _⟩
  · rw [chAct_ret_of_returning (htaken.trans hst)]
    refine ⟨htaken.trans hst, chTaken_vault .., fun hfenced => ?_⟩
    rw [hst] at hfenced
    contradiction

/-! ### RETIRE and DISCARD (R480, R493) -/

theorem logOpen_chTaken (s : State) (c : Nat) : logOpen (chTaken s c) = logOpen s := rfl

theorem chTaken_retires (hc : c < 16) (h : chAllowed s c .retire = true) :
    ((enterRetired (chTaken s c) c Why.command).ch c).st = .retired
      ∧ ((enterRetired (chTaken s c) c Why.command).ch c).trained = false
      ∧ journal [Jr.retire, c] ∈ (enterRetired (chTaken s c) c Why.command).flash.log
      ∧ ((enterRetired (chTaken s c) c Why.command).post c).others = (s.post c).others := by
  obtain ⟨hst, htrained, hothers, hrecord⟩ :=
    enterRetired_post (chTaken s c) hc ((logOpen_chTaken s c).trans (logOpen_of_chAllowed_retire h)) Why.command
  generalize enterRetired (chTaken s c) c Why.command = t at *
  exact ⟨hst, htrained, hrecord, hothers.trans (congrArg Post.others (chTaken_post s c))⟩

theorem chTaken_discards (hm : kRising s.tags = true) (c : Nat) :
    ((discardChannel (chTaken s c) c).ch c).unclean = false ∧ (discardChannel (chTaken s c) c).post c = s.post c
      ∧ ∀ k, (discardChannel (chTaken s c) c).tagK k
        = if k / 2 ^ 28 = c then { retired := (s.tagK k).retired } else s.tagK k := by
  obtain ⟨hclean, hkept, htags⟩ := discardChannel_discards (chTaken s c) c
  have hsame : (chTaken s c).tags = s.tags := rfl
  refine ⟨hclean, hkept.trans (chTaken_post s c), fun k => ?_⟩
  rw [State.tagK, htags, hsame, kGet_tagGiven hm, State.tagK]

end

end Sys2Proof.Machine

end

/-! SUPPORT. The statement about the commands of CH_STATE. -/

section

open Sys2Proof Sys2Proof.Machine

/-- Settles O51: a command is refused by the one refusal that every command shares, or is the update of its own kind from the
state in which it has been accepted. -/
theorem channelCommands : Obligations.ChannelCommands := by
  intro c s hw hm
  have hr := State.wf_regs_rising hw
  have hc : c.val < 16 := c.isLt
  simp only [← State.ch_val]
  refine ⟨fun x hx hno => ?_, fun hmode hbusy => ⟨fun hst => ?_, fun hallowed => ?_, fun hallowed => ?_, fun hallowed => ?_,
    fun hallowed => ?_, fun hallowed => ?_, fun hunclean => ?_⟩⟩
  · have hexec : exec (x.1 c) s = .next (settle (chRefuse s c.val x.2.word)) := by
      have hrefuses := opCh_refuses hm hno
      simp only [List.mem_cons, List.not_mem_nil, or_false] at hx
      rcases hx with rfl | rfl | rfl | rfl | rfl | rfl | rfl <;> exact next_settle_congr hrefuses
    obtain ⟨hflag, hcount⟩ := chRefuse_counts (c := c.val) hr x.2.word
    have hshows := chRefuse_shows s c.val x.2.word
    exact ⟨_, hexec, hflag, hcount, hshows.rest, hshows.touches.1⟩
  · have hvault := chFenced_vault s c.val
    have hshelf := shelf_of_vault hvault
    exact ⟨_, next_settle_congr (opCh_fence hm hmode hbusy hst), chFenced_begins hr hst, chFenced_waits hst,
      chFenced_refused hr hc, dataKept_of_shelf hshelf, congrArg Shelf.ledger hshelf, otherChannels_of_vault hvault⟩
  · obtain ⟨hst, htrained, hothers⟩ := chToService_post s hc false
    have hshelf := shelf_of_vault (chToService_vault s c.val)
    exact ⟨_, next_settle_congr (opCh_takes hm hmode hbusy hallowed), hst, htrained, dataKept_of_shelf hshelf,
      congrArg Shelf.ledger hshelf, otherChannels_of_others hothers⟩
  · obtain ⟨hst, htrained, hothers⟩ := chToService_post s hc true
    refine ⟨_, next_settle_congr (opCh_takes hm hmode hbusy hallowed), hst, htrained, otherChannels_of_others hothers,
      fun hfenced => ?_⟩
    obtain ⟨hpowered, hflag, hlines⟩ := chToService_off hr hc hfenced
    exact ⟨hpowered, hflag, fun k => (congrArg (kGet 0 · k) hlines).trans (kGet_filter_channel ..)⟩
  · exact ⟨_, next_settle_congr (opCh_takes hm hmode hbusy hallowed), chTaken_retrains hr hc⟩
  · obtain ⟨hst, hvault, hfenced⟩ := chAct_ret hr hallowed
    have hshelf := shelf_of_vault hvault
    exact ⟨_, next_settle_congr (opCh_takes hm hmode hbusy hallowed), hst, hfenced, dataKept_of_shelf hshelf,
      congrArg Shelf.ledger hshelf, otherChannels_of_vault hvault⟩
  · obtain ⟨hst, htrained, hrecord, hothers⟩ := chTaken_retires hc hallowed
    exact ⟨_, next_settle_congr (opCh_takes hm hmode hbusy hallowed), hst, htrained, hrecord,
      otherChannels_of_others hothers⟩
  · obtain ⟨hclean, hkept, htags⟩ := chTaken_discards (State.wf_tags_rising hw) c.val
    exact ⟨_, next_settle_congr (opCh_takes hm hmode hbusy (chAllowed_discard hunclean)), hclean, congrArg Post.st hkept,
      congrArg Post.dram hkept, otherChannels_of_others (congrArg Post.others hkept), htags⟩

end
